-- ==== Sys2Proof/Word.lean ====
section
/-!
DEFINITION. The word types of the LQ-4816's interfaces.
Registers are 32-bit words at 4-byte-aligned byte offsets (R20), byte strings are lists of 8-bit bytes, and a physical
quantity crosses an interface as the bit pattern of an IEEE 754 binary32 number (R16).
-/
namespace Sys2Proof

/-- A register word (R20). -/
abbrev Word := BitVec 32

/-- One byte of a message, record or memory object. -/
abbrev Byte := BitVec 8

/-- The bit pattern of an IEEE 754 binary32 number (R16). -/
abbrev F32 := BitVec 32

/-- The bit pattern of an IEEE 754 binary64 number, in which the Percolator computes (R176). -/
abbrev F64 := BitVec 64

/-- A string of bytes, lowest address or first byte on the wire first. -/
abbrev Bytes := List Byte

end Sys2Proof
end

