-- ==== Sys2Proof/Machine/Blocks/Base.lean ====
section
/-!
DEFINITION. State shared by every block: the header registers (R57), the engines (R30, R32), the tags in flight (R53 to R55)
and the Sediment recorder (LOG, chapter 15_aquifer_sediment.md, R500 to R508).
Every field's default value is its value after reset.
-/
namespace Sys2Proof.Machine

/-- The header registers that change, one per block of R24 (R57). -/
structure BlockHeader where
  /-- BLK_EVENTS COUNT, read-clear, saturating (R57; 32 bits). -/
  events : Nat := 0
  /-- BLK_LAST CODE (R57; 16 bits). -/
  lastCode : Nat := 0
  /-- BLK_LAST INSTANCE (R57; 8 bits). -/
  lastInst : Nat := 0
deriving DecidableEq, Repr

/-- Status of a completion (R31, R32, R44, R54, R55). -/
inductive TagStatus where
  | done | abandoned | memFault | cancelled
deriving DecidableEq, Repr

/-- An operation in flight: its tag and the frame it was submitted for (R53, R55). -/
structure Tag where
  /-- BLOCK of the serving unit (R53; 8 bits). -/
  block : Nat := 0
  /-- ENGINE that submitted (R53; 4 bits). -/
  engine : Nat := 0
  /-- SEQ (R53; 20 bits). -/
  seq : Nat := 0
  /-- Frame number of the submission (R55; 32 bits). -/
  frame : Nat := 0
deriving DecidableEq, Repr

/-- The tag pool (R53 to R55). -/
structure TagPool where
  /-- Operations outstanding (R54; at most 1,344). -/
  open_ : List Tag := []
  /-- Next SEQ per serving block and engine (R53; 20 bits each). -/
  nextSeq : List ((Nat × Nat) × Nat) := []
  /-- Completions delivered: the tag, its status and the module time of completion (R55). -/
  completed : List (Tag × TagStatus × Nat) := []
  /-- INFLIGHT PEAK (R58; 16 bits). -/
  peak : Nat := 0
  /-- TAG_ORPHAN (R58; 32 bits, read-clear). -/
  orphans : Nat := 0
deriving DecidableEq, Repr

/-- One of the sixteen engines of R30. -/
structure Engine where
  /-- Declared lost (R32; 1 bit). -/
  lost : Bool := false
  /-- Retired by BIST until restart (R535; 1 bit). -/
  retired : Bool := false
deriving DecidableEq, Repr

/-- A Sediment record (R500). -/
structure SedRecord where
  /-- TIME (R500; 64 bits). -/
  time : Nat := 0
  /-- CODE (R25, R500; 16 bits). -/
  code : Nat := 0
  /-- SOURCE: block in [15:8], instance in [7:0] (R27; 16 bits). -/
  source : Nat := 0
  /-- SEQ (R501; 32 bits). -/
  seq : Nat := 0
  /-- The 16 data bytes, the frame number in bytes 0 to 3 (R59, R500; 128 bits). -/
  data : Bytes := []
deriving DecidableEq, Repr

/-- The token bucket of an event code (R503); a code without an entry has a full bucket and nothing suppressed. -/
structure Bucket where
  /-- Event code (R503; 16 bits). -/
  code : Nat := 0
  /-- Tokens held (R503; 8 bits). -/
  tokens : Nat := 8
  /-- Refill credit in units of one token per 60 × 10⁹ (ns × RATE) (R503). -/
  credit : Nat := 0
  /-- Module time at which `credit` was last brought up to date (R503; 64 bits). -/
  at_ : Nat := 0
  /-- Occurrences suppressed and not yet reported (R503; 16 bits). -/
  supp : Nat := 0
  /-- Module time of the first suppressed occurrence (R503; 64 bits). -/
  suppFirst : Nat := 0
  /-- Module time of the last suppressed occurrence (R503; 64 bits). -/
  suppLast : Nat := 0
  /-- Instance of the last suppressed occurrence (R515; 8 bits). -/
  suppInst : Nat := 0
deriving DecidableEq, Repr

/-- A session write whose answer follows a later evaluation (R65, R136, R429). -/
structure Waiting where
  /-- Connection of the request. -/
  conn : Nat := 0
  /-- Session of the request (5 bits). -/
  session : Nat := 0
  /-- REQ_ID (R442; 32 bits). -/
  reqId : Nat := 0
  /-- Register address (R20; 32 bits). -/
  addr : Nat := 0
  /-- Value written (R20; 32 bits). -/
  value : Word := 0
  /-- Value of the register before the write (R457; 32 bits). -/
  old : Word := 0
  /-- The change log records the write (R457; 1 bit). -/
  logged : Bool := true
  /-- Pairs of the WRITE applied before it (R456; 5 bits). -/
  before : Nat := 0
  /-- Pairs of the WRITE that follow it, applied once it is accepted (R456; at most 15). -/
  rest : List (Word × Word) := []
  /-- The P0 part of a confirmation among them can be written (R568; 1 bit). -/
  p0Ok : Bool := true
  /-- It has been accepted, and the pairs that follow are due (R456; 1 bit). -/
  ready : Bool := false
  /-- Role, method, source address and identity of the session that wrote, for the change log (R457; 2, 8, 32 and 64 bits). -/
  role : Nat := 0
  method : Nat := 0
  source : Nat := 0
  ident : Bytes := []
deriving DecidableEq, Repr

/-- Sediment, the event recorder (block LOG). -/
structure LogState where
  /-- LOG_STATUS LOG_FAULT (R508, R514; 1 bit). -/
  logFault : Bool := false
  /-- Cause of the LOG_FAULT in force: 0 flush failing, 1 buffer ECC, 2 store state (R515; 8 bits). -/
  faultCause : Nat := 0
  /-- An uncorrectable error has been found in the memory that holds the buffer, and no LOG_FAULT has told it yet (R44, R508; 1 bit). -/
  bufferEcc : Bool := false
  /-- LOG_STATUS VOLATILE_ONLY (R508, R514; 1 bit). -/
  volatileOnly : Bool := false
  /-- LOG_STATUS LAST_WORDS_OK (R508, R514; 1 bit). -/
  lastWordsOk : Bool := true
  /-- LOG_STATUS EPOCH, kept (R507, R514; 16 bits). -/
  epoch : Nat := 0
  /-- LOG_SEQ: last SEQ assigned, kept (R501, R514; 32 bits). -/
  seq : Nat := 0
  /-- LOG_FLUSHED: highest durable SEQ, kept (R502, R514; 32 bits). -/
  flushed : Nat := 0
  /-- LOG_OLDEST: oldest SEQ in the durable record, kept (R505, R514; 32 bits). -/
  oldest : Nat := 0
  /-- The PD0 buffer of 4,096 records, oldest first, flushed and unflushed alike (R502). -/
  buffer : List SedRecord := []
  /-- Records of the buffer not yet flushed; BUF_FILL UNFLUSHED (R502, R514; 13 bits). -/
  unflushed : Nat := 0
  /-- Records raised since the last cut (R502; 13 bits). -/
  sinceCut : Nat := 0
  /-- A flush trigger has fallen and its flush has not run (R502; 1 bit). -/
  flushDue : Bool := false
  /-- Whole second of module time of the last cut (R502; 64 bits). -/
  flushSec : Nat := 0
  /-- Durable records, P4 with those still in the journal, oldest first (R505, R506). -/
  durable : List SedRecord := []
  /-- The MRAM last-words area, kept, slot 0 first (R485, R508; 64 records). -/
  lastWords : List SedRecord := []
  /-- Slot the next class FAULT copy takes while LOG_FAULT holds, 1 to 63 (R508; 6 bits). -/
  lastSlot : Nat := 1
  /-- SUPPRESSED_COUNT, read-clear (R503, R514; 32 bits). -/
  suppressedCount : Nat := 0
  /-- DROPPED_COUNT, read-clear (R502, R508, R514; 32 bits). -/
  droppedCount : Nat := 0
  /-- Records dropped and not yet reported by LOG_OVERFLOW (R502, R508; 32 bits). -/
  dropPending : Nat := 0
  /-- GLOBAL_TOKENS (R504, R514; 13 bits). -/
  globalTokens : Nat := 4096
  /-- Refill credit of the global bucket (R504). -/
  globalCredit : Nat := 0
  /-- Module time at which the global credit was last brought up to date (R504; 64 bits). -/
  globalAt : Nat := 0
  /-- Token buckets that are not full or hold suppressed counts (R503). -/
  buckets : List Bucket := []
  /-- CLEAR_TIME, kept (R514; 64 bits). -/
  clearTime : Nat := 0
  /-- FLUSH_TOTAL, read-clear (R514; 32 bits). -/
  flushTotal : Nat := 0
  /-- LOG_CMD_RESULT RESULT (R514; 4 bits). -/
  cmdResult : Nat := 0
  /-- LOG_CMD_RESULT SESSION (R514; 5 bits). -/
  cmdSession : Nat := 0
  /-- Module time since which flushes have failed without success (R508; 64 bits). -/
  failSince : Option Nat := none
  /-- Consecutive flushes that succeeded while LOG_FAULT holds (R508; 2 bits). -/
  okFlushes : Nat := 0
deriving DecidableEq, Repr

end Sys2Proof.Machine
end

