-- ==== Sys2Proof/Machine/Blocks/Image.lean ====
section
/-!
DEFINITION. The configuration image in typed form (chapter 17_configuration_image.md, R545 to R563).
Every structure is one record type of R548. Quantities that the image holds as binary32 are held as the rational number
they denote (assumption log 2). The defaults written beside the fields of `Scalars` are those of R552 and the rules it names.
-/
namespace Sys2Proof.Machine

/-- One record as the image frames it (R546): TYPE, INDEX and body bytes, and whether its CRC-32C is right. -/
structure RawRecord where
  type  : Nat
  index : Nat
  body  : Bytes
  crcOk : Bool := true
deriving DecidableEq, Repr

/-- The image header (R545). -/
structure ImageHeader where
  magic     : Nat := 0
  format    : Nat := 0
  hdrLen    : Nat := 0
  imageLen  : Nat := 0
  records   : Nat := 0
  check     : Nat := 0
  family    : Nat := 0
  hwMin     : Nat := 0
  buildTime : Nat := 0
  berpinVer : Nat := 0
  crcOk     : Bool := false
deriving DecidableEq, Repr

/-- The SCALARS record (R552), each entry at the default of the rule named there until the image gives it. -/
structure Scalars where
  /-- START_MODE (R82, R95): 1 STANDBY, 0 DORMANT, 5 SERVICE. -/
  startMode : Nat := 1
  /-- DR_LIMIT, s (R71). -/
  drLimit : Rat := 30
  /-- T_BLEND, s (R93). -/
  tBlend : Rat := 5
  /-- SWEEP_MS (R525). -/
  sweepMs : Nat := 100
  /-- ELEV_MASK, degrees (R103). -/
  elevMask : Rat := 5
  /-- PLL_BW, FLL_BW, DLL_BW, Hz (R104). -/
  pllBw : Rat := 10
  fllBw : Rat := 5
  dllBw : Rat := 1/2
  /-- PDOP_MAX (R113). -/
  pdopMax : Rat := 6
  /-- CORR_MAX_AGE, s (R115). -/
  corrMaxAge : Rat := 10
  /-- ANT_SUPPLY (R99): antenna A and B supplies OFF. -/
  antOffA : Bool := false
  antOffB : Bool := false
  /-- BASELINE_A and BASELINE_B: transform entries of the two antennas (R117). -/
  baselineA : Nat := 0
  baselineB : Nat := 0
  /-- The image names both antennas' transform entries (R117). -/
  baselineNamedA : Bool := false
  baselineNamedB : Bool := false
  /-- CORR_PRI and CORR_SEC (R114): 0 none, 1 serial, 2 UDP on ETH1, 3 UDP on ETH2. -/
  corrPriKind : Nat := 0
  corrPriSer  : Nat := 0
  corrPriUdp  : Nat := 0
  corrSecKind : Nat := 0
  corrSecSer  : Nat := 0
  corrSecUdp  : Nat := 0
  /-- HOLD_LIMIT, s (R468). -/
  holdLimit : Rat := 1/10000
  /-- PPS_CFG (R475, R476): PPS_FREE, SYNC_MODE (0 OFF, 1 FRAME, 2 ECHO), SYNC_DIV. -/
  ppsFree  : Bool := false
  syncMode : Nat := 1
  syncDiv  : Nat := 50
  /-- CARRY_SIGMA_POS m/s and CARRY_SIGMA_HDG rad/s (R149). -/
  carrySigmaPos : Rat := 1/20
  carrySigmaHdg : Rat := 1/1000
  /-- SIGMA_REQ m and SIGMA_REQ_HDG degrees (R159). -/
  sigmaReq    : Rat := 2
  sigmaReqHdg : Rat := 1/2
  /-- CONF_MIN (R160). -/
  confMin : Nat := 64
  /-- SETTLE_GAIN (R162). -/
  settleGain : Rat := 1/4
  /-- GGA_SIGMA by quality 1, 2, 4, 5 (R131), m. -/
  ggaQ1 : Rat := 3
  ggaQ2 : Rat := 1
  ggaQ4 : Rat := 1/20
  ggaQ5 : Rat := 1/2
  /-- M, D row-major and the nine process-noise variances of the observer (R161). -/
  massM : List Rat := []
  dampD : List Rat := []
  procQ : List Rat := []
  /-- TEST_STRUCT (R219). -/
  testStruct : Nat := 0
  /-- PLAN_MAX_AGE, s (R226). -/
  planMaxAge : Rat := 1
  /-- SP_MAX_DIST, m (R230). -/
  spMaxDist : Rat := 50
  /-- TRACK_ACCEL m/s², TRACK_LEAD m, TRACK_END_RADIUS m (R232, R234). -/
  trackAccel : Rat := 1/50
  trackLead  : Rat := 5
  trackEndRadius : Rat := 2
  /-- JOY_MAX_AGE, s (R235). -/
  joyMaxAge : Rat := 1/2
  /-- BUS_MAX_AGE, s (R242). -/
  busMaxAge : Rat := 1
  /-- F_REF kN and M_REF kN·m (R245). -/
  fRef : Rat := 100
  mRef : Rat := 1000
  /-- TUNE_DEFAULT (R227). -/
  tuneDefault : Nat := 0
  /-- JOY_SOURCE (R235): 0 session, 1 analog, 2 CAN; channels of surge, sway, yaw, 255 none. -/
  joySource : Nat := 0
  joyChans  : List Nat := [0, 0, 0]
  /-- THR_ENABLE (R241); absent means every defined thruster. -/
  thrEnable : Option Nat := none
  /-- MPC_STRUCT and MPC_STRUCT_HOT (R217). -/
  mpcStruct    : Nat := 0
  mpcStructHot : Nat := 0
  /-- SYNC_CTRL word (R318). -/
  syncCtrl : Nat := 0
  /-- LINK_TIMEOUT, ms (R338). -/
  linkTimeout : Nat := 50
  /-- IDLE_TIMEOUT, s (R447). -/
  idleTimeout : Nat := 60
deriving DecidableEq, Repr

/-- The WORKLOAD record (R553), µs. -/
structure Workload where
  gtUs : Nat := 0
  fusUs : Nat := 0
  allocUs : Nat := 0
  stageUs : Nat := 0
  servoUs : Nat := 0
  mpcUs : Nat := 0
  conseqUs : Nat := 0
  blockUs : Nat := 0
  sliceUs : Nat := 0
  schedMflop : F32 := 0
deriving DecidableEq, Repr

/-- A TRANSFORM entry (R133): X, Y, Z in metres in the hull datum frame, the mounting rotation as signed bam16, TAG and USED. -/
structure Transform where
  x : Rat := 0
  y : Rat := 0
  z : Rat := 0
  yaw : Int := 0
  pitch : Int := 0
  roll : Int := 0
  tag : Nat := 0
  used : Bool := false
deriving DecidableEq, Repr

/-- A REFERENCE record (R554). `slot` is 0 to 7 for position references and 16 to 19 for heading references (R130). -/
structure RefCfg where
  slot : Nat := 0
  type : Nat := 0
  transform : Nat := 0
  srcKind : Nat := 0
  srcIndex : Nat := 0
  chan2 : Nat := 0
  depthChan : Nat := 255
  sentenceStamp : Bool := false
  enabledAtReset : Bool := true
  autoAnchor : Bool := false
  maxAge : Rat := 2
  sigma : Rat := 0
  sigma2 : Rat := 0
  depth : Rat := 0
  latency : Rat := 0
  tag : Nat := 0
  ttmTarget : Nat := 0
  talker : Nat := 0
deriving DecidableEq, Repr

/-- A THRUSTER record (R555). -/
structure ThrCfg where
  tag : Nat := 0
  type : Nat := 0
  transform : Nat := 0
  bus : Nat := 0
  group : Nat := 0
  tMax : Rat := 0
  tRev : Rat := 0
  kPow : Rat := 0
  pRated : Rat := 0
  tRate : Rat := 0
  aRate : Rat := 0
  /-- Forbidden zones, FROM clockwise to TO, bam16. -/
  zones : List (Nat × Nat) := []
  azKind : Nat := 0
  thrustKind : Nat := 0
  fbSource : Nat := 0
  outPath : Nat := 0
  fbChanA : Nat := 255
  fbChanB : Nat := 255
  reversed : Bool := false
  zeroOffset : Nat := 0
  bandOn : Nat := 0
  bandOff : Nat := 0
  readySrc : Nat := 255
  pitchFb : Nat := 255
  drvDelay : Rat := 1/25
  decel : Rat := 1
  learnGain : Rat := 1/10
  fbMaxAge : Rat := 3/100
  vSlew : Rat := 0
  pbOn : Rat := 0
  pbOff : Rat := 0
  pRate : Rat := 0
  pDrvDelay : Rat := 0
  pDecel : Rat := 0
  wearLimit : Rat := 15
  peakLimit : Rat := 40
  /-- Forward and reverse thrust-to-output tables (thrust kN, output). -/
  fwdTable : List (Rat × Rat) := []
  revTable : List (Rat × Rat) := []
deriving DecidableEq, Repr

/-- A BUS record (R556). -/
structure BusCfg where
  fallback : Rat := 0
  source : Nat := 0
  chan : Nat := 0
  fixed : Rat := 0
deriving DecidableEq, Repr

/-- A child entry of a GROUP record: a thruster or a group. -/
structure ChildCfg where
  index : Nat := 0
  isGroup : Bool := false
deriving DecidableEq, Repr

/-- A GROUP record (R556); group 0 is the root. -/
structure GroupCfg where
  parent : Nat := 255
  external : Bool := false
  extIcxon : Bool := false
  struct : Nat := 0
  slot : Nat := 0
  children : List ChildCfg := []
deriving DecidableEq, Repr

/-- A FAILURE_GROUP record (R556). -/
structure FailCfg where
  tag : Nat := 0
  thrMask : Nat := 0
  busMask : Nat := 0
  extMask : Nat := 0
  struct : Nat := 0
  slot : Nat := 0
deriving DecidableEq, Repr

/-- A weight entry of a TUNING_SET record (R557). -/
structure WeightCfg where
  group : Nat := 0
  child : Nat := 0
  w : Rat := 1
  v : Rat := 0
deriving DecidableEq, Repr

/-- A TUNING_SET record (R227, R557). -/
structure TuneCfg where
  q : List Rat := [0, 0, 0]
  qNu : List Rat := [0, 0, 0]
  rhoP : Rat := 0
  term : Rat := 0
  /-- R_u, sixteen thrusters × (thrust rate, azimuth rate). -/
  rU : List Rat := []
  kP : List Rat := [0, 0, 0]
  kD : List Rat := [0, 0, 0]
  kI : List Rat := [0, 0, 0]
  iMax : List Rat := [0, 0, 0]
  slackLin : Rat := 0
  slackQuad : Rat := 0
  satTolAbs : List Rat := [0, 0, 0]
  satTolRel : Rat := 0
  lookahead : Rat := 0
  spSpeed : Rat := 0
  spRot : Rat := 0
  joyMax : List Rat := [0, 0, 0]
  weights : List WeightCfg := []
deriving DecidableEq, Repr

/-- A STRUCTURE record (R179, R558) with the TAG_TABLE of the same index. -/
structure StructCfg where
  cls : Nat := 0
  iterCap : Nat := 0
  n : Nat := 0
  mE : Nat := 0
  mI : Nat := 0
  nnzH : Nat := 0
  nnzA : Nat := 0
  nnzC : Nat := 0
  signature : Nat := 0
  epsFeas : Rat := 0
  epsGap : Rat := 0
  resTol : Rat := 0
  firstSched : Nat := 0xFFFFFFFF
  schedCount : Nat := 0
  blockBounds : List Nat := []
  /-- Column pointers then row indices of H, A and C in canonical form (R180). -/
  patH : List Nat := []
  patA : List Nat := []
  patC : List Nat := []
  /-- Default data vector, binary64 bit patterns in the order of R190. -/
  defaultData : List Nat := []
  /-- Identity tags of variables, equality rows and inequality rows (R182); empty without a TAG_TABLE. -/
  tags : List Nat := []
deriving DecidableEq, Repr

/-- An entry of the SCHEDULE record (R214), 16 bytes as the image holds them. -/
structure SchedEntry where
  raw : Bytes := []
deriving DecidableEq, Repr

/-- The ramp envelope of one thruster in the SAFETY record (R559). -/
structure SafThrCfg where
  rampRate : Rat := 0
  lag : Rat := 1/2
  tol : Rat := 1/20
  zeroTol : Rat := 1/50
  endGrace : Rat := 2
  outFs : Rat := 0
  fbClassF : Bool := false
  chan : Nat := 0
deriving DecidableEq, Repr

/-- The SAFETY record (R559). -/
structure SafetyCfg where
  crc : Nat := 0
  esDisc : Nat := 100
  stopCat : List Nat := [0, 0]
  esScope : List Nat := [0, 0]
  proofInterval : Nat := 365
  scopes : List Nat := []
  tWeir : List Nat := []
  tCf : List Nat := []
  pairOf : List Nat := []
  thr : List SafThrCfg := []
  /-- CRC-32C that SC computes over bytes 4 to 523 (R371). -/
  computed : Nat := 0
deriving DecidableEq, Repr

/-- An AIN record (R560): the CH_CFG and CH_DELAY words of R318, SCALE and OFFSET. -/
structure AinCfg where
  cfg : Word := 0
  delay : Word := 0
  scale : Rat := 1
  offset : Rat := 0
deriving DecidableEq, Repr

/-- An AOUT record (R560). -/
structure AoutCfg where
  cfg : Word := 0
  scale : Rat := 1
  offset : Rat := 0
  safeValue : Rat := 0
  dormantValue : Rat := 0
  outTimeout : Nat := 100
deriving DecidableEq, Repr

/-- A CAN_PORT record (R560). -/
structure CanPortCfg where
  cfg : Word := 0
  arbSample : Nat := 0
  dataSample : Nat := 0
  idBase : Nat := 0
deriving DecidableEq, Repr

/-- A CAN_CLASS record (R560). -/
structure CanClassCfg where
  primary : Nat := 255
  mirror : Nat := 255
  standby : Bool := false
deriving DecidableEq, Repr

/-- A SER_PORT record (R560). -/
structure SerPortCfg where
  cfg : Word := 0
  talker : Nat := 0x4949
  silence : Nat := 5
  /-- Rates of GGA, HDT, ROT, ZDA and PSKVS in Hz. -/
  rates : List Nat := [0, 0, 0, 0, 0]
  mru : Bool := false
  negRoll : Bool := false
  negPitch : Bool := false
  rollName : Bytes := []
  pitchName : Bytes := []
deriving DecidableEq, Repr

/-- An ETH_IF record (R560). -/
structure EthIfCfg where
  addr : Nat := 0
  mask : Nat := 0
  gateway : Nat := 0
  sysId : Bytes := []
  ttl : Nat := 1
  outGroup : Nat := 3
  rates : List Nat := [0, 0, 0, 0, 0]
deriving DecidableEq, Repr

/-- An S450_BIND record (R560). -/
structure S450Cfg where
  iface : Nat := 0
  srcId : Bytes := []
  formatter : Bytes := []
  talker : Nat := 0
  group : Nat := 0
deriving DecidableEq, Repr

/-- The DOMAIN record (R562). -/
structure DomainCfg where
  domain : Nat := 0
  slots : Nat := 2
  topology : Nat := 1
  witness : Nat := 255
  parent : Nat := 0
  parentSlot : Nat := 0
  extGroup : Nat := 0
  tolOut : Rat := 1/100
  tolAz : Nat := 182
  tolF : Rat := 1
  tolM : Rat := 10
  portMask : List Nat := []
  segments : List Nat := []
  longest : Nat := 0
deriving DecidableEq, Repr

/-- An EVENT_TABLE entry (R561). -/
structure EventCfg where
  code : Nat := 0
  burst : Nat := 8
  cls : Nat := 2
  rate : Nat := 4
deriving DecidableEq, Repr

/-- A ROLE_MAP entry (R563): subject common name and role. -/
structure RoleCfg where
  role : Nat := 0
  name : Bytes := []
deriving DecidableEq, Repr

/-- An account (R450, R563): name, role, salt and PBKDF2 hash. -/
structure Account where
  name : Bytes := []
  role : Nat := 0
  salt : Bytes := []
  hash : Bytes := []
deriving DecidableEq, Repr

/-- The accepted image in typed form. Indexed records carry their INDEX. -/
structure Image where
  info : Bytes := []
  workload : Workload := {}
  scalars : Scalars := {}
  transforms : List (Nat × Transform) := []
  refs : List RefCfg := []
  thrusters : List (Nat × ThrCfg) := []
  buses : List (Nat × BusCfg) := []
  groups : List (Nat × GroupCfg) := []
  /-- Direction set n_1 … n_K (R245); empty means the default set. -/
  directions : List (Rat × Rat × Rat) := []
  failGroups : List (Nat × FailCfg) := []
  tunes : List (Nat × TuneCfg) := []
  structs : List (Nat × StructCfg) := []
  schedule : List SchedEntry := []
  /-- SLOT_MAP: owner and class of each of the 512 slots (R558). -/
  slotMap : List (Nat × Nat) := []
  safety : SafetyCfg := {}
  ains : List (Nat × AinCfg) := []
  aouts : List (Nat × AoutCfg) := []
  fields : List (Nat × Word) := []
  canPorts : List (Nat × CanPortCfg) := []
  canClasses : List (Nat × CanClassCfg) := []
  serPorts : List (Nat × SerPortCfg) := []
  ethIfs : List (Nat × EthIfCfg) := []
  s450 : List (Nat × S450Cfg) := []
  domain : Option DomainCfg := none
  events : List EventCfg := []
  anchors : List (Nat × Bytes) := []
  denyList : List Bytes := []
  roleMap : List (Nat × RoleCfg) := []
  accounts : List (Nat × Account) := []
deriving DecidableEq, Repr

end Sys2Proof.Machine
end

