-- ==== Sys2Proof/Machine/Blocks/Bus.lean ====
section
/-!
DEFINITION. State of the bus ports (blocks CAN, SER and ETH, chapter 11_buses_and_serial.md).
Every field's default value is its value after reset.
-/
namespace Sys2Proof.Machine

/-- Error states of a CAN port (R409). -/
inductive CanPhase where
  | off | errorActive | errorPassive | busOff
deriving DecidableEq, Repr

/-- States of a transmit entry that is not FREE (R378): a FILLED one belongs to the submitter until the controller acknowledges it, the others to
the controller. -/
inductive TxPhase where
  | filled | pending | transmitting
deriving DecidableEq, Repr

/-- Why a submission is refused (R31, R379). -/
inductive TxRefusal where
  | domainOff | full | listenOnly | format
deriving DecidableEq, Repr

/-- Completion statuses of a transmit entry (R44, R378, R381, R382). -/
inductive TxStatus where
  | sent | sentAfterCancel | cancelled | superseded | abandoned | memFault
deriving DecidableEq, Repr

/-- How a transmission ends (R378, R385): sent, arbitration lost, an error, or a missing acknowledgement. -/
inductive CanEnd where
  | sent | lost | error | noAck
deriving DecidableEq, Repr

/-- Release gates (R378). -/
inductive TxGate where
  | none_ | strobe | tick
deriving DecidableEq, Repr

/-- A CAN data frame (R377). -/
structure CanFrame where
  /-- Identifier (R377; 29 bits). -/
  id : Nat := 0
  /-- 29-bit identifier (R377; 1 bit). -/
  ext : Bool := false
  /-- FD format (R377; 1 bit). -/
  fd : Bool := false
  /-- Data bytes (R377). -/
  data : Bytes := []
deriving DecidableEq, Repr

/-- Inbound Luquel frames: the consumers that a receive filter routes to, with the index of a thruster, bus or group (R377, R389). -/
inductive LuqIn where
  | azPitch (i : Nat) | thrFb (i : Nat) | joy | pwr (b : Nat) | extCap (g : Nat) | status
deriving DecidableEq, Repr

/-- An acceptance filter (R377). -/
structure CanFilter where
  /-- Identifier (29 bits). -/
  id : Nat := 0
  /-- Identifier bits compared (29 bits). -/
  mask : Nat := 0x1FFFFFFF
  /-- Identifier length: 29 bits (1 bit). -/
  ext : Bool := false
  /-- Format: FD (1 bit). -/
  fd : Bool := false
  /-- Consumer of a frame that matches. -/
  target : LuqIn := .joy
deriving DecidableEq, Repr

/-- A receive entry that a consumer owns (R383). -/
structure RxEntry where
  /-- The frame. -/
  frame : CanFrame := {}
  /-- Port that received it (2 bits). -/
  port : Nat := 0
  /-- Module time of its start of frame (64 bits). -/
  at_ : Nat := 0
deriving DecidableEq, Repr

/-- A transmit entry in use (R378). -/
structure TxEntry where
  /-- The frame. -/
  frame : CanFrame := {}
  /-- FILLED, PENDING or TRANSMITTING (R378). -/
  phase : TxPhase := .pending
  /-- Module time the release gate opens; 0 without a gate (R378; 64 bits). -/
  gateAt : Nat := 0
  /-- Tag of the submission (R53, R378). -/
  tag : Tag := {}
  /-- A CANCEL is held until arbitration is decided (R382; 1 bit). -/
  cancelHeld : Bool := false
  /-- Luquel class of the frame, for its mirror (R387; 3 bits). -/
  cls : Option Nat := none
  /-- Identity that TAG of a caller selects: order of submission on the port (R380). -/
  order : Nat := 0
deriving DecidableEq, Repr

/-- A CAN port (R376 to R388, R409). -/
structure CanPort where
  /-- CAN_STATUS STATE (R409; 2 bits). -/
  phase : CanPhase := .off
  /-- PORT_CFG word (R376, R409; 10 bits). -/
  cfg : CanPortCfg := {}
  /-- PORT_ERR TEC (R409; 9 bits). -/
  tec : Nat := 0
  /-- PORT_ERR REC (R409; 8 bits). -/
  rec_ : Nat := 0
  /-- Transmit entries owned by the controller (R378; at most 64). -/
  tx : List TxEntry := []
  /-- Order number of the next submission (R380). -/
  nextOrder : Nat := 0
  /-- TX_PENDING PEAK (R409; 7 bits). -/
  peak : Nat := 0
  /-- Completions returned to the submitters: tag, status, module time of the end of frame (R378). -/
  done : List (Tag × TxStatus × Nat) := []
  /-- Engine and status of the last refused submission (R379). -/
  refusedWith : Option (Nat × TxRefusal) := none
  /-- Tag word of the last CANCEL answered with NOTHING_PENDING (R382; 32 bits). -/
  nothingPending : Option Nat := none
  /-- Acceptance filters, at most 128, in their order (R377). -/
  filters : List CanFilter := []
  /-- Receive entries that consumers own, oldest first, at most 256; RX_HELD counts them (R383, R409). -/
  rx : List RxEntry := []
  /-- Bus-off recovery has been ordered or is automatic (R386; 1 bit). -/
  recovering : Bool := false
  /-- Module time of the bus-off (R386, R412; 64 bits). -/
  busOffAt : Nat := 0
  /-- Module time since which the port is error-active (R387; 64 bits). -/
  activeAt : Nat := 0
  /-- STANDBY mirrors of classes on this primary port are active (R387; 1 bit). -/
  mirrored : Bool := false
  /-- TX_COUNT, read-clear (R409; 32 bits). -/
  txCount : Nat := 0
  /-- RX_COUNT, read-clear (R409; 32 bits). -/
  rxCount : Nat := 0
  /-- RX_OVERRUN, read-clear (R383, R409; 32 bits). -/
  rxOverrun : Nat := 0
  /-- Module times of the frames dropped in the last second (R412; 64 bits each). -/
  drops : List Nat := []
  /-- Module time of the last CAN_RX_OVERRUN report (R383; 64 bits). -/
  overrunAt : Option Nat := none
  /-- RX_FILTERED, read-clear (R377, R409; 32 bits). -/
  rxFiltered : Nat := 0
  /-- ERR_FRAMES, read-clear (R409; 32 bits). -/
  errFrames : Nat := 0
  /-- BUSOFF_COUNT, read-clear (R409; 32 bits). -/
  busOffs : Nat := 0
  /-- CANCEL_COUNT CANCELLED, read-clear (R409; 16 bits). -/
  cancelled : Nat := 0
  /-- CANCEL_COUNT SENT_AFTER, read-clear (R409; 16 bits). -/
  sentAfter : Nat := 0
  /-- TX_OTHER SUPERSEDED, read-clear (R409; 16 bits). -/
  superseded : Nat := 0
  /-- TX_OTHER REFUSED, read-clear (R379, R409; 16 bits). -/
  refused : Nat := 0
  /-- LUQ_REJECT CHECK, read-clear (R391, R409; 16 bits). -/
  luqCheck : Nat := 0
  /-- LUQ_REJECT ALIVE, read-clear (R390, R409; 16 bits). -/
  luqAlive : Nat := 0
deriving DecidableEq, Repr

/-- The latest accepted THR_FB of a thruster (R394, R409). -/
structure ThrFb where
  /-- Status byte (R394, R409; 8 bits). -/
  status : Nat := 0
  /-- Port of the last accepted frame (R409; 2 bits). -/
  port : Nat := 0
  /-- FB_OUTPUT: OUTPUT_FB of the last accepted frame (R394, R409; 32 bits). -/
  out : Rat := 0
  /-- FB_AZIMUTH: AZ_FB of the last accepted frame, bam16 (R394, R409; 16 bits). -/
  az : Nat := 0
  /-- OUTPUT_FB of the last frame with OUT_VALID (R394; 32 bits). -/
  outValid : Rat := 0
  /-- AZ_FB of the last frame with AZ_VALID (R394; 16 bits). -/
  azValid : Nat := 0
  /-- Start of frame of the last accepted frame; none before the first (R394; 64 bits). -/
  at_ : Option Nat := none
deriving DecidableEq, Repr

/-- The parts of an EXT_CAP that have arrived (R397). -/
structure CapAssembly where
  /-- SEQ of the parts (R397; 16 bits). -/
  seq : Nat := 0
  /-- SAT (R397; 1 bit). -/
  sat : Bool := false
  /-- Parts received: PART and its twelve facet values (R397). -/
  parts : List (Nat × List Rat) := []
deriving DecidableEq, Repr

/-- Block CAN (R376 to R398, R409). -/
structure CanState where
  /-- Ports CAN0 to CAN3 (R376). -/
  ports : List CanPort := List.replicate 4 {}
  /-- Image assignment of the Luquel classes CMD, FB, JOY, PWR, ALLOC, STATUS (R387). -/
  classes : List CanClassCfg := []
  /-- Drive feedback of thrusters 0 to 15 (R394). -/
  fb : List ThrFb := List.replicate 16 {}
  /-- EXT_CAP parts by group, 0 to 63 (R397). -/
  caps : List (Nat × CapAssembly) := []
  /-- ALIVE values accepted in the last 100 ms whose second copy has not arrived: key of the frame, value, port and module time (R387). -/
  alive : List (Nat × Nat × Nat × Nat) := []
  /-- Last accepted ALIVE per frame and port, keyed by 4 × the frame's key + port: value and module time (R390). -/
  aliveOn : List (Nat × Nat × Nat) := []
  /-- SEQ field of AZPITCH_CMD per thruster (R393; 8 bits). -/
  azSeq : List Nat := List.replicate 16 0
  /-- Slew fields of the last AZPITCH_CMD per thruster (R393; 4 bits). -/
  azSlew : List Nat := List.replicate 16 0
  /-- Slew fields of the LEAD's last AZPITCH_CMD per thruster (R423; 4 bits). -/
  leadSlew : List Nat := List.replicate 16 0
  /-- PORT_SEL (R409; 2 bits). -/
  portSel : Nat := 0
  /-- FB_SEL (R409; 4 bits). -/
  fbSel : Nat := 0
  /-- CAN_CMD_RESULT RESULT (R409; 4 bits). -/
  cmdResult : Nat := 0
  /-- CAN_CMD_RESULT SESSION (R409; 5 bits). -/
  cmdSession : Nat := 0
  /-- MIRROR_COUNT, read-clear (R409; 32 bits). -/
  mirrors : Nat := 0
deriving DecidableEq, Repr

/-- A serial port (R399 to R403, R410). -/
structure SerPort where
  /-- Image configuration (R399, R410). -/
  cfg : SerPortCfg := {}
  /-- SER_STATUS SILENT (R402, R410; 1 bit). -/
  silent : Bool := false
  /-- Module time of the last accepted input; LAST_RX (R410; 64 bits). -/
  lastRx : Nat := 0
  /-- Accepted input has arrived since start-up (R410; 1 bit). -/
  heard : Bool := false
  /-- RX_SENTENCES, read-clear (R410; 32 bits). -/
  rx : Nat := 0
  /-- RX_ERRORS FRAMING, CHECKSUM, OVERLONG, UNBOUND, read-clear (R410; 8 bits each). -/
  rxErrors : List Nat := [0, 0, 0, 0]
  /-- TX_SENTENCES, read-clear (R410; 32 bits). -/
  tx : Nat := 0
  /-- TX_DROPPED, read-clear (R403, R410; 32 bits). -/
  txDropped : Nat := 0
  /-- Module time at which the port began to listen for this start-up (R402; 64 bits). -/
  openAt : Nat := 0
  /-- Module time at which the port became SILENT (R402, R412; 64 bits). -/
  silentAt : Nat := 0
  /-- TOV of the last sentence of each kind formed or dropped (R403; 64 bits each). -/
  formedAt : List (Option Nat) := List.replicate 5 none
  /-- Module time at which the line has sent what it holds (R403; 64 bits). -/
  busyUntil : Nat := 0
  /-- Sentences of the last second, newest last, with the module time sending begins (R403, R410). -/
  sent : List (Nat × Bytes) := []
deriving DecidableEq, Repr

/-- A GST held to meet its GGA, or a GGA held to meet its GST (R401). -/
structure GstHold where
  /-- Reference slot of the binding (R401; 5 bits). -/
  slot : Nat := 0
  /-- UTC time of the sentence, ns of the day (R401). -/
  utc : Nat := 0
  /-- Time stamp of the GGA's value (R148; 64 bits). -/
  stamp : Nat := 0
  /-- σ latitude and σ longitude of a GST; none for a GGA (R401). -/
  sigma : Option (Rat × Rat) := none
  /-- Module time of its arrival (R401; 64 bits). -/
  at_ : Nat := 0
deriving DecidableEq, Repr

/-- Block SER (R399 to R404, R410). -/
structure SerState where
  /-- Ports SER0 to SER3 (R399). -/
  ports : List SerPort := List.replicate 4 {}
  /-- SER_SEL (R410; 2 bits). -/
  sel : Nat := 0
  /-- GST and GGA pairs that wait for one another (R401). -/
  gst : List GstHold := []
deriving DecidableEq, Repr

/-- An Ethernet port (R405 to R408, R411). -/
structure EthPort where
  /-- Image configuration (R405, R411). -/
  cfg : EthIfCfg := {}
  /-- ETH_STATUS LINK (R405, R411; 1 bit). -/
  link : Bool := false
  /-- The link was up and has gone down: LINK_DOWN has been raised and not yet LINK_UP (R57, R411; 1 bit). -/
  lost : Bool := false
  /-- ETH_STATUS SPEED (R411; 2 bits). -/
  speed : Nat := 0
  /-- MAC address, factory value (R411; 48 bits). -/
  mac : Nat := 0
  /-- RX_FRAMES, read-clear (R411; 32 bits). -/
  rxFrames : Nat := 0
  /-- TX_FRAMES, read-clear (R411; 32 bits). -/
  txFrames : Nat := 0
  /-- RX_DROPPED, read-clear (R406, R411; 32 bits). -/
  rxDropped : Nat := 0
  /-- RX_FCS, read-clear (R411; 32 bits). -/
  rxFcs : Nat := 0
  /-- S450_RX, read-clear (R411; 32 bits). -/
  s450Rx : Nat := 0
  /-- S450_REJECT HEADER, read-clear (R407, R411; 16 bits). -/
  s450Header : Nat := 0
  /-- S450_REJECT SENTENCE, read-clear (R411; 16 bits). -/
  s450Sentence : Nat := 0
  /-- S450_TX, read-clear (R411; 32 bits). -/
  s450Tx : Nat := 0
  /-- TCP_REFUSED, read-clear (R406, R411; 32 bits). -/
  tcpRefused : Nat := 0
  /-- Second of module time the frame tally counts in (R406; 64 bits). -/
  second : Nat := 0
  /-- Frames received in that second (R406; 32 bits). -/
  frames : Nat := 0
  /-- Frames dropped in that second (R406, R412; 32 bits). -/
  dropped : Nat := 0
  /-- Echo replies sent in that second (R406; 4 bits). -/
  echoes : Nat := 0
  /-- Line count n: modulo 1,000 (R408; 10 bits). -/
  line : Nat := 0
  /-- TOV of the last sentence of each kind sent (R403, R408; 64 bits each). -/
  formedAt : List (Option Nat) := List.replicate 5 none
  /-- Multicast groups joined by IGMPv2: transmission groups of IEC 61162-450 (R406). -/
  joined : List Nat := []
  /-- Last IEC 61162-450 datagram sent: transmission group, multicast TTL and bytes (R408). -/
  out : Option (Nat × Nat × Bytes) := none
deriving DecidableEq, Repr

/-- What an Ethernet frame is to the module (R406): an ARP request or ICMP echo request for its address, a frame of a service it
accepts, a datagram to another port, a frame that fails its check, or one that finds no receive buffer (R411). -/
inductive EthRx where
  | arp | echo | service | otherPort | fcsError | overrun
deriving DecidableEq, Repr

/-- Block ETH (R405 to R408, R411). -/
structure EthState where
  /-- Ports ETH1 and ETH2 (R405). -/
  ports : List EthPort := List.replicate 2 {}
  /-- ETH_SEL (R411; 1 bit). -/
  sel : Nat := 0
  /-- Image's IEC 61162-450 input bindings by number (R407, R560). -/
  binds : List (Nat × S450Cfg) := []
deriving DecidableEq, Repr

end Sys2Proof.Machine
end

