-- ==== Sys2Proof/Machine/Blocks/Field.lean ====
section
/-!
DEFINITION. State of the isolated 24 V field channels (block FIO, chapter 09_field_io.md).
Every field's default value is its value after reset.
-/
namespace Sys2Proof.Machine

/-- Field bank states (R330, R340). -/
inductive BankPhase where
  | off | normal | fieldLow | fieldLost | fieldHigh | failed
deriving DecidableEq, Repr

/-- Channel directions (R323). -/
inductive FioDir where
  | unused | input | output
deriving DecidableEq, Repr

/-- Sources of a field output (R323). -/
inductive FioSource where
  | unused | session | servo | status
deriving DecidableEq, Repr

/-- Safe states of a field output (R338). -/
inductive FioSafe where
  | off | on | hold
deriving DecidableEq, Repr

/-- Channel states of CH_STATUS (R340). -/
inductive FioPhase where
  | unused | input | off | on | retryWait | latched | blocked | safe
deriving DecidableEq, Repr

/-- The image's configuration of one channel (R323, R340). -/
structure FioChanCfg where
  /-- DIR (R340; 2 bits). -/
  dir : FioDir := .unused
  /-- IN_TYPE: type 3 (R326, R340; 1 bit). -/
  type3 : Bool := false
  /-- SRC (R323, R340; 3 bits). -/
  src : FioSource := .unused
  /-- SAFE (R338, R340; 2 bits). -/
  safe : FioSafe := .off
  /-- RESTORE (R331, R340; 1 bit). -/
  restore : Bool := false
  /-- ESSENTIAL (R337, R340; 1 bit). -/
  essential : Bool := false
  /-- OPEN_DET (R335, R340; 1 bit). -/
  openDet : Bool := false
  /-- EDGE_EVT (R327, R340; 1 bit). -/
  edgeEvt : Bool := false
  /-- DORMANT value ON (R324, R340; 1 bit). -/
  dormantOn : Bool := false
  /-- INVERT (R323, R340; 1 bit). -/
  invert : Bool := false
  /-- FILTER, ms (R327, R340; 7 bits). -/
  filter : Nat := 3
  /-- SRC_ARG [27:24]: thruster of source 2 (R340; 4 bits). -/
  thr : Nat := 0
  /-- SRC_ARG [28]: pitch axis of source 2 (R340; 1 bit). -/
  pitch : Bool := false
  /-- SRC_ARG [29]: second output of source 2 (R340; 1 bit). -/
  second : Bool := false
  /-- SRC_ARG [26:24]: status bit of source 3 (R340; 3 bits). -/
  statusBit : Nat := 0
deriving DecidableEq, Repr

/-- A field bank (R320, R330, R338, R339). -/
structure Bank where
  /-- FIO_STATUS BANK (R330, R340; 3 bits). -/
  phase : BankPhase := .off
  /-- The field side has its channel configuration (R322; 1 bit). -/
  loaded : Bool := false
  /-- FIO_STATUS LINK: link valid within LINK_TIMEOUT (R340; 1 bit). -/
  link : Bool := false
  /-- FIO_STATUS SAFE: bank in safe state (R338, R340; 1 bit). -/
  safe : Bool := false
  /-- The field side holds the safe states of its outputs (R338; 1 bit). -/
  applied : Bool := false
  /-- FIO_STATUS OVERLOAD (R333, R340; 1 bit). -/
  overload : Bool := false
  /-- SUPPLY V, volts (R340; 32 bits). -/
  supply : Rat := 0
  /-- CURRENT I, ampere (R340; 32 bits). -/
  current : Rat := 0
  /-- Module time of the last valid link frame (R338; 64 bits). -/
  lastValid : Nat := 0
  /-- Consecutive valid frames since the silence (R339; 2 bits). -/
  goodFrames : Nat := 0
  /-- Module time at which the safe state was applied (R341; 64 bits). -/
  safeAt : Nat := 0
  /-- Module time at which the bank left NORMAL (R341; 64 bits). -/
  awayAt : Nat := 0
  /-- Link instants of the last frame that the field side met and of the last reply that the IO core met: one exchange an instant (R321; 64 bits each). -/
  sentAt : Option Nat := none
  replyAt : Option Nat := none
  /-- Module time of the last valid reply (R338, R340; 64 bits). -/
  heardAt : Nat := 0
  /-- LINK_ERRORS, read-clear (R321, R340; 16 bits). -/
  linkErrors : Nat := 0
  /-- LINK_LOSSES, read-clear (R340; 16 bits). -/
  linkLosses : Nat := 0
deriving DecidableEq, Repr

/-- A field channel (R323 to R336). -/
structure FioChan where
  /-- CH_CFG (R323, R340; 32 bits). -/
  cfg : FioChanCfg := {}
  /-- Commanded value of a SESSION output as last written (R325; 1 bit). -/
  session : Bool := false
  /-- CMD: commanded value released (R324, R340; 1 bit). -/
  cmd : Bool := false
  /-- Commanded value carried by the last frame that the field side applied (R321, R338; 1 bit). -/
  carried : Bool := false
  /-- ACT: switch of the output on (R340; 1 bit). -/
  act : Bool := false
  /-- The channel waits out the 1 s of RETRY_WAIT (R332; 1 bit). -/
  retryWait : Bool := false
  /-- Module time at which the 1 s of RETRY_WAIT ends (R332; 64 bits). -/
  retryAt : Nat := 0
  /-- Remaining wait while FIELD_LOST pauses the retry timer (R331; 64 bits). -/
  retryPaused : Option Nat := none
  /-- The 1 s has passed with the commanded value OFF: the retry waits for the next ON (R332; 1 bit). -/
  retryDue : Bool := false
  /-- RETRIES: trips since the last clean period (R332, R340; 2 bits). -/
  retries : Nat := 0
  /-- OC_LATCHED (R332; 1 bit). -/
  latched : Bool := false
  /-- BLOCKED after FIELD_LOST (R331; 1 bit). -/
  blocked : Bool := false
  /-- An output with RESTORE 0 and safe state ON whose bank came back from FIELD_LOST in the safe state: it is BLOCKED when that ends (R331,
  R338, R339; 1 bit). -/
  returned : Bool := false
  /-- Fault OVERCURRENT reported (R336; 1 bit). -/
  ocFault : Bool := false
  /-- Fault STUCK_HIGH (R334; 1 bit). -/
  stuckHigh : Bool := false
  /-- The pin read at or above 9.5 V when last sampled while commanded OFF (R334, R336; 1 bit). -/
  pinHigh : Bool := false
  /-- Fault OPEN_LOAD (R335; 1 bit). -/
  openLoad : Bool := false
  /-- Fault FIELD_LOST (R330, R336; 1 bit). -/
  fieldLost : Bool := false
  /-- Fault UNAVAILABLE (R336; 1 bit). -/
  unavailable : Bool := false
  /-- Module time since which the output is on without a trip (R332; 64 bits). -/
  onSince : Nat := 0
  /-- PIN: published state (R328, R340; 1 bit). -/
  level : Bool := false
  /-- Level the field side holds now: filtered state or readback (R327, R328; 1 bit). -/
  now : Bool := false
  /-- Compared level of an input's pin, between the thresholds as it was (R326; 1 bit). -/
  comp : Bool := false
  /-- IN_VALID (R328, R340; 1 bit). -/
  inValid : Bool := false
  /-- DEMAG (R329, R340; 1 bit). -/
  demag : Bool := false
  /-- CH_CURRENT, ampere (R340; 32 bits). -/
  current : Rat := 0
  /-- CH_EDGE: module time of the last edge or switch change (R327, R340; 64 bits). -/
  edgeAt : Nat := 0
  /-- CH_EDGES, read-clear, saturating (R340; 32 bits). -/
  edges : Nat := 0
  /-- CH_TRIPS, read-clear, saturating (R340; 32 bits). -/
  trips : Nat := 0
deriving DecidableEq, Repr

/-- Block FIO (R320 to R341). -/
structure FioState where
  /-- Banks A and B (R320). -/
  banks : List Bank := List.replicate 2 {}
  /-- Channels 0 to 47 (R320). -/
  chans : List FioChan := List.replicate 48 {}
  /-- CH_SEL (R340; 6 bits). -/
  chSel : Nat := 0
  /-- FIO_CMD_RESULT RESULT (R340; 4 bits). -/
  cmdResult : Nat := 0
  /-- FIO_CMD_RESULT SESSION (R340; 5 bits). -/
  cmdSession : Nat := 0
  /-- LINK_TIMEOUT, ms (R338, R340; 16 bits). -/
  linkTimeout : Nat := 50
  /-- The channel records and states that a request reads, of the last frame instant (R340). -/
  shown : List (FioChan × FioPhase) := List.replicate 48 ({}, .unused)
  /-- CMD registers: commanded values at the last frame instant (R340; 48 bits). -/
  cmdFrame : BitVec 48 := 0
  /-- ACT registers: switches at the last frame instant (R340; 48 bits). -/
  actFrame : BitVec 48 := 0
  /-- FAULT registers: channels with a fault at the last frame instant (R340; 48 bits). -/
  faultFrame : BitVec 48 := 0
deriving DecidableEq, Repr

end Sys2Proof.Machine
end

