-- ==== Sys2Proof/Machine/Blocks/Gnss.lean ====
section
/-!
DEFINITION. State of the GNSS baseband (block GNS, chapter 03_gnss_baseband.md).
Every field's default value is its value after reset.
-/
namespace Sys2Proof.Machine

/-- A WGS 84 point: latitude and longitude in degrees, height in metres. -/
structure Geo where
  lat : Rat := 0
  lon : Rat := 0
  h : Rat := 0
deriving DecidableEq, Repr

/-- A vector in the earth frame (north, east, down; R7) or the vessel frame (forward, starboard, down; R8), metres or m/s. -/
structure Vec3 where
  x : Rat := 0
  y : Rat := 0
  z : Rat := 0
deriving DecidableEq, Repr

/-- States of an antenna supply (R99, R127). -/
inductive AntPhase where
  | ok | open_ | short | supplyOff
deriving DecidableEq, Repr

/-- One antenna path (R98 to R100). -/
structure AntPath where
  /-- ANT_STATUS STATE (R99, R127; 2 bits). -/
  phase : AntPhase := .ok
  /-- ANT_I, mA (R127; 32 bits). -/
  current : Rat := 0
  /-- The supply is switched on (R99; 1 bit). -/
  supplyOn : Bool := false
  /-- Module time of the last retry or switch-off in SHORT (R99; 64 bits). -/
  retryAt : Nat := 0
  /-- FE_ON: the front end has valid samples (R98, R127; 1 bit). -/
  feOn : Bool := false
  /-- Module time of the front end's domain switch-on (R98; 64 bits). -/
  feSince : Option Nat := none
  /-- Module time from which the front end has valid samples (R98, R125; 64 bits). -/
  readyAt : Option Nat := none
  /-- JAM indicated (R127, R128; 1 bit). -/
  jam : Bool := false
  /-- Band reported with the indication: 0 upper, 1 lower (R129; 8 bits). -/
  jamBand : Nat := 0
  /-- Module time from which channels are assigned again after a SHORT (R99; 64 bits). -/
  assignAt : Nat := 0
deriving DecidableEq, Repr

/-- Channel states (R105). -/
inductive ChanPhase where
  | idle | search | pullIn | track
deriving DecidableEq, Repr

/-- The loops of a channel (R104): a carrier loop, PLL or FLL, of an order and a noise bandwidth in Hz, the DLL with its order, carrier aiding
and bandwidth, and the coherent integration in ms. -/
structure Loops where
  pll : Bool := false
  order : Nat := 0
  bandwidth : Rat := 0
  dllOrder : Nat := 0
  /-- The carrier loop aids the DLL (R104; 1 bit). -/
  aided : Bool := false
  dllBandwidth : Rat := 0
  integrationMs : Nat := 0
deriving DecidableEq, Repr

/-- A measurement record of the batch (R111). -/
structure ChanRec where
  const : Nat := 0
  svid : Nat := 0
  signal : Nat := 0
  ant : Nat := 0
  prValid : Bool := false
  cpValid : Bool := false
  halfCycle : Bool := false
  slip : Bool := false
  prMs : Nat := 0
  lockTime : Nat := 0
  prRem : Rat := 0
  cpInt : Int := 0
  cpFrac : Rat := 0
  doppler : Rat := 0
  cn0 : Rat := 0
  elev : Int := 0
  channel : Nat := 0
deriving DecidableEq, Repr

/-- One of the 192 tracking channels (R103 to R107). -/
structure Channel where
  /-- CHAN_STATE STATE (R105, R127; 3 bits). -/
  phase : ChanPhase := .idle
  /-- CONST of the signal assigned (R111; 4 bits). -/
  const : Nat := 0
  /-- SVID; 0 when IDLE (R111, R127; 8 bits). -/
  svid : Nat := 0
  /-- SIGNAL (R97; 8 bits). -/
  signal : Nat := 0
  /-- Priority of the running search (R101; 3 bits). -/
  prio : Nat := 0
  /-- Module time at which the present state was entered (R105; 64 bits). -/
  since : Nat := 0
  /-- PR_VALID (R106; 1 bit). -/
  prValid : Bool := false
  /-- CP_VALID (R106; 1 bit). -/
  cpValid : Bool := false
  /-- HALF_CYCLE (R107; 1 bit). -/
  halfCycle : Bool := false
  /-- LOCK_TIME, frames (R106; 16 bits). -/
  lockTime : Nat := 0
  /-- SLIP found at the last latch (R106; 1 bit). -/
  slip : Bool := false
  /-- The values last latched; one that is invalid keeps its last value (R111). -/
  held : ChanRec := {}
  /-- The channel's loops; none in IDLE and SEARCH (R104). -/
  loops : Loops := {}
deriving DecidableEq, Repr

/-- A search request of the acquisition queue (R101). -/
structure SearchReq where
  /-- Priority 1 to 5 (R101; 3 bits). -/
  prio : Nat := 1
  /-- Channel that asked (R101; 8 bits). -/
  chan : Nat := 0
  /-- Cells of the window still to be tested (R101). -/
  cells : Nat := 0
  /-- Module time of its arrival (R101; 64 bits). -/
  at_ : Nat := 0
deriving DecidableEq, Repr

/-- A position solution (R112, R113, R116). -/
structure Solution where
  /-- SOL TYPE: 0 NONE, 1 SPS, 2 SBAS, 3 DGNSS, 4 RTK_FLOAT, 5 RTK_FIXED (R112, R127; 4 bits). -/
  type : Nat := 0
  /-- SOL VALID (R113, R116, R127; 1 bit). -/
  valid : Bool := false
  /-- SOL NSAT (R127; 8 bits). -/
  nsat : Nat := 0
  /-- PDOP, shown as PDOP × 10 saturating at 255 (R127; 8 bits). -/
  pdop : Rat := 0
  /-- Position of the antenna's phase centre (R112). -/
  pos : Geo := {}
  /-- 1σ north, east and down errors, m (R112). -/
  sigma : Vec3 := {}
  /-- Receiver clock bias: GPS time minus module time, ns (R463). -/
  clockBias : Int := 0
  /-- Receiver clock drift, ppb (R470). -/
  clockDrift : Rat := 0
  /-- Last valid position carried forward by the ego-motion, with the module time it stands for (R116). -/
  carried : Option (Geo × Nat) := none
  /-- Module time until which the solution is invalid after a jump (R116; 64 bits). -/
  jumpUntil : Option Nat := none
  /-- Module time since which the solution has been NONE after being valid (R113; 64 bits). -/
  noneSince : Option Nat := none
  /-- Last type while valid (R129; 8 bits). -/
  lastType : Nat := 0
  /-- FIX_LOST has been raised, or no fix has yet been had; the next valid solution raises FIX_ACQUIRED (R113; 1 bit). -/
  lost : Bool := true
deriving DecidableEq, Repr

/-- States of the heading (R117, R118). -/
inductive HdgPhase where
  | none | float | fixed | unavailable
deriving DecidableEq, Repr

/-- An observation of a base (R114): constellation, satellite and MSM signal number, pseudorange and phase range in m, and the phase-range rate in
m/s that MSM5 and MSM7 carry. -/
structure BaseObs where
  const : Nat := 0
  svid : Nat := 0
  signal : Nat := 0
  pr : Rat := 0
  cp : Rat := 0
  rate : Option Rat := none
deriving DecidableEq, Repr

/-- One correction source (R114, R115). -/
structure CorrSource where
  /-- Station ID of its base (R127; 12 bits). -/
  station : Nat := 0
  /-- Base antenna reference point of that station (R114). -/
  base : Option Vec3 := none
  /-- Antenna height of that base from 1006, m (R114). -/
  height : Option Rat := none
  /-- The last 1033 of that base: receiver and antenna descriptor (R114). -/
  descriptor : Bytes := []
  /-- Base epoch being received, with its observations (R114, R115). -/
  building : Option (Nat × List BaseObs) := none
  /-- Observations of the newest complete base epoch (R115). -/
  obs : List BaseObs := []
  /-- Observations of the epoch before it, with its module time (R115). -/
  obsPrev : List BaseObs := []
  epochPrev : Option Nat := none
  /-- Module time of the newest complete base epoch (R115; 64 bits). -/
  epoch : Option Nat := none
  /-- Epochs completed and not yet in use, oldest first: base time, module time of the completion and observations; a frame uses those complete
  before its instant (R115). -/
  complete : List (Nat × Nat × List BaseObs) := []
  /-- Module time since which the source has been within CORR_MAX_AGE (R115; 64 bits). -/
  freshSince : Option Nat := none
deriving DecidableEq, Repr

/-- Hot-start data of partition P2 (R123). -/
structure HotStart where
  /-- Ephemerides held: constellation and SVID, and the module time to which each is valid (R123). -/
  ephem : List ((Nat × Nat) × Nat) := []
  /-- Almanac held for these constellation and SVID pairs (R123). -/
  almanac : List (Nat × Nat) := []
  /-- Last valid position of each antenna (R123). -/
  lastPos : List (Option Geo) := [none, none]
  /-- GPS–UTC leap-second count (R13, R123; 8 bits). -/
  leap : Nat := 0
  /-- Announced change: new count and effective module time (R123, R129). -/
  leapNext : Option (Nat × Nat) := none
deriving DecidableEq, Repr

/-- What the strobe latches on a channel in TRACK (R106 to R111): its values at the sample edge, the lock indicator, how long the DLL has
converged in ms, whether bit polarity is resolved, and whether it has flipped. -/
structure LatchRec where
  channel : Nat := 0
  lock : Rat := 0
  convergedMs : Nat := 0
  polarity : Bool := true
  flipped : Bool := false
  prMs : Nat := 0
  prRem : Rat := 0
  cpInt : Int := 0
  cpFrac : Rat := 0
  doppler : Rat := 0
  cn0 : Rat := 0
  elev : Int := 0
deriving DecidableEq, Repr

/-- One position computation (R112, R113, R116): the satellites it uses, their normalised residuals, PDOP, position and errors, clock bias in ns and
drift in ppb. -/
structure FixSol where
  sats : List (Nat × Nat) := []
  residuals : List ((Nat × Nat) × Rat) := []
  pdop : Rat := 0
  pos : Geo := {}
  sigma : Vec3 := {}
  clockBias : Int := 0
  clockDrift : Rat := 0
deriving DecidableEq, Repr

/-- What GT's position computation of an antenna gives in a frame, and its repetition without the satellite of the largest normalised residual
(R113). -/
structure FixIn where
  first : FixSol := {}
  again : FixSol := {}
deriving DecidableEq, Repr

/-- What GT's carrier-phase computations give in a frame (R118 to R122): the measured baseline in the earth frame and its heading error in rad, the
velocity of antenna A and the velocity of antenna B relative to it, and both velocities repeated without the signals removed (R122). -/
structure EgoIn where
  base : Vec3 := {}
  sigma : Rat := 0
  vel : Vec3 := {}
  rel : Vec3 := {}
  velAgain : Vec3 := {}
  relAgain : Vec3 := {}
deriving DecidableEq, Repr

/-- What a heading ambiguity search finds: its integers and the baseline length they give, m (R118). -/
structure AmbFix where
  ints : List Int := []
  len : F32 := 0
deriving DecidableEq, Repr

/-- A signal of a satellite with its predicted elevation in degrees (R103), and those for every 15 min up to 2 h after the flushed time, which a
coarse-time start searches as well (R126). -/
structure SkySig where
  const : Nat := 0
  svid : Nat := 0
  signal : Nat := 0
  elev : Rat := 0
  later : List Rat := []
deriving DecidableEq, Repr

/-- A coarse-time solution (R126): its satellites, residual RMS in m, time offset in ns, and whether the ephemerides are valid at the solved time. -/
structure CoarseIn where
  sats : List (Nat × Nat) := []
  rms : Rat := 0
  offset : Int := 0
  ephemOk : Bool := false
deriving DecidableEq, Repr

/-- Where a GPS week number comes from (R126): the 13-bit week of L5 or BeiDou, the 12-bit week of Galileo, or the 10-bit week of L1 C/A. -/
inductive WeekSource where
  | l5 | beidou | galileo | l1
deriving DecidableEq, Repr

/-- What GT has from navigation data in a frame (R112, R123, R126): SBAS corrections in force, ephemerides completed, almanacs, leap-second count and
announced change, a coarse-time solution, whether the time of week has been decoded, and week numbers with their source. -/
structure NavIn where
  sbas : Bool := false
  ephem : List ((Nat × Nat) × Nat) := []
  almanac : List (Nat × Nat) := []
  leap : Option Nat := none
  leapNext : Option (Nat × Nat) := none
  coarse : Option CoarseIn := none
  tow : Bool := false
  weeks : List (WeekSource × Nat) := []
deriving DecidableEq, Repr

/-- A measurement batch (R108, R111): its frame, frame instant and time flags, its records, and the channels on which a slip was found with its
cause (R106). -/
structure Batch where
  frame : Nat := 0
  time : Nat := 0
  holdover : Bool := false
  degraded : Bool := false
  recs : List ChanRec := []
  slips : List (ChanRec × Nat) := []
deriving DecidableEq, Repr

/-- Block GNS (R97 to R129). -/
structure GnsState where
  /-- Antenna paths A and B (R98, R99). -/
  ants : List AntPath := [{}, {}]
  /-- Channels 0 to 95 on antenna A, 96 to 191 on antenna B (R103). -/
  chans : List Channel := List.replicate 192 {}
  /-- Acquisition queue in order of arrival (R101). -/
  queue : List SearchReq := []
  /-- Module time since which the queue has been empty (R102; 64 bits). -/
  queueEmptyAt : Nat := 0
  /-- PD3 is asked for and its switch-on runs (R102; 1 bit). -/
  acqWanted : Bool := false
  /-- PD3 has been shed and returns on request after release (R102, R518, R529; 1 bit). -/
  acqShed : Bool := false
  /-- Module times of the passes of the last second; PASSES is their number (R127). -/
  passes : List Nat := []
  /-- GNS_STATUS ASLEEP (R124, R127; 1 bit). -/
  asleep : Bool := false
  /-- The hot-start data in use, kept in P2 (R123). -/
  hot : HotStart := {}
  /-- LEAP_SRC: 0 navigation message, 1 kept value (R127; 1 bit). -/
  leapKept : Bool := true
  /-- A new ephemeris set is complete and not yet written (R123; 1 bit). -/
  ephemDirty : Bool := false
  /-- Module time of the last P2 write of ephemerides (R123; 64 bits). -/
  ephemStored : Option Nat := none
  /-- Solutions of antennas A and B (R112). -/
  sols : List Solution := [{}, {}]
  /-- HDG_STATUS STATE (R118, R127; 2 bits). -/
  hdgPhase : HdgPhase := .none
  /-- HDG_STATUS MRU_USED (R120, R127; 1 bit). -/
  mruUsed : Bool := false
  /-- HDG_STATUS NDD (R127; 8 bits). -/
  ndd : Nat := 0
  /-- HDG_STATUS HEADING, held when not FIXED (R127; 16 bits). -/
  heading : Nat := 0
  /-- HDG_SIGMA, rad (R127; 32 bits). -/
  hdgSigma : Rat := 0
  /-- BASELINE: measured length, m, 0 when not FIXED (R127; 32 bits). -/
  baseline : Rat := 0
  /-- Consecutive frames with a failed length check (R119; 2 bits). -/
  lengthFails : Nat := 0
  /-- Integer set rejected and excluded from the next search (R119). -/
  excluded : Option (List Int) := none
  /-- Integer set of the present heading fix (R113, R119). -/
  ints : List Int := []
  /-- Heading fix found in the background, used from the next frame (R113; 1 bit). -/
  hdgFixReady : Bool := false
  /-- Frame in which it was found (R113; 32 bits). -/
  hdgFoundAt : Nat := 0
  /-- RTK ambiguities of each antenna fixed (R112, R113; 1 bit each). -/
  rtkFixed : List Bool := [false, false]
  /-- RTK fix found in the background, used from the next frame (R113; 1 bit each). -/
  rtkReady : List Bool := [false, false]
  /-- Frames in which they were found (R113; 32 bits each). -/
  rtkFoundAt : List Nat := [0, 0]
  /-- YAW_RATE, rad/s (R122, R127; 32 bits). -/
  yawRate : Rat := 0
  /-- VEL_N, VEL_E, VEL_D, m/s (R121, R127; 32 bits each). -/
  vel : Vec3 := {}
  /-- VEL_STATUS VALID (R127; 1 bit). -/
  velValid : Bool := false
  /-- VEL_STATUS YAW_VALID (R127; 1 bit). -/
  yawValid : Bool := false
  /-- VEL_STATUS NSAT (R127; 8 bits). -/
  velNsat : Nat := 0
  /-- The frame follows a forward step, so it has no velocity (R121; 1 bit). -/
  afterStep : Bool := false
  /-- Frame number of the snapshot published last (R110, R111; 32 bits). -/
  snapFrame : Option Nat := none
  /-- What the strobe of the last frame instant latched, waiting for GT (R39, R108). -/
  latch : Option Batch := none
  /-- The measurement batch published last (R111). -/
  batch : Batch := {}
  /-- Record of the channel selected at the last publication; none when it was absent (R127). -/
  recShown : Option ChanRec := none
  /-- CORR_STATUS ACTIVE: 0 none, 1 primary, 2 secondary (R127; 2 bits). -/
  corrActive : Nat := 0
  /-- CORR_STATUS STALE (R127; 1 bit). -/
  corrStale : Bool := false
  /-- The primary and secondary sources (R114). -/
  corr : List CorrSource := [{}, {}]
  /-- CORR_DIST, m (R127; 32 bits). -/
  corrDist : Rat := 0
  /-- CORR_ERRORS CRC_FAIL, read-clear (R127; 16 bits). -/
  crcFail : Nat := 0
  /-- CORR_ERRORS UNSUPPORTED, read-clear (R127; 16 bits). -/
  unsupported : Nat := 0
  /-- SBAS corrections are in force (R112; 1 bit). -/
  sbas : Bool := false
  /-- START_INFO KIND (R125, R127; 2 bits). -/
  startKind : Nat := 3
  /-- START_INFO WAKE (R127; 1 bit). -/
  startWake : Bool := false
  /-- START_INFO TTFF, ms (R127; 16 bits). -/
  ttff : Nat := 0xFFFF
  /-- A start is in progress: no first fix has been had (R125; 1 bit). -/
  starting : Bool := false
  /-- The start waits for its time: for the coarse-time solution, or for the time of week once that was rejected (R126; 1 bit). -/
  timeWait : Bool := false
  /-- GPS week and its source (R126; 16 bits); none while it is the week of the kept time. -/
  week : Option (WeekSource × Nat) := none
  /-- Module time of valid samples from which TTFF runs (R125; 64 bits). -/
  startAt : Option Nat := none
  /-- Module time of the wake in progress (R124; 64 bits). -/
  wakeAt : Option Nat := none
  /-- A fix has been had in the wake in progress (R124; 1 bit). -/
  wakeFix : Bool := false
  /-- WAKE_COUNT WAKES (R127; 16 bits). -/
  wakes : Nat := 0
  /-- WAKE_COUNT NO_FIX (R127; 16 bits). -/
  wakesNoFix : Nat := 0
  /-- SLIP_COUNT, read-clear (R127; 32 bits). -/
  slipCount : Nat := 0
  /-- CHAN_SEL (R127; 8 bits). -/
  chanSel : Nat := 0
  /-- BASELINE_RANGE has been raised since start-up (R117; 1 bit). -/
  baselineTold : Bool := false
deriving DecidableEq, Repr

end Sys2Proof.Machine
end

