-- ==== Sys2Proof/Machine/Blocks/Fusion.lean ====
section
/-!
DEFINITION. State of the reference fusion and observer (block FUS, chapter 04_reference_fusion.md).
Every field's default value is its value after reset. Slots 0 to 7 of `refs` are P0 to P7, slots 8 to 11 are H0 to H3 (R130).
-/
namespace Sys2Proof.Machine

/-- A value delivered by a reference (R130). Angles of the wire are in radians, bearings and headings in bam16. -/
inductive RefValue where
  | geo (pos : Geo) (sigmaN sigmaE : Rat)
  | rangeBearing (range : Rat) (bearing : Nat)
  | wire (thetaX thetaY depth : Rat)
  | heading (hdg : Rat) (sigma : Rat)
deriving DecidableEq, Repr

/-- A value with its time stamp (R148). -/
structure Sample where
  /-- Time stamp, module time (R148; 64 bits). -/
  stamp : Nat := 0
  /-- The value (R130). -/
  value : RefValue := .geo {} 0 0
deriving DecidableEq, Repr

/-- The last delivery of a source (R606). -/
inductive Delivery where
  | never | valid | invalid
deriving DecidableEq, Repr

/-- Mask reasons with the codes of REF_STATUS MASK (R173, R606). -/
inductive MaskReason where
  | none | disabled | age | sourceInvalid | vote | notAnchored | noData | offGrid
deriving DecidableEq, Repr

/-- The Gaussian kernel −0.5(u² + v²) at the bin centres, shifted so that its largest value is 0 (R143). -/
def gaussKernel : List Rat :=
  (List.range 256).map fun k =>
    let u : Rat := ((k / 16 : Nat) : Rat) / 2 - 15/4
    let v : Rat := ((k % 16 : Nat) : Rat) / 2 - 15/4
    1/16 - (u * u + v * v) / 2

/-- The Gaussian kernel of a heading: row 0 holds −0.5u² at the bin centres, shifted; the other rows are 0 and not used (R145). -/
def gaussRow : List Rat :=
  (List.range 256).map fun k =>
    let u : Rat := ((k % 16 : Nat) : Rat) / 2 - 15/4
    if k < 16 then 1/32 - u * u / 2 else 0

/-- A learned error model (R168 to R171). -/
structure RefModel where
  /-- Identity tag of the reference (R171; 32 bits). -/
  tag : Nat := 0
  /-- Type (R130, R171; 4 bits). -/
  type : Nat := 15
  /-- TAG of the transform entry (R171; 16 bits). -/
  tfTag : Nat := 0
  /-- Lever arm, m (R171). -/
  lever : Vec3 := {}
  /-- SCALE (R169; 32 bits). -/
  scale : Rat := 1
  /-- Kernel, 256 log-likelihood values, row by row (R143). -/
  kernel : List Rat := gaussKernel
  /-- Histogram, 256 bins (R168). -/
  hist : List Rat := []
  /-- Seconds of learning; HOURS is its whole hours (R171, R173; 32 bits). -/
  seconds : Nat := 0
  /-- KERNEL_REJECT count (R170, R173; 16 bits). -/
  rejects : Nat := 0
deriving DecidableEq, Repr

/-- What the registers REF_STATUS to REF_MODEL show of a slot: the values of the frame last published, which one request reads together
(R173). -/
structure RefShown where
  /-- REF_STATUS ENABLED (R173; 1 bit). -/
  enabled : Bool := false
  /-- REF_LATE as counted when the frame was published, less what a read has cleared (R151, R173; 32 bits). -/
  late : Nat := 0
  /-- REF_STATUS CONTRIB (R173; 1 bit). -/
  contrib : Bool := false
  /-- REF_STATUS MASK (R173; 3 bits). -/
  mask : MaskReason := .noData
  /-- REF_STATUS ANCHORED (R173; 1 bit). -/
  anchored : Bool := false
  /-- REF_STATUS LEARNING (R173; 1 bit). -/
  learning : Bool := false
  /-- REF_STATUS DEFAULT (R173; 1 bit). -/
  isDefault : Bool := true
  /-- REF_STATUS CONF (R156, R173; 8 bits). -/
  conf : Nat := 255
  /-- REF_STATUS SCORE (R158, R173; 8 bits). -/
  score : Nat := 0
  /-- REF_AGE, µs; none when no value is held (R173; 32 bits). -/
  age : Option Nat := none
  /-- REF_INNOV_A (R173; 32 bits). -/
  innovA : Rat := 0
  /-- REF_INNOV_B (R173; 32 bits). -/
  innovB : Rat := 0
  /-- REF_DIST, before its root (R173). -/
  dSq : Option Rat := none
  /-- REF_SCALE (R173; 32 bits). -/
  scale : Rat := 1
  /-- Seconds learned behind REF_MODEL HOURS (R173). -/
  seconds : Nat := 0
  /-- REF_MODEL REJECTS (R173; 16 bits). -/
  rejects : Nat := 0
deriving DecidableEq, Repr

/-- One reference slot (R130 to R172). -/
structure RefState where
  /-- REF_SELECT bit of the slot (R132, R173; 1 bit). -/
  enabled : Bool := false
  /-- Enable that takes effect at the next frame instant (R132; 1 bit). -/
  enableNext : Bool := false
  /-- Latest value held (R149). -/
  latest : Option Sample := none
  /-- Values stamped after the frame being formed, held back (R151). -/
  held : List Sample := []
  /-- Last delivery (R606). -/
  delivery : Delivery := .never
  /-- Value frozen at the input cut of the running frame (R151). -/
  cut : Option Sample := none
  /-- Last delivery at the input cut of the running frame (R151, R606). -/
  cutDelivery : Delivery := .never
  /-- REF_STATUS MASK (R173, R606; 3 bits). -/
  mask : MaskReason := .noData
  /-- Masked by vote and not yet readmitted (R154, R155; 1 bit). -/
  vote : Bool := false
  /-- A write of REF_SELECT since the last frame instant disabled the slot: its VOTE mask ends there (R155; 1 bit). -/
  voteEnds : Bool := false
  /-- The slot has left the NO_DATA of start-up (R174; 1 bit). -/
  left : Bool := false
  /-- What the selected record shows (R173). -/
  shown : RefShown := {}
  /-- REF_STATUS CONTRIB (R153, R173; 1 bit). -/
  contrib : Bool := false
  /-- Frame instant since which d > 3 (R154; 64 bits). -/
  farSince : Option Nat := none
  /-- Frame instant since which d ≤ 2 while masked by vote (R155; 64 bits). -/
  nearSince : Option Nat := none
  /-- Decided in the running frame and not yet carried out: masked by vote (true) or readmitted (R154, R155). -/
  voteDue : Option Bool := none
  /-- REF_STATUS CONF (R156; 8 bits). -/
  conf : Nat := 255
  /-- One-second consistency checks, newest first, at most 600 (R158). -/
  checks : List Bool := []
  /-- d² of R154 or R157; none when not defined; REF_DIST shows its root (R173). -/
  dSq : Option Rat := none
  /-- REF_INNOV_A: N in m or heading in rad (R173; 32 bits). -/
  innovA : Rat := 0
  /-- REF_INNOV_B: E in m (R173; 32 bits). -/
  innovB : Rat := 0
  /-- Normalised offsets of the last consensus comparison, in scaled σ along the principal axes (R168). -/
  offsetU : Rat := 0
  /-- Second normalised offset (R168). -/
  offsetV : Rat := 0
  /-- The leave-one-out consensus of the last frame has σ_major at most half the reference's (R168; 1 bit). -/
  sharp : Bool := false
  /-- REF_LATE, read-clear (R173; 32 bits). -/
  late : Nat := 0
  /-- Anchor of a relative reference, WGS 84 (R136). -/
  anchor : Option Geo := none
  /-- Writes of REF_CMD ANCHOR that wait for the frame that follows each: module time, session and REQ_ID (R136). -/
  anchorCmds : List (Nat × Nat × Nat) := []
  /-- REF_STATUS LEARNING (R168, R173; 1 bit). -/
  learning : Bool := false
  /-- REF_STATUS DEFAULT (R172, R173; 1 bit). -/
  isDefault : Bool := true
  /-- Working error model (R168 to R172). -/
  model : RefModel := {}
  /-- Kernel and SCALE that take effect at the next frame instant (R169). -/
  modelNext : Option RefModel := none
  /-- Counts of the running 10 min, 256 bins (R168). -/
  counts : List Nat := []
  /-- Samples since the last update (R168, R169; 16 bits). -/
  samples : Nat := 0
  /-- Running sum of squared normalised distance (R168). -/
  sumSq : Rat := 0
  /-- The working model differs from the stored one (R171; 1 bit). -/
  dirty : Bool := false
  /-- Whole second of module time of the last innovation sample (R168; 64 bits). -/
  sampledAt : Nat := 0
  /-- Whole second of module time of the last consistency check (R158; 64 bits). -/
  checkedAt : Nat := 0
  /-- 10 min point of module time last served (R169; 32 bits). -/
  kernelAt : Nat := 0
deriving DecidableEq, Repr

/-- The fused snapshot (R167). -/
structure FusedSnap where
  frame : Nat := 0
  tov : Nat := 0
  /-- AOC, µs. -/
  aoc : Nat := 0
  posN : Rat := 0
  posE : Rat := 0
  sigN : Rat := 0
  sigE : Rat := 0
  rho : Rat := 0
  /-- HEADING, bam16. -/
  heading : Nat := 0
  posConf : Nat := 0
  hdgConf : Nat := 0
  hdgSigma : Rat := 0
  u : Rat := 0
  v : Rat := 0
  r : Rat := 0
  biasN : Rat := 0
  biasE : Rat := 0
  biasYaw : Rat := 0
  /-- POS_STATE: 0 NONE, 1 MEASURED, 2 DEAD_RECKONING. -/
  posState : Nat := 0
  hdgState : Nat := 0
  posValid : Bool := false
  hdgValid : Bool := false
  posDegraded : Bool := false
  hdgDegraded : Bool := false
  settling : Bool := false
  coarse : Bool := false
  holdover : Bool := false
  timeDegraded : Bool := false
  contribPos : BitVec 8 := 0
  contribHdg : BitVec 4 := 0
deriving DecidableEq, Repr

/-- State vector of the observer (R161): N, E in m and ψ in turns; u, v in m/s and r in rad/s; b in kN, kN, kN·m. -/
structure ObsVec where
  n : Rat := 0
  e : Rat := 0
  psi : Rat := 0
  u : Rat := 0
  v : Rat := 0
  r : Rat := 0
  bN : Rat := 0
  bE : Rat := 0
  bYaw : Rat := 0
deriving DecidableEq, Repr

/-- The observer (R161 to R166). -/
structure Observer where
  /-- The observer has started (R162; 1 bit). -/
  started : Bool := false
  /-- Cause the next OBS_START carries: 0 first fix, 1 after DR_LIMIT, 2 after DORMANT (R174; 8 bits). -/
  cause : Nat := 0
  /-- State vector (R161). -/
  x : ObsVec := {}
  /-- TOV the state stands for (R161; 64 bits). -/
  at_ : Nat := 0
  /-- Covariance, 9 × 9 row by row (R161). -/
  cov : List Rat := []
  /-- ψ is valid (R162, R165; 1 bit). -/
  psiValid : Bool := false
  /-- Last valid heading, turns (R165). -/
  lastPsi : Option Rat := none
  /-- Ten seconds of states at frame instants, newest first: time, N, E, ψ (R149). -/
  history : List (Nat × Rat × Rat × Rat) := []
  /-- Module time of the observer start; SETTLING runs 60 s from it (R162; 64 bits). -/
  startAt : Nat := 0
  /-- SETTLING (R162, R173; 1 bit). -/
  settling : Bool := false
  /-- Frame instant since which position measurements have been gated (R163; 64 bits). -/
  posGateSince : Option Nat := none
  /-- Frame instant since which heading measurements have been gated (R163; 64 bits). -/
  hdgGateSince : Option Nat := none
  /-- Position measurement last gated (R163). -/
  posGate : Option (Rat × Rat) := none
  /-- Heading measurement last gated, turns (R163). -/
  hdgGate : Option Rat := none
deriving DecidableEq, Repr

/-- Agreement of exactly two references of a kind (R157). -/
structure PairWatch where
  /-- DEGRADED (R157, R173; 1 bit). -/
  degraded : Bool := false
  /-- Leader slot, by slot index (R157; 4 bits). -/
  leader : Nat := 0
  /-- Frame instant since which d > 3 (R157; 64 bits). -/
  farSince : Option Nat := none
  /-- Frame instant since which d ≤ 2 (R157; 64 bits). -/
  nearSince : Option Nat := none
  /-- DEGRADED is to be set: leader, other and d² (R157). -/
  setDue : Option (Nat × Nat × Rat) := none
  /-- DEGRADED is to clear: 0 agreement, 1 count changed (R157, R174). -/
  clearDue : Option Nat := none
deriving DecidableEq, Repr

/-- The internal GNSS velocity and yaw rate as the input cut froze them (R110, R151, R161). -/
structure CutMotion where
  vel : Vec3 := {}
  velValid : Bool := false
  yawRate : Rat := 0
  yawValid : Bool := false
deriving DecidableEq, Repr

/-- Block FUS (R130 to R174). -/
structure FusState where
  /-- The slots P0 to P7 and H0 to H3 (R130). -/
  refs : List RefState := List.replicate 8 ({} : RefState) ++ List.replicate 4 ({ model := { kernel := gaussRow } } : RefState)
  /-- The newest fused snapshot published (R167). -/
  snap : FusedSnap := {}
  /-- Working origin of the earth frame that the newest snapshot was formed in (R139, R167). -/
  snapOrigin : Option Geo := none
  /-- FC has published in the running frame (R166, R167; 1 bit). -/
  published : Bool := false
  /-- The input cut of the running frame lies at this module time; the values are frozen (R151; 64 bits). -/
  cutAt : Option Nat := none
  /-- GNSS velocity and yaw rate at the input cut (R151, R161). -/
  motion : CutMotion := {}
  /-- Roll, pitch and time stamp of the motion reference unit at the input cut (R135, R151). -/
  mruCut : Option (Rat × Rat × Nat) := none
  /-- The snapshot formed by the running frame's FC work and not yet published (R167). -/
  formed : Option FusedSnap := none
  /-- FUS_STATUS GRID: 0 none, 1 fine, 2 coarse (R142, R173; 2 bits). -/
  grid : Nat := 0
  /-- FUS_STATUS MRU (R135, R173; 1 bit). -/
  mru : Bool := false
  /-- Roll and pitch of the motion reference unit, radians, and their time stamp (R135). -/
  mruVal : Option (Rat × Rat × Nat) := none
  /-- The observer (R161). -/
  obs : Observer := {}
  /-- Newest heading peak formed since start-up or the last observer restart, turns (R607). -/
  hdgPeak : Option Rat := none
  /-- The next value of an absolute reference sets the origin (R139; 1 bit). -/
  originWanted : Bool := true
  /-- Working origin (R139). -/
  origin : Option Geo := none
  /-- Origin to be taken at the next frame instant (R139). -/
  originNext : Option Geo := none
  /-- FINE_CTR_N, m (R141, R173; 32 bits). -/
  fineN : Rat := 0
  /-- FINE_CTR_E, m (R141, R173; 32 bits). -/
  fineE : Rat := 0
  /-- Observer before the running frame's update, to which an abandoned frame returns (R166). -/
  obsSaved : Option Observer := none
  /-- TOV since which the fused position has been invalid (R71, R164; 64 bits). -/
  posBad : Option Nat := none
  /-- TOV since which the fused heading has been invalid (R71, R165; 64 bits). -/
  hdgBad : Option Nat := none
  /-- TOV of the last valid position (R159; 64 bits). -/
  posMeasAt : Option Nat := none
  /-- TOV of the last valid heading (R159; 64 bits). -/
  hdgMeasAt : Option Nat := none
  /-- POS_DR_TIME, ms (R164, R173; 32 bits). -/
  posDr : Nat := 0
  /-- HDG_DR_TIME, ms (R173; 32 bits). -/
  hdgDr : Nat := 0
  /-- Confidence at the last position measurement (R159; 8 bits). -/
  posConfLast : Nat := 0
  /-- Confidence at the last heading measurement (R159; 8 bits). -/
  hdgConfLast : Nat := 0
  /-- No valid coarse position peak since the last refused one, or since start-up (R147; 1 bit). -/
  posFlat : Bool := true
  /-- No valid coarse heading peak since the last refused one, or since start-up (R147; 1 bit). -/
  hdgFlat : Bool := true
  /-- Agreement watch of positions (R157). -/
  posWatch : PairWatch := {}
  /-- Agreement watch of headings (R157). -/
  hdgWatch : PairWatch := {}
  /-- LATE_COUNT, read-clear (R173; 32 bits). -/
  lateCount : Nat := 0
  /-- OLDER_COUNT, read-clear (R173; 32 bits). -/
  olderCount : Nat := 0
  /-- Whole hour of module time of the last model write (R171; 32 bits). -/
  storedHour : Nat := 0
  /-- Whole 30 days of module time of the last periodic copies (R171; 32 bits). -/
  storedPeriod : Nat := 0
  /-- REF_SEL SLOT (R173; 4 bits). -/
  refSel : Nat := 0
  /-- REF_SEL KIND (R173; 1 bit). -/
  refSelHdg : Bool := false
  /-- TF_SEL (R173; 6 bits). -/
  tfSel : Nat := 0
  /-- FUS_SKIP, read-clear (R166, R173; 32 bits). -/
  skip : Nat := 0
  /-- GATE_COUNT, read-clear (R163, R173; 32 bits). -/
  gateCount : Nat := 0
deriving DecidableEq, Repr

end Sys2Proof.Machine
end

