-- ==== Sys2Proof/Machine/Blocks/Supervisor.lean ====
section
/-!
DEFINITION. State of the supervisor block (SUP): the fabric and the frame (R35 to R59, chapter 01_architecture.md), the modes,
start-up and handover (chapter 02_modes_and_startup.md) and the identity registers (R536).
Every field's default value is its value after reset.
-/
namespace Sys2Proof.Machine

/-- Operating modes (R60) and the start phase, which is not a mode. -/
inductive Mode where
  | dormant | standby | joystick | autoPos | autoTrack | service | start
deriving DecidableEq, Repr

/-- Delay margins (R37). -/
inductive Margin where
  | narrow | standard | wide
deriving DecidableEq, Repr

/-- Root demand: surge kN, sway kN, yaw kN·m (R87). -/
structure Demand where
  surge : Rat := 0
  sway : Rat := 0
  yaw : Rat := 0
deriving DecidableEq, Repr, Inhabited

/-- A mode request accepted and waiting for the next frame instant (R73 to R75). -/
structure PendingMode where
  /-- Target mode (R95; 3 bits). -/
  target : Mode := .standby
  /-- HDG_HOLD option (R95; 1 bit). -/
  hdgHold : Bool := false
  /-- USE_SETPOINT option (R95; 1 bit). -/
  useSetpoint : Bool := false
  /-- MODE_PREV CAUSE the change will carry (R71, R95; 4 bits). -/
  cause : Nat := 0
  /-- The domain's LEAD has made it: this member records it with cause DOMAIN (R71; 1 bit). -/
  byLead : Bool := false
deriving DecidableEq, Repr

/-- The handover blend (R87 to R91). -/
structure Blend where
  /-- MODE_STATUS BLENDING (R95; 1 bit). -/
  active : Bool := false
  /-- BLEND_STATUS FROZEN (R91, R95; 1 bit). -/
  frozen : Bool := false
  /-- Frozen d_out (R91). -/
  dFrozen : Demand := {}
  /-- Frame number of the change (R89, R96; 32 bits). -/
  startFrame : Nat := 0
  /-- T_blend the blend started with, s (R93; 32 bits). -/
  tBlend : Rat := 0
  /-- BLEND_STATUS FRAMES_LEFT (R95; 11 bits). -/
  framesLeft : Nat := 0
deriving DecidableEq, Repr

/-- Block SUP: registers of R58, R95 and R536 and what the rules behind them keep. -/
structure SupState where
  /-- FAB_MARGIN MARGIN (R58; 2 bits). -/
  margin : Margin := .wide
  /-- FAB_MARGIN NEXT (R58; 2 bits). -/
  marginNext : Margin := .wide
  /-- FAB_RATE: instruction rate measured in the last frame, M instructions/s (R58, R604; 32 bits). -/
  fabRate : Rat := 0
  /-- DL_STATUS, write-one-clear (R47, R58; 9 bits). -/
  dlStatus : BitVec 9 := 0
  /-- DL_COUNT of DL_STATUS bits 0 to 7, read-clear (R58; 32 bits each). -/
  dlCount : List Nat := List.replicate 8 0
  /-- Stages of the running frame that have completed, by DL_STATUS bit (R45, R47; 9 bits). -/
  stageDone : BitVec 9 := 0
  /-- Stages of the running frame whose deadline has won (R47; 9 bits). -/
  stageMissed : BitVec 9 := 0
  /-- SLACK_MIN, read-clear, ns (R58; 32 bits). -/
  slackMin : Nat := 0xFFFFFFFF
  /-- ECC_CORR, read-clear (R43, R58; 32 bits). -/
  eccCorr : Nat := 0
  /-- ECC_UNCORR, read-clear (R44, R58; 32 bits). -/
  eccUncorr : Nat := 0
  /-- Words found uncorrectable with the module time of the finding: memory code and word address (R44). -/
  eccWords : List ((Nat × Nat) × Nat) := []
  /-- Rows retired until restart: memory code and row (R44). -/
  eccRetired : List (Nat × Nat) := []
  /-- The engines of R30. -/
  engines : List Engine := List.replicate 16 {}
  /-- MODE_STATUS MODE (R60, R95; 3 bits). -/
  mode : Mode := .start
  /-- MODE_STATUS HDG_HOLD (R95; 1 bit). -/
  hdgHold : Bool := false
  /-- USE_SETPOINT option in force (R76; 1 bit). -/
  useSetpoint : Bool := false
  /-- MODE_STATUS LOCKED (R66, R95; 1 bit). -/
  locked : Bool := false
  /-- A matching confirmation clears STANDBY_LOCKED at the next frame instant: the session (R66; 5 bits). -/
  lockClearing : Option Nat := none
  /-- SAFE_STOP was complete with full scope at the last frame instant (R64, R71; 1 bit). -/
  stopFull : Bool := false
  /-- MODE_STATUS DP_READY (R84, R95; 1 bit). -/
  dpReady : Bool := false
  /-- MODE_STATUS NO_IMAGE (R79, R95; 1 bit). -/
  noImage : Bool := false
  /-- MODE_STATUS HELD: a start hold holds (R67, R95; 1 bit). -/
  held : Bool := false
  /-- MODE_STATUS START_PHASE (R77, R95; 4 bits). -/
  startPhase : Nat := 1
  /-- Module time of t = 0 of the running start-up (R77; 64 bits). -/
  startAt : Nat := 0
  /-- Failed repetitions of phase 1 so far (R80; 2 bits). -/
  suRetries : Nat := 0
  /-- Module time from which phase 1 may be repeated after an SU failure (R80; 64 bits). -/
  suRetryAt : Option Nat := none
  /-- MODE_RESULT RESULT (R73, R95; 4 bits). -/
  resCode : Nat := 0
  /-- MODE_RESULT REQ_MODE (R95; 3 bits). -/
  resMode : Nat := 0
  /-- MODE_RESULT SESSION (R95; 5 bits). -/
  resSession : Nat := 0
  /-- MODE_RESULT FRAME (R95; 16 bits). -/
  resFrame : Nat := 0
  /-- Mode change accepted and waiting for the next frame instant (R74, R75). -/
  pendMode : Option PendingMode := none
  /-- A mode request has been accepted in the running frame (R74; 1 bit). -/
  reqTaken : Bool := false
  /-- MODE_ENTRY FRAME (R95; 32 bits). -/
  modeEntry : Nat := 0
  /-- MODE_PREV MODE (R95; 3 bits). -/
  prevMode : Mode := .start
  /-- MODE_PREV CAUSE (R95; 4 bits). -/
  prevCause : Nat := 1
  /-- READY_STATUS COND (R84, R95; 6 bits). -/
  ready : BitVec 6 := 0
  /-- READY_STATUS CONSEQ_RUN (R95; 4 bits). -/
  conseqRun : Nat := 0
  /-- MPC_WARM condition (R84, R86; 1 bit). -/
  mpcWarm : Bool := false
  /-- A fallback or the restart it stands for falls due at the next frame instant: cause and the time invalid, ms (R71). -/
  fallDue : Option (Nat × Nat) := none
  /-- The handover blend (R87 to R91). -/
  blend : Blend := {}
  /-- MODE_TBLEND, s (R93, R95; 32 bits). -/
  tBlend : Rat := 5
  /-- START_TIME, ms (R77, R95; 32 bits). -/
  startTime : Nat := 0
  /-- START_FAULT (R79, R95; 10 bits). -/
  startFault : BitVec 10 := 0
  /-- A restart has been ordered and waits for its Sediment flush (R83; 1 bit). -/
  restarting : Bool := false
  /-- Azimuth feedback of each thruster at the instant its outputs became inhibited, bam16: the hold value (R61; 16 bits each). -/
  holdAz : List Nat := List.replicate 16 0
  /-- SUP_IDENT VARIANT: the F variant, factory value (R2, R536; 1 bit). -/
  variantF : Bool := true
  /-- SERIAL, factory value (R536; 40 bits). -/
  serial : Nat := 0
  /-- FW_VERSION, factory value (R536; 24 bits). -/
  fwVersion : Nat := 0
  /-- Module time of the PD0 release, from which UPTIME counts (R536; 64 bits). -/
  upSince : Nat := 0
  /-- RESET_CAUSE (R536; 3 bits). -/
  resetCause : Nat := 0
deriving DecidableEq, Repr

end Sys2Proof.Machine
end

