-- ==== Sys2Proof/Machine/Blocks/Control.lean ====
section
/-!
DEFINITION. State of position control, the allocation tree and consequence analysis (block CTL, chapter
06_position_control_allocation.md). Every field's default value is its value after reset. Headings are in turns unless a
docstring says bam16.
-/
namespace Sys2Proof.Machine

/-- Control laws (R222), in the order of their codes. -/
inductive Law where
  | none | mpc | direct | joystick | parent
deriving DecidableEq, Repr

/-- A pose in the earth frame: north m, east m, heading in turns. -/
structure Pose where
  n : Rat := 0
  e : Rat := 0
  psi : Rat := 0
deriving DecidableEq, Repr

/-- A setpoint: WGS 84 position and heading in bam16 (R230). -/
structure Setpoint where
  pos : Geo := {}
  hdg : Nat := 0
deriving DecidableEq, Repr

/-- An MPC plan: plan time and, for each stage, root demand and pose (R239). -/
structure Plan where
  t0 : Nat := 0
  tag : Tag := {}
  /-- Module time of its completion (R50). -/
  done : Nat := 0
  /-- MPC_PATH code of the solve that gave it: 1 service, 2 schedule (R211, R426; 2 bits). -/
  path : Nat := 0
  stages : List (Demand × Pose) := []
deriving DecidableEq, Repr

/-- Heading rule of a leg (R233). -/
inductive HdgRule where
  | along | fixed | keep
deriving DecidableEq, Repr

/-- A waypoint (R231). -/
structure Waypoint where
  /-- WP_LAT, 10⁻⁷ degree, signed (R261; 32 bits). -/
  lat : Int := 0
  /-- WP_LON, 10⁻⁷ degree, signed (R261; 32 bits). -/
  lon : Int := 0
  /-- WP_SPEED, m/s (R261; 32 bits). -/
  speed : Rat := 0
  /-- WP_HDG OFFSET, bam16 (R261; 16 bits). -/
  offset : Nat := 0
  /-- WP_HDG MODE (R261; 2 bits). -/
  rule : HdgRule := .along
deriving DecidableEq, Repr

/-- Reasons of unavailability with the codes of THR_STATUS REASON (R241, R261). -/
inductive ThrReason where
  | none | disabled | safeStop | notReady | feedbackStale | servoFault
deriving DecidableEq, Repr

/-- A thruster as CC0 holds it (R240 to R243, R252). -/
structure ThrState where
  /-- THR_STATUS AVAILABLE (R241, R261; 1 bit). -/
  available : Bool := false
  /-- THR_STATUS REASON (R241, R261; 3 bits). -/
  reason : ThrReason := .none
  /-- Availability has been evaluated since start-up (R241; 1 bit). -/
  evaluated : Bool := false
  /-- Its availability has changed at the running allocation start, so ξ_prev counts as 0 (R246; 1 bit). -/
  changed : Bool := false
  /-- THR_FX, kN (R261; 32 bits). -/
  fx : Rat := 0
  /-- THR_FY, kN (R261; 32 bits). -/
  fy : Rat := 0
  /-- THR_CMD_T: thrust after R252, kN (R261; 32 bits). -/
  cmdT : Rat := 0
  /-- THR_CMD_AZ, bam16 (R261; 16 bits). -/
  cmdAz : Nat := 0
  /-- Output value after R252, step 4 (pitch ratio or speed). -/
  output : Rat := 0
  /-- Thrust kN, azimuth bam16 and output of its last command formed by an allocation that met its deadline (R255). -/
  kept : Rat × Nat × Rat := (0, 0, 0)
  /-- THR_TCAP, kN (R242, R261; 32 bits). -/
  tCap : Rat := 0
deriving DecidableEq, Repr

/-- An allocation group (R244 to R251). -/
structure GroupState where
  /-- Group demand: surge kN, sway kN, yaw kN·m (R247, R261). -/
  demand : Demand := {}
  /-- GRP_STATUS SAT (R249, R261; 1 bit). -/
  sat : Bool := false
  /-- Frames since SAT rose (R262; 32 bits). -/
  satFrames : Nat := 0
  /-- GRP_STATUS NODE_STATUS: R198 code of the last node completion (R261; 4 bits). -/
  nodeStatus : Nat := 0
  /-- Slack of the node, s⁺ − s⁻ (R246). -/
  slack : Demand := {}
  /-- Facet values h_k (R245). -/
  facets : List Rat := []
  /-- The node of the running frame has been submitted, with its tag (R247). -/
  tag : Option Tag := none
  /-- The node's result for the running frame is in (R248; 1 bit). -/
  solved : Bool := false
  /-- EXTERNAL: facet values received, and the frame they came in (R251). -/
  extFacets : List Rat := []
  /-- EXTERNAL: module time of the last capability received (R251; 64 bits). -/
  extAt : Option Nat := none
  /-- EXTERNAL: SAT flag received (R251; 1 bit). -/
  extSat : Bool := false
  /-- GRP_STATUS STALE (R251, R261; 1 bit). -/
  stale : Bool := false
  /-- The node of the running frame failed, or the closed form of R250 scaled a force (R248, R250; 1 bit). -/
  failed : Bool := false
deriving DecidableEq, Repr

/-- A failure group (R256 to R259). -/
structure FailState where
  /-- Envelope E_g over the 36 headings, kN (R257, R259). -/
  env : List Rat := []
  /-- Envelope of the running cycle, in heading order (R258). -/
  work : List Rat := []
  /-- FG_UTIL U_g (R259, R261; 32 bits). -/
  util : Rat := 0
  /-- Valid cycles in a row with U_g > 1.0 (R259; 2 bits). -/
  overRun : Nat := 0
  /-- FG_STATUS ALARM (R259, R261; 1 bit). -/
  alarm : Bool := false
  /-- FG_STATUS STALE (R258, R261; 1 bit). -/
  stale : Bool := false
  /-- Scenario outstanding: tag and heading index (R258). -/
  tag : Option (Tag × Nat) := none
deriving DecidableEq, Repr

/-- State of the consequence analysis as CTL_STATUS CONSEQ_STATE codes it (R259, R260, R261). -/
inductive ConseqPhase where
  | notReady | ok | alarm | suspended
deriving DecidableEq, Repr

/-- A power bus (R242). -/
structure BusState where
  /-- Last value received, kW (R242). -/
  value : Rat := 0
  /-- Module time of that value (R242; 64 bits). -/
  at_ : Option Nat := none
  /-- BUS_AVAIL, kW (R261; 32 bits). -/
  avail : Rat := 0
  /-- BUS_USED, kW (R261; 32 bits). -/
  used : Rat := 0
  /-- BUS_STATUS STALE (R242, R261; 1 bit). -/
  stale : Bool := false
deriving DecidableEq, Repr

/-- The joystick (R235). -/
structure Joystick where
  /-- Owning session; JOY_OWNED and JOY_OWNER (R235, R261). -/
  owner : Option Nat := none
  /-- Newest valid value: three fractions and its module time (R235). -/
  value : Option (Demand × Nat) := none
  /-- Module time of entry to JOYSTICK (R235; 64 bits). -/
  entered : Nat := 0
  /-- JOY_STALE has been raised for the present silence (R235; 1 bit). -/
  stale : Bool := false
deriving DecidableEq, Repr

/-- The track point (R232 to R234). -/
structure TrackPoint where
  /-- TRACK_STATUS LEG (R261; 6 bits). -/
  leg : Nat := 0
  /-- Distance along the active leg, m (R232). -/
  along : Rat := 0
  /-- TRACK_SPEED, m/s (R261; 32 bits). -/
  speed : Rat := 0
  /-- TRACK_STATUS WAITING (R261; 1 bit). -/
  waiting : Bool := false
  /-- TRACK_XTE, m (R261; 32 bits). -/
  xte : Rat := 0
  /-- Heading setpoint in force, turns (R233). -/
  hdg : Rat := 0
  /-- Heading toward which it turns: that of the leg's rule, turns (R233). -/
  goal : Rat := 0
  /-- The track point has stopped at the last waypoint and the vessel is inside TRACK_END_RADIUS (R234; 1 bit). -/
  ended : Bool := false
deriving DecidableEq, Repr

/-- The outgoing controller of a blend (R88 to R91, R228). -/
structure Outgoing where
  /-- Its mode (R89; 3 bits). -/
  mode : Mode := .standby
  /-- Its HDG_HOLD (R89; 1 bit). -/
  hold : Bool := false
  /-- Its law (R226; 3 bits). -/
  law : Law := .none
  /-- Its tuning set (R228; 3 bits). -/
  tune : Nat := 0
  /-- Its integrator, N kN, E kN, yaw kN·m; none when it is the one in force (R228). -/
  int : Option (Rat × Rat × Rat) := none
  /-- Its target, from the one it had at the change (R229). -/
  target : Pose := {}
  /-- Heading setpoint of JOYSTICK with HDG_HOLD it had, turns (R94). -/
  hdg : Rat := 0
  /-- Setpoint toward which its target goes on moving in AUTO_POS (R89, R229). -/
  goal : Option Setpoint := none
  /-- Track point with which it goes on along the track in AUTO_TRACK (R89, R232). -/
  tp : TrackPoint := {}
deriving DecidableEq, Repr

/-- Block CTL (R222 to R262). -/
structure CtlState where
  /-- CTL_STATUS LAW (R222, R261; 3 bits). -/
  law : Law := .none
  /-- CTL_STATUS DEADLINE (R254, R261; 1 bit). -/
  deadline : Bool := false
  /-- CTL_STATUS CONTROL_LOST (R255, R261; 1 bit). -/
  lost : Bool := false
  /-- Module frame in which CONTROL_LOST was declared (R262; 32 bits). -/
  lostFrame : Nat := 0
  /-- Control was handed to a domain member at CONTROL_LOST (R255, R262; 1 bit). -/
  handed : Bool := false
  /-- CTL_STATUS HOLD_LAST (R255, R261; 1 bit). -/
  holdLast : Bool := false
  /-- CTL_STATUS DL_RUN (R254, R261; 8 bits). -/
  dlRun : Nat := 0
  /-- Consecutive frames that met the deadline while CONTROL_LOST holds (R255; 6 bits). -/
  metRun : Nat := 0
  /-- CTL_STATUS FALLBACK_ALLOC (R250, R261; 1 bit). -/
  fallbackAlloc : Bool := false
  /-- Integrator components frozen (R225): N, E, yaw. -/
  frozen : List Bool := [false, false, false]
  /-- Root demand last released: ROOT_X, ROOT_Y, ROOT_N (R88, R223, R261; 32 bits each). -/
  root : Demand := {}
  /-- The outgoing controller of the blend in progress (R89). -/
  outgoing : Outgoing := {}
  /-- The mode was entered at the instant of the running frame, so setpoint and target are formed from its fused pose (R94, R229). -/
  entry : Bool := false
  /-- Root slack: SLACK_X, SLACK_Y, SLACK_N (R249, R261; 32 bits each). -/
  slack : Demand := {}
  /-- INT_N, kN (R223, R261; 32 bits). -/
  intN : Rat := 0
  /-- INT_E, kN (R223, R261; 32 bits). -/
  intE : Rat := 0
  /-- INT_YAW, kN·m (R223, R261; 32 bits). -/
  intYaw : Rat := 0
  /-- The integrator is to be initialised at the next allocation stage under R88 (1 bit). -/
  intInit : Bool := false
  /-- η_t: TARGET_N, TARGET_E, TARGET_HDG (R229, R261). -/
  target : Pose := {}
  /-- SP_LAT, 10⁻⁷ degree, signed (R261; 32 bits). -/
  spLat : Int := 0
  /-- SP_LON, 10⁻⁷ degree, signed (R261; 32 bits). -/
  spLon : Int := 0
  /-- SP_HDG, bam16 (R261; 16 bits). -/
  spHdg : Nat := 0
  /-- SP_MOVE_N, m (R261; 32 bits). -/
  spMoveN : Rat := 0
  /-- SP_MOVE_E, m (R261; 32 bits). -/
  spMoveE : Rat := 0
  /-- Setpoint stored by the last accepted APPLY or MOVE and its frame (R94, R230). -/
  spStored : Option (Setpoint × Nat) := none
  /-- Setpoint last used by AUTO_POS and its frame (R230). -/
  spUsed : Option (Setpoint × Nat) := none
  /-- Setpoint in force (R229). -/
  setpoint : Option Setpoint := none
  /-- Setpoint that takes effect at the next frame instant (R230). -/
  spNext : Option Setpoint := none
  /-- Heading setpoint of JOYSTICK with HDG_HOLD, turns (R94). -/
  holdHdg : Rat := 0
  /-- TUNE_SEL and CTL_STATUS TUNE: set in force (R227, R261; 3 bits). -/
  tune : Nat := 0
  /-- Set written and waiting for the next frame instant, with the session (R228). -/
  tuneNext : Option (Nat × Nat) := none
  /-- The joystick (R235). -/
  joy : Joystick := {}
  /-- Newest complete plan (R239). -/
  plan : Option Plan := none
  /-- Plan that the running allocation stage uses (R50). -/
  planUsed : Option Plan := none
  /-- PLAN_INFO STATUS: R198 code of the last MPC completion (R261; 4 bits). -/
  planStatus : Nat := 0
  /-- Plan time t0 and start module time of the MPC solve outstanding (R239). -/
  mpcStart : Option (Nat × Nat) := none
  /-- The 80 ms deadline of the solve outstanding has passed and been counted (R50; 1 bit). -/
  mpcLate : Bool := false
  /-- Frame instant of the last MPC start instant served (R49, R239; 64 bits). -/
  mpcAt : Option Nat := none
  /-- A plan has completed since the mode was entered (R226; 1 bit). -/
  planSinceEntry : Bool := false
  /-- MPC_FAIL_COUNT, read-clear (R239, R261; 32 bits). -/
  mpcFail : Nat := 0
  /-- Output value and azimuth target (bam16) of every thruster, staged for the next strobe; none once released (R46, R61, R360). -/
  staged : Option (List (Rat × Nat)) := none
  /-- Active track (R231). -/
  track : List Waypoint := []
  /-- Track committed or cleared for the next frame instant, with the session (R231). -/
  trackNext : Option (List Waypoint × Nat) := none
  /-- The track point (R232). -/
  tp : TrackPoint := {}
  /-- Staging buffer of 64 waypoints (R231). -/
  staging : List Waypoint := List.replicate 64 {}
  /-- WP_SEL (R261; 6 bits). -/
  wpSel : Nat := 0
  /-- Thrusters (R240). -/
  thr : List ThrState := List.replicate 16 {}
  /-- THR_SEL (R261; 4 bits). -/
  thrSel : Nat := 0
  /-- THR_ENABLE (R241, R261; 16 bits). -/
  thrEnable : BitVec 16 := 0
  /-- Allocation groups (R244). -/
  groups : List GroupState := List.replicate 64 {}
  /-- GRP_SEL (R261; 6 bits). -/
  grpSel : Nat := 0
  /-- Frame number for which the allocation tree is being solved (R247, R254). -/
  allocFrame : Option Nat := none
  /-- The allocation of the running frame is complete (R254; 1 bit). -/
  allocDone : Bool := false
  /-- Module time at which the allocation stage of the running frame started (R50; 64 bits). -/
  allocStart : Nat := 0
  /-- Failure groups (R256). -/
  fail : List FailState := List.replicate 64 {}
  /-- FG_SEL GROUP (R261; 6 bits). -/
  fgSel : Nat := 0
  /-- FG_SEL HEADING (R261; 6 bits). -/
  fgHdg : Nat := 0
  /-- CONSEQ_STATE (R259, R261; 2 bits). -/
  conseq : ConseqPhase := .notReady
  /-- CONSEQ_INFO WORST_FG (R261; 6 bits). -/
  worstFg : Nat := 0
  /-- CONSEQ_INFO RUN (R261; 8 bits). -/
  conseqRun : Nat := 0
  /-- CONSEQ_INFO CYCLE_MS (R261; 16 bits). -/
  cycleMs : Nat := 0
  /-- Module time at which the running cycle started (R258; 64 bits). -/
  cycleAt : Option Nat := none
  /-- Frame instant of the last start instant of consequence analysis served (R49, R258; 64 bits). -/
  conseqAt : Option Nat := none
  /-- Fused snapshot at the start of the running cycle (R258). -/
  cycleSnap : FusedSnap := {}
  /-- Module time of the last completed scenario of the running cycle (R261; 64 bits). -/
  cycleLast : Nat := 0
  /-- A scenario of the running cycle ended in another status than R258 allows, or a structure was rebound (R258; 2 bits). -/
  cycleBad : Option Nat := none
  /-- Valid cycles in a row with every U_g ≤ 0.95 (R259; 2 bits). -/
  clearRun : Nat := 0
  /-- Buses (R242). -/
  buses : List BusState := List.replicate 8 {}
  /-- The records that a request reads: those of the last frame whose allocation ended (R261). -/
  thrShown : List ThrState := List.replicate 16 {}
  groupShown : List GroupState := List.replicate 64 {}
  busShown : List BusState := List.replicate 8 {}
  /-- BUS_SEL (R261; 3 bits). -/
  busSel : Nat := 0
  /-- NODE_FAIL_COUNT, read-clear (R248, R261; 32 bits). -/
  nodeFail : Nat := 0
  /-- SAT_FRAMES, read-clear (R249, R261; 32 bits). -/
  satFrames : Nat := 0
  /-- DL_MISS_COUNT, read-clear (R254, R261; 32 bits). -/
  dlMiss : Nat := 0
  /-- Realised root force and moment: REALISED_X, REALISED_Y, REALISED_N (R253, R261; 32 bits each). -/
  realised : Demand := {}
deriving DecidableEq, Repr

end Sys2Proof.Machine
end

