-- ==== Sys2Proof/Machine/Blocks/Icxon.lean ====
section
/-!
DEFINITION. State of the Icxon link and of the redundant domain (block ICX, chapter 12_icxon_domains.md).
Every field's default value is its value after reset.
-/
namespace Sys2Proof.Machine

/-- States of an Icxon port (R413, R438). -/
inductive IcxPortPhase where
  | notFitted | unused | down | up
deriving DecidableEq, Repr

/-- Roles (R423, R438). -/
inductive IcxRole where
  | none_ | lead | follow | spare
deriving DecidableEq, Repr

/-- Membership states (R419). -/
inductive MemberPhase where
  | detached | joining | member | isolated | suspect | refused
deriving DecidableEq, Repr

/-- Effect of a domain command that the LEAD has accepted (R429). -/
inductive DomainEffect where
  /-- MODE_REQ: the change it asks for (R73 to R76). -/
  | mode (m : PendingMode)
  /-- MODE_TBLEND (R93). -/
  | tBlend (t : Rat)
  /-- SP_CMD APPLY or MOVE: the setpoint formed (R230). -/
  | setpoint (p : Setpoint)
  /-- TUNE_SEL (R227, R228). -/
  | tune (n session : Nat)
  /-- JOY_DEMAND: the three fractions, or the release of ownership (R235). -/
  | joy (d : Option Demand) (session : Nat)
  /-- TRACK_CMD COMMIT or CLEAR: the track (R231). -/
  | track (w : List Waypoint) (session : Nat)
  /-- THR_ENABLE (R241). -/
  | thrEnable (v : Word)
  /-- REF_SELECT (R132). -/
  | refSelect (v : Word)
  /-- REF_CMD: the word and the session (R136, R172). -/
  | refCmd (v : Word) (session : Nat)
deriving DecidableEq, Repr

/-- A domain command on its way to the LEAD (R429): the register write with the writer's role and session, the SP registers and the
staging buffer of the member written to. -/
structure Forwarded where
  /-- Register address (R20; 32 bits). -/
  addr : Nat := 0
  /-- Value written (R20; 32 bits). -/
  value : Word := 0
  /-- Session of the writer (5 bits). -/
  session : Nat := 0
  /-- Role of the writer (R445; 2 bits). -/
  role : Nat := 0
  /-- SP_LAT, SP_LON, SP_HDG (R261). -/
  spLat : Int := 0
  spLon : Int := 0
  spHdg : Nat := 0
  /-- SP_MOVE_N, SP_MOVE_E (R261). -/
  spMoveN : Rat := 0
  spMoveE : Rat := 0
  /-- Staging buffer of the track (R231). -/
  staging : List Waypoint := []
deriving DecidableEq, Repr

/-- A domain command that the LEAD has accepted (R429, R457): its effect, the register written and the value, the session whose request it was
and the frame in which it takes effect. -/
structure DomainOrder where
  effect : DomainEffect := .tBlend 5
  addr : Nat := 0
  value : Word := 0
  session : Nat := 0
  frame : Nat := 0
deriving DecidableEq, Repr

/-- Content of a COMMAND (R415, R429), whose layout the spec does not give. -/
inductive DomainCmd where
  /-- To the LEAD: a register write to evaluate. -/
  | forward (f : Forwarded)
  /-- From the LEAD to every member. -/
  | effect (o : DomainOrder)
  /-- From the LEAD to one member: evaluate SSTOP_REQ RESET (R65). -/
  | reset (session : Nat)
  /-- From the LEAD to every member: its evaluation of a request that MODE_RESULT reports: result code, mode and session (R95). -/
  | told (code mode session : Nat)
deriving DecidableEq, Repr

/-- One thruster entry of a VOTE (R426). -/
structure VoteThr where
  /-- OUTPUT after R252. -/
  out : Rat := 0
  /-- Azimuth target, bam16 (16 bits). -/
  az : Nat := 0
  /-- AVAILABLE (1 bit). -/
  available : Bool := false
  /-- ENABLE (1 bit). -/
  enable : Bool := false
  /-- RAMP (1 bit). -/
  ramp : Bool := false
deriving DecidableEq, Repr

/-- What STATE carries (R420), in parts whose layout the spec does not give. -/
structure StateXfer where
  /-- Mode and option bits; HDG_HOLD. -/
  mode : Mode := .standby
  hdgHold : Bool := false
  useSetpoint : Bool := false
  /-- Active setpoint, the control target formed from it, and working origin. -/
  setpoint : Option Setpoint := none
  target : Pose := {}
  holdHdg : Rat := 0
  origin : Option Geo := none
  /-- Active track and track point. -/
  track : List Waypoint := []
  tp : TrackPoint := {}
  /-- Tuning set, THR_ENABLE, REF_SELECT, MODE_TBLEND. -/
  tune : Nat := 0
  thrEnable : BitVec 16 := 0
  refSelect : List Bool := []
  tBlend : Rat := 5
  /-- Integrator: N, E, yaw. -/
  int : Rat × Rat × Rat := (0, 0, 0)
  /-- Blend state and its outgoing controller. -/
  blend : Blend := {}
  outgoing : Outgoing := {}
  /-- Last released commands and root demand. -/
  thr : List VoteThr := []
  root : Demand := {}
deriving DecidableEq, Repr

/-- An Icxon frame (R414). LENGTH is the length of the payload. -/
structure IcxFrame where
  /-- Port it was received on or leaves on: 0 A, 1 B, 2 C (R413). -/
  port : Nat := 0
  /-- TYPE (R414; 8 bits). -/
  type : Nat := 0
  /-- FLAGS (R414; 8 bits). -/
  flags : Nat := 0
  /-- DOMAIN (R414; 8 bits). -/
  domain : Nat := 0
  /-- SRC (R414; 8 bits). -/
  src : Nat := 0
  /-- DST (R414; 8 bits). -/
  dst : Nat := 0xFF
  /-- TTL (R414; 16 bits). -/
  ttl : Nat := 0
  /-- FRAME (R414; 32 bits). -/
  frame : Nat := 0
  /-- EPOCH (R414; 32 bits). -/
  epoch : Nat := 0
  /-- TAG (R414; 32 bits). -/
  tag : Nat := 0
  /-- Reserved header byte 5 (R414; 8 bits). -/
  res5 : Nat := 0
  /-- Reserved header bytes 10 and 11 (R414; 16 bits). -/
  res10 : Nat := 0
  /-- Payload, at most 1,024 bytes (R414). -/
  payload : Bytes := []
  /-- Content that the payload of a COMMAND spells (R429). -/
  cmd : Option DomainCmd := none
  /-- Part of STATE that the payload spells: its number from 0, the number of parts, and the state (R420). -/
  part : Option (Nat × Nat × StateXfer) := none
  /-- Blend state that the sender of a VOTE holds, with its outgoing controller (R428); R426's payload has no field for it. -/
  blend : Option (Blend × Outgoing) := none
  /-- CRC-32C received (R414; 32 bits). -/
  crc : Nat := 0
deriving DecidableEq, Repr

/-- A VOTE (R426). -/
structure VoteMsg where
  /-- Frame it belongs to (R414; 32 bits). -/
  frame : Nat := 0
  /-- ROOT (R426). -/
  root : Demand := {}
  /-- INT: N, E, yaw (R426). -/
  intN : Rat := 0
  intE : Rat := 0
  intYaw : Rat := 0
  /-- LAW code (R222, R426; 8 bits). -/
  law : Nat := 0
  /-- TUNE (R426; 8 bits). -/
  tune : Nat := 0
  /-- PATH (R426; 8 bits). -/
  path : Nat := 0
  /-- FLAGS (R426; 8 bits). -/
  flags : Nat := 0
  /-- PLAN_TAG (R426; 32 bits). -/
  planTag : Nat := 0
  /-- NEW_ROLE: member and role when valid (R426). -/
  newRole : Option (Nat × Nat) := none
  /-- THR (R426). -/
  thr : List VoteThr := []
  /-- A field is not finite: the VOTE agrees with no other (R391; 1 bit). -/
  nonFinite : Bool := false
  /-- Blend state held by its sender, with the outgoing controller (R428). -/
  blend : Option (Blend × Outgoing) := none
deriving DecidableEq, Repr

/-- What a module knows of one member (R424, R438). -/
structure Member where
  /-- Module time of its last EXCHANGE (R438; 64 bits). -/
  exchAt : Option Nat := none
  /-- Frame in which it was last heard by EXCHANGE or VOTE (R438; 32 bits). -/
  heard : Option Nat := none
  /-- ROLE reported (R424, R438; 2 bits). -/
  role : IcxRole := .none_
  /-- State as last known (R438; 3 bits). -/
  phase : MemberPhase := .detached
  /-- MODE reported (R424; 8 bits). -/
  mode : Nat := 0
  /-- HEALTH of its last EXCHANGE (R424, R438; 16 bits). -/
  health : Nat := 0
  /-- MEMBER_CHECK (R438; 32 bits). -/
  check : Nat := 0
  /-- OFFSET of its last EXCHANGE, ns, signed (R424; 32 bits). -/
  offset : Int := 0
  /-- MEMBER_HOPS (R438; 16 bits). -/
  hops : Nat := 0
  /-- Snapshot of its last EXCHANGE and the frame it belongs to (R424). -/
  snap : Option (FusedSnap × Nat) := none
  /-- Its last VOTE (R426). -/
  vote : Option VoteMsg := none
  /-- Consecutive minority frames (R427; 2 bits). -/
  minority : Nat := 0
  /-- It was counted present at the last evaluation (R431; 1 bit). -/
  present : Bool := false
  /-- State-transfer parts it has acknowledged of those sent to it (R420). -/
  transfer : Option (Nat × Nat) := none
  /-- STATE has been sent to it since it was last heard anew, lost or suspected; it is not sent again by itself (R417, R434; 1 bit). -/
  xferTried : Bool := false
  /-- It adopted in the last frame, so far as this member knows (R430; 1 bit). -/
  adopted : Bool := true
  /-- Consecutive frames in which its VOTE agreed with the released set (R434; 6 bits). -/
  heal : Nat := 0
deriving DecidableEq, Repr

/-- An Icxon transaction outstanding (R417). -/
structure IcxTxn where
  /-- Tag (R53, R417; 32 bits). -/
  tag : Nat := 0
  /-- TYPE of the message (R415; 8 bits). -/
  type : Nat := 0
  /-- Recipient member (R417; 8 bits). -/
  dst : Nat := 0
  /-- Module time of sending (R417; 64 bits). -/
  sentAt : Nat := 0
  /-- Session write that waits for the RESULT (R429). -/
  origin : Option Waiting := none
  /-- Members that a COMMAND to all members went to and that have not answered yet (R417, R429; 8 indices at most). -/
  left : List Nat := []
  /-- The COMMAND tells of an evaluation and changes nothing at a frame instant (R429; 1 bit). -/
  told : Bool := false
deriving DecidableEq, Repr

/-- A received Icxon frame: how long before now its stamp was taken, and how long the module held it before forwarding (R415, R422). -/
structure IcxRx where
  /-- The frame. -/
  frame : IcxFrame := {}
  /-- Arrival before now, ns. -/
  backNs : Nat := 0
  /-- Residence in this module, ns. -/
  hopNs : Nat := 0
deriving DecidableEq, Repr

/-- A port's line (R413, R415, R422). -/
structure IcxPort where
  /-- PORT_STATUS (R413, R438; 2 bits). -/
  phase : IcxPortPhase := .down
  /-- One-way delay of the cable as DELAY measured it, ns (R415, R422; 32 bits). -/
  delay : Nat := 0
  /-- Module time of the last DELAY probe sent (R415; 64 bits). -/
  probeAt : Option Nat := none
  /-- Frames this port has to send or has forwarded, newest last (R416). -/
  out : List IcxFrame := []
deriving DecidableEq, Repr

/-- Block ICX (R413 to R439). -/
structure IcxState where
  /-- ICX_STATUS ROLE (R423, R438; 2 bits). -/
  role : IcxRole := .none_
  /-- ICX_STATUS STATE (R419, R438; 3 bits). -/
  phase : MemberPhase := .detached
  /-- MEMBER_ID, kept in P0; none when never set (R419, R438; 3 bits). -/
  memberId : Option Nat := none
  /-- This module's own index, learned from MEMBER_ID when the domain record is taken (R419; 3 bits). -/
  index : Nat := 0
  /-- Image's domain record; none without one (R419). -/
  cfg : Option DomainCfg := none
  /-- Ports A, B and C (R413); port C has no optics on an LQ-4816-S (R2, R3). -/
  ports : List IcxPort := List.replicate 3 {}
  /-- ICX_STATUS VOTERS (R438; 4 bits). -/
  voters : Nat := 0
  /-- ICX_STATUS DISAGREE (R427, R438; 1 bit). -/
  disagree : Bool := false
  /-- Consecutive agreeing votes since a disagreement (R427; 6 bits). -/
  agreeRun : Nat := 0
  /-- ICX_STATUS OWN_STATE (R425, R438; 1 bit). -/
  ownState : Bool := false
  /-- ICX_EPOCH (R432, R438; 32 bits). -/
  epoch : Nat := 0
  /-- ICX_LEAD LEAD (R438; 3 bits). -/
  lead : Nat := 0
  /-- A LEAD is known (R421; 1 bit). -/
  leadKnown : Bool := false
  /-- ICX_LEAD LEAD_SOURCE: silence (R431, R438; 1 bit). -/
  leadBySilence : Bool := false
  /-- ICX_LEAD FOLLOW with FOLLOW_VALID (R430, R438; 3 bits). -/
  follow : Option Nat := none
  /-- RING_CLOSED (R438; 1 bit). -/
  ringClosed : Bool := false
  /-- Ports on which the LEAD's frames arrived in the running frame (R431, R438; 3 bits). -/
  leadPorts : BitVec 3 := 0
  /-- TIME_OFFSET, ns, signed (R422, R438; 32 bits). -/
  timeOffset : Int := 0
  /-- Consecutive frames with |offset| above 20 µs (R422; 4 bits). -/
  skewRun : Nat := 0
  /-- TIME_SKEW raised and not yet below 2 µs (R422; 1 bit). -/
  skewed : Bool := false
  /-- EXCH_LATE, read-clear (R424, R438; 32 bits). -/
  exchLate : Nat := 0
  /-- VOTE_RESULT AGREE (R427, R438; 8 bits). -/
  agree : BitVec 8 := 0
  /-- VOTE_RESULT MINORITY (R427, R438; 8 bits). -/
  minority : BitVec 8 := 0
  /-- VOTE_RESULT SOURCE (R427, R438; 3 bits). -/
  source : Nat := 0
  /-- MISCOMPARE_COUNT, read-clear (R427, R438; 32 bits). -/
  miscompares : Nat := 0
  /-- TAKEOVER_COUNT, read-clear (R438; 32 bits). -/
  takeovers : Nat := 0
  /-- Transactions outstanding; TXN_STATUS OUTSTANDING (R417, R438; at most 256). -/
  txns : List IcxTxn := []
  /-- Transactions refused FULL, in no register; saturating (R54; 32 bits). -/
  txnFull : Nat := 0
  /-- TXN_TIMEOUTS, read-clear (R417, R438; 16 bits). -/
  txnTimeouts : Nat := 0
  /-- CRC_ERRORS, read-clear (R415, R438; 32 bits). -/
  crcErrors : Nat := 0
  /-- MEMBER_SEL (R438; 3 bits). -/
  sel : Nat := 0
  /-- Members 0 to 7, this module's own entry included (R419, R438). -/
  members : List Member := List.replicate 8 {}
  /-- ICX_CMD_RESULT RESULT (R438; 4 bits). -/
  cmdResult : Nat := 0
  /-- ICX_CMD_RESULT SESSION (R438; 5 bits). -/
  cmdSession : Nat := 0
  /-- (SRC, TYPE, FRAME, TAG) of frames whose first copy has been kept (R416). -/
  seen : List (Nat × Nat × Nat × Nat) := []
  /-- The set adopted or released in the last frame (R427, R428). -/
  adopted : Option VoteMsg := none
  /-- It adopted in the last frame (R430; 1 bit). -/
  adoptedLast : Bool := false
  /-- A handover ordered or decided and not yet announced: its cause, 0 ORDERED or 3 OUTVOTED (R430). -/
  handCause : Option Nat := none
  /-- Cause of the handover announced last (R430; 3 bits). -/
  namedCause : Nat := 0
  /-- What the LEAD's last VOTE named for the next frame instant: member, role, and whether LEAD is handed over (R420, R426, R430). -/
  named : Option (Nat × IcxRole × Bool) := none
  /-- This member becomes JOINING at the next frame instant, having lost a dual-LEAD resolution (R432; 1 bit). -/
  rejoin : Bool := false
  /-- The LEAD it then joins and its epoch; none when the evidence was on CAN, which does not name it (R432). -/
  rejoinTo : Option (Nat × Nat) := none
  /-- This module became LEAD and has not yet named a FOLLOW that is able (R430; 1 bit). -/
  followDue : Bool := false
  /-- Module time since which no LEAD has been heard: start of the listening of R421 (64 bits). -/
  joinSince : Option Nat := none
  /-- Module time from which a JOIN may be sent again after a TIME refusal (R420; 64 bits). -/
  joinRetryAt : Option Nat := none
  /-- JOIN has been sent to the LEAD known; it is not sent again after a TIMEOUT (R417, R420; 1 bit). -/
  joinTried : Bool := false
  /-- The LEAD has accepted this module's JOIN (R420; 1 bit). -/
  joinOk : Bool := false
  /-- State-transfer parts received (R420). -/
  partsGot : Nat := 0
  /-- The state transferred, once its last part has arrived (R420). -/
  xfer : Option StateXfer := none
  /-- The state transferred takes effect at this frame instant (R420; 1 bit). -/
  xferDue : Bool := false
  /-- Frame numbers of the last EXCHANGE sent, VOTE sent and vote evaluated (R424, R426, R427; 32 bits each). -/
  exchSent : Option Nat := none
  voteSent : Option Nat := none
  voteDone : Option Nat := none
  /-- Consecutive frames in which this member's compared vote agreed with the released set (R434; 6 bits). -/
  healRun : Nat := 0
  /-- Module time of the entry to ISOLATED (R439; 64 bits). -/
  isolatedAt : Nat := 0
  /-- Module time at which the LEAD was last heard on Icxon (R433, R439; 64 bits). -/
  leadHeardAt : Nat := 0
  /-- Consecutive frames without the LEAD on Icxon (R433; 2 bits). -/
  leadMissed : Nat := 0
  /-- Module time of the last MODULE_STATUS of the LEAD on the witness port (R431, R433; 64 bits). -/
  witnessAt : Option Nat := none
  /-- Frame number of the last MODULE_STATUS on the witness port (R431; 32 bits). -/
  witnessFrame : Option Nat := none
  /-- Consecutive frames with a foreign MODULE_STATUS of LEAD = 1 on the witness port (R432; 2 bits). -/
  foreignLead : Nat := 0
  /-- Domain commands accepted and waiting for their effect frame (R429). -/
  cmds : List DomainOrder := []
  /-- Capability last received from a subordinate domain: group, facets, SAT, module time (R437). -/
  extCaps : List (Nat × List Rat × Bool × Nat) := []
  /-- Demand last received from the parent: demand, VALID, frame (R437). -/
  extDemand : Option (Demand × Bool × Nat) := none
  /-- Parent's mode as last heard (R437; 8 bits). -/
  parentMode : Option Nat := none
  /-- EXT_DEMAND_STALE raised for the present silence (R437; 1 bit). -/
  extStale : Bool := false
  /-- Module times since which own position and own heading have differed from the LEAD's (R425). -/
  disagreeSince : List (Option Nat) := [none, none]
  /-- The two distances last found, and whether FUS_DISAGREE has been raised for the present difference (R425). -/
  disagreeDist : List Rat := [0, 0]
  disagreeTold : List Bool := [false, false]
  /-- SSTOP_REQ RESET waits for the answers of these members: session, members, and whether all so far accept (R429). -/
  resetWait : Option (Nat × List Nat × Bool) := none
  /-- Member and transaction tag that forwarded the reset to this LEAD (R429). -/
  resetFrom : Option (Nat × Nat) := none
  /-- Member and transaction tag to which this member's evaluation of a distributed reset is due (R429). -/
  resetOwed : Option (Nat × Nat) := none
  /-- Frames this member has submitted to the link, newest last (the model's own record of its output; R414, R416). -/
  sent : List IcxFrame := []
deriving DecidableEq, Repr

end Sys2Proof.Machine
end

