-- ==== Sys2Proof/Machine/Blocks/Safety.lean ====
section
/-!
DEFINITION. State of the safety channel (block SAF, chapter 10_safety_channel.md): the safety core SC and the Weir logic.
Every field's default value is its value after reset.
-/
namespace Sys2Proof.Machine

/-- Stop states of a thruster (R359). -/
inductive StopPhase where
  | armed | ramping | removed
deriving DecidableEq, Repr

/-- A thruster as SC sees it (R359 to R362, R374). -/
structure SafThr where
  /-- THR_SAF_STATE STATE (R359, R374; 2 bits). -/
  phase : StopPhase := .armed
  /-- Pair the thruster is mapped to; none for a thruster the image does not define (R356; 3 bits). -/
  pair : Option Nat := none
  /-- Image parameters (R360 to R362, R559). -/
  cfg : SafThrCfg := {}
  /-- Output last released, as the mirror port carries it, output units (R34, R360). -/
  released : Rat := 0
  /-- RAMP_U0: u0 × OUT_FS (R360, R374; 32 bits). -/
  u0 : Rat := 0
  /-- Module time of the entry, t = 0 of the ramp (R360; 64 bits). -/
  entryAt : Nat := 0
  /-- RAMP_VALUE: ramp value published for the next strobe, output units (R360, R374; 32 bits). -/
  ramp : Rat := 0
  /-- RAMP_FB: feedback, output units (R361, R374; 32 bits). -/
  fb : Rat := 0
  /-- Module time of the feedback; none before the first (R361; 64 bits). -/
  fbAt : Option Nat := none
  /-- THR_SAF_STATE OUTSIDE (R374; 1 bit). -/
  outside : Bool := false
  /-- RAMP_ELAPSED: t, held at removal, ns (R374; 32 bits). -/
  elapsed : Nat := 0
  /-- End cause decided by SC and not yet carried out; 0 none (R362; 3 bits). -/
  due : Nat := 0
  /-- THR_SAF_STATE END (R362, R374; 3 bits). -/
  endCause : Nat := 0
  /-- Consecutive cycles with u = 0 and |f| ≤ ZERO_TOL (R362; 8 bits). -/
  zeroCycles : Nat := 0
  /-- Consecutive cycles outside the envelope with a valid feedback (R362; 8 bits). -/
  outCycles : Nat := 0
  /-- Consecutive cycles without a valid feedback (R362; 8 bits). -/
  staleCycles : Nat := 0
deriving DecidableEq, Repr

/-- A safe-stop pair (R344, R351 to R355, R374). -/
structure Pair where
  /-- THRUSTERS mapped to the pair (R356, R374; 16 bits). -/
  thrusters : BitVec 16 := 0
  /-- HS_ON: high side closed (R344, R374; 1 bit). -/
  hs : Bool := false
  /-- LS_ON: low side closed (R344, R374; 1 bit). -/
  ls : Bool := false
  /-- PIN_P (R374; 1 bit). -/
  pinP : Bool := false
  /-- PIN_N (R374; 1 bit). -/
  pinN : Bool := false
  /-- CF: contactor feedback high, torque off (R347, R374; 1 bit). -/
  cf : Bool := false
  /-- HS_STUCK (R353, R374; 1 bit). -/
  hsStuck : Bool := false
  /-- LS_STUCK (R353, R374; 1 bit). -/
  lsStuck : Bool := false
  /-- Module time of the last HS pulse given; none before the first (R353; 64 bits). -/
  hsAt : Option Nat := none
  /-- Module time of the last LS pulse given; none before the first (R353; 64 bits). -/
  lsAt : Option Nat := none
  /-- The energised pair's output is found to be fed externally (R366; 1 bit). -/
  fed : Bool := false
  /-- Failed HS pulses in a row (R353; 2 bits). -/
  hsFails : Nat := 0
  /-- Failed LS pulses in a row (R353; 2 bits). -/
  lsFails : Nat := 0
  /-- CF_FAULT (R352, R374; 1 bit). -/
  cfFault : Bool := false
  /-- OUT_FAULT (R354, R374; 1 bit). -/
  outFault : Bool := false
  /-- OPEN (R355, R374; 1 bit). -/
  openFault : Bool := false
  /-- UNPROTECTED has been reported for the pair (R355; 1 bit). -/
  unprotected : Bool := false
  /-- Switch a pair test holds open: HS (true) or LS (false), and the module time it began (R373). -/
  testing : Option (Bool × Nat) := none
  /-- CF level due after the last change of state and the module time of the change (R352). -/
  cfExpect : Option (Bool × Nat) := none
  /-- PAIR_CURRENT, ampere (R374; 32 bits). -/
  current : Rat := 0
  /-- Module time of the last passed HS pulse (R374; 64 bits). -/
  hsPulse : Option Nat := none
  /-- Module time of the last passed LS pulse (R374; 64 bits). -/
  lsPulse : Option Nat := none
  /-- PAIR_TRIPS, read-clear, saturating (R374; 32 bits). -/
  trips : Nat := 0
  /-- Weir's T_WEIR timer: module time of its start (R364; 64 bits). -/
  weirAt : Option Nat := none
  /-- T_WEIR, ms (R364; 16 bits). -/
  tWeir : Nat := 60000
  /-- T_CF, ms (R352; 10 bits). -/
  tCf : Nat := 200
deriving DecidableEq, Repr

/-- A dual-channel E-stop input (R348 to R350, R374). -/
structure EStop where
  /-- ESTOP_STATUS ES_A: channel A closed (R374; 1 bit). -/
  closedA : Bool := false
  /-- ESTOP_STATUS ES_B: channel B closed (R374; 1 bit). -/
  closedB : Bool := false
  /-- ACTIVE (R348, R374; 1 bit). -/
  active : Bool := false
  /-- DISCREPANCY latched (R349, R374; 1 bit). -/
  disc : Bool := false
  /-- Channel that was open when the discrepancy latched: B (R349; 1 bit). -/
  discB : Bool := false
  /-- TP_FAULT of channel A (R349, R374; 1 bit). -/
  tpfA : Bool := false
  /-- TP_FAULT of channel B (R349, R374; 1 bit). -/
  tpfB : Bool := false
  /-- A fault of R349 has been reported and no FAULT_RESET has been accepted since (R368; 1 bit). -/
  alarmed : Bool := false
  /-- Both channels have been open together since the discrepancy latched (R349; 1 bit). -/
  bothOpened : Bool := false
  /-- Channel A's pulses are right since its TP_FAULT (R349; 1 bit). -/
  tpOkA : Bool := false
  /-- Channel B's pulses are right since its TP_FAULT (R349; 1 bit). -/
  tpOkB : Bool := false
  /-- What SC's own sampler has buffered since the last SC cycle: channels A and B filtered open (R342, R348; 2 bits each). -/
  samples : List (Bool × Bool) := []
  /-- SC has found the input ACTIVE in a cycle (R348; 1 bit). -/
  scActive : Bool := false
  /-- Module time since which exactly one channel is open (R349; 64 bits). -/
  oddAt : Nat := 0
  /-- Scope number of the input (R356; 8 bits). -/
  scope : Nat := 0
  /-- STOP_CAT 1: ramp before removal (R357; 1 bit). -/
  ramped : Bool := true
deriving DecidableEq, Repr

/-- An entry to SAFE_STOP that waits for the next SC cycle (R358). -/
structure StopEntry where
  /-- Cause bit of R357 (3 bits). -/
  cause : Nat := 2
  /-- Scope mask added (R356; 16 bits). -/
  mask : BitVec 16 := 0
  /-- Torque is removed at once: category 0, SC_INTERNAL or SUPPLY (R357; 1 bit). -/
  immediate : Bool := false
  /-- Session index for OPERATOR, else 0xFF (R375; 8 bits). -/
  session : Nat := 0xFF
deriving DecidableEq, Repr

/-- Results of the proof test (R374). -/
inductive ProofPhase where
  | none_ | pass | fail | running
deriving DecidableEq, Repr

/-- What an ESTOP_TEST has observed (R373). -/
structure EsTest where
  /-- Input under test (1 bit). -/
  input : Nat := 0
  /-- SAFE_STOP has been entered by the input (1 bit). -/
  entry : Bool := false
  /-- Torque has been removed (1 bit). -/
  removal : Bool := false
  /-- Both channels have been open (1 bit). -/
  both : Bool := false
  /-- The input has been released after the entry (1 bit). -/
  released : Bool := false
deriving DecidableEq, Repr

/-- Block SAF (R342 to R375). -/
structure SafState where
  /-- SAF_STATUS SC_OK (R374; 1 bit). -/
  scOk : Bool := false
  /-- SAF_STATUS WEIR_OK (R374; 1 bit). -/
  weirOk : Bool := false
  /-- SC_LOST declared, until restart (R345, R346; 1 bit). -/
  scLost : Bool := false
  /-- WEIR_LOST declared, until restart (R345, R346; 1 bit). -/
  weirLost : Bool := false
  /-- A difference of SAF_CHECK or of Weir's latches holds the pairs de-energised (R371; 1 bit). -/
  checkBad : Bool := false
  /-- The thrusters' first SC cycle after start-up completion has run (R351; 1 bit). -/
  started : Bool := false
  /-- Weir's write-once parameter latches are loaded (R343; 1 bit). -/
  latched : Bool := false
  /-- Scopes 0 to 7 of the image; absent ones are 0 (R356; 16 bits each). -/
  scopes : List (BitVec 16) := List.replicate 8 0
  /-- ES_DISC, ms (R349; 9 bits). -/
  esDisc : Nat := 100
  /-- Pairs SS0 to SS7 (R344). -/
  pairs : List Pair := List.replicate 8 {}
  /-- Thrusters 0 to 15 (R359). -/
  thr : List SafThr := List.replicate 16 {}
  /-- E-stop inputs ES0 and ES1 (R348). -/
  estops : List EStop := List.replicate 2 {}
  /-- Entries that wait for the next SC cycle, first in first out (R358). -/
  entries : List StopEntry := []
  /-- A SSTOP_REQ RESET that waits for the next SC cycle: the session (R65, R358; 5 bits). -/
  resetReq : Option Nat := none
  /-- SC_INTERNAL active, until restart (R357; 1 bit). -/
  scInternal : Bool := false
  /-- Pair supply out of range (R347, R357; 1 bit). -/
  supplyBad : Bool := false
  /-- Pair supply, V (R347; 32 bits). -/
  supply : Rat := 24
  /-- SSTOP_CAUSE ENTERED (R357, R374; 6 bits). -/
  entered : BitVec 6 := 0
  /-- SSTOP_ENTRY: module time of the first entry since reset (R374; 64 bits). -/
  entryTime : Nat := 0
  /-- The alarm contact is open: SAF_STATUS ALARM (R368, R374; 1 bit). -/
  alarmOpen : Bool := true
  /-- End of the ALARM_TEST that runs (R368; 64 bits). -/
  alarmTest : Option Nat := none
  /-- The supervisor's start hold after a failed SAF BIST or a lost channel (R80, R346; 1 bit). -/
  hold : Bool := false
  /-- IO or PD10 failure on the supervisor's alarm line (R80, R368; 1 bit). -/
  ioFail : Bool := false
  /-- SAF_CHECK (R371, R374; 32 bits). -/
  check : Nat := 0
  /-- SAF_CHECK_IMG (R370, R374; 32 bits). -/
  checkImg : Nat := 0
  /-- PAIR_SEL (R374; 3 bits). -/
  pairSel : Nat := 0
  /-- THR_SEL (R374; 4 bits). -/
  thrSel : Nat := 0
  /-- Module time of the last mirror delivery; none before the first (R34, R366; 64 bits). -/
  mirrorAt : Option Nat := none
  /-- MIRROR_STALE (R366; 1 bit). -/
  mirrorStale : Bool := false
  /-- SC_CYCLE_MAX, read-clear, µs (R374; 32 bits). -/
  cycleMax : Nat := 0
  /-- SC_ECC CORR, read-clear (R374; 16 bits). -/
  eccCorr : Nat := 0
  /-- SC_ECC UNCORR, read-clear (R374; 16 bits). -/
  eccUncorr : Nat := 0
  /-- WD_VIOLATIONS, read-clear (R345, R374; 32 bits). -/
  wdViolations : Nat := 0
  /-- PROOF_LAST, kept; 0 never (R374; 64 bits). -/
  proofLast : Nat := 0
  /-- PROOF_STATUS RESULT (R374; 2 bits). -/
  proof : ProofPhase := .none_
  /-- PROOF_STATUS OVERDUE (R372, R374; 1 bit). -/
  overdue : Bool := false
  /-- Module time of the last PROOF_OVERDUE report (R372; 64 bits). -/
  overdueAt : Option Nat := none
  /-- PROOF_INTERVAL, days (R372; 9 bits). -/
  proofInterval : Nat := 365
  /-- PROOF_RESULT HS_PASS (R374; 8 bits). -/
  hsPass : BitVec 8 := 0
  /-- PROOF_RESULT LS_PASS (R374; 8 bits). -/
  lsPass : BitVec 8 := 0
  /-- PROOF_RESULT ES_PASS (R374; 2 bits). -/
  esPass : BitVec 2 := 0
  /-- PROOF_RESULT DISC_PASS (R374; 4 bits). -/
  discPass : BitVec 4 := 0
  /-- PROOF_RESULT ALARM_PASS (R374; 1 bit). -/
  alarmPass : Bool := false
  /-- ESTOP_TEST running (R373). -/
  esTest : Option EsTest := none
  /-- SAF_CMD_RESULT RESULT (R374; 4 bits). -/
  cmdResult : Nat := 0
  /-- SAF_CMD_RESULT ACTION (R374; 4 bits). -/
  cmdAction : Nat := 0
  /-- SAF_CMD_RESULT SESSION (R374; 5 bits). -/
  cmdSession : Nat := 0
deriving DecidableEq, Repr

end Sys2Proof.Machine
end

