-- ==== Sys2Proof/Machine/Blocks/Session.lean ====
section
/-!
DEFINITION. State of the sessions (block SES, chapter 13_sessions_security.md) and of the configuration (block CFG, chapter
17_configuration_image.md). Every field's default value is its value after reset.
-/
namespace Sys2Proof.Machine

/-- A message the module sends to a client: a response or an event push (R442). -/
structure OutMsg where
  /-- Connection it leaves on. -/
  conn : Nat := 0
  /-- TYPE (R443; 8 bits). -/
  type : Nat := 0
  /-- REQ_ID (R442; 32 bits). -/
  reqId : Nat := 0
  /-- STATUS (R444; 16 bits). -/
  status : Nat := 0
  /-- DETAIL (R444; 16 bits). -/
  detail : Nat := 0
  /-- FLAGS: [0] RESPONSE, [1] DUPLICATE, [2] PUSH (R442; 16 bits). -/
  flags : Nat := 0
  /-- Payload, at most 1,040 bytes (R442). -/
  payload : Bytes := []
  /-- The 16 bytes of its header (R442). -/
  header : Bytes := []
deriving DecidableEq, Repr

/-- Session states (R447). -/
inductive SessPhase where
  | free | open_ | detached
deriving DecidableEq, Repr

/-- A client's certificate as the TLS handshake presents it, in the terms the checks of R449 use. -/
structure ClientCert where
  /-- It is an ECDSA P-256 certificate signed with SHA-256 (R449; 1 bit). -/
  p256 : Bool := true
  /-- DER bytes of the root it chains to (R449). -/
  anchor : Bytes := []
  /-- Serial number (R449). -/
  serial : Bytes := []
  /-- Subject common name (R449). -/
  name : Bytes := []
  /-- Validity, as module times (R449; 64 bits each). -/
  notBefore : Nat := 0
  notAfter : Nat := 0
deriving DecidableEq, Repr

/-- What a client offers in its TLS handshake (R440): versions, cipher suites, key exchange groups and signature algorithms by their TLS numbers,
whether it asks for a pre-shared key or sends 0-RTT data, and whether the messages that follow prove what they must. -/
structure TlsOffer where
  /-- Protocol versions: TLS 1.3 is 0x0304 (16 bits each). -/
  versions : List Nat := [0x0304]
  /-- Cipher suites (16 bits each). -/
  suites : List Nat := []
  /-- Key exchange groups (16 bits each). -/
  groups : List Nat := []
  /-- Signature algorithms (16 bits each). -/
  sigAlgs : List Nat := []
  /-- A pre-shared key is offered (1 bit). -/
  psk : Bool := false
  /-- 0-RTT data is sent (1 bit). -/
  early : Bool := false
  /-- The rest of the handshake verifies (1 bit). -/
  proves : Bool := true
deriving DecidableEq, Repr

/-- One of the 32 sessions (R445 to R448). -/
structure Session where
  /-- STATE (R447, R458; 2 bits). -/
  phase : SessPhase := .free
  /-- ROLE: 0 OBSERVER, 1 OPERATOR, 2 ENGINEER, 3 COMMISSIONER (R445; 2 bits). -/
  role : Nat := 0
  /-- METHOD: 0 certificate, 1 password (R458; 1 bit). -/
  method : Nat := 0
  /-- PORT: 0 ETH1, 1 ETH2 (R458; 1 bit). -/
  port : Nat := 0
  /-- Connection that carries the session while OPEN (R447). -/
  conn : Nat := 0
  /-- SESS_SOURCE: client IPv4 address (R458; 32 bits). -/
  source : Nat := 0
  /-- SESS_OPENED: module time of HELLO (R458; 64 bits). -/
  opened : Nat := 0
  /-- Change-log IDENTITY: first 8 bytes of the SHA-256 of the name (R457). -/
  ident : Bytes := []
  /-- Account name or certificate subject (R449, R450). -/
  name : Bytes := []
  /-- Certificate presented (R447). -/
  cert : Option ClientCert := none
  /-- Resumption token, 16 bytes (R445). -/
  token : Nat := 0
  /-- SUBSCRIBE mask; SUBSCRIBED is mask ≠ 0 (R448; 32 bits). -/
  mask : Nat := 0
  /-- Highest request ID accepted; none while the window is empty (R446; 32 bits). -/
  highest : Option Nat := none
  /-- IDs of the window already seen (R446). -/
  seen : List Nat := []
  /-- Cached responses of the window (R446). -/
  cache : List OutMsg := []
  /-- Request IDs outstanding with the words of their tags, at most 8 (R53, R54, R446). -/
  outstanding : List (Nat × Nat) := []
  /-- Module time of the last message (R447; 64 bits). -/
  lastMsg : Nat := 0
  /-- Module time of the detach (R447; 64 bits). -/
  detachedAt : Nat := 0
  /-- Event push queue, at most 256 records (R448). -/
  push : List SedRecord := []
  /-- Records dropped since the last push (R448; 32 bits). -/
  gap : Nat := 0
deriving DecidableEq, Repr

/-- A source address of the lockout table (R452). -/
structure AuthSource where
  /-- Source IPv4 address (R452; 32 bits). -/
  addr : Nat := 0
  /-- Consecutive failures (R452; 3 bits). -/
  fails : Nat := 0
  /-- Lockouts n since the count last returned to zero (R452). -/
  n : Nat := 0
  /-- Module time at which the lockout in force ends (R452; 64 bits). -/
  until_ : Option Nat := none
  /-- Module time of the last failure (R452; 64 bits). -/
  lastFail : Nat := 0
deriving DecidableEq, Repr

/-- A TCP connection on port 4816 (R441). -/
structure Conn where
  /-- Connection number. -/
  id : Nat := 0
  /-- Client IPv4 address (R452; 32 bits). -/
  addr : Nat := 0
  /-- Ethernet interface: 0 ETH1, 1 ETH2 (R458; 1 bit). -/
  port : Nat := 0
  /-- The TLS handshake is complete (R441; 1 bit). -/
  tls : Bool := false
  /-- Module time of TCP accept (R441; 64 bits). -/
  accepted : Nat := 0
  /-- Session the connection carries after HELLO or RESUME (R445). -/
  session : Option Nat := none
  /-- The connection has completed a HELLO or RESUME (R441; 1 bit). -/
  hello : Bool := false
  /-- Client certificate presented (R440, R449). -/
  cert : Option ClientCert := none
  /-- Cipher suite and key exchange group of the connection, by their TLS numbers; 0 before the handshake (R440; 16 bits each). -/
  suite : Nat := 0
  group : Nat := 0
  /-- Certificate that the module presented in the handshake, DER (R455). -/
  presented : Bytes := []
  /-- KeyUpdates accepted and answered (R440). -/
  keyUpdates : Nat := 0
deriving DecidableEq, Repr

/-- A HELLO whose password check runs on the IO core (R450). -/
structure AuthCheck where
  /-- Connection of the HELLO. -/
  conn : Nat := 0
  /-- REQ_ID of the HELLO (R442; 32 bits). -/
  reqId : Nat := 0
  /-- Name offered (R443). -/
  name : Bytes := []
  /-- Password offered (R443). -/
  password : Bytes := []
deriving DecidableEq, Repr

/-- A change-log entry (R457). -/
structure ChangeEntry where
  time : Nat := 0
  seq : Nat := 0
  frame : Nat := 0
  session : Nat := 0
  role : Nat := 0
  method : Nat := 0
  kind : Nat := 0
  target : Nat := 0
  old : Nat := 0
  new : Nat := 0
  reqId : Nat := 0
  source : Nat := 0
  ident : Bytes := []
  detail : Nat := 0
  member : Nat := 255
deriving DecidableEq, Repr

/-- Block SES (R440 to R459). -/
structure SesState where
  /-- The 32 sessions (R445). -/
  sessions : List Session := List.replicate 32 {}
  /-- Connections open on port 4816 (R441). -/
  conns : List Conn := []
  /-- Password checks in progress (R450). -/
  checks : List AuthCheck := []
  /-- Table of sources, at most 64 (R452). -/
  sources : List AuthSource := []
  /-- Accounts in partition P6 by index, kept, at most 32 (R450). -/
  accounts : List (Nat × Account) := []
  /-- Site certificate installed, DER, kept in P6 (R455; at most 2,048 bytes). -/
  siteCert : Option Bytes := none
  /-- SITE_CERT data written since the last install (R454, R455; at most 2,048 bytes). -/
  siteStage : Option Bytes := none
  /-- SESS_SEL (R458; 5 bits). -/
  sel : Nat := 0
  /-- AUTH_FAILS, read-clear (R458; 32 bits). -/
  authFails : Nat := 0
  /-- LOCKOUTS, read-clear (R458; 32 bits). -/
  lockouts : Nat := 0
  /-- DUPLICATES, read-clear (R458; 32 bits). -/
  duplicates : Nat := 0
  /-- CHANGELOG_SEQ, kept (R457, R458; 32 bits). -/
  clogSeq : Nat := 0
  /-- The change log, kept in P0, oldest first, at most 24,576 entries (R457). -/
  clog : List ChangeEntry := []
  /-- Entries overwritten since manufacture, kept (R457). -/
  clogLost : Nat := 0
  /-- Requests refused TOO_MANY, with no tag (R54, R446; 32 bits). -/
  refusedFull : Nat := 0
  /-- PUSH_DROPS, read-clear (R458; 32 bits). -/
  pushDrops : Nat := 0
  /-- SES_CMD_RESULT RESULT (R458; 4 bits). -/
  cmdResult : Nat := 0
  /-- SES_CMD_RESULT SESSION (R458; 5 bits). -/
  cmdSession : Nat := 0
  /-- Messages the module has sent to clients, newest first (the model's own record of its output). -/
  sent : List OutMsg := []
  /-- Write requests that wait for a block's later answer (R65, R136, R429, R456). -/
  waiting : List Waiting := []
deriving DecidableEq, Repr

/-- Phases of a key write (R566, R569 WRITE_PROGRESS). -/
inductive KeyPhase where
  | idle | check | erase | program | verify | header | done | failed
deriving DecidableEq, Repr

/-- Block CFG (R541 to R570). -/
structure CfgState where
  /-- KEY_DET_L low now: CFG_STATUS KEY_PRESENT (R542, R569; 1 bit). -/
  keyPresent : Bool := false
  /-- Content of the key in X11 (R541). -/
  keyBytes : Bytes := []
  /-- Block-protect bits of the key are set (R567; 1 bit). -/
  keyProtected : Bool := false
  /-- CFG_STATUS KEY_SWAPPED (R543, R569; 1 bit). -/
  keySwapped : Bool := false
  /-- Phase 3 is over, so a change of KEY_DET_L counts (R543; 1 bit). -/
  phase3Done : Bool := false
  /-- Records read in phase 3 and held in DRAM (R544, R546). -/
  records : List RawRecord := []
  /-- The image in force in typed form; none is NO_IMAGE (R564, R569). -/
  image : Option Image := none
  /-- Header of the image read (R545, R569). -/
  header : ImageHeader := {}
  /-- CHECK (R550, R569; 32 bits). -/
  check : Nat := 0
  /-- Commissioned confirmation: value and module time; none when absent or unreadable; kept (R499, R569; 32 and 64 bits). -/
  confirmed : Option (Nat × Nat) := none
  /-- P0 holds a confirmation record, kept (R499; 1 bit). -/
  p0Record : Option (Nat × Nat) := none
  /-- The MRAM copy of the confirmation with P0_OK, kept (R499). -/
  mramCopy : Option ((Nat × Nat) × Bool) := none
  /-- CFG_STATUS VOLATILE (R81, R569; 1 bit). -/
  volatile : Bool := false
  /-- Staging area of object 5 (R565). -/
  staged : Bytes := []
  /-- STAGED_LEN (R565, R569; 32 bits). -/
  stagedLen : Nat := 0
  /-- CFG_STATUS WRITTEN (R566, R569; 1 bit). -/
  written : Bool := false
  /-- WRITE_PROGRESS PHASE (R566, R569; 3 bits). A write that runs is held as CHECK; how far it has come follows from `writeStart`. -/
  phase : KeyPhase := .idle
  /-- WRITE_PROGRESS PCT of a write that has ended (R569; 8 bits). -/
  pct : Nat := 0
  /-- Module time at which the key write was accepted (R566; ns). -/
  writeStart : Nat := 0
  /-- Session that ordered the key write (R570; 5 bits). -/
  writer : Nat := 0
  /-- Request ID of the write that ordered the key write, for the change log (R566; 32 bits). -/
  writerReq : Nat := 0
  /-- STAGED_CHECK once phase 1 of the write is over (R566, R569; 32 bits). -/
  stagedCheck : Nat := 0
  /-- STAGED_CHECK of the write before, shown during phase 1 (R566, R569; 32 bits). -/
  stagedPrev : Nat := 0
  /-- CFG_STATUS COPY_REPAIRED (R544, R569; 1 bit). -/
  copyRepaired : Bool := false
  /-- An image record has been lost in both copies (R544; 1 bit). -/
  recordLost : Bool := false
  /-- CFG_ERROR CAUSE (R564, R569; 8 bits). -/
  errCause : Nat := 0
  /-- CFG_ERROR TYPE (R569; 16 bits). -/
  errType : Nat := 0
  /-- CFG_ERROR2 INDEX (R569; 16 bits). -/
  errIndex : Nat := 0
  /-- CFG_ERROR2 DETAIL (R569; 16 bits). -/
  errDetail : Nat := 0
  /-- READ_MS (R569; 16 bits). -/
  readMs : Nat := 0
  /-- KEY_ID JEDEC (R569; 24 bits). -/
  jedec : Nat := 0
  /-- CONFIRM_VALUE (R568, R569; 32 bits). -/
  confirmValue : Nat := 0
  /-- CFG_CMD_RESULT RESULT (R569; 4 bits). -/
  cmdResult : Nat := 0
  /-- CFG_CMD_RESULT SESSION (R569; 5 bits). -/
  cmdSession : Nat := 0
  /-- CFG_CMD_RESULT CAUSE (R569; 8 bits). -/
  cmdCause : Nat := 0
deriving DecidableEq, Repr

end Sys2Proof.Machine
end

