-- ==== Sys2Proof/Machine/Blocks/Signal.lean ====
section
/-!
DEFINITION. State of the analog inputs and outputs (block SIG, chapter 08_signal_conditioning.md).
Every field's default value is its value after reset.
-/
namespace Sys2Proof.Machine

/-- Channel states (R307). -/
inductive SigPhase where
  | stopped | settling | running | fault
deriving DecidableEq, Repr

/-- An analog input channel (R299 to R313). -/
structure AinChan where
  /-- The image configures the channel; otherwise it is UNUSED (R548; 1 bit). -/
  used : Bool := false
  /-- CH_CFG RANGE (R299, R318; 3 bits). -/
  range : Nat := 0
  /-- CH_CFG CLASS: class F (R300, R318; 1 bit). -/
  classF : Bool := false
  /-- CH_CFG PHASE: MINIMUM (R304, R318; 1 bit). -/
  minimum : Bool := false
  /-- CH_CFG RATE: f_out in 0.1 Hz (R303, R318; 17 bits). -/
  rate : Nat := 0
  /-- CH_DELAY EIGHTHS in force (R312, R318; 12 bits). -/
  delay : Nat := 0
  /-- Delay written and waiting for the next frame instant (R313; 12 bits). -/
  delayNext : Option Nat := none
  /-- CH_SCALE (R299, R318; 32 bits). -/
  scale : Rat := 1
  /-- CH_OFFSET (R299, R318; 32 bits). -/
  offset : Rat := 0
  /-- CH_STATE STATE (R307, R318; 2 bits). -/
  phase : SigPhase := .stopped
  /-- Faults of R301 present, by code; CH_STATE FAULT_CODE shows the lowest (R301, R307, R318; 6 bits). -/
  present : BitVec 6 := 0
  /-- Faults that CH_FAULT has reported and that have not cleared since, by code (R307, R319; 6 bits). -/
  told : BitVec 6 := 0
  /-- CH_STATE ALIGNED (R310, R318; 1 bit). -/
  aligned : Bool := false
  /-- k of D = 2^k; 0 when STOPPED (R303, R318; 5 bits). -/
  cicLog2 : Nat := 0
  /-- Module time of the last start or restart of the chain (R307; 64 bits). -/
  startAt : Nat := 0
  /-- Frame instant from which the output grid of a class F channel counts (R312; 64 bits). -/
  gridFrom : Nat := 0
  /-- CH_RAW: latest raw value (R318; 32 bits). -/
  raw : Rat := 0
  /-- CH_VALUE: latest engineering value (R299, R318; 32 bits). -/
  value : Rat := 0
  /-- CH_TIME: stamp of the latest sample (R305, R318; 64 bits). -/
  stamp : Nat := 0
  /-- The latest sample is valid (R307; 1 bit). -/
  valid : Bool := false
  /-- Newest valid engineering value and its stamp: what a consumer that ages a previous value holds (R391; 32 and 64 bits). -/
  lastGood : Option (Rat × Nat) := none
  /-- The shunt is disconnected since this module time (R301; 64 bits). -/
  tripAt : Option Nat := none
  /-- Module time of the last reconnection of the shunt (R301; 64 bits). -/
  joinAt : Nat := 0
  /-- CH_FAULT_COUNT, read-clear (R318; 32 bits). -/
  faults : Nat := 0
deriving DecidableEq, Repr

/-- Sources of an analog output (R314). -/
inductive OutSource where
  | unused | thruster | servo | session
deriving DecidableEq, Repr

/-- An analog output (R314 to R316). -/
structure AoutChan where
  /-- OUT_CFG KIND: CURRENT (R314, R318; 1 bit). -/
  current : Bool := false
  /-- OUT_CFG SRC (R314, R318; 3 bits). -/
  src : OutSource := .unused
  /-- OUT_CFG THRUSTER (R318; 4 bits). -/
  thr : Nat := 0
  /-- OUT_CFG AXIS: pitch (R318; 1 bit). -/
  pitch : Bool := false
  /-- OUT_CFG SAFE_HOLD (R315, R318; 1 bit). -/
  safeHold : Bool := false
  /-- Image scale (R314). -/
  scale : Rat := 1
  /-- Image offset (R314). -/
  offset : Rat := 0
  /-- Image SAFE_VALUE (R315). -/
  safeValue : Rat := 0
  /-- Image DORMANT value (R314). -/
  dormantValue : Rat := 0
  /-- OUT_TIMEOUT, ms (R315; 10 bits). -/
  timeout : Nat := 100
  /-- OUT_VALUE: engineering value staged (R318; 32 bits). -/
  value : Rat := 0
  /-- A value is staged and waits for its release (R46; 1 bit). -/
  staged : Bool := false
  /-- Module time of the last staging (R315; 64 bits). -/
  stagedAt : Nat := 0
  /-- OUT_CODE: code last released (R318; 16 bits). -/
  code : BitVec 16 := 0
  /-- OUT_READBACK (R318; 32 bits). -/
  readback : Rat := 0
  /-- Faults of R316 present, by code; OUT_STATE FAULT_CODE shows the lowest (R316, R318; 5 bits). -/
  present : BitVec 5 := 0
  /-- OUT_STATE SAFE (R315, R318; 1 bit). -/
  safe : Bool := false
deriving DecidableEq, Repr

/-- Block SIG (R299 to R319). -/
structure SigState where
  /-- Input channels 0 to 15 (R299). -/
  ins : List AinChan := List.replicate 16 {}
  /-- Outputs 0 to 11 (R314). -/
  outs : List AoutChan := List.replicate 12 {}
  /-- SYNC_CTRL SYNC_EN (R311, R318; 1 bit). -/
  syncEn : Bool := false
  /-- SYNC_CTRL EDGE: falling (R318, R477; 1 bit). -/
  syncFalling : Bool := false
  /-- SYNC_COUNT ACCEPTED, read-clear (R318; 16 bits). -/
  syncAccepted : Nat := 0
  /-- SYNC_COUNT IGNORED, read-clear (R318; 16 bits). -/
  syncIgnored : Nat := 0
  /-- SYNC_LAST: module time of the last SYNC edge (R318; 64 bits). -/
  syncLast : Option Nat := none
  /-- SIG_CMD_RESULT RESULT (R318; 4 bits). -/
  cmdResult : Nat := 0
  /-- SIG_CMD_RESULT SESSION (R318; 5 bits). -/
  cmdSession : Nat := 0
  /-- CH_SEL (R318; 4 bits). -/
  chSel : Nat := 0
  /-- OUT_SEL (R318; 4 bits). -/
  outSel : Nat := 0
  /-- OUT_CLAMP, read-clear (R314, R318; 32 bits). -/
  clamps : Nat := 0
  /-- Module time of the last edge of SYNC_IN, of either use (R477; 64 bits). -/
  edgeAt : Option Nat := none
deriving DecidableEq, Repr

end Sys2Proof.Machine
end

