-- ==== Sys2Proof/Machine/Blocks/Solver.lean ====
section
/-!
DEFINITION. State of the Percolator (block SLV, chapter 05_percolator_solver.md).
Every field's default value is its value after reset. Numbers of a problem are binary64 bit patterns (R176, R190).
-/
namespace Sys2Proof.Machine

/-- Slot states (R184). -/
inductive SlotPhase where
  | free | bound | queued | running | faulted
deriving DecidableEq, Repr

/-- Owner of a slot in the slot map (R183, R558). -/
inductive SlotOwner where
  | cc0 | cc1 | su | unassigned
deriving DecidableEq, Repr

/-- Completion statuses (R198), in the order of their codes. -/
inductive SolveStatus where
  | ok | suboptimal | infeasible | numericFail | residualFail | expired | cancelled | abandoned | memFault
deriving DecidableEq, Repr

/-- Kind of start (R200). -/
inductive StartKind where
  | cold | warm | mapped
deriving DecidableEq, Repr

/-- What a bound pair of a row or of a variable has in an iterate: slack and multiplier of its lower and of its upper side, each 0 where the
side is absent, and the multiplier of a pair that is solved as one equality (R178, R202; assumption log 19). -/
structure SidePair where
  lo : F64 := 0
  zLo : F64 := 0
  hi : F64 := 0
  zHi : F64 := 0
  zEq : F64 := 0
deriving DecidableEq, Repr, Inhabited

/-- The vectors of a solve (R199): primal, equality multipliers, and the slacks and multipliers of inequality rows and of variable bounds. -/
structure Vectors where
  x : List F64 := []
  y : List F64 := []
  rows : List SidePair := []
  bounds : List SidePair := []
deriving DecidableEq, Repr, Inhabited

/-- A published solution (R199). -/
structure Published where
  vecs : Vectors := {}
  obj : F64 := 0
  status : SolveStatus := .ok
  tag : Tag := {}
  frame : Nat := 0
deriving DecidableEq, Repr

/-- A warm source: a published solution, its signature and the structure it was solved under (R186, R200). -/
structure WarmSource where
  sol : Published := {}
  /-- Signature it was solved under (R180; 64 bits). -/
  signature : Nat := 0
  /-- Structure index, for its tag table (R182; 8 bits). -/
  struct : Nat := 0
deriving DecidableEq, Repr

/-- A row of the Newton system (R203, R205): a variable, an equality row, an inequality row, or the bound pair of a variable. -/
inductive KRow where
  | var (j : Nat)
  | eq (i : Nat)
  | row (i : Nat)
  | bnd (j : Nat)
deriving DecidableEq, Repr, Inhabited

/-- How an iteration has left a solve (R203 to R209): going on, converged, with a certificate of infeasibility, or stopped by an operation
that overflowed. -/
inductive IpmPhase where
  | running | converged | certificate | failed
deriving DecidableEq, Repr, Inhabited

/-- A solve between two iterations (R203): its vectors on scaled data, the iterations run, the pivots regularised so far (R205), whether a
refinement step ran (R206), and how the last iteration left it. -/
structure Iterate where
  v : Vectors := {}
  iter : Nat := 0
  pivots : Nat := 0
  refined : Bool := false
  phase : IpmPhase := .running
deriving DecidableEq, Repr, Inhabited

/-- A block or vector at a byte offset of the working set or the spill region (R214): its row length in words, and the rows and columns of the
Newton system that it has, each with its place in the block. -/
structure Blk where
  off : Nat
  stride : Nat
  rows : List (Nat × Nat)
  cols : List (Nat × Nat)
deriving DecidableEq, Repr, Inhabited

/-- A solve on the schedule path (R214): the sequencer's entry, and what the engine's working set and spill region hold of it. -/
structure SchedRun where
  /-- Entry the sequencer is at. -/
  pc : Nat := 0
  it : Iterate := {}
  /-- Words of the working set and, with bit 31, of the spill region, by byte offset (R175, R214); one that is not listed holds 0. -/
  words : List (Nat × F64) := []
  /-- Diagonal blocks factored and off-diagonal blocks solved in this iteration, in order, and the pivots regularised (R205). -/
  facts : List Blk := []
  offs : List Blk := []
  reg : Nat := 0
  /-- Solutions of the system completed in this iteration: the predictor's, then the corrector's. -/
  sols : List (List F64) := []
  /-- The sequencer stands behind an ITER_END, the yield point (R194; 1 bit). -/
  atEnd : Bool := false
  /-- CHECK or END has been reached (1 bit). -/
  ended : Bool := false
deriving DecidableEq, Repr, Inhabited

/-- What the iterations of a solve give (R203 to R209): the iterate on unscaled data, none when it is discarded, the iterations run,
how they ended, the pivots regularised and whether a refinement ran. -/
structure IpmOut where
  vecs : Option Vectors := none
  iter : Nat := 0
  phase : IpmPhase := .running
  pivots : Nat := 0
  refined : Bool := false
deriving DecidableEq, Repr, Inhabited

/-- A submission descriptor (R189). -/
structure Descriptor where
  slot : Nat := 0
  cold : Bool := false
  mapFrom : Bool := false
  forceSchedule : Bool := false
  srcSlot : Nat := 0
  frame : Nat := 0
  /-- LATEST_START, 0 for none. -/
  latestStart : Nat := 0
deriving DecidableEq, Repr

/-- The 32-byte completion record (R197). -/
structure Completion where
  tag : Tag := {}
  status : SolveStatus := .ok
  pivotReg : Bool := false
  refined : Bool := false
  start : StartKind := .cold
  schedulePath : Bool := false
  iter : Nat := 0
  engine : Nat := 0
  slot : Nat := 0
  mapPct : Nat := 0
  frame : Nat := 0
  time : Nat := 0
  /-- RES and OBJ as binary64 results, binary32 in the record. -/
  res : F64 := 0
  obj : F64 := 0
deriving DecidableEq, Repr

/-- One of the 512 problem slots (R183). -/
structure Slot where
  /-- SLOT_STATE STATE (R184, R220; 3 bits). -/
  phase : SlotPhase := .free
  /-- SLOT_STATE OWNER (R183, R220; 2 bits). -/
  owner : SlotOwner := .unassigned
  /-- SLOT_STATE CLASS (R179, R220; 3 bits). -/
  cls : Nat := 0
  /-- Bound structure (R183, R220; 8 bits). -/
  struct : Nat := 0
  /-- Data vector (R190). -/
  data : List F64 := []
  /-- Iterate of the last solve (R183). -/
  iterate : Option Vectors := none
  /-- Published solution (R199). -/
  published : Option Published := none
  /-- Warm source (R186, R200). -/
  warm : Option WarmSource := none
  /-- The contents met an uncorrectable error, so the published solution is unreadable (R188; 1 bit). -/
  memFault : Bool := false
  /-- Descriptor of the outstanding solve (R189). -/
  desc : Option Descriptor := none
  /-- Tag of the outstanding solve (R192). -/
  tag : Tag := {}
  /-- Start chosen at dispatch (R200). -/
  start : StartKind := .cold
  /-- Start vectors chosen at dispatch (R200 to R202); none when forming them overflowed (R207). -/
  startVecs : Option Vectors := none
  /-- MAP_PCT at dispatch (R201; 8 bits). -/
  mapPct : Nat := 0
  /-- Engine that runs or coordinates the solve (R193, R212; 3 bits). -/
  engine : Nat := 0
  /-- The running solve is on the schedule path (R211; 1 bit). -/
  schedule : Bool := false
  /-- The running solve has yielded to priority-0 work (R194; 1 bit). -/
  yielded : Bool := false
  /-- Iterations known to have ended: at the last yield, or by the rounds of the service path (R194, R212; 8 bits). -/
  iters : Nat := 0
  /-- Engine the solve is tied to, for a self-test on the engine it names (R219; 3 bits). -/
  pinned : Option Nat := none
  /-- Stage-block sub-jobs of the running round that wait for an engine (R212; 4 bits). -/
  subjobs : Nat := 0
  /-- Rounds whose eight sub-jobs have completed (R212; 8 bits). -/
  rounds : Nat := 0
  /-- Module time of dispatch (R220; 64 bits). -/
  dispatched : Nat := 0
  /-- The last completion record (R197, R220). -/
  last : Option Completion := none
  /-- Dispatch to completion of the last solve, µs (R220; 32 bits). -/
  lastUs : Nat := 0
deriving DecidableEq, Repr

/-- One solver engine (R175, R220). -/
structure SolverEngine where
  /-- Slot of the problem it runs (R193). -/
  slot : Option Nat := none
  /-- It runs a stage-block sub-job (R212; 1 bit). -/
  subjob : Bool := false
  /-- Stage block of the sub-job it runs, 0 to 7 (R212; 3 bits). -/
  block : Nat := 0
  /-- Problem that yielded on this engine and waits to resume (R194). -/
  held : Option Nat := none
  /-- Sequencer state, working set and spill region of the schedule-path problem it runs or holds, as of its start or its last yield
  (R175, R194, R214). -/
  run : Option SchedRun := none
  /-- Iterate on scaled data that the working set holds of a solve off the schedule path, as of its start or its last round (R175, R212). -/
  work : Option Iterate := none
  /-- Structure cache: the structures it holds (R175, R187). -/
  cache : List Nat := []
  /-- ENG_SOLVES, read-clear (R220; 32 bits). -/
  solves : Nat := 0
  /-- ENG_GFLOPS: throughput measured in the last second (R35, R220; 32 bits). -/
  gflops : Rat := 0
  /-- Module time since which it has been busy (R220; 64 bits). -/
  busyFrom : Nat := 0
  /-- Spans of the last second in which it was busy, for ENG_BUSY_PCT (R220). -/
  spans : List (Nat × Nat) := []
deriving DecidableEq, Repr

/-- Block SLV (R175 to R221). -/
structure SlvState where
  /-- SE0 to SE7 (R175). -/
  engines : List SolverEngine := List.replicate 8 {}
  /-- ENG_AVAIL (R216, R220; 8 bits). -/
  avail : BitVec 8 := 0
  /-- The 512 slots (R183). -/
  slots : List Slot := List.replicate 512 {}
  /-- MPC_PATH: 0 none yet, 1 service, 2 schedule, 3 suspended (R211, R216, R220; 2 bits). -/
  mpcPath : Nat := 0
  /-- SOLVES, read-clear (R220; 32 bits). -/
  solves : Nat := 0
  /-- NUMFAIL_COUNT, read-clear (R220; 32 bits). -/
  numFail : Nat := 0
  /-- RESFAIL_COUNT, read-clear (R220; 32 bits). -/
  resFail : Nat := 0
  /-- PIVREG_COUNT, read-clear (R220; 32 bits). -/
  pivReg : Nat := 0
  /-- EXPIRED_COUNT, read-clear (R220; 32 bits). -/
  expired : Nat := 0
  /-- INFEAS_COUNT, read-clear (R220; 32 bits). -/
  infeas : Nat := 0
  /-- START_COUNT WARM, read-clear (R220; 16 bits). -/
  nWarm : Nat := 0
  /-- START_COUNT MAPPED, read-clear (R220; 16 bits). -/
  nMapped : Nat := 0
  /-- START_COUNT2 COLD, read-clear (R220; 16 bits). -/
  nCold : Nat := 0
  /-- START_COUNT2 SUBOPT, read-clear (R220; 16 bits). -/
  nSubopt : Nat := 0
  /-- REFUSED_COUNT, read-clear (R191, R220; 32 bits). -/
  refused : Nat := 0
  /-- SCHED_SIG: signature of the MPC_FULL structure bound at start (R220; 64 bits). -/
  schedSig : Nat := 0
  /-- ENG_SEL (R220; 3 bits). -/
  engSel : Nat := 0
  /-- SLOT_SEL (R220; 9 bits). -/
  slotSel : Nat := 0
  /-- TEST_RESULT RESULT: 0 none, 1 PASS, 2 FAIL, 3 RUNNING (R219, R220; 2 bits). -/
  testResult : Nat := 0
  /-- TEST_RESULT ENGINE (R220; 3 bits). -/
  testEngine : Nat := 0
  /-- TEST_RESULT STATUS (R220; 4 bits). -/
  testStatus : Nat := 0
  /-- TEST_CRC (R219, R220; 32 bits). -/
  testCrc : Nat := 0
  /-- Result the last mailbox command got: R220 RESULT codes (R185, R191; 4 bits). -/
  mailbox : Nat := 0
  /-- Completion records placed in the submitting engines' queues and not yet taken, oldest first (R197). -/
  queue : List Completion := []
deriving DecidableEq, Repr

end Sys2Proof.Machine
end

