-- ==== Sys2Proof/Machine/Blocks/Servo.lean ====
section
/-!
DEFINITION. State of the thruster servo loops, the angle-indexed learner and the trace (block SRV, chapter
07_thruster_servo_loops.md). Every field's default value is its value after reset. Azimuths are in turns unless a docstring
says bam16.
-/
namespace Sys2Proof.Machine

/-- States of a hysteretic servo (R271, R275): first direction is CW or INCR, second CCW or DECR. -/
inductive Slew where
  | stop | first | second
deriving DecidableEq, Repr

/-- One learner bin in one direction (R279). -/
structure LearnBin where
  /-- v, rad/s (R279; 32 bits). -/
  v : Rat := 0
  /-- K, s²/rad (R279; 32 bits). -/
  k : Rat := 0
  /-- PASS (R279; 16 bits). -/
  pass : Nat := 0
  /-- KN (R279; 8 bits). -/
  kn : Nat := 0
  /-- Service hour of the last rate update; a record holds it modulo 65,536 (R279, R286). -/
  lastH : Nat := 0
deriving DecidableEq, Repr

/-- A profile (R286). -/
structure Profile where
  /-- THRUSTER (R286; 8 bits). -/
  thruster : Nat := 0
  /-- KIND: 0 working, 1 baseline, 2 snapshot (R286; 8 bits). -/
  kind : Nat := 0
  /-- TAG (R286; 32 bits). -/
  tag : Nat := 0
  /-- STRUCT (R288; 32 bits). -/
  struct : Nat := 0
  /-- STORED (R286; 64 bits). -/
  stored : Nat := 0
  /-- Nanoseconds of module time in modes 1 to 5 since learning began; SERVICE_H is the whole hours (R286; 32 bits). -/
  service : Nat := 0
  /-- TURNS at the store (R286; 16 bits). -/
  turns : Nat := 0
  /-- FF (R286; 8 bits). -/
  ff : Bool := false
  /-- ARATE at the store, rad/s (R286; 32 bits). -/
  aRate : Rat := 0
  /-- Bins in direction CW; an empty list stands for 1,024 bins never measured (R279). -/
  cw : List LearnBin := []
  /-- Bins in direction CCW; an empty list stands for 1,024 bins never measured (R279). -/
  ccw : List LearnBin := []
  /-- The stored record's CRC-32C is right (R286; 1 bit). -/
  crcOk : Bool := true
deriving DecidableEq, Repr

/-- A feedback sample (R265). -/
structure FbSample where
  /-- Stamp, module time (R265; 64 bits). -/
  at_ : Nat := 0
  /-- Azimuth in turns or pitch in P/D (R265). -/
  value : Rat := 0
  /-- The source calls the value valid (R277; 1 bit). -/
  valid : Bool := false
deriving DecidableEq, Repr

/-- One axis of a thruster's servo (R271 to R278). -/
structure Axis where
  /-- STATE (R271, R297; 2 bits). -/
  state : Slew := .stop
  /-- Module time of entry to the state (R272; 64 bits). -/
  since : Nat := 0
  /-- The dwell counts as satisfied (R278; 1 bit). -/
  dwellFree : Bool := true
  /-- FAULT_CODE; 0 none (R277, R297; 3 bits). -/
  fault : Nat := 0
  /-- Module time since which the condition of an automatically clearing fault has been absent (R277, R278; 64 bits). -/
  clearSince : Option Nat := none
  /-- FORCED: forced stop in the last tick (R274, R297; 1 bit). -/
  forced : Bool := false
  /-- Latest sample (R265). -/
  sample : Option FbSample := none
  /-- Recent samples, newest first: stamp and value, for the measured rate over 20 ms (R274). -/
  past : List (Nat × Rat) := []
  /-- Feedback extrapolated to the tick: FEEDBACK or PITCH_FB (R265, R297). -/
  fb : Rat := 0
  /-- Measured rate: AZ_RATE rad/s or P/D per s (R274, R297; 32 bits). -/
  rate : Rat := 0
  /-- Target released at the last strobe (R51). -/
  target : Rat := 0
  /-- Target in use after ZONE_CLAMP or range clamp (R270, R275, R297). -/
  targetUsed : Rat := 0
  /-- c_ant of the last tick: AZ_CANT (R283, R297; 32 bits). -/
  cAnt : Rat := 0
  /-- FF: c_ant came from R283 in the last tick (R297; 1 bit). -/
  ffUsed : Bool := false
  /-- ZONE_CLAMP: target replaced (R270, R297; 1 bit). -/
  clamped : Bool := false
  /-- Target for which ZONE_CLAMP has been raised (R270). -/
  clampTold : Option Rat := none
  /-- Module time since which the stall condition has held (R277; 64 bits). -/
  stallSince : Option Nat := none
  /-- Module time since which the wrong-direction condition has held (R277; 64 bits). -/
  wrongSince : Option Nat := none
  /-- State staged in the last tick, released at the next tick instant (R266). -/
  staged : Slew := .stop
  /-- State on the output (R264, R266). -/
  out : Slew := .stop
deriving DecidableEq, Repr

/-- Traversal of a bin under measurement (R280). -/
structure Traverse where
  /-- Bin being traversed (R280; 10 bits). -/
  bin : Nat := 0
  /-- Direction: true is CW (R280; 1 bit). -/
  cw : Bool := true
  /-- Crossing instant of its first edge, ns (R280). -/
  entered : Rat := 0
deriving DecidableEq, Repr

/-- One thruster's servos and learner (R263 to R292). -/
structure ServoThr where
  /-- Azimuth servo (R263). -/
  az : Axis := {}
  /-- Pitch servo (R275). -/
  pitch : Axis := {}
  /-- RAMP: pitch target from the safe-stop ramp (R276, R297; 1 bit). -/
  ramp : Bool := false
  /-- Feed-forward active (R282, R297; 1 bit). -/
  ff : Bool := false
  /-- A loaded profile waits for the first valid azimuth feedback; true when the TURNS of its header are at least 20 (R290). -/
  ffPending : Option Bool := none
  /-- LEARNING: R280 satisfied in the last tick (R297; 1 bit). -/
  learning : Bool := false
  /-- LEARNED_TURNS (R282, R297; 16 bits). -/
  turns : Nat := 0
  /-- LOADED: working profile loaded from P1 (R297; 1 bit). -/
  loaded : Bool := false
  /-- The working profile (R279, R286). -/
  work : Profile := {}
  /-- Baseline present (R287, R297). -/
  base : Option Profile := none
  /-- Snapshots kept, oldest first, at most eight (R287, R297). -/
  snaps : List Profile := []
  /-- The working profile has learned since its last store (R289; 1 bit). -/
  dirty : Bool := false
  /-- Module time of the last store (R297; 64 bits). -/
  storedAt : Option Nat := none
  /-- A store of the working profile is queued (R289, R293; 1 bit). -/
  storeQueued : Bool := false
  /-- Baselines and snapshots whose write was refused, to be written at the next 10 min point (R289). -/
  owed : List Profile := []
  /-- Tag of the store outstanding (R289). -/
  storing : Option Nat := none
  /-- Slewing state the learner goes by: its own, or that of the LEAD's AZPITCH_CMD (R280, R423). -/
  seen : Slew := .stop
  /-- Module time of entry to that state (R280; 64 bits). -/
  seenAt : Nat := 0
  /-- A switch to STOP whose release is due: the direction was CW (R281; 1 bit). -/
  coastDue : Option Bool := none
  /-- Bin under measurement (R280). -/
  traverse : Option Traverse := none
  /-- Switch to STOP under coast measurement: angle and rate at release, direction CW (R281). -/
  coast : Option (Rat × Rat × Bool) := none
  /-- Module time since which |ω| < 1 % of ARATE during the coast (R281; 64 bits). -/
  restSince : Option Nat := none
  /-- Last 64 measurements and the profile values of their bins (R284). -/
  shape : List (Rat × Rat) := []
  /-- Consecutive measurements whose shape differs (R284; 7 bits). -/
  mismatch : Nat := 0
  /-- WEAR_MEAN, percent (R292, R297; 32 bits). -/
  wearMean : Rat := 0
  /-- WEAR_PEAK, percent (R292, R297; 32 bits). -/
  wearPeak : Rat := 0
  /-- WEAR_INFO PEAK_BIN (R297; 10 bits). -/
  peakBin : Nat := 0
  /-- WEAR_INFO PEAK_DIR: 0 CW, 1 CCW (R297; 1 bit). -/
  peakDir : Nat := 0
  /-- WEAR_INFO ALERT (R292, R297; 1 bit). -/
  alert : Bool := false
deriving DecidableEq, Repr

/-- Kinds of servo test (R293, R294). -/
inductive ServoTest where
  | learnRun (passes : Nat) (ccw : Bool)
  | testMove (target : Nat)
deriving DecidableEq, Repr

/-- Trace states (R296). -/
inductive TracePhase where
  | idle | armed | triggered | done
deriving DecidableEq, Repr

/-- A trace channel (R295). -/
structure TraceChan where
  /-- TRC_CH_CFG THRUSTER (R297; 4 bits). -/
  thr : Nat := 0
  /-- TRC_CH_CFG NODE (R295, R297; 4 bits). -/
  node : Nat := 0
  /-- TRC_CH_CFG EN (R297; 1 bit). -/
  en : Bool := false
  /-- Samples, newest first, at most 65,536 (R295). -/
  data : List Rat := []
deriving DecidableEq, Repr

/-- The trace (R295, R296). -/
structure Trace where
  /-- TRC_STATUS STATE (R296, R297; 2 bits). -/
  phase : TracePhase := .idle
  /-- TRC_STATUS SHED (R297; 1 bit). -/
  shed : Bool := false
  /-- TRC_STATUS THROTTLED (R297; 1 bit). -/
  throttled : Bool := false
  /-- TRC_CFG DECIM (R297; 4 bits). -/
  decim : Nat := 0
  /-- TRC_CFG PRE_PCT (R297; 7 bits). -/
  prePct : Nat := 50
  /-- TRC_CFG TRIG_SRC (R296, R297; 3 bits). -/
  trigSrc : Nat := 0
  /-- TRC_CFG TRIG_THR (R297; 4 bits). -/
  trigThr : Nat := 0
  /-- TRC_LEVEL, rad (R297; 32 bits). -/
  level : Rat := 0
  /-- TRC_CH_SEL (R297; 4 bits). -/
  chSel : Nat := 0
  /-- The sixteen channels (R295). -/
  chans : List TraceChan := List.replicate 16 {}
  /-- TRC_TRIG: module time of the trigger tick (R297; 64 bits). -/
  trigAt : Nat := 0
  /-- Samples per channel held (R296, R297; 17 bits). -/
  len : Nat := 0
  /-- Samples still to be taken after the trigger (R296; 17 bits). -/
  left : Nat := 0
  /-- Ticks since the last sample (R295; 11 bits). -/
  phaseTick : Nat := 0
  /-- TRC_RD_IDX (R297; 16 bits). -/
  rdIdx : Nat := 0
  /-- A trigger condition has come about since the last sample tick (R296; 1 bit). -/
  trigSeen : Bool := false
  /-- Frame of the mode entry last seen, for source 6 (R296; 32 bits). -/
  seenMode : Nat := 0
  /-- Number of thrusters under SAFE_STOP last seen, for source 5 (R296; 5 bits). -/
  seenStops : Nat := 0
deriving DecidableEq, Repr

/-- Block SRV (R263 to R298). -/
structure SrvState where
  /-- Thrusters (R263). -/
  thr : List ServoThr := List.replicate 16 {}
  /-- SRV_LEARN SHED (R285, R297; 1 bit). -/
  shed : Bool := false
  /-- TICK_MAX, read-clear, µs (R297; 32 bits). -/
  tickMax : Nat := 0
  /-- OVERRUN_COUNT, read-clear (R268, R297; 32 bits). -/
  overruns : Nat := 0
  /-- GUARD_COUNT, read-clear (R269, R297; 32 bits). -/
  guards : Nat := 0
  /-- Consecutive tick instants without a release (R269; 2 bits). -/
  noRelease : Nat := 0
  /-- The guard holds every hysteretic output at STOP (R269; 1 bit). -/
  guard : Bool := false
  /-- The last tick's states are staged and complete (R266; 1 bit). -/
  staged : Bool := false
  /-- SRV_SEL (R297; 4 bits). -/
  sel : Nat := 0
  /-- BIN_SEL BIN (R297; 10 bits). -/
  binSel : Nat := 0
  /-- BIN_SEL DIR: CCW (R297; 1 bit). -/
  binDir : Bool := false
  /-- SRV_CMD_RESULT RESULT (R297; 4 bits). -/
  cmdResult : Nat := 0
  /-- SRV_CMD_RESULT ACTION (R297; 4 bits). -/
  cmdAction : Nat := 0
  /-- SRV_CMD_RESULT SESSION (R297; 5 bits). -/
  cmdSession : Nat := 0
  /-- Test in progress and its thruster: TEST_STATUS ACTIVE, THRUSTER (R293, R297). -/
  test : Option (Nat × ServoTest) := none
  /-- TEST_STATUS THRUSTER of the last test (R297; 4 bits). -/
  testThr : Nat := 0
  /-- TEST_STATUS PROGRESS (R297; 15 bits). -/
  progress : Nat := 0
  /-- PASS counts of the tested thruster at the start of the run, CW then CCW (R294). -/
  runBase : List Nat := []
  /-- Direction of a learning run in force: CCW (R294; 1 bit). -/
  runCcw : Bool := false
  /-- The trace (R295). -/
  trace : Trace := {}
  /-- Module time of the last profile point served (R289; 64 bits). -/
  storeAt : Nat := 0
  /-- Module time of the last snapshot (R289; 64 bits). -/
  snapAt : Nat := 0
deriving DecidableEq, Repr

end Sys2Proof.Machine
end

