-- ==== Sys2Proof/Machine/Blocks/Time.lean ====
section
/-!
DEFINITION. State of the time base and of Carafe, its holdover model (block TIM, chapter 14_time_base.md).
Every field's default value is its value after reset.
-/
namespace Sys2Proof.Machine

/-- Steering states (R462). -/
inductive SteerState where
  | free | slewing | locked | holdover
deriving DecidableEq, Repr

/-- The Carafe model (R470, R471, R473). Frequencies are in ppb. -/
structure CarafeModel where
  /-- SERIAL of the module that learned it (R473; 32 bits). -/
  serial : Nat := 0
  /-- STARTED: module time at which d = 0 (R473; 64 bits). -/
  started : Nat := 0
  /-- A, ppb (R473; 32 bits). -/
  a : Rat := 0
  /-- B, ppb/day (R473; 32 bits). -/
  b : Rat := 0
  /-- DAYS (R471, R473; 16 bits). -/
  days : Nat := 0
  /-- Daily values held, oldest first, at most 90, ppb, each with its day number d (R471, R473). -/
  daily : List (Rat × Rat) := []
  /-- The 81 bins: F_i ppb and COUNT_i (R470, R473). -/
  bins : List (Rat × Nat) := List.replicate 81 (0, 0)
deriving DecidableEq, Repr

/-- Block TIM (R460 to R481). -/
structure TimState where
  /-- Module time, ns, at boot the flushed value (R12, R460, R469; 64 bits). -/
  now : Nat := 0
  /-- Binary fraction of module time (R460; 32 bits). -/
  frac : Nat := 0
  /-- Module time of the last frame instant emitted (R14, R45; 64 bits). -/
  frameAt : Nat := 0
  /-- The release strobe of the running frame has been emitted (R46; 1 bit). -/
  strobed : Bool := false
  /-- Module time of the last servo tick instant (R49, R51; 64 bits). -/
  tickAt : Nat := 0
  /-- Residuals reported with the last strobe at a frame instant, a servo tick instant and the release: the 52 MHz edge less the instant, ns, within
  ±9.6 ns (R461). -/
  frameEdge : Rat := 0
  tickEdge : Rat := 0
  releaseEdge : Rat := 0
  /-- Module time of the last safety-core cycle (R342; 64 bits). -/
  scAt : Nat := 0
  /-- After a step no stage runs until this frame instant (R466; 64 bits). -/
  skipUntil : Option Nat := none
  /-- TIM_STATUS STATE (R462, R480; 3 bits). -/
  state : SteerState := .free
  /-- TIM_STATUS CONFIRMED (R468, R480; 1 bit). -/
  confirmed : Bool := false
  /-- TIME_DEGRADED as last reported by its event (R468; 1 bit); TIM_STATUS shows the flag itself. -/
  degraded : Bool := true
  /-- A positive offset above 1 ms that the next frame instant steps by if the mode allows it, ns; STEP_PENDING (R465, R480; 64 bits). -/
  step : Option Nat := none
  /-- TIM_STATUS TCXO_FAULT (R479, R480; 1 bit). -/
  tcxoFault : Bool := false
  /-- OFFSET: last reference offset, ns, signed (R463, R480; 64 bits). -/
  offset : Int := 0
  /-- Module time of the last valid reference offset (R464, R472; 64 bits). -/
  offsetAt : Option Nat := none
  /-- STEER: steering term in force (R464, R480; 32 bits). -/
  steer : Rat := 0
  /-- y_est, ppb (R464, R472, R480; 32 bits). -/
  yEst : Rat := 0
  /-- Correction that steering has applied to module time since the last valid offset was measured, ns (R464). -/
  applied : Rat := 0
  /-- Cause last reported by TIME_DEGRADED (R481; 8 bits). -/
  degradedCause : Nat := 0
  /-- Consecutive frames with |offset| > 2 µs while LOCKED (R462; 3 bits). -/
  unlockRun : Nat := 0
  /-- Instant of the last of these frames (R462; 64 bits). -/
  overAt : Option Nat := none
  /-- Reference offset formed in the running frame and not acted on yet, ns, and whether it is of domain time (R463). -/
  measured : Option (Bool × Int) := none
  /-- Offset at the start of the running slew, ns (R481; 64 bits). -/
  slewStart : Int := 0
  /-- Module time of entry to HOLDOVER (R481; 64 bits). -/
  holdAt : Nat := 0
  /-- |offset| above 1 ms during a slew (R465, R468; 1 bit). -/
  bigSlew : Bool := false
  /-- Suspect offsets gathered under R467, oldest first: module time and ns. -/
  suspects : List (Nat × Int) := []
  /-- SUSPECT: an offset found suspect has not been acted on yet (R467, R480; 1 bit). -/
  suspect : Bool := false
  /-- STEP_COUNT, read-clear (R480; 32 bits). -/
  stepCount : Nat := 0
  /-- LAST_STEP: module time after the last step (R480; 64 bits). -/
  lastStep : Nat := 0
  /-- LAST_STEP_SIZE, ns (R480; 32 bits). -/
  lastStepSize : Nat := 0
  /-- Level of PPS_OUT (R475; 1 bit). -/
  ppsHigh : Bool := false
  /-- Module time of the last PPS_OUT edge (R475; 64 bits). -/
  ppsAt : Nat := 0
  /-- PPS_COUNT, read-clear (R480; 32 bits). -/
  ppsCount : Nat := 0
  /-- Module time of the last SYNC_OUT pulse (R476; 64 bits). -/
  syncOutAt : Option Nat := none
  /-- TIM_CMD_RESULT RESULT (R480; 4 bits). -/
  cmdResult : Nat := 0
  /-- TIM_CMD_RESULT SESSION (R480; 5 bits). -/
  cmdSession : Nat := 0
  /-- The working Carafe model, loaded from P2 at phase 7 (R473, R474). -/
  model : CarafeModel := {}
  /-- The working model differs from the stored one (R473; 1 bit). -/
  modelDirty : Bool := false
  /-- Clock drifts of the valid solutions of the running second and of the one before it: the second, their sum in ppb and their number (R470). -/
  drift : Nat × Rat × Nat := (0, 0, 0)
  driftLast : Nat × Rat × Nat := (0, 0, 0)
  /-- Whole second of module time of the last Carafe sample (R470; 64 bits). -/
  sampledAt : Nat := 0
  /-- Whole day of module time of the last daily value (R471; 32 bits). -/
  dailyAt : Nat := 0
  /-- Whole hour of module time of the last hourly point served (R473; 32 bits). -/
  hourAt : Nat := 0
  /-- Sum of y − F(T) over the running day, ppb, and number of samples (R471). -/
  daySum : Rat := 0
  /-- Samples of the running day (R471). -/
  dayCount : Nat := 0
deriving DecidableEq, Repr

end Sys2Proof.Machine
end

