-- ==== Sys2Proof/Machine/Blocks/Store.lean ====
section
/-!
DEFINITION. State of the Aquifer persistent store (block AQF, chapter 15_aquifer_sediment.md, R482 to R499, R509 to R513).
The confirmation, the change log, MEMBER_ID, PROOF_LAST and the accounts stand as kept fields of the blocks that own them; the
store holds the learned objects, the trace archive and the sizes of all. Every field's default value is its value after reset.
-/
namespace Sys2Proof.Machine

/-- Store states (R494). -/
inductive StorePhase where
  | mounting | ready | limited | readOnly | failed
deriving DecidableEq, Repr

/-- Key of an object: partition, object or record kind, tag and number (R483). -/
structure StoreKey where
  /-- Partition 0 to 6 (R483; 3 bits). -/
  part : Nat := 0
  /-- Object, record or copy kind (R483; 8 bits). -/
  kind : Nat := 0
  /-- Identity tag, satellite, account index or archive identifier (R483; 32 bits). -/
  tag : Nat := 0
  /-- Snapshot or period number (R483; 16 bits). -/
  num : Nat := 0
deriving DecidableEq, Repr

/-- Content of an object, typed by its writer (R483). -/
inductive StoreData where
  | profile (p : Profile)
  | hotStart (h : HotStart)
  | carafe (m : CarafeModel)
  | refModel (m : RefModel)
  | bytes (b : Bytes)
deriving DecidableEq, Repr

/-- An object the store holds, newest committed version (R484, R489). -/
structure StoreObj where
  /-- Key (R483). -/
  key : StoreKey := {}
  /-- Size, bytes (R483). -/
  size : Nat := 0
  /-- Content (R483). -/
  data : StoreData := .bytes []
  /-- Its key no longer appears in the image (R484; 1 bit). -/
  orphan : Bool := false
  /-- Module time of its commit, which orders orphans by age (R484; 64 bits). -/
  at_ : Nat := 0
  /-- Number of the transaction that committed it, its version in the block map (R487, R498). -/
  txn : Nat := 0
  /-- The flash copy is not yet complete: the object's data is in the journal (R487, R489; 1 bit). -/
  inJournal : Bool := true
  /-- A stored record whose own CRC-32C is right (R286, R473; 1 bit). -/
  crcOk : Bool := true
deriving DecidableEq, Repr

/-- Results of a write (R486). -/
inductive StoreResult where
  | ok | full | domainOff | budget | noSpace | media | readOnly | tooLarge | busy | held
deriving DecidableEq, Repr

/-- A read that its client has made (R489): OK with the object found, or with none where the key has no object; MEDIA where it cannot be
read (R494); DOMAIN_OFF where it needs flash with PD7 off (R31). -/
structure StoreRead where
  key : StoreKey := {}
  result : StoreResult := .ok
  obj : Option StoreObj := none
  /-- Module time of the read (64 bits). -/
  at_ : Nat := 0
deriving DecidableEq, Repr

/-- Highest and lowest erase counts of the flash blocks in use (R491). -/
structure Erases where
  most : Nat := 0
  least : Nat := 0
deriving DecidableEq, Repr

/-- What a flash operation meets (R494): nothing, `n` corrected sectors, a page to rewrite (more than 4 bits), a block to retire
(more than 6 bits), an uncorrectable read, a failed program, a failed erase; with the physical block. -/
inductive FlashFault where
  | none_ | corrected (n : Nat) | rewrite (n : Nat) | heavy (block n : Nat) | uncorrectable (block : Nat) | program (block : Nat)
  | erase (block : Nat)
deriving DecidableEq, Repr

/-- A write outstanding (R486, R487). -/
structure StoreWrite where
  /-- Tag (R53, R486). -/
  tag : Tag := {}
  /-- Key (R483). -/
  key : StoreKey := {}
  /-- Class 0 to 3 (R486; 2 bits). -/
  cls : Nat := 0
  /-- Size, bytes (R486). -/
  size : Nat := 0
  /-- Content to be written (R486). -/
  data : StoreData := .bytes []
  /-- Its BEGIN entry is in the journal (R487, R495; 1 bit). -/
  begun : Bool := false
deriving DecidableEq, Repr

/-- Block AQF (R482 to R513). -/
structure AqfState where
  /-- AQF_STATUS STATE (R494, R513; 3 bits). -/
  phase : StorePhase := .mounting
  /-- AQF_STATUS FLUSHING (R495, R513; 1 bit). -/
  flushing : Bool := false
  /-- Cause of the running flush: restart (R495, R513; 1 bit). -/
  flushRestart : Bool := false
  /-- Module time at which the running flush began (R496; 64 bits). -/
  flushAt : Nat := 0
  /-- Flush cut: last SEQ assigned when the flush began (R495; 32 bits). -/
  flushCut : Nat := 0
  /-- AQF_STATUS SUSPENDED (R495, R497, R513; 1 bit). -/
  suspended : Bool := false
  /-- A flush marker is in MRAM: an unexpected end of supply may follow, kept (R495, R519; 1 bit). -/
  marker : Bool := false
  /-- Cause of the flush whose marker stands: restart, kept (R495, R519; 1 bit). -/
  markerRestart : Bool := false
  /-- Module time in the flush area, kept (R469, R485; 64 bits). -/
  savedTime : Nat := 0
  /-- BUDGET_LOW in force (R493, R513; 1 bit). -/
  budgetLow : Bool := false
  /-- IMPORT_PENDING (R511, R513; 1 bit). -/
  importPending : Bool := false
  /-- REBUILT (R498, R513; 1 bit). -/
  rebuilt : Bool := false
  /-- Transactions replayed at the last start-up (R498; 32 bits). -/
  replayed : Nat := 0
  /-- Number of the last journal transaction, kept (R487). -/
  txn : Nat := 0
  /-- Journal ring in use, bytes (R485, R490, R513). -/
  journal : Nat := 0
  /-- JOURNAL_FILL PEAK_KB as bytes (R513). -/
  journalPeak : Nat := 0
  /-- Writes outstanding, in order of submission (R486; at most 64). -/
  writes : List StoreWrite := []
  /-- OUTSTANDING PEAK (R513; 7 bits). -/
  writesPeak : Nat := 0
  /-- Completions delivered: key, tag, result and module time (R486). -/
  done : List (StoreKey × Tag × StoreResult × Nat) := []
  /-- Reads made, the last one first (R489). -/
  reads : List StoreRead := []
  /-- BUDGET_LEVEL, kept, signed (R492, R513; 32 bits). -/
  budget : Int := 58982400
  /-- Level in the flush area, kept: what a boot restores (R485, R492, R498; 32 bits). -/
  savedBudget : Int := 58982400
  /-- Remainder of the budget's refill, in bytes × 10⁹ (R492). -/
  budgetCredit : Nat := 0
  /-- Module time at which the level was last brought up to date (R492; 64 bits). -/
  budgetAt : Nat := 0
  /-- Client bytes committed, with the module time of each commit, for WRITTEN_HOUR (R513). -/
  hour : List (Nat × Nat) := []
  /-- LIFE_BYTES, kept (R513; 64 bits). -/
  lifeBytes : Nat := 0
  /-- ERASE_MAX, kept (R513; 32 bits). -/
  eraseMax : Nat := 0
  /-- Lowest erase count of the blocks in use, kept (R491). -/
  eraseMin : Nat := 0
  /-- ERASE_MEAN, kept (R513; 32 bits). -/
  eraseMean : Rat := 0
  /-- SPARE_BLOCKS SPARE, kept: 640 blocks less 512 of partitions and 8 of the block map (R482, R513; 8 bits). -/
  spare : Nat := 120
  /-- SPARE_BLOCKS RETIRED, kept (R513; 16 bits). -/
  retired : Nat := 0
  /-- BCH_CORR, read-clear (R513; 32 bits). -/
  bchCorr : Nat := 0
  /-- MEDIA_ERRORS, read-clear (R513; 32 bits). -/
  mediaErrors : Nat := 0
  /-- REFUSED BUDGET, read-clear (R513; 16 bits). -/
  refBudget : Nat := 0
  /-- REFUSED OTHER, read-clear (R513; 16 bits). -/
  refOther : Nat := 0
  /-- FLUSH_LAST US (R513; 16 bits). -/
  flushUs : Nat := 0
  /-- FLUSH_LAST CAUSE: restart (R513; 1 bit). -/
  flushCause : Nat := 0
  /-- FLUSH_COUNT, read-clear (R513; 32 bits). -/
  flushCount : Nat := 0
  /-- PART_SEL (R513; 3 bits). -/
  partSel : Nat := 0
  /-- Objects of partitions P1, P2, P3 and P5 and others written through the store (R483, R484). -/
  objs : List StoreObj := []
  /-- The frozen export; none before a prepare (R510). -/
  export_ : Option (List StoreObj) := none
  /-- Header fields of the frozen export: serial, module time and check value (R509). -/
  exportHdr : Nat × Nat × Nat := (0, 0, 0)
  /-- Import staging area (R511; at most 14,680,064 bytes). -/
  import_ : Bytes := []
  /-- IMPORT_LEN (R511, R513; 32 bits). -/
  importLen : Nat := 0
  /-- Next archive identifier, kept (R512; 16 bits). -/
  nextArch : Nat := 1
  /-- An archive is being written (R512; 1 bit). -/
  archiving : Bool := false
  /-- AQF_CMD_RESULT RESULT (R513; 4 bits). -/
  cmdResult : Nat := 0
  /-- AQF_CMD_RESULT ACTION (R513; 4 bits). -/
  cmdAction : Nat := 0
  /-- AQF_CMD_RESULT SESSION (R513; 5 bits). -/
  cmdSession : Nat := 0
  /-- AQF_CMD_RESULT CAUSE (R513; 3 bits). -/
  cmdCause : Nat := 0
deriving DecidableEq, Repr

end Sys2Proof.Machine
end

