-- ==== Sys2Proof/Machine/Blocks/Supply.lean ====
section
/-!
DEFINITION. State of the supply and power domains (PWR), the thermal supervision (THM) and the built-in self-test (BST),
chapter 16_supervision_power_thermal_test.md. Every field's default value is its value after reset.
-/
namespace Sys2Proof.Machine

/-- State of the supply sequence (R516, R537). -/
inductive SupplyState where
  | normal | warning | releaseWait
deriving DecidableEq, Repr

/-- Block PWR (R516 to R523, R537). -/
structure PwrState where
  /-- PWR_STATUS SUPPLY (R537; 2 bits). -/
  supply : SupplyState := .normal
  /-- Inputs A and B in INPUT_LOW; PWR_STATUS shows the complement (R520, R537; 1 bit each). -/
  inLow : List Bool := [true, true]
  /-- Module time at which each input fell into an INPUT_LOW that has been told; none otherwise (R520, R540; 64 bits each). -/
  inLowAt : List (Option Nat) := [none, none]
  /-- PWR_STATUS SHED (R518, R537; 1 bit). -/
  shed : Bool := false
  /-- VIN_A, VIN_B, V (R537; 32 bits each). -/
  vin : List Rat := [0, 0]
  /-- V_RAIL, V (R516, R537; 32 bits). -/
  vRail : Rat := 0
  /-- DRAW, W (R537; 32 bits). -/
  draw : Rat := 0
  /-- DOM_ON: bit d is PDd on (R537; 13 bits). -/
  domOn : BitVec 13 := 1
  /-- DOM_FAULT: bit d is PDd tripped (R523, R537; 13 bits). -/
  domFault : BitVec 13 := 0
  /-- DIP_COUNT, read-clear (R537; 32 bits). -/
  dipCount : Nat := 0
  /-- DIP_LAST MS (R537; 16 bits). -/
  dipMs : Nat := 0
  /-- DIP_LAST MIN_CV (R537; 16 bits). -/
  dipMinCv : Nat := 0
  /-- Module time of the warning of the dip in progress (R518, R519; 64 bits). -/
  warnAt : Nat := 0
  /-- Lowest V_RAIL of the dip in progress, V (R519; 32 bits). -/
  dipLow : Rat := 0
  /-- Reset is held until the next release (R516; 1 bit). -/
  resetHeld : Bool := false
  /-- Domains still to be switched on at a mode change out of DORMANT, in order (R522). -/
  onQueue : List Nat := []
  /-- Module time of the last switch-on step of that order (R522; 64 bits). -/
  onAt : Nat := 0
  /-- Module time of entry to DORMANT while PD4 and PD6 still wait for their writes (R522; 64 bits). -/
  dormantSince : Option Nat := none
deriving DecidableEq, Repr

/-- Temperature bands (R526, R538), lowest first; NONE before the first decision. -/
inductive Band where
  | cold | normal | warm | hot | crit | none
deriving DecidableEq, Repr

/-- One temperature sensor (R524 to R526). -/
structure Sensor where
  /-- SENSOR_STATE BAND (R538; 3 bits). -/
  band : Band := .none
  /-- SENSOR_STATE FAULT: last reading failed (R525, R538; 1 bit). -/
  fault : Bool := false
  /-- SENSOR_STATE CAUSE: 0 none, 1 open, 2 out of range, 3 silent (R538; 2 bits). -/
  cause : Nat := 0
  /-- Bands indicated by the readings that count toward a change; RUN is their number (R526, R538; 2 bits). -/
  run : List Band := []
  /-- SENSOR_TEMP: last good reading, °C (R538; 32 bits). -/
  temp : Rat := 0
deriving DecidableEq, Repr

/-- Block THM (R524 to R529, R538). -/
structure ThmState where
  /-- Sensors 0 to 8 (R524). -/
  sensors : List Sensor := List.replicate 9 {}
  /-- THM_STATUS BAND: module band (R526, R538; 3 bits). -/
  band : Band := .none
  /-- THM_STATUS REQ (R528, R538; 1 bit). -/
  req : Bool := false
  /-- THM_STATUS ENFORCED (R528, R538; 1 bit). -/
  enforced : Bool := false
  /-- Module time at which the grace ends (R528; 64 bits). -/
  graceEnd : Option Nat := none
  /-- REFRESH_MS in force (R527, R538; 7 bits). -/
  refreshMs : Nat := 16
  /-- Longer refresh interval to apply at the next frame instant (R527; 7 bits). -/
  refreshNext : Option Nat := none
  /-- SENSOR_SEL (R538; 4 bits). -/
  sensorSel : Nat := 0
  /-- BAND_CHANGES, read-clear (R538; 32 bits). -/
  bandChanges : Nat := 0
  /-- TEMP_MAX, °C (R538; 32 bits). -/
  tempMax : Rat := 0
  /-- A good reading has been taken since restart, so TEMP_MAX holds one (R538; 1 bit). -/
  tempSeen : Bool := false
  /-- THROTTLE_COUNT, read-clear (R538; 32 bits). -/
  throttleCount : Nat := 0
  /-- Module time at which enforcement began (R540; 64 bits). -/
  enforcedAt : Nat := 0
  /-- Frame instant from which the trace can be armed again after the throttle (R528; 64 bits). -/
  armFrom : Nat := 0
  /-- Readings of a sweep that wait for its end, sensor 0 first; a failed one as none (R525, R526). -/
  sweep : List (Option Rat) := []
  /-- Frame instant of the last sweep; none before the first (R525; 64 bits). -/
  sweepAt : Option Nat := none
deriving DecidableEq, Repr

/-- One BIST unit (R530, R539). -/
structure BistUnit where
  /-- UNIT_SIG: last signature (R539; 32 bits). -/
  sig : Nat := 0
  /-- UNIT_EXPECT: expected value for the kind last run on the unit (R539; 32 bits). -/
  expect : Nat := 0
  /-- UNIT_INFO RESULT: 0 not run, 1 PASS, 2 FAIL, 3 RUNNING (R539; 2 bits). -/
  result : Nat := 0
  /-- UNIT_INFO BG_FAILS (R539; 8 bits). -/
  bgFails : Nat := 0
  /-- Next background slice of the unit (R534; 9 bits). -/
  slice : Nat := 0
  /-- The last slice failed once and is to be repeated (R534; 1 bit). -/
  repeat_ : Bool := false
  /-- Frame of the unit's last slice, and its slices in that frame (R534; 32 and 8 bits). -/
  sliceFrame : Option Nat := none
  sliceCount : Nat := 0
deriving DecidableEq, Repr

/-- Block BST (R530 to R535, R539). -/
structure BstState where
  /-- BST_STATUS STATE: 0 IDLE, 1 RUNNING, 2 DONE, 3 ABORTED (R539; 2 bits). -/
  state : Nat := 1
  /-- BST_STATUS KIND: 0 START_UP, 1 PARTIAL, 2 FULL (R539; 2 bits). -/
  kind : Nat := 0
  /-- BST_STATUS PASS (R539; 1 bit). -/
  pass : Bool := false
  /-- Units 0 to 23 (R530). -/
  units : List BistUnit := List.replicate 24 {}
  /-- BST_PASS UNITS (R539; 24 bits). -/
  passMask : BitVec 24 := 0
  /-- BST_FAILED UNITS (R535, R539; 24 bits). -/
  failedMask : BitVec 24 := 0
  /-- DEV_SIG (R531, R539; 64 bits). -/
  devSig : Nat := 0
  /-- UNIT_SEL (R539; 5 bits). -/
  unitSel : Nat := 0
  /-- BG_ROUND_MS (R539; 16 bits). -/
  bgRoundMs : Nat := 0
  /-- BG_ROUNDS, read-clear (R539; 32 bits). -/
  bgRounds : Nat := 0
  /-- Module time at which the running background round began (R534; 64 bits). -/
  bgRoundAt : Nat := 0
  /-- Background units whose slices of the running round are complete (R534; 24 bits). -/
  bgDone : BitVec 24 := 0
  /-- Unit that took the last background slice outside the solver engines (R534; 5 bits). -/
  bgLast : Nat := 23
  /-- BST_CMD_RESULT RESULT (R539; 4 bits). -/
  cmdResult : Nat := 0
  /-- BST_CMD_RESULT SESSION (R539; 5 bits). -/
  cmdSession : Nat := 0
  /-- A full BIST has run or run partly since restart, so only a restart leaves SERVICE (R70, R533; 1 bit). -/
  restartNeeded : Bool := false
deriving DecidableEq, Repr

end Sys2Proof.Machine
end

