-- ==== Sys2Proof/Machine/Blocks/Inputs.lean ====
section
/-!
DEFINITION. What commands carry: the operand types of `Instr` (Sys2Proof/Syntax.lean).
-/
namespace Sys2Proof.Machine

/-- A session request as it arrives: the connection and REQ_ID (R442). The session is the one the connection carries. -/
structure Req where
  conn : Nat := 0
  id : Nat := 0
deriving DecidableEq, Repr

/-- An edge on SYNC_IN and the pulse it belongs to (R477). -/
structure PulseEdge where
  /-- The edge falls. -/
  falling : Bool := false
  /-- Width of the pulse, ns. -/
  width : Nat := 0
deriving DecidableEq, Repr

/-- What a read of memory finds (R43, R44): where, and what the word belongs to. -/
structure MemFind where
  /-- Memory: an engine's index, 0xF0 DRAM, 0xF1 MRAM, 0xF2 tag pool (R59). -/
  memory : Nat := 0
  /-- Word address. -/
  addr : Nat := 0
  /-- More than one bit is wrong, so the word cannot be corrected. -/
  uncorrectable : Bool := false
  /-- Tag of the work item that read the word; none for the scrub itself. -/
  item : Option Word := none
  /-- Solver slot whose data the word is. -/
  slot : Option Nat := none
  /-- Image offset of a word of the image copies, and whether it is uncorrectable in both (R544). -/
  image : Option (Nat × Bool) := none
deriving DecidableEq, Repr

/-- What the supply and the fabric measure at a frame instant (R220, R537, R604), what a GNSS start would find in the sky (R125), and what the GNSS
channels hold at the sample edge (R108). -/
structure Measured where
  /-- Instruction rate of the last frame, M instructions/s. -/
  rate : F32 := 0
  /-- VIN_A, VIN_B and V_RAIL, V. -/
  vinA : F32 := 0
  vinB : F32 := 0
  vRail : F32 := 0
  /-- DRAW, W. -/
  draw : F32 := 0
  /-- Satellites predicted above the elevation mask: constellation and number. -/
  above : List (Nat × Nat) := []
  /-- What the measurement latch strobes on the channels (R108). -/
  latch : List LatchRec := []
  /-- Time from the frame instant to the sample edge of the strobe, ns; the edge lies within ±9.6 ns of it (R108). -/
  edge : Rat := 0
deriving DecidableEq, Repr

/-- What phase 3 meets on X11 and in the store: the key's JEDEC identifier, the offset from which a key pulled out returns all ones, the
state of the block maps, and whether P0 and the MRAM copy can be read (R498, R499, R542, R543). -/
structure KeyRead where
  jedec : BitVec 24 := 0
  pulledAt : Option Nat := none
  mapGood : Bool := true
  rebuildGood : Bool := true
  p0Good : Bool := true
  mramGood : Bool := true
deriving DecidableEq, Repr

end Sys2Proof.Machine
end

