-- ==== Sys2Proof/Syntax.lean ====
section
/-!
DEFINITION. The commands the block takes, one constructor per row of the operation table (spec/opcode_table.json).
The docstring of each is the row's summary with its rule, then what the operands carry. An operand is what arrives from outside
with the command: the connection and request ID of a session request, the bytes of a frame, a value measured, the time a
condition has lasted.
-/
namespace Sys2Proof

open Sys2Proof.Machine

inductive Instr where
  /-- The time base emits a frame instant every 20 ms of module time, which starts a new control frame and applies
  every change pending for that instant (R45). Operand: what the supply and the fabric measure, and the sky as a
  GNSS start would find it. -/
  | frameInstant (m : Measured)
  /-- The hardware strobe at frame time 16 ms releases all staged commands to CAN, analog and digital outputs (R46).
  Operand: the analog outputs read back after it. -/
  | releaseStrobe (readbacks : List F32)
  /-- At each 1 ms tick SV reads targets and feedback, evaluates every servo and learner, stages switching states
  and releases the states of the previous tick (R266). Operand: the time in µs that the tick takes. -/
  | servoTick (us : Nat)
  /-- A servo tick not complete by the next tick instant is abandoned and its states are not released (R268).
  Operand: by how many ns the tick misses the next tick instant. -/
  | tickAbandoned (lateNs : Nat)
  /-- Three tick instants without a release make the output stage force STOP on every hysteretic output (R269).
  Operand: the tick instants passed without a release. -/
  | tickGuard (ticks : Nat)
  /-- A servo detects a stale, invalid, stalled, wrong-direction or output fault, forces STOP and makes its thruster
  unavailable (R277). Operands: the thruster, and whether the axis is pitch. -/
  | servoFault (thr : Fin 16) (pitch : Bool)
  /-- A servo fault clears automatically after 1 s of valid feedback or without the output fault (R278). Operands:
  the thruster, and whether the axis is pitch. -/
  | srvFaultCleared (thr : Fin 16) (pitch : Bool)
  /-- An engine that misses its heartbeat in two consecutive frames is declared lost and its tags are completed
  ABANDONED (R32). Operands: the engine, and the consecutive frames without its heartbeat. -/
  | engineLost (engine : Fin 16) (frames : Nat)
  /-- A frame stage deadline wins arbitration against the stage's completion, and the miss is recorded (R47).
  Operands: the bit of DL_STATUS, and by how many ns the stage is late. -/
  | stageDeadline (stage : Fin 9) (lateNs : Nat)
  /-- A serving unit delivers a completion carrying its tag, status and time, and the consumer matches it by tag
  (R55). Operands: the tag the completion carries, and its status (0 done, 1 ABANDONED, 2 MEM_FAULT, 3
  CANCELLED). -/
  | tagCompletion (tag : Word) (status : Fin 4)
  /-- A word from a clocked island crosses the synchronising port into the fabric (R41). Operands: the port (R59),
  the words dropped since the last one, and, at the modulators' port, the channel, its raw output sample and how
  long ago in µs it could be read. -/
  | syncPortWord (port : Fin 6) (dropped : Nat) (sample : Option (Fin 16 × F32 × Nat))
  /-- The background scrub reads memory, corrects single-bit errors and finds uncorrectable ones (R43). Operand:
  what the read finds, and where. -/
  | memoryScrub (find : MemFind)
  /-- Start-up phase 1 starts SU from boot code and the time base from the flushed module time (R77). -/
  | boot
  /-- Start-up phase 2 replays the MRAM journal, completing or discarding each interrupted update (R498). Operands:
  the transactions with a valid COMMIT, and whether a copy of the journal header is valid. -/
  | journalReplay (transactions : Nat) (headerGood : Bool)
  /-- Start-up phase 3 switches on PD7, mounts flash, reads P0 and reads the configuration key into DRAM (R542).
  Operand: what the phase meets on X11 and in the store. -/
  | keyRead (found : KeyRead)
  /-- Start-up phase 4 checks the records, the workload and the variant, and compares the check value with the
  confirmation (R549). -/
  | imageValidation
  /-- Start-up phase 5 switches the domains on in 10 ms steps and loads the field sides and the Weir latches (R77).
  Operand: Weir's latches, read back, differ from the records. -/
  | domainSwitchOn (latchBad : Bool)
  /-- Start-up phase 6 runs the non-destructive BIST of every powered block (R532). Operand: the signature each unit
  yields, unit 0 first. -/
  | startUpBist (sigs : List Word)
  /-- Start-up phase 7 loads servo profiles, hot-start data, the Carafe model and reference models, and matches them
  to the image (R290). -/
  | learnedStateLoad
  /-- Once its BIST slice has passed, GNSS starts hot, coarse-time, warm or cold from the kept data (R125). Operand:
  the satellites predicted above the mask. -/
  | gnssStart (above : List (Nat × Nat))
  /-- Start-up ends and the first mode is entered at the next frame instant (R82). -/
  | startComplete
  /-- After an SU or PD0 failure, the module repeats phase 1 after 1 s, at most three times (R80). -/
  | suRetry
  /-- A write to MODE_REQ is checked in order and is accepted or refused with a result code (R73). Operands: the
  MODE code and the two option bits. -/
  | modeReq (req : Req) (mode : Fin 8) (hdgHold useSetpoint : Bool)
  /-- An operator write enters SAFE_STOP for a scope (R63). Operand: SCOPE. -/
  | sstopReqEnter (req : Req) (scope : Byte)
  /-- A reset request is passed to the safety core, and the response follows its evaluation (R65). -/
  | sstopReqReset (req : Req)
  /-- A write of the restart key restarts the module at phase 1 after the Sediment flush (R83). Operand: the value
  written. -/
  | restartReq (req : Req) (key : Word)
  /-- A write sets the blend time for the next handover, or is refused when out of range (R93). Operand: the blend
  time in s. -/
  | modeTblend (req : Req) (seconds : F32)
  /-- Position or heading invalid for longer than DR_LIMIT causes a fallback mode change, or restarts the observer
  (R71). -/
  | modeFallback
  /-- Antenna supply current below 3 mA for 100 ms gives state OPEN (R99). Operands: the antenna, its supply current
  in mA, and how long it has been below 3 mA. -/
  | antOpen (ant : Fin 2) (ma : F32) (ms : Nat)
  /-- Antenna supply current above 120 mA limits the supply, switches it off and idles the antenna's channels (R99).
  Operands: the antenna and its supply current in mA. -/
  | antShort (ant : Fin 2) (ma : F32)
  /-- The shorted antenna supply is retried for 10 ms every 5 s (R99). Operands: the antenna and the current the
  retry meets in mA. -/
  | antSupplyRetry (ant : Fin 2) (ma : F32)
  /-- Current inside the OK window for 1 s restores the antenna (R99). Operands: the antenna, its supply current in
  mA, and how long it has been inside the OK window. -/
  | antRestored (ant : Fin 2) (ma : F32) (ms : Nat)
  /-- A front end gives valid samples after domain switch-on (R98). Operand: the antenna. -/
  | frontEndReady (ant : Fin 2)
  /-- An acquisition pass over up to 16,384 cells completes and its detections are confirmed (R101). Operands: how
  many windows the pass may combine, and the channels whose detection is confirmed. -/
  | acqPass (windows : Nat) (found : List Nat)
  /-- With the search queue empty for 10 s, GNS asks for PD3 to be switched off (R102). -/
  | acqIdle
  /-- PD3 switch-on completes and the queued search requests are served (R102). -/
  | acqPowerOn
  /-- A channel with no detection within 10 s or 30 s returns to IDLE (R105). Operand: the channel. -/
  | channelSearchTimeout (ch : Fin 192)
  /-- Lock held for 200 ms with bit synchronisation moves a channel from PULL_IN to TRACK (R105). Operands: the
  channel, how long its lock indicator has been at least 0.8, and whether bit or secondary-code synchronisation
  is reached. -/
  | channelPullIn (ch : Fin 192) (lockMs : Nat) (sync : Bool)
  /-- No lock within 1 s returns a channel to SEARCH (R105). Operand: the channel. -/
  | channelPullInTimeout (ch : Fin 192)
  /-- Low C/N0 for 500 ms or low lock for 100 ms returns a tracking channel to SEARCH (R105). Operands: the channel,
  how long its C/N0 has been below 22 dB-Hz, and how long its lock indicator below 0.5. -/
  | channelTrackLoss (ch : Fin 192) (weakMs unlockMs : Nat)
  /-- GT publishes the measurement batch, position solutions, heading and ego-motion of the frame (R110). Operands:
  the frame time in µs, the antenna supply currents, the signals predicted above the horizon, the
  residuals of the ego-motion in m by channel, and what the position, carrier-phase and navigation-data computations
  give. -/
  | gtSnapshotPublish (us : Nat) (ma : List F32) (sky : List SkySig) (residuals : List (Nat × Rat)) (fixes : List (Option FixIn)) (ego : EgoIn) (nav : NavIn)
  /-- A background RTK or heading ambiguity search completes, and its fix is used from the next frame (R113).
  Operands: the search (0 heading, 1 and 2 RTK of antennas A and B), its ratio, its double differences, and
  the integers found with the baseline length they give. -/
  | ambiguitySearchDone (search : Fin 3) (ratio : F32) (ndd : Nat) (fix : AmbFix)
  /-- The baseline length check fails in 3 consecutive frames, and the fix is rejected (R119). -/
  | hdgWrongFix
  /-- A solution that was valid has been NONE for 1 s (R113). Operand: the antenna. -/
  | fixLost (ant : Fin 2)
  /-- After 10 s invalid, a jumped solution is tested again against the carried-forward position (R116). Operand:
  the antenna. -/
  | solutionRevalidate (ant : Fin 2)
  /-- An RTCM 3 frame is received, checked by CRC-24Q and used or discarded (R114). Operands: the source (0 primary,
  1 secondary) and the frame. -/
  | rtcmFrame (source : Fin 2) (frame : Bytes)
  /-- No correction source is within CORR_MAX_AGE, and the solutions fall to SBAS or SPS (R115). -/
  | corrStale
  /-- The correction source changes, including the return to the primary after 10 s within the limit (R115). -/
  | corrSwitch
  /-- A jamming indication sets after 1 s of both conditions, or clears after 10 s without them (R128). Operands:
  the antenna, the fall of the gain control of its upper and lower band in dB, the signals whose C/N0 has fallen
  by more than 6 dB, and how long this has held. -/
  | jamDetect (ant : Fin 2) (upper lower : F32) (weak ms : Nat)
  /-- In DORMANT, at each 15 min instant, the GNSS domains switch on for a 10 s wake (R124). Operand: the satellites
  predicted above the mask. -/
  | gnssWake (above : List (Nat × Nat))
  /-- After 10 s the wake ends, P2 is written and the domains are switched off (R124). -/
  | gnssWakeEnd
  /-- GNS_CMD COLD_START discards the GNSS data of P2 and restarts GNSS cold, in SERVICE only (R127). -/
  | coldStart (req : Req)
  /-- GNS_CMD RTK_RESET resets the RTK and heading ambiguities (R127). -/
  | rtkReset (req : Req)
  /-- At GT snapshot receipt or at frame time 1.0 ms, FC freezes its inputs and performs fusion, masking and the
  observer update (R151). Operand: the frame time in µs. -/
  | fusionInputCut (us : Nat)
  /-- FC publishes the 72-byte fused snapshot of the frame (R167). Operand: the frame time in µs. -/
  | fusedSnapshotPublish (us : Nat)
  /-- FC work for a frame not complete at the next frame instant is abandoned without publication (R166). -/
  | fusSkip
  /-- A reference whose leave-one-out distance exceeded 3 for more than 2 s is masked by vote (R154). Operand: the
  slot (0 to 7 for P0 to P7, 8 to 11 for H0 to H3). -/
  | refMasked (slot : Fin 12)
  /-- A reference masked by vote is readmitted after d ≤ 2 has held for 10 s (R155). Operand: the slot (0 to 7 for
  P0 to P7, 8 to 11 for H0 to H3). -/
  | refRestored (slot : Fin 12)
  /-- Two contributing references disagree for more than 2 s, DEGRADED is set and a leader is chosen (R157).
  Operand: whether the references are headings. -/
  | referenceDisagree (hdg : Bool)
  /-- DEGRADED clears on agreement for more than 2 s or on a change of count (R157). Operand: whether the references
  are headings. -/
  | disagreeCleared (hdg : Bool)
  /-- Innovations gated for more than 1 s reset the observer position or heading to the measurement (R163). Operand:
  whether the heading is reset. -/
  | obsPosReset (hdg : Bool)
  /-- 60 s after observer start, SETTLING falls (R162). -/
  | settled
  /-- At each whole second FC adds a reference's normalised offset to its histogram when the learning conditions
  hold (R168). Operand: the slot. -/
  | innovationSample (slot : Fin 12)
  /-- At each whole second the consistency check of each contributing reference is taken (R158). Operand: the slot. -/
  | consistencyCheck (slot : Fin 12)
  /-- Every 10 min, a reference with enough samples updates its histogram, SCALE and kernel (R169). Operand: the
  slot. -/
  | kernelUpdate (slot : Fin 12)
  /-- Hourly, changed reference models are written to P3 (R171). -/
  | modelStore
  /-- A write enables or disables reference slots from the next frame instant (R132). Operand: one bit for each
  slot. -/
  | refSelect (req : Req) (mask : BitVec 12)
  /-- REF_CMD ANCHOR asks FC to set the anchor of a relative reference (R136). Operands: the slot, and whether it is
  a heading slot. -/
  | anchor (req : Req) (slot : Fin 16) (heading : Bool)
  /-- REF_CMD RESET_MODEL resets a slot's working error model to the Gaussian default (R172). Operands: the slot,
  and whether it is a heading slot. -/
  | refCmdResetModel (req : Req) (slot : Fin 16) (heading : Bool)
  /-- An IEC 61162 sentence arrives on a serial port, is checked and delivers its value to its binding (R400).
  Operands: the port, the line as received, how long ago in µs its first character was stamped, and whether a
  character had a framing error. -/
  | sentenceReceived (port : Fin 4) (line : Bytes) (backUs : Nat) (framing : Bool)
  /-- No accepted input for SILENCE_TIME makes a serial port SILENT (R402). Operand: the port. -/
  | portSilent (port : Fin 4)
  /-- A due output sentence is formed from the fused snapshot and sent, or dropped (R403). Operands: the interface
  (0 to 3 SER0 to SER3, 4 and 5 ETH1 and ETH2) and the sentence (0 GGA, 1 HDT, 2 ROT, 3 ZDA, 4 PSKVS). -/
  | sentenceTransmit (iface : Fin 6) (kind : Fin 5)
  /-- An owner submits a descriptor and deltas to a slot, which are checked, applied and queued (R191). Operands:
  the owner (0 CC0, 1 CC1, 2 SU), the 32-byte descriptor and the delta packet. -/
  | solveSubmit (owner : Fin 3) (desc packet : Bytes)
  /-- BIND loads a structure's default data into a slot, keeping any published solution as the warm source (R186).
  Operands: the owner, the slot and the structure. -/
  | bind (owner : Fin 3) (slot : Fin 512) (struct : Fin 256)
  /-- RELEASE returns a bound slot to FREE (R185). Operands: the owner and the slot. -/
  | release (owner : Fin 3) (slot : Fin 512)
  /-- CANCEL completes a queued solve CANCELLED, or answers TOO_LATE or NOTHING_PENDING (R196). Operands: the owner
  and the slot. -/
  | cancel (owner : Fin 3) (slot : Fin 512)
  /-- A free engine takes the highest-priority queued problem or sub-job and chooses its start and path (R193).
  Operand: the solver engine. -/
  | solveDispatch (engine : Fin 8)
  /-- A yielded schedule-path problem resumes on its engine when no priority-0 problem is queued (R194). Operand:
  the solver engine. -/
  | solveResume (engine : Fin 8)
  /-- A stage-block sub-job of a service-path MPC iteration completes (R212). Operand: the solver engine. -/
  | subjobComplete (engine : Fin 8)
  /-- A solve finishes, passes or fails the residual check, and places its completion record; its consumer acts on
  it (R197). Operand: the slot whose solve finishes. -/
  | solveComplete (slot : Fin 512)
  /-- A queued problem not dispatched by LATEST_START completes EXPIRED (R195). Operand: the slot. -/
  | expired (slot : Fin 512)
  /-- SLV_CMD TEST runs the built-in reference problem on a named engine (R219). Operand: the engine. -/
  | slvTest (req : Req) (engine : Fin 8)
  /-- Once the fused state is published, CC0 forms the root demand, updates the integrator and submits the
  allocation tree level by level (R247). Operand: the frame time in µs at which the stage starts. -/
  | allocationStage (us : Nat)
  /-- Allocation not complete by 12 ms restages the previous commands and counts the miss (R254). -/
  | deadline
  /-- At each 100 ms instant, CC1 submits the MPC solve or skips it (R239). -/
  | mpcStart
  /-- At each whole second, CC1 ends the previous consequence cycle and starts a new one over every failure group
  (R258). -/
  | conseqCycleStart
  /-- SP_CMD APPLY sets a new setpoint from SP_LAT, SP_LON and SP_HDG (R230). -/
  | spApply (req : Req)
  /-- SP_CMD MOVE sets a new setpoint by a relative offset (R230). -/
  | spMove (req : Req)
  /-- A write selects the tuning set for the next frame instant (R227). Operand: the tuning set. -/
  | tuneSel (req : Req) (set : Fin 8)
  /-- A session joystick demand is written, taking ownership in JOYSTICK (R235). Operands: the three signed
  fractions. -/
  | joyDemand (req : Req) (surge sway yaw : BitVec 10)
  /-- The RELEASE bit ends joystick ownership (R235). -/
  | joyRelease (req : Req)
  /-- No valid joystick value for JOY_MAX_AGE zeroes the demand and ends ownership (R235). -/
  | joyStale
  /-- TRACK_CMD COMMIT copies staged waypoints to the active track at the next frame (R231). Operand: COUNT. -/
  | trackCommit (req : Req) (count : Fin 128)
  /-- TRACK_CMD CLEAR empties the active track outside AUTO_TRACK (R231). -/
  | trackClear (req : Req)
  /-- A write enables or disables thrusters for allocation (R241). Operand: one bit for each thruster. -/
  | thrEnable (req : Req) (mask : BitVec 16)
  /-- A bus power value older than BUS_MAX_AGE is replaced by its fallback (R242). Operand: the bus. -/
  | busStale (bus : Fin 8)
  /-- An EXTERNAL capability older than 2 frames is replaced by zero (R251). Operand: the EXTERNAL group. -/
  | extGroupStale (group : Fin 64)
  /-- At each 10 min point, changed working profiles are written to P1 and the wear trend is computed (R289). -/
  | profileStore
  /-- Every 90 days a profile snapshot is taken (R289). -/
  | profileSnapshot
  /-- SRV_CMD CLEAR_FAULT clears a stall or direction fault whose condition has gone (R278). Operand: the thruster. -/
  | srvClearFault (req : Req) (thruster : Fin 16)
  /-- SRV_CMD RESET_PROFILE clears the working profile (R293). Operand: the thruster. -/
  | resetProfile (req : Req) (thruster : Fin 16)
  /-- SRV_CMD SET_BASELINE copies the working profile to the baseline (R291). Operand: the thruster. -/
  | setBaseline (req : Req) (thruster : Fin 16)
  /-- SRV_CMD STORE_NOW queues the working profile for writing (R293). Operand: the thruster. -/
  | storeNow (req : Req) (thruster : Fin 16)
  /-- SRV_CMD LEARN_RUN drives a thruster through a learning run in SERVICE (R294). Operands: the thruster, N, and
  the direction. -/
  | learnRun (req : Req) (thruster : Fin 16) (passes : Fin 32768) (ccw : Bool)
  /-- SRV_CMD TEST_MOVE drives the azimuth servo to a target in SERVICE (R293). Operands: the thruster and the
  target, bam16. -/
  | testMove (req : Req) (thruster : Fin 16) (target : BitVec 16)
  /-- SRV_CMD TEST_STOP ends a learning run or test move (R293). Operand: the thruster. -/
  | testStop (req : Req) (thruster : Fin 16)
  /-- TRC_CMD ARM discards the trace and arms its trigger (R296). -/
  | arm (req : Req)
  /-- TRC_CMD STOP ends trace capture (R296). -/
  | trcStop (req : Req)
  /-- TRC_CMD FORCE triggers an armed trace now (R296). -/
  | force (req : Req)
  /-- An analog channel detects over-range, current, shunt or modulator fault and marks its samples invalid (R301).
  Operands: the channel, the fault code, the raw value, and for how many consecutive samples (code 5: modulator
  periods) it has stood. -/
  | chFault (ch : Fin 16) (code : Fin 6) (raw : F32) (count : Nat)
  /-- A channel fault clears after its clearing time (R301). Operands: the channel, the fault code, the raw value,
  and how long the condition has been absent. -/
  | chFaultCleared (ch : Fin 16) (code : Fin 6) (raw : F32) (us : Nat)
  /-- A tripped 4–20 mA shunt is reconnected after 1 s (R301). Operand: the channel. -/
  | shuntReconnect (ch : Fin 16)
  /-- A settling channel has taken 76/f_i of input and becomes RUNNING or FAULT (R307). Operand: the channel. -/
  | channelSettled (ch : Fin 16)
  /-- SIG_CMD START starts stopped channels of the mask in SERVICE (R307). Operand: the channels. -/
  | sigCmdStart (req : Req) (mask : BitVec 16)
  /-- SIG_CMD STOP stops channels of the mask in SERVICE (R307). Operand: the channels. -/
  | sigCmdStop (req : Req) (mask : BitVec 16)
  /-- SIG_CMD SYNC restarts every class S channel at one modulator edge (R310). -/
  | sigCmdSync (req : Req)
  /-- An edge on SYNC_IN is stamped and performs a SYNC, or is ignored (R311). Operand: the edge and its pulse. -/
  | syncInEdge (edge : PulseEdge)
  /-- A write reconfigures a stopped analog channel in SERVICE (R306). Operand: the value written, for the channel
  CH_SEL names. -/
  | chCfg (req : Req) (value : Word)
  /-- A write changes a class F channel's delay from the next frame instant (R313). Operand: EIGHTHS, for the
  channel CH_SEL names. -/
  | chDelay (req : Req) (eighths : BitVec 12)
  /-- A session stages an analog output value for the next strobe (R314). Operand: the engineering value, for the
  output OUT_SEL names. -/
  | outValue (req : Req) (value : F32)
  /-- An analog output without a new value for OUT_TIMEOUT goes to its safe state (R315). Operand: the output. -/
  | outTimeout (out : Fin 12)
  /-- An analog output readback shows open, short or mismatch for 3 frames (R316). Operands: the output, the fault
  code, the readback, whether the compliance or current limit is reached, and for how many frames. -/
  | outFault (out : Fin 12) (code : Fin 4) (readback : F32) (limit : Bool) (frames : Nat)
  /-- An analog output fault clears after 1 s without its condition (R316). Operands: the output, and how long the
  condition has been absent. -/
  | outCleared (out : Fin 12) (us : Nat)
  /-- A field side receives a link frame and applies its output states, or leaves its safe state (R321). Operands:
  the bank, and whether the frame passes its CRC-16. -/
  | fieldLinkFrame (bank : Fin 2) (crcOk : Bool)
  /-- The IO core receives a field-side reply with pin levels, currents, faults and edges (R321). Operands: the
  bank, whether the reply passes its CRC-16, the pin voltages in V, the outputs whose clamp conducts, the channel
  currents in A and the field supply in V. -/
  | linkReply (bank : Fin 2) (crcOk : Bool) (pins : List F32) (demag : BitVec 24) (currents : List F32) (supply : F32)
  /-- A field side without a valid frame for LINK_TIMEOUT applies each output's safe state (R338). Operand: the
  bank. -/
  | linkTimeout (bank : Fin 2)
  /-- The IO core finds a bank's link silent, sets SAFE and clears IN_VALID (R338). Operand: the bank. -/
  | linkLost (bank : Fin 2)
  /-- A field input's filtered state changes after FILTER (R327). Operands: the channel, the pin voltage in V, how long
  every sample has shown its level, and how long ago the deciding sample was taken. -/
  | inputEdge (ch : Fin 48) (volts : F32) (heldUs backUs : Nat)
  /-- A write to OUT_ON_A or OUT_ON_B commands session outputs ON (R325). Operands: the bank and the channels. -/
  | outOn (req : Req) (bankB : Bool) (mask : BitVec 24)
  /-- A write to OUT_OFF_A or OUT_OFF_B commands session outputs OFF (R325). Operands: the bank and the channels. -/
  | outOff (req : Req) (bankB : Bool) (mask : BitVec 24)
  /-- A field supply below 18.0 V for 10 ms puts the bank in FIELD_LOW (R330). Operands: the bank, its supply, and
  how long the condition has held. -/
  | fieldLow (bank : Fin 2) (volts : F32) (us : Nat)
  /-- A field supply above 32.0 V for 10 ms puts the bank in FIELD_HIGH (R330). Operands: the bank, its supply, and
  how long the condition has held. -/
  | fieldHigh (bank : Fin 2) (volts : F32) (us : Nat)
  /-- A field supply below 14.0 V for 1 ms disables every output switch of the bank (R330). Operands: the bank, its
  supply, and how long the condition has held. -/
  | fieldLost (bank : Fin 2) (volts : F32) (us : Nat)
  /-- The supply back in range for its time returns the bank to NORMAL and restores outputs under RESTORE (R331).
  Operands: the bank, its supply, and how long the condition has held. -/
  | fieldRestored (bank : Fin 2) (volts : F32) (us : Nat)
  /-- An output in current limit for 5 ms or in thermal shutdown trips into RETRY_WAIT or latches off (R332).
  Operands: the channel, whether its switch has reached thermal shutdown, its current, and how long it has been
  in current limit. -/
  | overcurrent (ch : Fin 48) (thermal : Bool) (amps : F32) (us : Nat)
  /-- After 1 s in RETRY_WAIT the output is switched on again if commanded ON (R332). Operand: the channel. -/
  | ocRetry (ch : Fin 48)
  /-- 10 s on without a trip returns the retry count to 0 (R332). Operand: the channel. -/
  | ocCleanPeriod (ch : Fin 48)
  /-- Bank current above 6.0 A for 100 ms trips one output, repeating every 100 ms (R333). Operands: the bank, its
  channel currents, and how long their sum has exceeded 6.0 A. -/
  | bankOverload (bank : Fin 2) (currents : List F32) (us : Nat)
  /-- An output commanded OFF that reads high for 10 ms reports STUCK_HIGH (R334). Operands: the channel, its pin
  voltage, how long every sample has read so, and how long before that demagnetisation ended. -/
  | stuckHigh (ch : Fin 48) (volts : F32) (us demagUs : Nat)
  /-- STUCK_HIGH clears after the pin has read low for 1 s (R334). Operands: the channel, and how long its pin has
  read low. -/
  | stuckHighClear (ch : Fin 48) (us : Nat)
  /-- An output ON with current below 5 mA for 100 ms reports OPEN_LOAD (R335). Operands: the channel, its current,
  and how long it has stayed below 5 mA. -/
  | openLoad (ch : Fin 48) (amps : F32) (us : Nat)
  /-- OPEN_LOAD clears after 1 s at or above 7 mA (R335). Operands: the channel, its current, and how long it has
  been at or above 7 mA. -/
  | openLoadClear (ch : Fin 48) (amps : F32) (us : Nat)
  /-- FIO_CMD CLEAR_FAULT clears latches, retry counts, BLOCKED and absent STUCK_HIGH (R336). Operands: CHANNEL and
  ALL. -/
  | fioClearFault (req : Req) (channel : Fin 64) (all : Bool)
  /-- Every 1 ms the safety core reads E-stop, feedback and pair readback, evaluates ramps and envelopes and sets
  its outputs (R342). Operands: what the cycle took in µs, the readback of every SSk_P and SSk_N, the contactor
  feedback inputs, the pair currents in A and the pair supply in V. -/
  | scCycle (us : Nat) (pinsP pinsN cf : BitVec 8) (currents : List F32) (supply : F32)
  /-- An E-stop channel open for the 3 ms filter makes the input ACTIVE and starts the Weir timer (R348). Operands:
  the input, and for channels A and B the consecutive samples outside their own pulse window that have read low. -/
  | estop (input : Fin 2) (lowA lowB : Nat)
  /-- Both channels closed for 100 ms release an E-stop input (R350). Operands: the input, and how long both
  channels have been closed. -/
  | estopRelease (input : Fin 2) (us : Nat)
  /-- A channel reading wrongly during three pulses is marked faulted (R349). Operands: the input, and whether the
  channel is B. -/
  | tpFault (input : Fin 2) (chB : Bool)
  /-- TP_FAULT clears after 10 s of correct pulses (R349). Operands: the input, whether the channel is B, and how
  long its pulses have been right. -/
  | tpFaultCleared (input : Fin 2) (chB : Bool) (us : Nat)
  /-- One channel open with the other closed for longer than ES_DISC latches DISCREPANCY (R349). Operand: the input. -/
  | discrepancy (input : Fin 2)
  /-- Once per second SC pulses the high side of each energised pair and checks the readback (R353). Operands: the
  pair, and whether the readback follows. -/
  | hsTestPulse (pair : Fin 8) (ok : Bool)
  /-- Once per second Weir pulses the low side of each energised pair, read by SC and Weir (R353). Operands: the
  pair, and whether the readback follows. -/
  | lsTestPulse (pair : Fin 8) (ok : Bool)
  /-- A ramp end condition opens the thruster's pair and moves every thruster of the pair to REMOVED (R362).
  Operand: the thruster whose removal SC has decided. -/
  | torqueRemoved (thr : Fin 16)
  /-- T_WEIR expires and Weir opens both switches of the pair (R364). Operand: the pair. -/
  | weirTimer (pair : Fin 8)
  /-- CFk does not follow a pair change within T_CF (R352). Operand: the pair. -/
  | contactorFault (pair : Fin 8)
  /-- Three watchdog violations make Weir declare the safety core lost (R345). Operand: the consecutive watchdog
  violations found. -/
  | scLost (violations : Nat)
  /-- A missing heartbeat, failed pulses or a lasting E-stop disagreement make SC declare Weir lost (R345). Operand:
  0 heartbeat, 1 pulse, 2 E-stop disagreement. -/
  | weirLost (cause : Fin 3)
  /-- The mirror port silent for 100 ms raises the alarm and lets ramps end on stale feedback (R366). -/
  | mirrorStale
  /-- The pair supply out of range for 1 ms opens every low side and enters SAFE_STOP with cause SUPPLY (R347).
  Operands: the pair supply, and how long it has been out of range. -/
  | pairSupplyFault (volts : F32) (us : Nat)
  /-- SAF_CMD PROOF_BEGIN starts a proof test in SERVICE (R373). -/
  | proofBegin (req : Req)
  /-- SAF_CMD PAIR_TEST_HS opens a pair's high side for 1 s (R373). Operand: the pair. -/
  | pairTestHs (req : Req) (pair : Fin 8)
  /-- SAF_CMD PAIR_TEST_LS opens a pair's low side for 1 s (R373). Operand: the pair. -/
  | pairTestLs (req : Req) (pair : Fin 8)
  /-- A pair test closes its switch and checks readback and contactor feedback (R373). Operands: the pair, and the
  verdicts of the readback and of CFk going high and then low. -/
  | pairTestEnd (pair : Fin 8) (readbackOk cfHighOk cfLowOk : Bool)
  /-- SAF_CMD ESTOP_TEST arms observation of an E-stop input (R373). Operand: the E-stop input. -/
  | estopTest (req : Req) (input : Fin 2)
  /-- SAF_CMD PROOF_END gives the proof test result and sets PROOF_LAST on a pass (R373). -/
  | proofEnd (req : Req)
  /-- SAF_CMD FAULT_RESET clears safety faults whose conditions are absent (R349). Operands: PAIR, ALL and INPUT. -/
  | faultReset (req : Req) (pair : Fin 8) (all : Bool) (input : Fin 2)
  /-- SAF_CMD ALARM_TEST opens the alarm contact for 2 s (R368). -/
  | alarmTest (req : Req)
  /-- After 2 s the alarm test ends (R368). -/
  | alarmTestEnd
  /-- Once per day while the proof test is overdue, the overdue state is reported (R372). -/
  | proofOverdue
  /-- A transmit entry is submitted to a CAN port, refused or superseding a pending one (R378). Operands: the port,
  the submitting engine, the frame and its release gate. -/
  | canTxSubmit (port : Fin 4) (engine : Fin 16) (frame : CanFrame) (gate : TxGate)
  /-- After its release gate, the lowest-identifier pending entry enters arbitration (R380). Operand: the port. -/
  | canFrameStart (port : Fin 4)
  /-- A transmission ends sent, by lost arbitration or by error, and the error counters move (R378). Operands: the
  port, and how the transmission ends. -/
  | canFrameEnd (port : Fin 4) (how : CanEnd)
  /-- CANCEL of a transmit entry completes it CANCELLED or after arbitration (R382). Operands: the port and the tag
  of the entry. -/
  | canCancel (port : Fin 4) (tag : Word)
  /-- A received CAN frame is filtered, checked and delivered to its consumer (R383). Operands: the port, the frame,
  whether it is a remote frame, the receive entries the consumers hold, and how long ago its start of frame was. -/
  | canRxFrame (port : Fin 4) (frame : CanFrame) (remote : Bool) (held backUs : Nat)
  /-- After 128 occurrences of 11 recessive bits the port leaves bus-off (R386). Operand: the port. -/
  | canRecovered (port : Fin 4)
  /-- CAN_CMD RECOVER starts bus-off recovery on a port (R386). Operand: the port. -/
  | recover (req : Req) (port : Fin 4)
  /-- The primary error-active for 1 s ends the mirror (R387). Operand: the primary port. -/
  | mirrorEnd (port : Fin 4)
  /-- An Ethernet port loses link (R405). Operand: the port. -/
  | linkDown (port : Fin 2)
  /-- An Ethernet port gains link (R405). Operands: the port, and whether the link runs at 1,000 Mbit/s. -/
  | linkUp (port : Fin 2) (gigabit : Bool)
  /-- An Ethernet frame is received, answered as ARP or ICMP, or dropped (R406). Operands: the port and what the
  frame is. -/
  | ethRxFrame (port : Fin 2) (frame : EthRx)
  /-- A TCP connection attempt is accepted on port 4816 or reset (R406). Operands: the Ethernet port, the TCP port,
  the client address and the number of the connection. -/
  | tcpConnect (port : Fin 2) (tcpPort addr id : Nat)
  /-- An IEC 61162-450 datagram is checked and its sentences delivered (R407). Operands: the Ethernet port, the
  transmission group, the datagram, and how long ago in µs it was stamped. -/
  | s450Datagram (port : Fin 2) (group : Fin 16) (payload : Bytes) (backUs : Nat)
  /-- An Icxon port holds lock and idles for 10 ms and reports UP (R413). Operands: the port, and how long it has
  held lock and idles, in µs. -/
  | portUp (port : Fin 3) (us : Nat)
  /-- An Icxon port loses signal, lock or code integrity and reports DOWN (R413). Operands: the port; 0 signal, 1
  lock, 2 code errors; and how long in µs, or how many errors within 1 ms. -/
  | portDown (port : Fin 3) (cause : Fin 3) (count : Nat)
  /-- A received Icxon frame is forwarded to the other UP ports and duplicates are discarded (R416). Operand: the
  frame as received. -/
  | icxForward (rx : IcxRx)
  /-- A SYNC message gives a member its offset to domain time (R422). Operand: the frame as received. -/
  | sync (rx : IcxRx)
  /-- At the later of 3 ms and snapshot publication, each member broadcasts its EXCHANGE (R424). Operand: the frame
  time in µs. -/
  | exchangeSend (us : Nat)
  /-- A received EXCHANGE supplies the LEAD's snapshot or a member's health (R425). Operand: the frame as received. -/
  | exchange (rx : IcxRx)
  /-- At 12 ms each member broadcasts its VOTE (R426). -/
  | voteSend
  /-- A received VOTE is kept for evaluation (R426). Operand: the frame as received. -/
  | vote (rx : IcxRx)
  /-- At 15 ms every member evaluates the vote, the released set is adopted, and a silent LEAD is replaced (R427). -/
  | voteEvaluation
  /-- A forwarded domain command is evaluated by the LEAD, or a distributed command is scheduled for its effect
  frame (R429). Operand: the frame as received. -/
  | command (rx : IcxRx)
  /-- A RESULT completes an Icxon transaction, and the waiting session response is sent (R417). Operand: the frame
  as received. -/
  | result (rx : IcxRx)
  /-- A transaction without RESULT after 40 ms completes TIMEOUT (R417). Operand: the tag of the transaction. -/
  | txnTimeout (tag : Word)
  /-- A received SSTOP makes SC enter SAFE_STOP with cause DOMAIN for the scope (R435). Operand: the frame as
  received. -/
  | sstop (rx : IcxRx)
  /-- The LEAD receives a JOIN and refuses it or starts the state transfer (R420). Operand: the frame as received. -/
  | join (rx : IcxRx)
  /-- A joiner retries 1 s after a TIME refusal (R420). -/
  | joinRetry
  /-- A joining member receives a state-transfer part (R420). Operand: the frame as received. -/
  | state (rx : IcxRx)
  /-- A DELAY frame measures the round trip of one hop (R415). Operands: the port, and the round trip of its hop as
  measured. -/
  | delay (port : Fin 3) (roundTripNs : Nat)
  /-- Once per second per port a DELAY measurement is sent (R415). Operand: the port. -/
  | icxDelayProbe (port : Fin 3)
  /-- A parent domain receives the capability of a subordinate domain (R437). Operand: the frame as received. -/
  | extCap (rx : IcxRx)
  /-- A subordinate domain receives its parent's demand as its root demand (R437). Operand: the frame as received. -/
  | extDemand (rx : IcxRx)
  /-- A parent demand older than 2 frames is replaced by zero (R437). -/
  | extDemandStale
  /-- After 100 frames of listening without a LEAD, the lowest-index joining member becomes LEAD (R421). -/
  | domainFormation
  /-- A member missing the LEAD on Icxon for 3 frames while the witness shows it alive becomes ISOLATED (R433). -/
  | partition
  /-- A member's offset beyond 20 µs for 10 frames makes it not able (R422). -/
  | timeSkew
  /-- A member's own fused state differs from the LEAD's for more than 2 s (R425). Operand: the heading differs,
  otherwise the position. -/
  | fusDisagree (heading : Bool)
  /-- ICX_CMD HANDOVER makes the LEAD announce a handover to an able member (R430). -/
  | handover (req : Req)
  /-- ICX_CMD SET_MEMBER writes the module's member index into P0 (R419). Operand: the member index. -/
  | setMember (req : Req) (index : Fin 8)
  /-- A TLS 1.3 handshake completes or fails (R440). Operands: the connection, what the client offers, and the
  certificate it presents. -/
  | tlsHandshake (conn : Nat) (offer : TlsOffer) (cert : Option ClientCert)
  /-- A connection that does not complete its handshake within 10 s or HELLO within 30 s is closed (R441). Operand:
  the connection. -/
  | connectionTimeout (conn : Nat)
  /-- A HELLO authenticates a client and opens a session (R445). Operands: the connection and REQ_ID, METHOD, name
  and password. -/
  | hello (req : Req) (method : Nat) (name password : Bytes)
  /-- A PBKDF2 password check completes and the HELLO is answered (R450). Operand: the connection whose HELLO is
  checked. -/
  | authCheckComplete (conn : Nat)
  /-- A RESUME reopens a DETACHED session (R447). Operands: the connection and REQ_ID, the session index and the
  resumption token. -/
  | resume (req : Req) (session : Nat) (token : BitVec 128)
  /-- A READ request returns up to 64 register values with the frame number (R443). Operands: the first address and
  COUNT. -/
  | read (req : Req) (addr : Word) (count : Nat)
  /-- A WRITE request applies its pairs in order to registers that have no row of their own (R456). Operand: the
  pairs of address and value. -/
  | write (req : Req) (pairs : List (Word × Word))
  /-- A BULK_READ returns bytes of an object (R454). Operands: the object, index, offset and length. -/
  | bulkRead (req : Req) (object : Byte) (index : BitVec 16) (offset : Word) (length : Nat)
  /-- A BULK_WRITE writes bytes into an object's staging area (R454). Operands: the object, index, offset and data. -/
  | bulkWrite (req : Req) (object : Byte) (index : BitVec 16) (offset : Word) (data : Bytes)
  /-- A SUBSCRIBE sets the block mask of the session's event pushes (R448). Operands: the connection and REQ_ID, and
  the block mask. -/
  | subscribe (req : Req) (mask : Word)
  /-- An ACCOUNT request adds, deletes or changes an account (R450). Operands: the connection and REQ_ID, OP, ROLE,
  name and password. -/
  | account (req : Req) (op role : Nat) (name password : Bytes)
  /-- A PASSWORD request changes the session's own password (R450). Operands: the connection and REQ_ID, the old and
  the new password. -/
  | password (req : Req) (old new : Bytes)
  /-- A KEEPALIVE is answered (R443). Operand: the connection and REQ_ID. -/
  | keepalive (req : Req)
  /-- A CLOSE ends the session and frees its index (R447). Operand: the connection and REQ_ID. -/
  | close (req : Req)
  /-- A malformed message is answered with BAD_FORMAT and its connection is closed (R442). Operands: the connection,
  the bytes of its header as far as they came, and its payload. -/
  | badMessage (conn : Nat) (header payload : Bytes)
  /-- A message of unknown type is answered with UNKNOWN_TYPE (R443). Operands: the connection and REQ_ID, and TYPE. -/
  | unknownMessage (req : Req) (type : Nat)
  /-- A session's transport is lost and the session becomes DETACHED (R447). Operand: the connection. -/
  | transportLost (conn : Nat)
  /-- No message for IDLE_TIMEOUT detaches a session (R447). Operand: the session. -/
  | idleTimeout (session : Fin 32)
  /-- 60 s in DETACHED frees the session (R447). Operand: the session. -/
  | detachedExpiry (session : Fin 32)
  /-- A source's lockout ends and its failure count restarts (R452). Operand: the source's IPv4 address. -/
  | lockoutEnd (source : Word)
  /-- 24 h without a failure returns a source's lockout count to 0 (R452). Operand: the source's IPv4 address. -/
  | lockoutDecay (source : Word)
  /-- SES_CMD CLOSE frees a named session (R447). Operand: the session to close. -/
  | sesCmdClose (req : Req) (session : Fin 32)
  /-- SES_CMD INSTALL_CERT installs the written site certificate (R455). -/
  | installCert (req : Req)
  /-- SES_CMD USE_FACTORY removes the site certificate (R455). -/
  | useFactory (req : Req)
  /-- SES_CMD UNLOCK clears the lockout table (R452). -/
  | unlock (req : Req)
  /-- A valid reference offset slews, locks, schedules a step or is held as suspect (R464). Operands: whether it is of domain time, and the offset,
  GPS time or domain time minus module time: the one formed in the frame (R463). -/
  | referenceOffset (domain : Bool) (ns : Int)
  /-- An offset above 2 µs in 5 consecutive frames returns LOCKED to SLEWING (R462). -/
  | timeUnlock
  /-- No valid reference for 1 s enters HOLDOVER or FREE (R462). -/
  | holdoverEnter
  /-- At a frame instant module time steps forward and the skipped frames run no stages (R466). -/
  | timeStep
  /-- After 60 s of consistent suspect offsets the offset of the fitted line is acted on (R467). -/
  | timeJumpResolve
  /-- TIME_DEGRADED sets or clears (R468). -/
  | timeDegraded
  /-- At each whole second with a valid solution Carafe updates its temperature bin (R470). Operand: the mean
  receiver clock drift over the second, ppb, as binary32; one that is not this mean does nothing. -/
  | carafeSample (ppb : F32)
  /-- At each whole day Carafe stores a daily value and refits aging (R471). -/
  | carafeDaily
  /-- Hourly, a changed Carafe model is written to P2 (R473). -/
  | carafeStore
  /-- TIM_CMD RESET_MODEL empties the working Carafe model in SERVICE (R474). -/
  | timCmdResetModel (req : Req)
  /-- At each whole second of module time PPS_OUT rises for 100 ms (R475). -/
  | ppsOut
  /-- A TCXO stop or deviation hands frame generation to the backup oscillator (R479). Operand: whether the TCXO
  deviates (true) or has stopped. -/
  | tcxoFault (deviation : Bool)
  /-- A client submits a write to the store, which admits or refuses it (R486). Operands: the submitting engine, the
  key, the size in bytes and the content. -/
  | aqfWriteSubmit (engine : Fin 16) (key : StoreKey) (size : Nat) (data : StoreData)
  /-- A write's COMMIT entry is complete in MRAM, and the write completes (R487). Operands: the tag of the write,
  and whether media prevents the commit. -/
  | aqfWriteCommit (tag : Word) (media : Bool)
  /-- A client reads the newest committed version of an object (R489). Operands: the key read, and what the flash
  read meets. -/
  | aqfRead (key : StoreKey) (fault : FlashFault)
  /-- Committed journal data is copied to flash in whole pages and the block map is updated (R490). Operands: the
  pages copied, the bytes of map updates, the highest and lowest and the mean erase counts after it, and what the operation
  meets. -/
  | journalDrain (pages extra : Nat) (erases : Erases) (eraseMean : F32) (fault : FlashFault)
  /-- The data of a low-count block is moved to balance erase counts once they differ by more than 1,000
  (R491). Operands: the bytes programmed, the highest and lowest and the mean erase counts after it, and what the operation meets. -/
  | wearRelocation (bytes : Nat) (erases : Erases) (eraseMean : F32) (fault : FlashFault)
  /-- V_RAIL below 16.5 V starts the flush, sheds PD3, learning and trace, and suspends flash (R518). Operand:
  V_RAIL. -/
  | powerFailWarning (volts : F32)
  /-- The power-fail or restart flush completes with its marker in MRAM (R496). -/
  | flushDone
  /-- V_RAIL at or above 17.5 V for 50 ms releases the module and resumes shed functions (R519). Operands: V_RAIL,
  and for how long it has stayed at or above 17.5 V. -/
  | powerRelease (volts : F32) (ms : Nat)
  /-- V_RAIL below 14.0 V switches every domain except PD0 off and holds reset (R516). Operand: V_RAIL. -/
  | powerReset (volts : F32)
  /-- An input below 18.0 V for 100 ms is reported (R520). Operands: the input, its voltage, V_RAIL, and for how
  long. -/
  | inputLow (input : Fin 2) (volts vRail : F32) (ms : Nat)
  /-- An input at or above 18.0 V for 1 s is restored (R520). Operands: the input, its voltage, and for how long. -/
  | inputRestored (input : Fin 2) (volts : F32) (ms : Nat)
  /-- A domain over its trip level for 100 µs is switched off and its engines are lost (R523). Operands: the domain,
  the current it draws, and for how long. -/
  | domainFault (dom : Fin 13) (amps : F32) (us : Nat)
  /-- 10 s after entry to DORMANT, PD4 and PD6 are switched off even with writes outstanding (R522). -/
  | dormantSwitchOffTimeout
  /-- At each SWEEP_MS instant the supervisor reads sensors 0 to 8 in order (R525). Operand: of each sensor in
  order, 0 and its reading in °C, or 1 for open or 3 for silent. -/
  | thermalSweep (readings : List (Fin 4 × F32))
  /-- At the end of a sweep the sensor and module bands are decided and their settings applied (R526). -/
  | sweepEnd
  /-- At the end of the grace the throttle is enforced (R528). -/
  | throttleEnforced
  /-- A background BIST slice runs and its signature is compared (R534). Operands: the unit, whether the slice's
  signature is the expected one, and the signature. -/
  | bgSlice (unit : Fin 24) (good : Bool) (sig : Word)
  /-- BST_CMD PARTIAL runs the non-destructive BIST of units 0 to 13 and 15 (R532). -/
  | bistPartial (req : Req)
  /-- BST_CMD FULL closes sessions, silences the field links, de-energises the pairs and tests every unit (R533).
  Operand: KEY. -/
  | bistFull (req : Req) (key : Byte)
  /-- A commanded BIST completes with its device signature (R533). Operand: the signature each unit yields, unit 0
  first. -/
  | bistDone (sigs : List Word)
  /-- A Sediment flush appends buffered records up to a cut as one journal transaction (R502). Operand: whether the
  journal write fails. -/
  | sedimentFlush (media : Bool)
  /-- A code bucket with suppressed occurrences gains a token and records their count (R503). Operand: the event
  code. -/
  | suppressed (code : BitVec 16)
  /-- Sediment's memory fails and recording continues in volatile form with last-words copies (R508). Operand: 0
  flush failing, 1 buffer ECC, 2 store state. -/
  | logFault (cause : Fin 3)
  /-- LOG_CMD CLEAR clears the Sediment record and starts a new epoch (R507). Operand: KEY. -/
  | logClear (req : Req) (key : Byte)
  /-- AQF_CMD EXPORT_PREPARE copies the learned state into a frozen export (R510). -/
  | exportPrepare (req : Req)
  /-- AQF_CMD IMPORT_COMMIT checks the staged export and writes the selected sections (R511). Operand: the section
  mask. -/
  | importCommit (req : Req) (mask : Fin 8)
  /-- AQF_CMD IMPORT_ABORT empties the import staging area (R511). -/
  | importAbort (req : Req)
  /-- AQF_CMD ARCHIVE_TRACE copies a finished trace into an archive entry in P5 (R512). -/
  | archiveTrace (req : Req)
  /-- AQF_CMD ARCHIVE_DELETE removes a named archive entry (R512). Operand: the identifier. -/
  | archiveDelete (req : Req) (entry : BitVec 16)
  /-- The first change of KEY_DET_L after phase 3 sets KEY_SWAPPED (R543). Operands: a key is now inserted, its
  content, and whether its block-protect bits are set. -/
  | keySwapped (there : Bool) (content : Bytes) (protected_ : Bool)
  /-- CFG_CMD CONFIRM commits the typed check value as the commissioned confirmation (R568). Operand: the P0 part of
  the commit can be written (R499). -/
  | confirm (req : Req) (p0Ok : Bool)
  /-- CFG_CMD WRITE_KEY checks the staged image and erases, programs and verifies the key (R566). Operand: KEY. -/
  | writeKey (req : Req) (key : Byte)
  /-- The key write completes with the header programmed and read back (R566). -/
  | keyWritten
  /-- A key write stops on power warning, media failure, verify mismatch, key removal or protection (R567).
  Operands: the cause (R570) and the phase reached (R566). -/
  | keyWriteFail (cause : Fin 6) (phase : Fin 6)
  /-- CFG_CMD DISCARD empties the image staging area (R565). -/
  | discard (req : Req)
  /-- At frame time 15 ms the output staging stage begins, and CC0 stages the commands, the hold values or the
  safe-stop ramp values in the output buffers for the 16 ms strobe (R45). Operand: the frame time in µs at which
  the staging is complete. -/
  | outputStaging (us : Nat)
  /-- A CAN port detects a bus error while receiving, counts it in ERR_FRAMES and raises its receive error counter,
  which can take the port to error-passive (R385). Operands: the port, and whether a dominant bit followed the
  error flag. -/
  | canErrorDetected (port : Fin 4) (dominant : Bool)
  /-- At a mode change out of DORMANT the next domain of the order PD4, PD6, PD5 is switched on 10 ms after the
  previous one (R522). -/
  | modeDomainSwitchOn
  /-- The always-on reset monitor of PD0 finds the supervisor engine SU no longer alive and acts on it (R32). -/
  | suResetMonitor
  /-- A TLS 1.3 KeyUpdate from a client on an established connection is accepted and answered (R440). Operand: the
  connection. -/
  | tlsKeyUpdate (conn : Nat)
deriving DecidableEq, Repr

end Sys2Proof
end

