-- ==== Sys2Proof/Decode.lean ====
section
/-!
DEFINITION. The command a word of the operation table spells. spec/opcode_table.json gives none of its 285 rows any bits, and
R20 to R24 and R442 to R443 give the commands no common word encoding: no word spells a command.
-/
namespace Sys2Proof

/-- The command that the word `w` of `nbits` bits spells by the table's bits: none, since no row of the table has bits. -/
def decodeTableWord (_nbits _w : Nat) : Option Instr := none

end Sys2Proof
end

