-- ==== Sys2Proof/Config.lean ====
section
/-!
DEFINITION. What the spec leaves open: constants without a body, so that no proof can know their value (assumption log 3).
Each is a value or a computation that the spec does not fix; a claim about the machine holds whatever they are. A constant
applied to a draw number (`State.free`) is a fresh value at each use.
-/
set_option autoImplicit false
namespace Sys2Proof.Config

/-- TTL a member puts into the Icxon frames it sends; R414 gives no value. -/
opaque icxTtl : Nat

/-- Row of a word in a memory (R44), whose size is not given: of the memory's code and the word address. -/
opaque memoryRow : Nat → Nat → Nat

/-- Fault code in FAULT_CLEARED of a contactor fault; R375 lists none. -/
opaque cfClearedCode : Nat

/-- Receive error counter after a good reception above 127: ISO 11898-1 allows 119 to 127 (R377, R385); taken modulo 9. -/
opaque recAfterPassive : Nat

/-- Sizes of objects that R483 names without a size: PROOF_LAST, MEMBER_ID, and the objects of P6 for a number of accounts. -/
opaque proofLastSize : Nat
opaque memberIdSize : Nat
opaque p6Size : Nat → Nat

/-- The same within what R483 leaves them: P0 holds PROOF_LAST and MEMBER_ID beside a confirmation of 64 bytes and a full change log, P6
holds its objects. -/
def proofLastBytes : Nat := proofLastSize % 262113
def memberIdBytes : Nat := memberIdSize % 262113
def p6Bytes (accounts : Nat) : Nat := p6Size accounts % 262145

/-- The frequency of the reference that y_est follows in a frame of LOCKED, in ppb, by a law R464 does not give; of the old y_est in
ppb, the reference offset in ns and the time since the last one in s. -/
opaque followFreq : Rat → Rat → Rat → Rat

/-- Which of two nearest Carafe bins with a count gives the value of a bin that lies between them (R470): the colder. -/
opaque binColder : Bool

/-- Whether two failed HS pulses of an energised pair come of an external feed besides a switch that stays closed: the readback is the same
(R353, R366); of the number of free values drawn. -/
opaque pairFed : Nat → Bool

/-- Where the 52 MHz edge nearest the instant of a servo tick or of the release lies, ns after it (R461); of the instant. -/
opaque strobeEdge : Nat → Rat

/-- Ethernet frames beyond the first that a message of a session takes, acknowledgements among them (R406, R411): sent or received, of the
connection, the port's count and the module time. -/
opaque tcpFrames : Bool → Nat → Nat → Nat → Nat

/-- F beyond the centre of bin 80, where R470 states no value; of the temperature. -/
opaque carafeBeyond : Rat → Rat

/-- Real functions the rules use without naming a computation: square and cube root, sine, cosine and four-quadrant arc tangent with
angles in turns, and natural logarithm (R11, R120, R134, R169). -/
opaque sqrt : Rat → Rat
opaque cbrt : Rat → Rat
opaque sinT : Rat → Rat
opaque cosT : Rat → Rat
opaque atan2T : Rat → Rat → Rat
opaque ln : Rat → Rat

/-- WGS 84 latitude and longitude in degrees and height in metres of a point in earth-centred coordinates (R7, R139). -/
opaque geoOfEcef : Rat → Rat → Rat → Rat × Rat × Rat

/-- Size of the hot-start object of P2, which R483 names without a size. -/
opaque hotStartBytes : Nat

/-- TCXO uncertainty in ppm with a learned drift model (R101), for which no value is given. -/
opaque tcxoUncertainty : Rat

/-- Limit of the chi-square test at false-alarm probability 10⁻⁵, of its degrees of freedom (R113). -/
opaque chi2Limit : Nat → Rat

/-- Order in which the queue arbiter takes search requests of one priority that arrive at the same instant (R101): true when the
one given second is taken first; of their channels. -/
opaque acqArbiter : Nat → Nat → Bool

/-- Discretisation of the observer's model (R161), which the rules do not give: the states after a time in s from the rate of change that R161
states; and the covariance from its Jacobian, the old covariance, the process noise and the time. -/
opaque odeStep : (List Rat → List Rat) → List Rat → Rat → List Rat
opaque covStep : List Rat → List Rat → List Rat → Rat → List Rat

/-- Covariance with which the observer starts (R162), of the variances and covariance of the position peak, and with which ψ and r are
re-initialised (R165), of the old covariance and the variance of the heading peak. -/
opaque obsStartCov : Rat → Rat → Rat → List Rat
opaque obsReinitCov : List Rat → Rat → List Rat

/-- Variances with which GNSS velocity and yaw rate enter the observer (R161), in m²/s² and rad²/s². -/
opaque velVariance : Rat
opaque yawVariance : Rat

/-- Decimals of the numbers in output sentences, which R403 does not give: of the minutes of latitude and longitude (0), the heading (1) and the
rate of turn (2). -/
opaque sentenceDecimals : Nat → Nat

/-- Fields of GGA after HDOP, of the antenna altitude, and of ZDA after the year, which R403 does not name. -/
opaque ggaTail : Rat → Bytes
opaque zdaTail : Bytes

/-- Elimination order of the Newton system, which the structure fixes (R205): of the structure and a row, its rank. -/
opaque orderKey : Machine.StructCfg → Machine.KRow → Nat

/-- Row and column scale factors of the equilibration (R203): of the structure, the data vector, and an equality row, an inequality row or a
variable. One that is not a positive finite number counts as 1. -/
opaque scaleEq : Machine.StructCfg → List F64 → Nat → F64
opaque scaleRow : Machine.StructCfg → List F64 → Nat → F64
opaque scaleVar : Machine.StructCfg → List F64 → Nat → F64

/-- Rows and columns of the Newton system whose block stands, dense and by rows, at an operand of the schedule (R214), a byte offset with its
region bit; no column for a vector. Berpin lays the blocks out. -/
opaque opPlace : Machine.StructCfg → Nat → List Machine.KRow × List Machine.KRow

/-- Iterations a running solve has ended at an instant at which something else happens (R194, R197): their duration is not fixed. -/
opaque itersRun : Nat → Nat

/-- Structure cache of an engine after it has taken a structure (R175): 64 KB, shared with the sequencer, by a policy that is not given; of
the indices held and the one taken. -/
opaque cacheAfter : List Nat → Nat → List Nat

/-- Throughput of a solver engine measured in a second, GFLOP/s (R35, R220); applied to a draw. -/
opaque engineRate : Nat → Rat

/-- Exponential of a square matrix, row by row, by which the dynamics of R237 are discretised. -/
opaque expm : List (List Rat) → List (List Rat)

/-- Root force and moment of a plan beyond its last stage, where R239 states no interpolation: of the last stage's and the time in s
beyond it. -/
opaque planBeyond : Machine.Demand → Rat → Machine.Demand

/-- Weighted least squares of R250 where its normal equations have no single solution: of the columns (weight, linear term and the three
equality coefficients each) and of the demand. -/
opaque wlsSingular : List (Rat × Rat × Rat × Rat × Rat) → Machine.Demand → List Rat

/-- Order in which an arbiter takes two events of the same instant where the rules leave it open (R47, R311); applied to a draw. -/
opaque arbiterFirst : Nat → Bool

/-- Which of two bins at the same distance supplies a learned rate (R283): the one clockwise. -/
opaque nearBinClockwise : Bool

/-- LEARNED_TURNS of an allowed arc without a learnable bin (R282), for which no value is stated. -/
opaque turnsNoBins : Nat

/-- Trace node AZ_VLEARN while the servo is in STOP and has no direction (R295): of the learned rates CW and CCW. -/
opaque traceStopRate : Rat → Rat → Rat

/-- Number of parts in which a LEAD sends STATE (R420), less one; R420 gives its content and not its size. -/
opaque stateParts : Nat

/-- Bytes of the payload of a COMMAND and of a part of STATE (R415, R420), whose layouts are not given: of their content. The first 1,024 are sent. -/
opaque commandBytes : Machine.DomainCmd → List (BitVec 8)
opaque stateBytes : Nat → Machine.StateXfer → List (BitVec 8)

/-- EXTERNAL group that stands for the member slot of a subordinate domain (R436); no record of the parent's image names it. -/
opaque extGroupOfSlot : Nat → Nat

/-- Messages that other domains on the link put into a window (R418); no record of one domain's image counts them. -/
opaque otherMessages : Nat

/-- Index and epoch of the LEAD behind a foreign MODULE_STATUS (R432, R439), which the frame does not carry; of a draw. -/
opaque foreignLead : Nat → Nat
opaque foreignEpoch : Nat → Nat

/-- Factor by which a domain switch's trip level differs from its nominal value, kept within 0.9 to 1.1 where it is used (R523). -/
opaque tripFactor : Nat → Rat

/-- Numbers of the module's random generator (R445, R450): a resumption token of 16 bytes and a salt of 16 bytes; of a draw. -/
opaque token : Nat → Nat
opaque salt : Nat → Nat

/-- Which of the supported parameters offered a TLS handshake takes (R440), which does not say; of a draw, and taken modulo their number. -/
opaque tlsChoice : Nat → Nat

/-- The factory certificate of a subject common name and the certificate request for the device key, DER (R455); the key itself never leaves the module. -/
opaque factoryCert : Bytes → Bytes
opaque csr : Bytes

/-- What R455 asks of a certificate's DER bytes: it parses as an ECDSA P-256 certificate, and its public key is the device key. -/
opaque certParses : Bytes → Bool
opaque certDeviceKey : Bytes → Bool

/-- Cause byte of SESSION_CLOSE for a session that a full BIST closes; R459 names none (R533). -/
opaque bistCloseCause : Nat

/-- Layouts that the spec leaves to the objects (R123, R171, R509): the hot-start data and a reference model with its key, and the reading
of such bytes; none when they spell none. -/
opaque hotBytes : Machine.HotStart → Bytes
opaque hotOf : Bytes → Option Machine.HotStart
opaque modelBytes : Machine.StoreKey → Machine.RefModel → Bytes
opaque modelOf : Bytes → Option (Machine.StoreKey × Machine.RefModel)

/-- How long a phase (1 to 4) of a key write that began at a time takes, in ns, and the share in per cent of the write done so long after
its start: the rules give their greatest values only (R566, R569). -/
opaque keyPhaseNs : Nat → Nat → Nat
opaque keyShare : Nat → Nat → Nat

/-- A byte of a staging area below bytes written that none was written to (R511, R565); of its offset. -/
opaque stagedGap : Nat → Byte

end Sys2Proof.Config
end

