-- ==== Sys2Proof/Machine/Num.lean ====
section
/-!
DEFINITION. Numbers and byte layouts of the interfaces: bit fields, little-endian fields (R17), saturating and serial
counters (R15), IEEE 754 binary32 and binary64 (R16), bam16 (R10, R11) and the CRCs of R114, R321, R390, R546 and R180.
-/
set_option autoImplicit false
namespace Sys2Proof.Machine

/-- Field [hi:lo] of a register word (R18). -/
def field (w : Word) (hi lo : Nat) : Nat := (w.toNat / 2 ^ lo) % 2 ^ (hi + 1 - lo)

/-- Bit i of a register word (R18). -/
def bit (w : Word) (i : Nat) : Bool := w.getLsbD i

/-- A register word from its fields, each a value, its lowest bit and its width (R18, R23). -/
def pack (fs : List (Nat × Nat × Nat)) : Word :=
  BitVec.ofNat 32 (fs.foldl (fun a f => a + (f.1 % 2 ^ f.2.2) * 2 ^ f.2.1) 0)

/-- 1 for true. -/
def b2n (b : Bool) : Nat := if b then 1 else 0

/-- Bits as a number, bit 0 first. -/
def bitsToNat (l : List Bool) : Nat := l.foldr (fun b n => b2n b + 2 * n) 0

/-- A register word of a number, high bits dropped. -/
def wordOf (n : Nat) : Word := BitVec.ofNat 32 n

/-- Low word of a 64-bit value (R20). -/
def loWord (n : Nat) : Word := BitVec.ofNat 32 n

/-- High word of a 64-bit value (R20). -/
def hiWord (n : Nat) : Word := BitVec.ofNat 32 (n / 2 ^ 32)

/-- A word read as a signed number. -/
def signedOf (w : Word) : Int := w.toInt

/-- The word of a signed number. -/
def wordOfInt (i : Int) : Word := BitVec.ofInt 32 i

/-- A counter of `w` bits that saturates (R57). -/
def satAdd (w x n : Nat) : Nat := min (x + n) (2 ^ w - 1)

/-- One more in a saturating counter of `w` bits (R57). -/
def satInc (w x : Nat) : Nat := satAdd w x 1

/-- Saturation at 2^w − 1. -/
def sat (w x : Nat) : Nat := min x (2 ^ w - 1)

/-- Difference of two serial numbers of 32 bits, read as signed (R15). -/
def serialDiff (a b : Nat) : Int := (BitVec.ofNat 32 a - BitVec.ofNat 32 b).toInt

/-- Serial number a is later than b (R15). -/
def serialLater (a b : Nat) : Bool := decide (0 < serialDiff a b)

/-! ### Little-endian fields (R17) -/

/-- The low k bytes of n, least significant first. -/
def leBytes : Nat → Nat → Bytes
  | 0, _ => []
  | k + 1, n => BitVec.ofNat 8 n :: leBytes k (n / 256)

/-- The number whose bytes these are, least significant first. -/
def leNat : Bytes → Nat
  | [] => 0
  | b :: bs => b.toNat + 256 * leNat bs

/-- Little-endian field of k bytes at offset i; bytes beyond the end read 0. -/
def leAt (b : Bytes) (i k : Nat) : Nat := leNat ((b.drop i).take k)

/-- Byte at offset i, 0 beyond the end. -/
def byteAt (b : Bytes) (i : Nat) : Nat := (b.getD i 0).toNat

/-- k zero bytes. -/
def zeros (k : Nat) : Bytes := List.replicate k 0

/-- Two's-complement value of the low k bits of n. -/
def toSigned (k n : Nat) : Int := let m : Nat := n % 2 ^ k; if m < 2 ^ (k - 1) then (m : Int) else (m : Int) - ((2 ^ k : Nat) : Int)

/-- Two's-complement code of i in k bits. -/
def ofSigned (k : Nat) (i : Int) : Nat := (i % ((2 ^ k : Nat) : Int)).toNat

/-! ### Rational arithmetic -/

/-- Rounding to nearest, ties to even (R11). -/
def roundEven (q : Rat) : Int :=
  let f := q.floor
  let r := q - (f : Rat)
  if r < 1 / 2 then f else if 1 / 2 < r then f + 1 else if f % 2 = 0 then f else f + 1

/-- |q|. -/
def absQ (q : Rat) : Rat := if q < 0 then -q else q

/-- Sign of q: −1, 0 or 1. -/
def signQ (q : Rat) : Rat := if q < 0 then -1 else if 0 < q then 1 else 0

/-- The larger. -/
def maxQ (a b : Rat) : Rat := if a ≤ b then b else a

/-- The smaller. -/
def minQ (a b : Rat) : Rat := if a ≤ b then a else b

/-- q limited to lo … hi. -/
def clampQ (lo hi q : Rat) : Rat := maxQ lo (minQ hi q)

/-- Sum of a list. -/
def sumQ (l : List Rat) : Rat := l.foldl (· + ·) 0

/-- Inner product of vectors of rational numbers. -/
def dotQ (a b : List Rat) : Rat := sumQ ((a.zip b).map fun p => p.1 * p.2)

/-- Largest of a list, at least `d`. -/
def maxList (d : Rat) (l : List Rat) : Rat := l.foldl maxQ d

/-- Whole part of a non-negative number; 0 for a negative one. -/
def floorNat (q : Rat) : Nat := q.floor.toNat

/-- The smallest whole number not below a number; 0 for a negative one. -/
def ceilNat (q : Rat) : Nat := (-(-q).floor).toNat

/-- Number of a rational in ns from seconds, rounded down. -/
def nsOf (sec : Rat) : Nat := floorNat (sec * 1000000000)

/-- Seconds of a duration in ns. -/
def secOf (ns : Nat) : Rat := (ns : Rat) / 1000000000

/-- Milliseconds of a duration in ns, whole (R59). -/
def msOf (ns : Nat) : Nat := ns / 1000000

/-! ### IEEE 754 (R16) -/

/-- Biased exponent of a binary32. -/
def f32Exp (w : F32) : Nat := (w.toNat / 2 ^ 23) % 256

/-- Neither NaN nor infinity (R16). -/
def f32Finite (w : F32) : Bool := decide (f32Exp w ≠ 255)

/-- 2^e for a signed exponent. -/
def pow2 (e : Int) : Rat := if 0 ≤ e then ((2 ^ e.toNat : Nat) : Rat) else 1 / ((2 ^ (-e).toNat : Nat) : Rat)

/-- The number a binary32 denotes; 0 for a NaN or an infinity, which R16 and R391 keep out. -/
def f32Val (w : F32) : Rat :=
  let m : Nat := w.toNat % 2 ^ 23
  let e : Nat := f32Exp w
  let mag : Rat :=
    if e = 255 then 0
    else if e = 0 then (m : Rat) * pow2 (-149)
    else (((m + 2 ^ 23 : Nat)) : Rat) * pow2 ((e : Int) - 150)
  if w.getLsbD 31 then -mag else mag

/-- floor(log2 q) for positive q. -/
def log2Q (q : Rat) : Int :=
  let e : Int := (Nat.log2 q.num.natAbs : Int) - (Nat.log2 q.den : Int)
  if pow2 e ≤ q then (if pow2 (e + 1) ≤ q then e + 1 else e) else e - 1

/-- The binary32 nearest to q, ties to even; beyond the largest finite value, infinity. -/
def f32Of (q : Rat) : F32 :=
  if q = 0 then 0
  else
    let s : Nat := if q < 0 then 2 ^ 31 else 0
    let a := absQ q
    let e := max (log2Q a) (-126)
    let m := (roundEven (a * pow2 (23 - e))).toNat
    let (m, e) := if 2 ^ 24 ≤ m then (m / 2, e + 1) else (m, e)
    if 127 < e then BitVec.ofNat 32 (s + 255 * 2 ^ 23)
    else if m < 2 ^ 23 then BitVec.ofNat 32 (s + m)
    else BitVec.ofNat 32 (s + (e + 127).toNat * 2 ^ 23 + (m - 2 ^ 23))

/-- Neither NaN nor infinity, for a binary64 bit pattern. -/
def f64Finite (n : Nat) : Bool := decide ((n / 2 ^ 52) % 2048 ≠ 2047)

/-- The number a binary64 bit pattern denotes; 0 for a NaN or an infinity. -/
def f64Val (n : Nat) : Rat :=
  let m : Nat := n % 2 ^ 52
  let e : Nat := (n / 2 ^ 52) % 2048
  let mag : Rat :=
    if e = 2047 then 0
    else if e = 0 then (m : Rat) * pow2 (-1074)
    else ((m + 2 ^ 52 : Nat) : Rat) * pow2 ((e : Int) - 1075)
  if n / 2 ^ 63 % 2 = 1 then -mag else mag

/-- The binary64 bit pattern nearest to q, ties to even; beyond the largest finite value, infinity. -/
def f64Of (q : Rat) : Nat :=
  if q = 0 then 0
  else
    let s : Nat := if q < 0 then 2 ^ 63 else 0
    let a := absQ q
    let e := max (log2Q a) (-1022)
    let m := (roundEven (a * pow2 (52 - e))).toNat
    let (m, e) := if 2 ^ 53 ≤ m then (m / 2, e + 1) else (m, e)
    if 1023 < e then s + 2047 * 2 ^ 52
    else if m < 2 ^ 52 then s + m
    else s + (e + 1023).toNat * 2 ^ 52 + (m - 2 ^ 52)

/-- The binary32 at offset i of a byte string. -/
def f32At (b : Bytes) (i : Nat) : F32 := BitVec.ofNat 32 (leAt b i 4)

/-- The number at offset i of a byte string. -/
def ratAt (b : Bytes) (i : Nat) : Rat := f32Val (f32At b i)

/-- The four bytes of q as binary32. -/
def f32Bytes (q : Rat) : Bytes := leBytes 4 (f32Of q).toNat

/-! ### bam16 (R10, R11) -/

/-- 2π to the precision of binary64 (assumption log 2). -/
def twoPi : Rat := 7074237752028440 / 1125899906842624

/-- The part of an angle in turns that lies in 0 … 1. -/
def turnFrac (t : Rat) : Rat := t - (t.floor : Rat)

/-- An angle in turns wrapped to −1/2 … 1/2. -/
def wrapTurn (t : Rat) : Rat := let f := turnFrac t; if f < 1 / 2 then f else f - 1

/-- bam16 of an angle in turns (R11). -/
def bamOf (t : Rat) : Nat := (roundEven (t * 65536) % 65536).toNat

/-- Turns of an absolute bam16 (R10). -/
def turnsOf (b : Nat) : Rat := ((b % 65536 : Nat) : Rat) / 65536

/-- Signed bam16 difference a − b (R10). -/
def bamDiff (a b : Nat) : Int := toSigned 16 (a + 65536 - b % 65536)

/-- Radians of turns. -/
def radOf (t : Rat) : Rat := t * twoPi

/-! ### CRCs -/

/-- One bit of a reflected CRC. -/
def crcStepR (poly : Nat) (c : Nat) : Nat := if c % 2 = 1 then (c / 2) ^^^ poly else c / 2

/-- One byte of a reflected CRC. -/
def crcByteR (poly c : Nat) (b : Byte) : Nat :=
  let c := c ^^^ b.toNat
  crcStepR poly (crcStepR poly (crcStepR poly (crcStepR poly
    (crcStepR poly (crcStepR poly (crcStepR poly (crcStepR poly c)))))))

/-- CRC-32C (Castagnoli, R546). -/
def crc32c (b : Bytes) : Nat := (b.foldl (crcByteR 0x82F63B78) 0xFFFFFFFF) ^^^ 0xFFFFFFFF

/-- One bit of a CRC of width w that is not reflected. -/
def crcStep (w poly c : Nat) : Nat :=
  if 2 ^ (w - 1) ≤ c then ((c * 2) % 2 ^ w) ^^^ poly else c * 2

/-- One byte of a CRC of width w that is not reflected, most significant bit first. -/
def crcByte (w poly c : Nat) (b : Byte) : Nat :=
  let c := c ^^^ (b.toNat * 2 ^ (w - 8))
  crcStep w poly (crcStep w poly (crcStep w poly (crcStep w poly
    (crcStep w poly (crcStep w poly (crcStep w poly (crcStep w poly c)))))))

/-- CRC-8 of the Luquel frames: polynomial 0x1D, initial value 0xFF, final XOR 0xFF, not reflected (R390). -/
def crc8 (b : Bytes) : Nat := (b.foldl (crcByte 8 0x1D) 0xFF) ^^^ 0xFF

/-- CRC-24Q of RTCM 10403.3 (R114). -/
def crc24q (b : Bytes) : Nat := b.foldl (crcByte 24 0x864CFB) 0

/-- CRC-64 of the structure signature: ECMA-182 polynomial (R180). -/
def crc64 (b : Bytes) : Nat := b.foldl (crcByte 64 0x42F0E1EBA9EA3693) 0

/-! ### Lists -/

/-- The i-th entry replaced by its image under f; an index beyond the end changes nothing. -/
def updAt {α : Type} (l : List α) (i : Nat) (f : α → α) : List α := l.modify i f

/-- The first value under a key. -/
def lookupK {β : Type} : List (Nat × β) → Nat → Option β
  | [], _ => none
  | (k, v) :: l, i => if k = i then some v else lookupK l i

/-- The value under a key set. -/
def insertK {β : Type} (l : List (Nat × β)) (i : Nat) (v : β) : List (Nat × β) :=
  (l.filter (fun p => p.1 ≠ i)) ++ [(i, v)]

/-- The last n entries. -/
def keepLast {α : Type} (n : Nat) (l : List α) : List α := l.drop (l.length - n)

/-- The numbers i below n with p i. -/
def indices (n : Nat) (p : Nat → Bool) : List Nat := (List.range n).filter p

/-- Number of bits set. -/
def popcount {w : Nat} (v : BitVec w) : Nat := ((List.range w).filter (fun i => v.getLsbD i)).length

/-- v with bit i set to b. -/
def setBit {w : Nat} (v : BitVec w) (i : Nat) (b : Bool) : BitVec w :=
  if b then v ||| BitVec.ofNat w (2 ^ i) else v &&& ~~~ BitVec.ofNat w (2 ^ i)

/-- The vector of n bits whose bit i is p i. -/
def maskOf (w : Nat) (p : Nat → Bool) : BitVec w := BitVec.ofNat w (bitsToNat ((List.range w).map p))

/-- Nanoseconds of a UTC day. -/
def dayNs : Nat := 86400000000000

end Sys2Proof.Machine
end

