-- ==== Sys2Proof/Machine/State.lean ====
section
/-!
DEFINITION. The state of the LQ-4816: one plain record per register block of R24, the headers of all blocks, the tag pool, the
model's own counter of free values, and the queue of the commands that are waiting. Also the reasons a step can stop.
-/
namespace Sys2Proof.Machine

/-- Faults. The spec names no condition in which the module stops with a fault, so none is declared: safe, since no step of
the model can end in one. -/
inductive Fault where
deriving DecidableEq, Repr

/-- Refusals. -/
inductive Refusal where
  /-- Raised by an arm of `exec` whose meaning has not been written: safe, the model stops. -/
  | notModelled (mnemonic : String)
deriving DecidableEq, Repr

/-- The state of the module. -/
structure State where
  /-- Header registers by block number (R57); numbers R24 does not assign are never used. -/
  hdr : List BlockHeader := List.replicate 32 {}
  /-- The tag pool (R53 to R55). -/
  tags : TagPool := {}
  /-- Sediment, block LOG (R500 to R508). -/
  log : LogState := {}
  /-- Supervisor, block SUP (R29 to R96, R536). -/
  sup : SupState := {}
  /-- Supply and domains, block PWR (R516 to R523). -/
  pwr : PwrState := {}
  /-- Thermal, block THM (R524 to R529). -/
  thm : ThmState := {}
  /-- Built-in self-test, block BST (R530 to R535). -/
  bst : BstState := {}
  /-- Time base, block TIM (R460 to R480). -/
  tim : TimState := {}
  /-- GNSS baseband, block GNS (R97 to R129). -/
  gns : GnsState := {}
  /-- Reference fusion and observer, block FUS (R130 to R174). -/
  fus : FusState := {}
  /-- Percolator, block SLV (R175 to R221). -/
  slv : SlvState := {}
  /-- Position control and allocation, block CTL (R222 to R262). -/
  ctl : CtlState := {}
  /-- Thruster servo loops, block SRV (R263 to R298). -/
  srv : SrvState := {}
  /-- Signal conditioning, block SIG (R299 to R319). -/
  sig : SigState := {}
  /-- Field I/O, block FIO (R320 to R341). -/
  fio : FioState := {}
  /-- Safety channel, block SAF (R342 to R375). -/
  saf : SafState := {}
  /-- CAN FD ports, block CAN (R376 to R398). -/
  can : CanState := {}
  /-- Serial ports, block SER (R399 to R404). -/
  ser : SerState := {}
  /-- Ethernet, block ETH (R405 to R408). -/
  eth : EthState := {}
  /-- Sessions, block SES (R440 to R459). -/
  ses : SesState := {}
  /-- Icxon link and domain, block ICX (R413 to R439). -/
  icx : IcxState := {}
  /-- Aquifer store, block AQF (R482 to R499, R509 to R513). -/
  aqf : AqfState := {}
  /-- Configuration, block CFG (R541 to R570). -/
  cfg : CfgState := {}
  /-- The model's own counter of free values drawn from Config (assumption log 3); no register of the module. -/
  free : Nat := 0
  /-- Commands that wait, first in first out. -/
  pending : List Sys2Proof.Instr := []
deriving DecidableEq, Repr

/-- The machine right after reset: power on, PD0 alone powered, start-up phase 1 (R77, R95, R537). -/
def State.reset : State := {}

end Sys2Proof.Machine
end

