-- ==== Sys2Proof/Machine/Ops.lean ====
section
/-!
DEFINITION. The operations every meaning shares: changing one part of the state, reading the time and the configuration, and
raising an event, which counts it in its block's header (R57) and offers its record to Sediment (R500 to R508).
-/
set_option autoImplicit false
namespace Sys2Proof.Machine

/-- The state with its `hdr` part changed by f. -/
def State.modHdr (f : List BlockHeader → List BlockHeader) (s : State) : State := { s with hdr := f s.hdr }

/-- The state with its `tags` part changed by f. -/
def State.modTags (f : TagPool → TagPool) (s : State) : State := { s with tags := f s.tags }

/-- The state with its `log` part changed by f. -/
def State.modLog (f : LogState → LogState) (s : State) : State := { s with log := f s.log }

/-- The state with its `sup` part changed by f. -/
def State.modSup (f : SupState → SupState) (s : State) : State := { s with sup := f s.sup }

/-- The state with its `pwr` part changed by f. -/
def State.modPwr (f : PwrState → PwrState) (s : State) : State := { s with pwr := f s.pwr }

/-- The state with its `thm` part changed by f. -/
def State.modThm (f : ThmState → ThmState) (s : State) : State := { s with thm := f s.thm }

/-- The state with its `bst` part changed by f. -/
def State.modBst (f : BstState → BstState) (s : State) : State := { s with bst := f s.bst }

/-- The state with its `tim` part changed by f. -/
def State.modTim (f : TimState → TimState) (s : State) : State := { s with tim := f s.tim }

/-- The state with its `gns` part changed by f. -/
def State.modGns (f : GnsState → GnsState) (s : State) : State := { s with gns := f s.gns }

/-- The state with its `fus` part changed by f. -/
def State.modFus (f : FusState → FusState) (s : State) : State := { s with fus := f s.fus }

/-- The state with its `slv` part changed by f. -/
def State.modSlv (f : SlvState → SlvState) (s : State) : State := { s with slv := f s.slv }

/-- The state with its `ctl` part changed by f. -/
def State.modCtl (f : CtlState → CtlState) (s : State) : State := { s with ctl := f s.ctl }

/-- The state with its `srv` part changed by f. -/
def State.modSrv (f : SrvState → SrvState) (s : State) : State := { s with srv := f s.srv }

/-- The state with its `sig` part changed by f. -/
def State.modSig (f : SigState → SigState) (s : State) : State := { s with sig := f s.sig }

/-- The state with its `fio` part changed by f. -/
def State.modFio (f : FioState → FioState) (s : State) : State := { s with fio := f s.fio }

/-- The state with its `saf` part changed by f. -/
def State.modSaf (f : SafState → SafState) (s : State) : State := { s with saf := f s.saf }

/-- The state with its `can` part changed by f. -/
def State.modCan (f : CanState → CanState) (s : State) : State := { s with can := f s.can }

/-- The state with its `ser` part changed by f. -/
def State.modSer (f : SerState → SerState) (s : State) : State := { s with ser := f s.ser }

/-- The state with its `eth` part changed by f. -/
def State.modEth (f : EthState → EthState) (s : State) : State := { s with eth := f s.eth }

/-- The state with its `ses` part changed by f. -/
def State.modSes (f : SesState → SesState) (s : State) : State := { s with ses := f s.ses }

/-- The state with its `icx` part changed by f. -/
def State.modIcx (f : IcxState → IcxState) (s : State) : State := { s with icx := f s.icx }

/-- The state with its `aqf` part changed by f. -/
def State.modAqf (f : AqfState → AqfState) (s : State) : State := { s with aqf := f s.aqf }

/-- The state with its `cfg` part changed by f. -/
def State.modCfg (f : CfgState → CfgState) (s : State) : State := { s with cfg := f s.cfg }

/-! ### Time and configuration -/

/-- Module time now (R12). -/
def State.now (s : State) : Nat := s.tim.now

/-- Frame number (R14). -/
def State.frame (s : State) : Nat := (s.tim.now / 20000000) % 2 ^ 32

/-- The residual of a strobe, ns: the 52 MHz edge lies within ±9.6 ns of the instant (R461). -/
def strobeRes (ns : Rat) : Rat := maxQ (-96 / 10) (minQ (96 / 10) ns)

/-- Optics are fitted on an Icxon port (R2): port C's on the LQ-4816-F alone. -/
def State.portFitted (s : State) (k : Nat) : Bool := decide (k < 2) || s.sup.variantF

/-- The Icxon link may start: not with an image that assigns a port without optics (R3, R79 bit 6). -/
def State.linkAllowed (s : State) : Bool := !s.sup.startFault.getLsbD 6

/-- Frame number of a module time (R14). -/
def frameOf (t : Nat) : Nat := (t / 20000000) % 2 ^ 32

/-- Power domain PDd is on (R537). -/
def State.domOn (s : State) (d : Nat) : Bool := s.pwr.domOn.getLsbD d

/-- The image in force; a module without one runs on the empty image (R79, R564). -/
def State.image (s : State) : Image := s.cfg.image.getD {}

/-- The scalars in force (R552). -/
def State.scalars (s : State) : Scalars := s.image.scalars

/-- Draws a fresh index for a free value of Config (assumption log 3). -/
def State.draw (s : State) : State := { s with free := s.free + 1 }

/-! ### Sediment's arbiter (R500 to R508) -/

/-- The event-table entry of a code: the image's, or the default of R503. -/
def State.eventEntry (s : State) (code : Nat) : EventCfg :=
  match s.cfg.image with
  | some im => (im.events.find? (fun e => e.code == code)).getD { code := code }
  | none => { code := code }

/-- The bucket of a code brought up to date (R503): one token every 60/RATE s while below BURST. -/
def refillBucket (e : EventCfg) (now : Nat) (b : Bucket) : Bucket :=
  let t := min b.tokens e.burst
  let c := b.credit + (now - b.at_) * e.rate
  let g := t + c / 60000000000
  if e.burst ≤ g then { b with tokens := e.burst, credit := 0, at_ := now }
  else { b with tokens := g, credit := c % 60000000000, at_ := now }

/-- The bucket of a code up to date; a code without an entry has a full bucket (R503). -/
def bucketAt (l : LogState) (e : EventCfg) (now : Nat) : Bucket :=
  match l.buckets.find? (fun b => b.code == e.code) with
  | some b => refillBucket e now b
  | none => { code := e.code, tokens := e.burst, at_ := now }

/-- The bucket of a code replaced. -/
def putBucket (l : LogState) (b : Bucket) : LogState :=
  { l with buckets := l.buckets.filter (fun x => x.code != b.code) ++ [b] }

/-- The global bucket brought up to date: BURST 4,096, RATE 3,840 per minute (R504). -/
def refillGlobal (now : Nat) (l : LogState) : LogState :=
  let c := l.globalCredit + (now - l.globalAt) * 3840
  let g := l.globalTokens + c / 60000000000
  if 4096 ≤ g then { l with globalTokens := 4096, globalCredit := 0, globalAt := now }
  else { l with globalTokens := g, globalCredit := c % 60000000000, globalAt := now }

/-- A record enters the buffer with the next SEQ (R501, R502), or is dropped when every place holds an unflushed record. With
VOLATILE_ONLY the oldest record gives way instead (R508), and a class FAULT record is copied to the last-words area. -/
def bufferPut (l : LogState) (time code source : Nat) (data : Bytes) (fault : Bool) : LogState :=
  if 4096 ≤ l.unflushed && !l.volatileOnly then
    { l with droppedCount := satInc 32 l.droppedCount, dropPending := satInc 32 l.dropPending }
  else
    let r : SedRecord := { time := time, code := code, source := source, seq := (l.seq + 1) % 2 ^ 32, data := data }
    let full := decide (4096 ≤ l.unflushed)
    let copy := l.logFault && fault && l.lastWordsOk
    { l with
      seq := r.seq
      buffer := keepLast 4096 (l.buffer ++ [r])
      unflushed := min 4096 (l.unflushed + 1)
      droppedCount := if full then satInc 32 l.droppedCount else l.droppedCount
      dropPending := if full then satInc 32 l.dropPending else l.dropPending
      sinceCut := l.sinceCut + 1
      flushDue := l.flushDue || fault || decide (512 ≤ l.sinceCut + 1)
      lastWords := if copy then
          (if l.lastSlot < l.lastWords.length then l.lastWords.set l.lastSlot r
           else l.lastWords ++ List.replicate (l.lastSlot - l.lastWords.length) {} ++ [r])
        else l.lastWords
      lastSlot := if copy then (if l.lastSlot = 63 then 1 else l.lastSlot + 1) else l.lastSlot }

/-- A token is taken from the global bucket when one exists (R504). -/
def takeGlobal (l : LogState) : LogState := { l with globalTokens := l.globalTokens - 1 }

/-- The SUPPRESSED record of a code's pending count; it takes a token of that code's bucket and a global one when one exists
(R503, R504). -/
def reportSuppressed (frame : Nat) (cls : Nat) (l : LogState) (b : Bucket) : LogState × Bucket :=
  (bufferPut (takeGlobal l) b.suppLast 0x1B11 (0x1B00 + b.suppInst)
      (leBytes 4 frame ++ leBytes 2 b.code ++ leBytes 2 (sat 16 b.supp) ++ leBytes 8 b.suppFirst) (decide (cls = 2)),
    { b with tokens := b.tokens - 1, supp := 0 })

/-- An ordinary occurrence of code `e.code` at the arbiter (R503, R504): recorded with a token of its code and a global one, or
suppressed and counted. A suppressed count pending on the code takes the first token first. -/
def arbitrate (e : EventCfg) (supCls : Nat) (now frame inst : Nat) (data : Bytes) (l0 : LogState) : LogState × Bool :=
  let l := refillGlobal now l0
  let b := bucketAt l e now
  let (l, b) := if 0 < b.supp && 0 < b.tokens then reportSuppressed frame supCls l b else (l, b)
  if 0 < b.tokens && 0 < l.globalTokens then
    let l := putBucket { l with globalTokens := l.globalTokens - 1 } { b with tokens := b.tokens - 1 }
    (bufferPut l now e.code (e.code / 256 * 256 + inst) data (decide (e.cls = 2)), true)
  else
    (putBucket { l with suppressedCount := satInc 32 l.suppressedCount }
      { b with supp := satInc 16 b.supp, suppFirst := if b.supp = 0 then now else b.suppFirst, suppLast := now, suppInst := inst },
      false)

/-- The block's header counts an event (R57). -/
def countEvent (blk inst code : Nat) (h : List BlockHeader) : List BlockHeader :=
  updAt h blk fun b => { b with events := satInc 32 b.events, lastCode := code, lastInst := inst }

/-- The pushes of a new record: one into the queue of every session subscribed to its block (R448). -/
def pushRecord (r : SedRecord) (ses : SesState) : SesState :=
  let blk := r.code / 256
  let hit : Session → Bool := fun x => x.phase != .free && (x.mask / 2 ^ blk) % 2 == 1
  { ses with
    pushDrops := sat 32 (ses.pushDrops + (ses.sessions.filter fun x => hit x && decide (256 ≤ x.push.length)).length)
    sessions := ses.sessions.map fun x =>
      if hit x then (if 256 ≤ x.push.length then { x with gap := satInc 32 x.gap } else { x with push := x.push ++ [r] }) else x }

/-- The records that entered the buffer since it stood at `seq` are pushed to the subscribers (R448). -/
def State.pushNew (seq : Nat) (s : State) : State :=
  let n := ((s.log.seq + 2 ^ 32 - seq) % 2 ^ 32)
  s.modSes fun b => (keepLast n s.log.buffer).foldl (fun b r => pushRecord r b) b

/-- The data field of an event: the frame number, then bytes 4 to 15 with unused ones 0 (R59). -/
def State.eventData (s : State) (d : Bytes) : Bytes := leBytes 4 s.frame ++ (d ++ zeros 12).take 12

/-- LOG_OVERFLOW precedes the first record accepted after drops (R502). -/
def State.overflowFirst (s : State) : State :=
  if 0 < s.log.dropPending && (decide (s.log.unflushed < 4096)) && !s.log.volatileOnly then
    let n := s.log.dropPending
    let r := arbitrate (s.eventEntry 0x1B13) (s.eventEntry 0x1B11).cls s.now s.frame 0xFF (s.eventData (leBytes 4 n))
      { s.log with dropPending := 0 }
    { s with log := r.1, hdr := countEvent 0x1B 0xFF 0x1B13 s.hdr }
  else s

/-- A suppressed count pending on the code takes its token first, so a SUPPRESSED record goes with this occurrence (R503). -/
def State.suppFirst (s : State) (code : Nat) : Option Nat :=
  let b := bucketAt s.log (s.eventEntry code) s.now
  if 0 < b.supp && 0 < b.tokens then some b.suppInst else none

/-- Raises an event: code, instance, and data bytes from byte 4 on (R25, R27, R59). -/
def State.raise (s : State) (code inst : Nat) (d : Bytes) : State :=
  let seq := s.log.seq
  let s := s.overflowFirst
  let s := match s.suppFirst code with | some i => s.modHdr (countEvent 0x1B i 0x1B11) | none => s
  let r := arbitrate (s.eventEntry code) (s.eventEntry 0x1B11).cls s.now s.frame inst (s.eventData d) s.log
  State.pushNew seq { s with log := r.1, hdr := countEvent (code / 256) inst code s.hdr }

/-- Raises LOG_CLEARED or LOG_FAULT: no token of its code, a global one when it exists, always recorded (R504). -/
def State.raiseForced (s : State) (code inst : Nat) (d : Bytes) : State :=
  let seq := s.log.seq
  let l := takeGlobal (refillGlobal s.now s.log)
  let l := bufferPut l s.now code (code / 256 * 256 + inst) (s.eventData d) (decide ((s.eventEntry code).cls = 2))
  State.pushNew seq { s with log := l, hdr := countEvent (code / 256) inst code s.hdr }

/-- Raises an event when c holds. -/
def State.raiseIf (s : State) (c : Bool) (code inst : Nat) (d : Bytes) : State := if c then s.raise code inst d else s

/-- Module time brought forward to t; it never runs back (R460). -/
def State.advance (t : Nat) (s : State) : State := s.modTim fun b => { b with now := max b.now t }

/-- A fold over the indices below n. -/
def State.forN (s : State) (n : Nat) (f : State → Nat → State) : State := (List.range n).foldl f s

/-- A key write runs: CFG_STATUS WRITING (R569). -/
def CfgState.writing (b : CfgState) : Bool := !(b.phase == .idle || b.phase == .done || b.phase == .failed)

end Sys2Proof.Machine
end

