-- ==== Sys2Proof/Machine/Operands.lean ====
section
/-!
DEFINITION. The operand forms of the commands: who writes a register and with what outcome (R22, R23, R444), and the fields a
register word carries.
-/
set_option autoImplicit false
namespace Sys2Proof.Machine

/-- Who writes a register: the session, its role and the request (R444, R457). -/
structure WCtx where
  session : Nat := 0
  role : Nat := 0
  conn : Nat := 0
  reqId : Nat := 0
deriving DecidableEq, Repr

/-- Outcome of a register write at its block (R444). -/
inductive WriteOut where
  /-- Applied; `detail` is the result code for the change log (R457). -/
  | done (s : State) (detail : Nat)
  /-- ROLE, with the state in which the block's result field says so. -/
  | role (s : State)
  /-- BAD_VALUE: a binary32 field is NaN or infinite (R16). -/
  | badValue
  /-- OUT_OF_RANGE: the register keeps its value. -/
  | range
  /-- REFUSED with the block's result code. -/
  | refused (s : State) (detail : Nat)
  /-- Taken; the answer follows a later evaluation (R65, R136, R429). -/
  | later (s : State)

/-- A role must be at least `need`; otherwise ROLE with the state `t`. -/
def needRole (w : WCtx) (need : Nat) (t : State) (k : WriteOut) : WriteOut := if need ≤ w.role then k else .role t

/-- The roles (R445). -/
def roleObserver : Nat := 0
def roleOperator : Nat := 1
def roleEngineer : Nat := 2
def roleCommissioner : Nat := 3

/-- A selector of values 0 to top: another value is refused with NOT_ALLOWED (R444). -/
def selector (v : Word) (hi top : Nat) (s : State) (set : Nat → State) : WriteOut :=
  if field v hi 0 ≤ top then .done (set (field v hi 0)) 0 else .refused s 1

/-- A binary32 register with a stated range (R16, R444). -/
def f32Register (v : Word) (ok : Rat → Bool) (set : Rat → State) : WriteOut :=
  if f32Finite v then (if ok (f32Val v) then .done (set (f32Val v)) 0 else .range) else .badValue

/-- Mode codes (R60). -/
def modeCode : Mode → Nat
  | .dormant => 0 | .standby => 1 | .joystick => 2 | .autoPos => 3 | .autoTrack => 4 | .service => 5 | .start => 7

/-- The mode of a code; codes 6 and 7 name no mode (R60). -/
def modeOf : Nat → Option Mode
  | 0 => some .dormant | 1 => some .standby | 2 => some .joystick | 3 => some .autoPos | 4 => some .autoTrack | 5 => some .service
  | _ => none

/-- Modes 2 to 4 release thrust (R60). -/
def releasesThrust : Mode → Bool
  | .joystick => true | .autoPos => true | .autoTrack => true | _ => false

end Sys2Proof.Machine
end

