-- ==== Sys2Proof/Machine/Flags.lean ====
section
/-!
DEFINITION. The status flags and status bits that are computed from the state.
-/
set_option autoImplicit false
namespace Sys2Proof.Machine

/-- SAFE_STOP is active: a thruster is RAMPING or REMOVED (R63, R374). -/
def State.safeStop (s : State) : Bool := s.saf.thr.any fun t => t.phase != .armed

/-- The module's outputs are inhibited: every mode but 2 to 4 (R60, R61). -/
def State.inhibited (s : State) : Bool := !releasesThrust s.sup.mode

/-- A full BIST runs (R533). -/
def State.fullBist (s : State) : Bool := s.bst.state == 1 && s.bst.kind == 2

/-- A module status bit by its number for field outputs of source STATUS (R323). -/
def State.statusBit (s : State) (i : Nat) : Bool :=
  match i with
  | 0 => s.sup.dpReady
  | 1 => s.ctl.lost
  | 2 => s.safeStop
  | 3 => s.ctl.conseq == .alarm
  | 4 => releasesThrust s.sup.mode
  | 5 => s.fus.snap.posValid
  | 6 => s.fus.snap.hdgValid
  | _ => s.sup.locked

/-- The domains of each block (R29). -/
def blockDomains (blk : Nat) : List Nat :=
  match blk with
  | 0x08 => [1, 2, 3, 4] | 0x0A => [4] | 0x0C => [5] | 0x0D => [6] | 0x0E => [6] | 0x10 => [12]
  | 0x11 => [8, 9, 10] | 0x12 => [11] | 0x14 => [10] | 0x15 => [10] | 0x16 => [10] | 0x17 => [10] | 0x18 => [10]
  | 0x1A => [0, 7] | 0x1B => [0, 7] | 0x1C => [0, 7]
  | _ => [0]

/-- The register domain of each block (R603). -/
def registerDomain (blk : Nat) : Nat :=
  match blk with
  | 0x0C => 5 | 0x0D => 6 | 0x0E => 6 | 0x10 => 12 | 0x11 => 10 | 0x12 => 11
  | 0x14 => 10 | 0x15 => 10 | 0x16 => 10 | 0x17 => 10 | 0x18 => 10
  | _ => 0

/-- The block numbers of R24. -/
def blockNumbers : List Nat :=
  [0x01, 0x02, 0x03, 0x04, 0x08, 0x09, 0x0A, 0x0C, 0x0D, 0x0E, 0x10, 0x11, 0x12, 0x14, 0x15, 0x16, 0x17, 0x18, 0x1A, 0x1B, 0x1C]

/-- BLK_STATUS POWERED: every domain of the block is on (R57). -/
def State.powered (s : State) (blk : Nat) : Bool := (blockDomains blk).all s.domOn

end Sys2Proof.Machine
end

