-- ==== Sys2Proof/Machine/Memories.lean ====
section
/-!
DEFINITION. The memories of the module (R30, R42): their sizes, power domains and protection, by the numbers of R59 where a memory error
can name one.
-/
set_option autoImplicit false
namespace Sys2Proof.Machine

/-- Power domain of an engine (R30). -/
def engineDomain (e : Nat) : Nat := if e < 8 then 5 else if e = 8 ∨ e = 12 then 4 else if e < 12 then 6 else if e = 13 then 10
  else if e = 14 then 11 else 0

/-- Local SRAM of an engine, KB (R30). -/
def engineKb (e : Nat) : Nat := if e = 8 then 1024 else if e = 11 ∨ 14 ≤ e then 256 else 512

/-- Protection of a memory (R42): SECDED over words of so many bits, with the address in the code or without; BCH per sector of so many bytes;
CRC-32C per record. -/
inductive Protection
  | secded (bits : Nat) (address : Bool)
  | bch (sector : Nat)
  | crcPerRecord
deriving DecidableEq, Repr

/-- One memory (R42): bytes held, bytes usable, power domain, protection, and whether the background scrub reads it (R43). -/
structure Memory where
  bytes : Nat
  usable : Nat
  domain : Nat
  protection : Protection
  scrubbed : Bool := false
deriving DecidableEq, Repr

/-- A memory with error correction by the number an event names it with: an engine's SRAM, 0xF0 DRAM, 0xF1 MRAM, 0xF2 the shared tag pool and
mailboxes (R42, R43, R59). -/
def memoryOf (m : Nat) : Option Memory :=
  if m = 14 then some { bytes := 1024 * engineKb m, usable := 1024 * engineKb m, domain := 11, protection := .secded 32 true, scrubbed := true }
  else if m < 16 then some { bytes := 1024 * engineKb m, usable := 1024 * engineKb m, domain := engineDomain m, protection := .secded 64 false, scrubbed := true }
  else match m with
    | 0xF0 => some { bytes := 268435456, usable := 268435456, domain := 7, protection := .secded 64 false, scrubbed := true }
    | 0xF1 => some { bytes := 2097152, usable := 2097152, domain := 0, protection := .secded 64 false }
    | 0xF2 => some { bytes := 524288, usable := 524288, domain := 0, protection := .secded 64 false, scrubbed := true }
    | _ => none

/-- Geometry of the flash (R482): bytes of a page, pages of an erase block, blocks, those that carry partitions and those of the block map; the rest
are spare. -/
def flashPage : Nat := 4096
def blockPages : Nat := 64
def flashBlocks : Nat := 640
def partBlocks : Nat := 512
def mapBlocks : Nat := 8
def spareBlocks : Nat := flashBlocks - partBlocks - mapBlocks

/-- The SLC flash: 160 MB raw, 128 MB usable (R42). -/
def flashMemory : Memory := { bytes := flashBlocks * blockPages * flashPage, usable := 134217728, domain := 7, protection := .bch 512 }

/-- Areas of the MRAM: first address and bytes (R485). 0 journal header, 1 flush area, 2 last words, 3 reserved, 4 journal ring. -/
def mramArea : Nat → Nat × Nat
  | 0 => (0x00000000, 4096)
  | 1 => (0x00001000, 4096)
  | 2 => (0x00002000, 2048)
  | 3 => (0x00002800, 55296)
  | _ => (0x00010000, 2031616)

/-- The configuration key: 8 MB, an image of at most 6 MB, powered from PD7 during the read (R42). -/
def keyMemory : Memory := { bytes := 8388608, usable := 6291456, domain := 7, protection := .crcPerRecord }

/-- An address of a memory with error correction lies in it (R42); R59 does not say in which unit it counts, and none leaves the memory's bytes
(assumption log 37). -/
def memoryHolds (m addr : Nat) : Bool := match memoryOf m with | some x => decide (addr < x.bytes) | none => false

end Sys2Proof.Machine
end

