-- ==== Sys2Proof/Machine/Tags.lean ====
section
/-!
DEFINITION. Work in flight and tagged completion (R53 to R55).
-/
set_option autoImplicit false
namespace Sys2Proof.Machine

/-- The 32-bit word of a tag (R53). -/
def Tag.word (t : Tag) : Nat := t.block * 2 ^ 24 + t.engine * 2 ^ 20 + t.seq

/-- The tag a word spells, without its frame (R53). -/
def tagOf (w : Nat) : Tag := { block := w / 2 ^ 24 % 256, engine := w / 2 ^ 20 % 16, seq := w % 2 ^ 20 }

/-- The same tag: block, engine and SEQ agree (R55). -/
def Tag.same (a b : Tag) : Bool := a.block == b.block && a.engine == b.engine && a.seq == b.seq

/-- Next SEQ of a submitting engine at a serving unit (R53). -/
def TagPool.next (p : TagPool) (block engine : Nat) : Nat :=
  match p.nextSeq.find? (fun e => e.1 == (block, engine)) with | some e => e.2 | none => 0

/-- The first SEQ from n on that no outstanding operation holds (R55). -/
def TagPool.freeSeq (p : TagPool) (block engine : Nat) : Nat → Nat → Nat
  | 0, n => n
  | k + 1, n =>
    if p.open_.any (fun t => t.block == block && t.engine == engine && t.seq == n) then p.freeSeq block engine k ((n + 1) % 2 ^ 20)
    else n

/-- The tag the next submission receives (R53, R55). -/
def State.newTag (s : State) (block engine : Nat) : Tag :=
  { block := block, engine := engine, frame := s.frame
    seq := s.tags.freeSeq block engine s.tags.open_.length (s.tags.next block engine) }

/-- The tag becomes outstanding (R53, R58). -/
def openTag (t : Tag) (s : State) : State :=
  s.modTags fun p => { p with
    open_ := p.open_ ++ [t]
    nextSeq := p.nextSeq.filter (fun e => e.1 != (t.block, t.engine)) ++ [((t.block, t.engine), (t.seq + 1) % 2 ^ 20)]
    peak := max p.peak (p.open_.length + 1) }

/-- A tag is outstanding. -/
def State.tagOpen (s : State) (t : Tag) : Bool := s.tags.open_.any t.same

/-- A completion: delivered once for an outstanding tag, otherwise discarded as TAG_ORPHAN (R55). -/
def completeTag (t : Tag) (st : TagStatus) (s : State) : State :=
  match s.tags.open_.find? t.same with
  | some o => s.modTags fun p => { p with open_ := p.open_.filter (fun x => !x.same t), completed := (o, st, s.now) :: p.completed }
  | none => (s.modTags fun p => { p with orphans := satInc 32 p.orphans }).raise 0x0112 t.block (leBytes 4 t.word)

/-- Every tag that an engine holds completes as ABANDONED (R32). -/
def abandonTags (engine : Nat) (s : State) : State :=
  s.modTags fun p => { p with
    open_ := p.open_.filter (fun t => t.engine != engine)
    completed := ((p.open_.filter (fun t => t.engine == engine)).map fun t => (t, TagStatus.abandoned, s.now)) ++ p.completed }

/-- Code of a completion status as TAG_COMPLETION carries it. -/
def tagStatusOf : Nat → TagStatus
  | 1 => .abandoned | 2 => .memFault | 3 => .cancelled | _ => .done

/-! ### Meanings of the commands -/

/-- Meaning of TAG_COMPLETION (R55). -/
def execTagCompletion (tag : Word) (status : Fin 4) (s : State) : Host.Outcome State Fault Refusal :=
  .next (completeTag (tagOf tag.toNat) (tagStatusOf status.val) s)

end Sys2Proof.Machine
end

