-- ==== Sys2Proof/Machine/Store.lean ====
section
/-!
DEFINITION. The Aquifer persistent store, block AQF (chapter 15_aquifer_sediment.md, R482 to R499): admission, commit, wear,
budget and flush; and Sediment's flushes, block LOG (R500 to R508, R514).
-/
set_option autoImplicit false
namespace Sys2Proof.Machine

/-! ### Sizes -/

/-- Size of a partition, bytes (R483). -/
def partSize : Nat → Nat
  | 0 => 2097152 | 1 => 4194304 | 2 => 1048576 | 3 => 8388608 | 4 => 67108864 | 5 => 41943040 | 6 => 262144 | _ => 0

/-- Journal ring, bytes (R485). -/
def ringSize : Nat := (mramArea 4).2

/-- Journal entries of a write: BEGIN, data and COMMIT for a small one; BEGIN, page list and COMMIT for a large one (R487). BEGIN
is taken as long as COMMIT, a page of the list as 4 bytes (PRESUMED, assumption log 14). -/
def entryBytes (size : Nat) : Nat := if size ≤ 32768 then 32 + size + 32 else 32 + 4 * ((size + 4095) / 4096) + 32

/-- Bytes of the objects of a partition that stand in the store's own list. -/
def AqfState.objBytes (b : AqfState) (p : Nat) : Nat := ((b.objs.filter fun o => o.key.part == p).map fun o => o.size).foldl (· + ·) 0

/-- Bytes of objects a partition holds (R483, R513). -/
def State.partUsed (s : State) (p : Nat) : Nat :=
  s.aqf.objBytes p + match p with
  | 0 => (if s.cfg.p0Record.isSome then 64 else 0) + 64 * s.ses.clog.length + (if s.saf.proofLast = 0 then 0 else Config.proofLastBytes)
      + (if s.icx.memberId.isSome then Config.memberIdBytes else 0)
  | 4 => 32 * s.log.durable.length
  | 6 => Config.p6Bytes s.ses.accounts.length
  | _ => 0

/-! ### Budget (R492, R493) -/

/-- The level brought up to date: 16,384 bytes/s up to 58,982,400 (R492). -/
def fillBudget (now : Nat) (b : AqfState) : AqfState :=
  let c := b.budgetCredit + (now - b.budgetAt) * 16384
  let l := b.budget + ((c / 1000000000 : Nat) : Int)
  if 58982400 ≤ l then { b with budget := 58982400, budgetCredit := 0, budgetAt := now }
  else { b with budget := l, budgetCredit := c % 1000000000, budgetAt := now }

/-- BUDGET_LOW: below 4 MB, until above 8 MB (R493). -/
def checkBudget (s : State) : State :=
  if s.aqf.budgetLow then (if 8388608 < s.aqf.budget then s.modAqf fun b => { b with budgetLow := false } else s)
  else if s.aqf.budget < 4194304 then
    (s.modAqf fun b => { b with budgetLow := true }).raise 0x1A1B 0xFF (leBytes 4 (ofSigned 32 s.aqf.budget))
  else s

/-- The budget up to date. -/
def refreshBudget (s : State) : State := checkBudget (s.modAqf (fillBudget s.now))

/-- Committed client bytes are charged and counted (R492, R513). -/
def charge (n : Nat) (s : State) : State :=
  let s := s.modAqf fun b =>
    let b := fillBudget s.now b
    { b with budget := b.budget - (n : Int), hour := (s.now, n) :: b.hour.filter fun e => decide (s.now - e.1 < 3600000000000) }
  checkBudget s

/-- The journal ring takes a transaction of n bytes (R487, R513). -/
def fillJournal (n : Nat) (s : State) : State :=
  s.modAqf fun b => { b with txn := b.txn + 1, journal := b.journal + n, journalPeak := max b.journalPeak (b.journal + n) }

/-! ### Writes (R484, R486, R490, R493, R494, R511) -/

/-- Code of a write result (R486). -/
def StoreResult.code : StoreResult → Nat
  | .ok => 0 | .full => 1 | .domainOff => 2 | .budget => 3 | .noSpace => 4 | .media => 5 | .readOnly => 6 | .tooLarge => 7 | .busy => 8
  | .held => 9

/-- Orphans of a partition go, oldest first, until `need` bytes fit (R484). The number removed is counted. -/
def reclaim (p need : Nat) : Nat → State → State × Nat
  | 0, s => (s, 0)
  | k + 1, s =>
    if s.partUsed p + need ≤ partSize p then (s, 0)
    else match s.aqf.objs.find? (fun o => o.key.part == p && o.orphan) with
      | some o =>
        let r := reclaim p need k (s.modAqf fun b => { b with objs := b.objs.filter fun x => x.key != o.key })
        (r.1, r.2 + 1)
      | none => (s, 0)

/-- Room for an object of a key: what its old version holds does not count twice. A write that needs more than its partition has free takes it
from orphans, and PARTITION_FULL says how many went (R484). -/
def makeRoom (key : StoreKey) (size : Nat) (s : State) : State :=
  let old := match s.aqf.objs.find? (fun o => o.key == key) with | some o => o.size | none => 0
  let need := size - old
  if s.partUsed key.part + need ≤ partSize key.part then s
  else
    let r := reclaim key.part need s.aqf.objs.length s
    r.1.raise 0x1A1A key.part (leBytes 2 r.2)

/-- The object of a key fits its partition (R484). -/
def State.fits (s : State) (key : StoreKey) (size : Nat) : Bool :=
  let old := match s.aqf.objs.find? (fun o => o.key == key) with | some o => o.size | none => 0
  decide (s.partUsed key.part - old + size ≤ partSize key.part)

/-- Result of a submission that gets no tag (R486): FULL or DOMAIN_OFF. -/
def State.noTag (s : State) (size : Nat) : Option StoreResult :=
  if 64 ≤ s.aqf.writes.length then some .full
  else if 32768 < size ∧ s.domOn 7 = false then some .domainOff
  else none

/-- Journal bytes that the writes admitted and not yet committed will take (R490). -/
def AqfState.reserved (b : AqfState) : Nat := (b.writes.map fun w => entryBytes w.size).foldl (· + ·) 0

/-- Result of a write that is refused whatever room its partition has (R486, R490, R493, R494, R511). -/
def State.refusal (s : State) (key : StoreKey) (cls size : Nat) : Option StoreResult :=
  let b := s.aqf
  if b.phase == .failed then some .media
  else if b.phase == .readOnly || (b.phase == .limited && decide (cls ≠ 0)) then some .readOnly
  else if b.importPending && cls == 2 then some .held
  else if partSize key.part < size then some .tooLarge
  else if b.budget < (if cls = 2 then (size : Int) + 4194304 else if cls = 3 then (size : Int) + 16777216 else b.budget) then some .budget
  else if ringSize < b.journal + b.reserved + entryBytes size + (if cls ≤ 1 then 160 else 192) * 1024 then some .busy
  else none

/-- Result of a write that completes at once without being admitted (R484, R486, R490, R493, R494, R511). -/
def State.admission (s : State) (key : StoreKey) (cls size : Nat) : Option StoreResult :=
  (s.refusal key cls size).orElse fun _ => if s.fits key size then none else some .noSpace

/-- A refused write is counted and recorded (R486, R513, R515). -/
def refuseWrite (key : StoreKey) (cls size : Nat) (r : StoreResult) (s : State) : State :=
  let s := s.modAqf fun b => match r with
    | .budget => { b with refBudget := satInc 16 b.refBudget }
    | .full => { b with refOther := satInc 16 b.refOther }
    | .busy => { b with refOther := satInc 16 b.refOther }
    | .noSpace => { b with refOther := satInc 16 b.refOther }
    | .readOnly => { b with refOther := satInc 16 b.refOther }
    | .held => { b with refOther := satInc 16 b.refOther }
    | _ => b
  s.raise 0x1A14 key.part ([BitVec.ofNat 8 r.code, BitVec.ofNat 8 cls] ++ zeros 2 ++ leBytes 4 size)

/-- A completion of a write (R486). -/
def finishWrite (key : StoreKey) (t : Tag) (r : StoreResult) (s : State) : State :=
  completeTag t .done (s.modAqf fun b => { b with
    writes := b.writes.filter fun w => !w.tag.same t
    done := (key, t, r, s.now) :: b.done })

/-- Result of a transaction of class 0 or 1 that its command commits, of n bytes in the journal (R486, R490, R494): while the store mounts it is
BUSY (assumption log 37). -/
def State.atOnce (s : State) (cls n : Nat) : StoreResult :=
  let room : StoreResult := if s.aqf.journal + s.aqf.reserved + n + 160 * 1024 ≤ ringSize then .ok else .busy
  match s.aqf.phase with
  | .failed => .media
  | .readOnly => .readOnly
  | .mounting => .busy
  | .limited => if cls = 0 then room else .readOnly
  | .ready => room

/-- Result of a class 0 transaction of n bytes (R486). -/
def State.essentialResult (s : State) (n : Nat) : StoreResult := (s.noTag n).getD (s.atOnce 0 (entryBytes n))

/-- A transaction of n bytes, of `entry` bytes in the journal, ends with a result in the command that makes it (R486, R487, R492): it has a tag of
the supervisor's, unless its result comes with none. Says whether the store took it. -/
def transact (key : StoreKey) (cls n entry : Nat) (r : StoreResult) (s : State) : State × Bool :=
  if r == .full || r == .domainOff then (refuseWrite key cls n r s, false)
  else
    let t := s.newTag 0x1A 15
    let s := openTag t s
    if r = .ok then
      let s := charge n (fillJournal entry s)
      (finishWrite key t r (s.modAqf fun b => { b with writesPeak := max b.writesPeak (b.writes.length + 1) }), true)
    else (finishWrite key t r (refuseWrite key cls n r s), false)

/-- A class 0 transaction of n bytes that its command commits (R486, R487): confirmation, change log, PROOF_LAST, MEMBER_ID, P6. Says whether the
store took it. -/
def commitEssential (part n : Nat) (s : State) : State × Bool :=
  transact { part := part } 0 n (entryBytes n) (s.essentialResult n) s

/-- A submission (R486): the result at once, or the tag of the write that is outstanding. Orphans give way only to a write that nothing else
refuses (R484). -/
def submitWrite (key : StoreKey) (cls size engine : Nat) (data : StoreData) (s : State) : State × (StoreResult ⊕ Tag) :=
  let s := refreshBudget s
  match s.noTag size with
  | some r => (refuseWrite key cls size r s, .inl r)
  | none =>
    let s := if (s.refusal key cls size).isNone then makeRoom key size s else s
    let t := s.newTag 0x1A engine
    let s := openTag t s
    match s.admission key cls size with
    | some r => (finishWrite key t r (refuseWrite key cls size r s), .inl r)
    | none =>
      (s.modAqf fun b => { b with
        writes := b.writes ++ [{ tag := t, key := key, cls := cls, size := size, data := data, begun := !b.suspended && b.phase != .mounting }]
        writesPeak := max b.writesPeak (b.writes.length + 1) }, .inr t)

/-- Writes staged while flash was suspended are begun in order of submission (R497). -/
def beginWrites (s : State) : State := s.modAqf fun b => { b with writes := b.writes.map fun w => { w with begun := true } }

/-- An object takes its place: the newest committed version (R484, R489). -/
def putObj (o : StoreObj) (s : State) : State :=
  s.modAqf fun b => { b with objs := b.objs.filter (fun x => x.key != o.key) ++ [o] }

/-- The write with a tag word. -/
def AqfState.write (b : AqfState) (tag : Nat) : Option StoreWrite := b.writes.find? fun w => w.tag.word == tag

/-- A write may commit now: begun, the store mounted, and flash free for a large one (R487, R495, R497). -/
def State.mayCommit (s : State) (w : StoreWrite) : Bool :=
  w.begun && s.aqf.phase != .mounting && (decide (w.size ≤ 32768) || (s.domOn 7 && !s.aqf.suspended))

/-- The COMMIT entry of a write is complete, or media prevented it (R486, R487, R492). -/
def commitWrite (w : StoreWrite) (media : Bool) (s : State) : State :=
  if media then finishWrite w.key w.tag .media (refuseWrite w.key w.cls w.size .media s)
  else
    let o : StoreObj := { key := w.key, size := w.size, data := w.data, at_ := s.now, txn := s.aqf.txn + 1, inJournal := decide (w.size ≤ 32768) }
    let s := charge w.size (fillJournal (entryBytes w.size) (putObj o s))
    let s := if 32768 < w.size then s.modAqf fun b => { b with lifeBytes := b.lifeBytes + (w.size + 4095) / flashPage * flashPage } else s
    finishWrite w.key w.tag .ok s

/-! ### Flash (R489 to R491, R494) -/

/-- Code of a store state (R494). -/
def StorePhase.code : StorePhase → Nat
  | .mounting => 0 | .ready => 1 | .limited => 2 | .readOnly => 3 | .failed => 4

/-- The store changes state; each change raises STORE_STATE (R494). -/
def setStore (p : StorePhase) (s : State) : State :=
  if s.aqf.phase == p then s
  else (s.modAqf fun b => { b with phase := p }).raise 0x1A13 0xFF [BitVec.ofNat 8 s.aqf.phase.code, BitVec.ofNat 8 p.code]

/-- State of the store by its spare blocks (R494). -/
def phaseOfSpare (n : Nat) : StorePhase := if 4 < n then .ready else if 0 < n then .limited else .readOnly

/-- A block is retired and a spare takes its place (R494). -/
def retireBlock (block : Nat) (s : State) : State :=
  let n := s.aqf.spare - 1
  let s := s.modAqf fun b => { b with spare := n, retired := satInc 16 b.retired }
  let s := s.raise 0x1A12 0xFF (leBytes 2 block ++ [BitVec.ofNat 8 n])
  let s := s.raiseIf (n == 16 || n == 8) 0x1A1C 0xFF [BitVec.ofNat 8 n]
  if (phaseOfSpare n).code > s.aqf.phase.code then setStore (phaseOfSpare n) s else s

/-- What a flash operation meets (R494, R513). -/
def flashFault (part : Nat) (f : FlashFault) (s : State) : State :=
  let bad := fun block kind s => ((s : State).modAqf fun b => { b with mediaErrors := satInc 32 b.mediaErrors }).raise 0x1A11 part
    (leBytes 2 block ++ [BitVec.ofNat 8 kind])
  match f with
  | .none_ => s
  | .corrected n => s.modAqf fun b => { b with bchCorr := satAdd 32 b.bchCorr n }
  | .rewrite n => s.modAqf fun b => { b with bchCorr := satAdd 32 b.bchCorr n, lifeBytes := b.lifeBytes + 4096 }
  | .heavy block n => retireBlock block (s.modAqf fun b => { b with bchCorr := satAdd 32 b.bchCorr n })
  | .uncorrectable block => bad block 0 s
  | .program block => retireBlock block (bad block 1 s)
  | .erase block => retireBlock block (bad block 2 s)

/-- A read ends for its client with a result and an object. -/
def readDone (key : StoreKey) (r : StoreResult) (o : Option StoreObj) (s : State) : State :=
  s.modAqf fun b => { b with reads := { key := key, result := r, obj := o, at_ := s.now } :: b.reads }

/-- A read of an object's newest committed version, from the journal while its flash copy is not complete, else from flash (R489, R494). A
read that meets an uncorrectable page gives MEDIA, and the client treats the object as absent from then on. While the store mounts the read
waits. -/
def readObj (key : StoreKey) (f : FlashFault) (s : State) : State :=
  if s.aqf.phase == .mounting then s
  else if s.aqf.phase == .failed then readDone key .media none s
  else match s.aqf.objs.find? (fun o => o.key == key) with
    | none => readDone key .ok none s
    | some o =>
      if o.inJournal then readDone key .ok (some o) s
      else if !s.domOn 7 then readDone key .domainOff none s
      else
        let s := flashFault key.part f s
        match f with
        | .uncorrectable _ =>
          readDone key .media none (s.modAqf fun b => { b with objs := b.objs.map fun x => if x.key == key then { x with crcOk := false } else x })
        | _ => if o.crcOk then readDone key .ok (some o) s else readDone key .media none s

/-- Objects whose journal data has been copied to flash, oldest first, within n bytes. -/
def drainObjs : Nat → List StoreObj → List StoreObj
  | _, [] => []
  | n, o :: os =>
    if o.inJournal then (if o.size ≤ n then { o with inJournal := false } :: drainObjs (n - o.size) os else o :: os)
    else o :: drainObjs n os

/-- Flash operations may run (R495, R497). -/
def State.flashFree (s : State) : Bool := s.domOn 7 && !s.aqf.suspended && s.aqf.phase != .mounting && s.aqf.phase != .failed

/-- Committed journal data is copied to flash in whole pages (R490, R491, R494). `pages` is what this step copies, `extra` the
bytes of map updates; the erase counts are those of the flash after it. -/
def journalDrain (pages extra : Nat) (erases : Erases) (eraseMean : F32) (f : FlashFault) (s : State) : State :=
  if !s.flashFree then s
  else
    let n := min pages (s.aqf.journal / 4096) * 4096
    let s := s.modAqf fun b => { b with
      journal := b.journal - n, lifeBytes := b.lifeBytes + n + extra
      objs := if b.journal = n then b.objs.map (fun o => { o with inJournal := false }) else drainObjs n b.objs
      eraseMax := max b.eraseMax erases.most, eraseMin := erases.least, eraseMean := f32Val eraseMean }
    flashFault 4 f s

/-- The erase counts of the blocks in use differ by more than 1,000 (R491). -/
def AqfState.uneven (b : AqfState) : Bool := decide (b.eraseMin + 1000 < b.eraseMax)

/-- Wear levelling moves the data of the block with the lowest count (R491, R494). -/
def wearRelocation (bytes : Nat) (erases : Erases) (eraseMean : F32) (f : FlashFault) (s : State) : State :=
  if !s.flashFree || !s.aqf.uneven then s
  else
    let s := s.modAqf fun b => { b with
      lifeBytes := b.lifeBytes + bytes, eraseMax := max b.eraseMax erases.most, eraseMin := erases.least, eraseMean := f32Val eraseMean }
    flashFault 0xFF f s

/-! ### Sediment's flushes (R502, R503, R505, R508) -/

/-- The durable record takes records; when P4 is full its oldest erase block is released (R505). -/
def appendDurable (rs : List SedRecord) (d : List SedRecord) : List SedRecord :=
  let d := d ++ rs
  if partSize 4 / 32 < d.length then d.drop (blockPages * flashPage / 32) else d

/-- Unflushed records up to the last SEQ assigned become durable, as one class 1 transaction (R502). -/
def flushRecords (s : State) : State :=
  let n := s.log.unflushed
  let rs := keepLast n s.log.buffer
  let s := s.modLog fun b =>
    let d := appendDurable rs b.durable
    { b with
      durable := d, flushed := b.seq, oldest := match d.head? with | some r => r.seq | none => b.seq
      unflushed := 0, sinceCut := 0, flushDue := false, flushSec := s.now / 1000000000, flushTotal := satInc 32 b.flushTotal }
  (transact { part := 4 } 1 (32 * n) (32 * n + 64) .ok s).1

/-- Counts still pending at a power-fail flush are written as SUPPRESSED records (R503). -/
def flushSuppressed (s : State) : State :=
  (s.log.buckets.filter fun b => decide (0 < b.supp)).foldl (fun s b =>
    let seq := s.log.seq
    let r := reportSuppressed s.frame (s.eventEntry 0x1B11).cls (refillGlobal s.now s.log) b
    State.pushNew seq { s with log := putBucket r.1 r.2, hdr := countEvent 0x1B b.suppInst 0x1B11 s.hdr }) s

/-- The store cannot take Sediment (R508). -/
def State.logDown (s : State) : Bool := s.aqf.phase == .limited || s.aqf.phase == .readOnly || s.aqf.phase == .failed

/-- A flush trigger has fallen (R502). -/
def State.flushTrigger (s : State) : Bool :=
  s.log.flushDue || decide (512 ≤ s.log.sinceCut) || decide (s.log.flushSec ≠ s.now / 1000000000)

/-- LOG_FAULT clears after three flushes in a row; the records lost are told first (R508). -/
def clearLogFault (s : State) : State :=
  let c := s.log.faultCause
  let lost := s.log.dropPending
  let s := (s.modLog fun b => { b with dropPending := 0 }).raiseIf (decide (0 < lost)) 0x1B13 0xFF (leBytes 4 lost)
  let s := s.modLog fun b => { b with logFault := false, volatileOnly := false, okFlushes := 0, failSince := none, flushDue := true, lastSlot := 1 }
  s.raiseForced 0x1B12 0xFF [BitVec.ofNat 8 c, 0]

/-- Result of a Sediment flush: one class 1 transaction of the journal, which needs no flash (R486, R490, R494, R502). `media` says that the
journal write fails. -/
def State.flushResult (media : Bool) (s : State) : StoreResult :=
  if 64 ≤ s.aqf.writes.length then .full else if media then .media else s.atOnce 1 (32 * s.log.unflushed + 64)

/-- A Sediment flush (R502, R508); none begins while the power-fail flush runs. -/
def sedimentFlush (media : Bool) (s : State) : State :=
  let r := s.flushResult media
  let n := s.log.unflushed
  if !s.flushTrigger || s.aqf.phase == .mounting || s.aqf.flushing then s
  else if r != .ok then
    let s := s.modLog fun b => { b with
      failSince := if r == .full then b.failSince else some (b.failSince.getD s.now), okFlushes := 0, flushSec := s.now / 1000000000 }
    (transact { part := 4 } 1 (32 * n) (32 * n + 64) r s).1
  else if s.log.logFault then
    let k := s.log.okFlushes + 1
    let s := s.modLog fun b => { b with okFlushes := k, failSince := none, flushSec := s.now / 1000000000 }
    if 3 ≤ k then clearLogFault s else s
  else flushRecords (s.modLog fun b => { b with failSince := none })

/-- A code's bucket with suppressed occurrences gains a token: one SUPPRESSED record takes it (R503). -/
def suppressedDue (code : Nat) (s : State) : State :=
  let b := bucketAt s.log (s.eventEntry code) s.now
  if 0 < b.supp && 0 < b.tokens then
    let seq := s.log.seq
    let r := reportSuppressed s.frame (s.eventEntry 0x1B11).cls (refillGlobal s.now s.log) b
    State.pushNew seq { s with log := putBucket r.1 r.2, hdr := countEvent 0x1B b.suppInst 0x1B11 s.hdr }
  else s

/-- Sediment's memory has failed (R508): 0 flush failing for 10 s, 1 buffer ECC, 2 store state. -/
def logFaultCmd (cause : Nat) (s : State) : State :=
  let holds := match cause with
    | 0 => (match s.log.failSince with | some a => decide (10000000000 ≤ s.now - a) | none => false)
    | 1 => s.log.bufferEcc
    | _ => s.logDown
  if s.log.logFault || !holds then s
  else
    let s := (s.modLog fun b => { b with volatileOnly := true, bufferEcc := false }).raiseForced 0x1B12 0xFF [BitVec.ofNat 8 cause, 1]
    s.modLog fun b => { b with
      logFault := true, faultCause := cause, okFlushes := 0, lastSlot := 1
      lastWords := match b.buffer.getLast? with
        | some r => if b.lastWordsOk then r :: b.lastWords.drop 1 else b.lastWords
        | none => b.lastWords }

/-- What LOG_CMD CLEAR's transaction holds (R507): LOG_CLEARED is the first durable record of the new epoch. A power-fail flush that runs has
nothing left up to it. -/
def clearLog (session : Nat) (s : State) : State :=
  let last := s.log.seq
  let s := s.modLog fun b => { b with
    buffer := [], unflushed := 0, sinceCut := 0, durable := [], lastWords := [], lastSlot := 1, flushed := last, oldest := (last + 1) % 2 ^ 32
    epoch := (b.epoch + 1) % 65536, clearTime := s.now, dropPending := 0 }
  let s := s.raiseForced 0x1B10 session (leBytes 2 s.log.epoch ++ zeros 2 ++ leBytes 4 last)
  let s := s.modLog fun b => { b with
    durable := b.buffer, flushed := b.seq, oldest := b.seq, unflushed := 0, sinceCut := 0, flushDue := false }
  s.modAqf fun b => { b with flushCut := s.log.seq }

/-! ### Power-fail flush (R495 to R497) -/

/-- The flush begins: its cut and the flush area (R495). A second warning during a flush starts none (R497). -/
def startFlush (restart : Bool) (s : State) : State :=
  if s.aqf.flushing then s
  else
    let s := flushSuppressed s
    s.modAqf fun b =>
      let b := fillBudget s.now b
      { b with flushing := true, flushRestart := restart, flushAt := s.now, flushCut := s.log.seq, suspended := true, savedTime := s.now, savedBudget := b.budget }

/-- The flush completes with its marker in MRAM (R495, R496); records raised after the cut stay unflushed. -/
def endFlush (s : State) : State :=
  let after := ((s.log.seq + 2 ^ 32 - s.aqf.flushCut) % 2 ^ 32)
  let n := if s.log.logFault then 0 else s.log.unflushed - after
  let rs := (keepLast s.log.unflushed s.log.buffer).take n
  let us := (s.now - s.aqf.flushAt) / 1000
  let s := s.modLog fun b => if b.logFault then b else
    let d := appendDurable rs b.durable
    { b with
      durable := d, flushed := s.aqf.flushCut, oldest := match d.head? with | some r => r.seq | none => b.oldest
      unflushed := b.unflushed - n, sinceCut := min b.sinceCut after, flushTotal := satInc 32 b.flushTotal }
  let s := charge (32 * n) (fillJournal (32 * n + 64) s)
  let s := s.modAqf fun b => { b with
    flushing := false, marker := true, markerRestart := b.flushRestart, flushUs := sat 16 us, flushCause := b2n b.flushRestart
    flushCount := satInc 32 b.flushCount }
  s.raise 0x1A15 0xFF (BitVec.ofNat 8 (b2n s.aqf.flushRestart) :: zeros 3 ++ leBytes 4 us ++ leBytes 2 n)

/-! ### Registers (R513, R514) -/

/-- Objects a partition holds (R513). -/
def State.partObjects (s : State) (p : Nat) : Nat :=
  (s.aqf.objs.filter fun o => o.key.part == p).length + match p with
  | 0 => b2n s.cfg.p0Record.isSome + b2n (!s.ses.clog.isEmpty) + b2n (s.saf.proofLast != 0) + b2n s.icx.memberId.isSome
  | 4 => s.log.durable.length
  | 6 => 2 + b2n s.ses.siteCert.isSome + s.ses.accounts.length
  | _ => 0

/-- Length of the frozen export (R509, R510). -/
def AqfState.exportLen (b : AqfState) : Nat :=
  match b.export_ with
  | some os => 64 + (os.map fun o => 8 + o.size).foldl (· + ·) 0
  | none => 0

/-- Archive identifiers held, oldest first (R512). -/
def AqfState.archives (b : AqfState) : List Nat := (b.objs.filter fun o => o.key.part == 5).map fun o => o.key.tag

/-- Value of an AQF register; none where none is defined. -/
def aqfRead (s : State) (off : Nat) : Option Word :=
  let b := fillBudget s.now s.aqf
  let p := b.partSel
  let ids := b.archives
  match off with
  | 0x10 => some (pack [(b.phase.code, 0, 3), (b2n b.flushing, 3, 1), (b2n b.suspended, 4, 1), (b2n (decide (b.spare ≤ 16)), 5, 1),
      (b2n b.budgetLow, 6, 1), (b2n b.importPending, 7, 1), (b2n b.export_.isSome, 8, 1), (b2n b.rebuilt, 9, 1)])
  | 0x14 => some (pack [((b.journal + 1023) / 1024, 0, 16), ((b.journalPeak + 1023) / 1024, 16, 16)])
  | 0x18 => some (pack [(b.writes.length, 0, 7), (b.writesPeak, 16, 7)])
  | 0x1C => some (wordOfInt b.budget)
  | 0x20 => some (wordOf (((b.hour.filter fun e => decide (s.now - e.1 < 3600000000000)).map fun e => e.2).foldl (· + ·) 0))
  | 0x24 => some (loWord b.lifeBytes)
  | 0x28 => some (hiWord b.lifeBytes)
  | 0x2C => some (wordOf b.eraseMax)
  | 0x30 => some (f32Of b.eraseMean)
  | 0x34 => some (pack [(b.spare, 0, 8), (b.retired, 16, 16)])
  | 0x38 => some (wordOf b.bchCorr)
  | 0x3C => some (wordOf b.mediaErrors)
  | 0x40 => some (pack [(b.refBudget, 0, 16), (b.refOther, 16, 16)])
  | 0x44 => some (pack [(b.flushUs, 0, 16), (b.flushCause, 16, 1)])
  | 0x48 => some (wordOf b.flushCount)
  | 0x4C => some (wordOf p)
  | 0x50 => some (wordOf (s.partUsed p))
  | 0x54 => some (wordOf (partSize p))
  | 0x58 => some (pack [(sat 24 (s.partObjects p), 0, 24), (sat 8 (b.objs.filter fun o => o.key.part == p && o.orphan).length, 24, 8)])
  | 0x5C => some (wordOf b.exportLen)
  | 0x60 => some (wordOf b.importLen)
  | 0x64 => some (pack [(sat 8 ids.length, 0, 8), (ids.getLast?.getD 0, 16, 16)])
  | 0x68 => some 0
  | 0x6C => some (pack [(b.cmdResult, 0, 4), (b.cmdAction, 4, 4), (b.cmdSession, 8, 5), (b.cmdCause, 13, 3)])
  | 0x70 => some (wordOf (ids.head?.getD 0))
  | _ => none

/-- What a read clears (R22, R513). -/
def aqfClear (off : Nat) (s : State) : State :=
  match off with
  | 0x38 => s.modAqf fun b => { b with bchCorr := 0 }
  | 0x3C => s.modAqf fun b => { b with mediaErrors := 0 }
  | 0x40 => s.modAqf fun b => { b with refBudget := 0, refOther := 0 }
  | 0x48 => s.modAqf fun b => { b with flushCount := 0 }
  | _ => s

/-- Value of a LOG register; none where none is defined. FLUSHING shows a power-fail flush, the only flush that lasts (R495). -/
def logRead (s : State) (off : Nat) : Option Word :=
  let b := s.log
  let g := refillGlobal s.now b
  match off with
  | 0x10 => some (pack [(b2n b.logFault, 0, 1), (b2n b.volatileOnly, 1, 1), (b2n b.lastWordsOk, 2, 1), (b2n s.aqf.flushing, 3, 1),
      (b.epoch, 16, 16)])
  | 0x14 => some (wordOf b.seq)
  | 0x18 => some (wordOf b.flushed)
  | 0x1C => some (wordOf b.oldest)
  | 0x20 => some (wordOf b.unflushed)
  | 0x24 => some (wordOf b.suppressedCount)
  | 0x28 => some (wordOf b.droppedCount)
  | 0x2C => some (wordOf g.globalTokens)
  | 0x30 => some (wordOf b.lastWords.length)
  | 0x34 => some (loWord b.clearTime)
  | 0x38 => some (hiWord b.clearTime)
  | 0x3C => some (wordOf b.flushTotal)
  | 0x40 => some 0
  | 0x44 => some (pack [(b.cmdResult, 0, 4), (b.cmdSession, 4, 5)])
  | _ => none

/-- What a read clears (R22, R514). -/
def logClear (off : Nat) (s : State) : State :=
  match off with
  | 0x24 => s.modLog fun b => { b with suppressedCount := 0 }
  | 0x28 => s.modLog fun b => { b with droppedCount := 0 }
  | 0x3C => s.modLog fun b => { b with flushTotal := 0 }
  | _ => s

/-- Writable LOG registers (R514). -/
def logWritable (off : Nat) : Bool := off == 0x40

/-- LOG_CMD_RESULT (R514). -/
def logResult (w : WCtx) (r : Nat) (s : State) : State := s.modLog fun b => { b with cmdResult := r, cmdSession := w.session }

/-! ### Meanings of the commands -/

/-- Meaning of AQF_READ (R489). -/
def execAqfRead (key : StoreKey) (fault : FlashFault) (s : State) : Host.Outcome State Fault Refusal :=
  .next (readObj key fault s)

/-- Meaning of JOURNAL_DRAIN (R490). -/
def execJournalDrain (pages extra : Nat) (erases : Erases) (eraseMean : F32) (fault : FlashFault) (s : State) : Host.Outcome
  State Fault Refusal :=
  .next (journalDrain pages extra erases eraseMean fault s)

/-- Meaning of WEAR_RELOCATION (R491). -/
def execWearRelocation (bytes : Nat) (erases : Erases) (eraseMean : F32) (fault : FlashFault) (s : State) : Host.Outcome State
  Fault Refusal :=
  .next (wearRelocation bytes erases eraseMean fault s)

/-- Meaning of SEDIMENT_FLUSH (R502). -/
def execSedimentFlush (media : Bool) (s : State) : Host.Outcome State Fault Refusal :=
  .next (sedimentFlush media s)

/-- Meaning of SUPPRESSED (R503). -/
def execSuppressed (code : BitVec 16) (s : State) : Host.Outcome State Fault Refusal :=
  .next (suppressedDue code.toNat s)

/-- Meaning of LOG_FAULT (R508). -/
def execLogFault (cause : Fin 3) (s : State) : Host.Outcome State Fault Refusal :=
  .next (logFaultCmd cause.val s)

end Sys2Proof.Machine
end

