-- ==== Sys2Proof/Machine/Respond.lean ====
section
/-!
DEFINITION. Answers to session requests (R442 to R446): a response is sent on its connection while that stands, kept in the
session's cache, and ends the request's outstanding state; and the change log (R457).
-/
set_option autoImplicit false
namespace Sys2Proof.Machine

/-! ### Frames of an Ethernet port (R406, R411) -/

/-- One Ethernet port changed. -/
def modEthPort (p : Nat) (f : EthPort → EthPort) (s : State) : State := s.modEth fun b => { b with ports := updAt b.ports p f }

/-- A received frame counts in its second; the first frame of a new second reports those dropped in the last (R406, R412). -/
def countFrame (p : Nat) (s : State) : State :=
  let b := s.eth.ports.getD p {}
  let sec := s.now / 1000000000
  if b.second = sec then modEthPort p (fun b => { b with frames := b.frames + 1 }) s
  else
    let s := s.raiseIf (decide (0 < b.dropped)) 0x1613 p (leBytes 4 (sat 32 b.dropped))
    modEthPort p (fun b => { b with second := sec, frames := 1, dropped := 0, echoes := 0 }) s

/-- A frame passes the rate limit of 20,000 per second, or is dropped (R406). -/
def ethAdmit (p : Nat) (s : State) : State × Bool :=
  let s := modEthPort p (fun b => { b with rxFrames := satInc 32 b.rxFrames }) (countFrame p s)
  if 20000 < (s.eth.ports.getD p {}).frames then
    (modEthPort p (fun b => { b with rxDropped := satInc 32 b.rxDropped, dropped := b.dropped + 1 }) s, false)
  else (s, true)

/-- Frames received on an interface in the running second (R406). -/
def State.ethFrames (s : State) (p : Nat) : Nat :=
  let b := s.eth.ports.getD p {}
  if b.second = s.now / 1000000000 then b.frames else 0

/-- A connection by number. -/
def SesState.conn (b : SesState) (c : Nat) : Option Conn := b.conns.find? fun x => x.id == c

/-- A message on a connection finds room under its port's rate limit, and no drops of an earlier second wait to be told (R406, R412). -/
def State.tcpRoom (s : State) (conn : Nat) : Bool :=
  (s.ses.conn conn).all fun c =>
    let b := s.eth.ports.getD c.port {}
    decide (s.ethFrames c.port < 20000) && (b.second == s.now / 1000000000 || b.dropped == 0)

/-- A message arrives on a connection: its frames pass the port's rate limit and count, or it is dropped (R406, R411). How many frames beyond one
carry it is no rule's. -/
def tcpIn (conn : Nat) (s : State) : State × Bool :=
  match s.ses.conn conn with
  | none => (s, true)
  | some c =>
    let n := Config.tcpFrames false conn (s.eth.ports.getD c.port {}).rxFrames s.now
    let r := ethAdmit c.port s
    (if r.2 then modEthPort c.port (fun b => { b with rxFrames := satAdd 32 b.rxFrames n, frames := b.frames + n }) r.1 else r.1, r.2)

/-! ### Answers -/

/-- One session changed. -/
def modSession (i : Nat) (f : Session → Session) (s : State) : State := s.modSes fun b => { b with sessions := updAt b.sessions i f }

/-- A session record by index. -/
def SesState.session (b : SesState) (i : Nat) : Session := b.sessions.getD i {}

/-- The 16-byte header of a message: MAGIC, VERSION, TYPE, REQ_ID, LENGTH, STATUS, DETAIL and FLAGS (R442). -/
def OutMsg.headerBytes (m : OutMsg) : Bytes :=
  leBytes 2 0x514C ++ leBytes 1 1 ++ leBytes 1 m.type ++ leBytes 4 m.reqId ++ leBytes 2 m.payload.length ++ leBytes 2 m.status ++ leBytes 2 m.detail
    ++ leBytes 2 m.flags

/-- A message with its header formed. -/
def OutMsg.framed (m : OutMsg) : OutMsg := { m with header := m.headerBytes }

/-- The bytes of a message (R442). -/
def OutMsg.bytes (m : OutMsg) : Bytes := m.header ++ m.payload

/-- A message leaves on its connection while that is open (R442); its frames count on the port (R411). -/
def sendMsg (m : OutMsg) (s : State) : State :=
  match s.ses.conn m.conn with
  | none => s
  | some c =>
    let n := Config.tcpFrames true m.conn (s.eth.ports.getD c.port {}).txFrames s.now
    modEthPort c.port (fun b => { b with txFrames := satAdd 32 (satInc 32 b.txFrames) n }) (s.modSes fun b => { b with sent := m :: b.sent })

/-- The response to a request of a session: sent on its connection, or on the one that carries the session since a RESUME, cached, and no longer
outstanding (R53, R446, R447). -/
def respond (sess : Nat) (m : OutMsg) (s : State) : State :=
  let m := if s.ses.conns.any (fun c => c.id == m.conn) then m else { m with conn := (s.ses.session sess).conn }
  let s := match ((s.ses.session sess).outstanding.find? fun o => o.1 == m.reqId) with
    | some o => completeTag (tagOf o.2) .done s
    | none => s
  modSession sess (fun x => { x with
    cache := if x.phase == .free then x.cache else x.cache ++ [m]
    outstanding := x.outstanding.filter fun o => o.1 != m.reqId }) (sendMsg m s)

/-- An entry of the change log, whose transaction has been made; the oldest of 24,576 gives way (R457). `x` is the session's record. -/
def noteChange (x : Session) (sess kind target old new reqId detail : Nat) (s : State) : State :=
  let n := (s.ses.clogSeq + 1) % 2 ^ 32
  let e : ChangeEntry :=
    { time := s.now, seq := n, frame := s.frame, session := sess, role := x.role, method := if sess < 32 then x.method else 255
      kind := kind, target := target, old := old, new := new, reqId := reqId, source := x.source, ident := x.ident, detail := detail
      member := if s.icx.phase == .detached then 255 else (if s.icx.memberId.isSome then s.icx.index else 255) }
  let full := decide (24576 ≤ s.ses.clog.length)
  let s := s.modSes fun b => { b with
    clogSeq := n, clog := (if full then b.clog.drop 1 else b.clog) ++ [e], clogLost := if full then b.clogLost + 1 else b.clogLost }
  s.raiseIf (full && s.ses.clogLost % 1024 == 0) 0x1719 0xFF (leBytes 4 n)

/-- An entry of the change log, committed in P0 by a transaction of its own (R457). A store that cannot commit it does not keep it from the
log (assumption log 27). -/
def addChangeAs (x : Session) (sess kind target old new reqId detail : Nat) (s : State) : State :=
  noteChange x sess kind target old new reqId detail (commitEssential 0 64 s).1

/-- An entry for a session as it stands (R457). -/
def addChange (sess kind target old new reqId detail : Nat) (s : State) : State :=
  addChangeAs (s.ses.session sess) sess kind target old new reqId detail s

/-- The response to a WRITE (R443, R444). -/
def writeResponse (conn reqId applied status detail : Nat) : OutMsg :=
  OutMsg.framed { conn := conn, type := 0x11, reqId := reqId, status := status, detail := detail, flags := 1,
                  payload := leBytes 2 applied ++ zeros 2 }

/-- The entry of the change log for an accepted write that waited, under the session that wrote (R457). -/
def logWaited (w : Waiting) (detail : Nat) (s : State) : State :=
  if w.logged then
    addChangeAs { role := w.role, method := w.method, source := w.source, ident := w.ident } w.session 0 w.addr w.old.toNat w.value.toNat w.reqId detail s
  else s

/-- A write that waited is answered (R65, R136, R429): REFUSED or TIMEOUT with the pairs before it applied; accepted, OK after the last pair of its
WRITE, while pairs that follow it become due (R456). An accepted one enters the change log before its answer leaves, also where its session has
ended since and nothing is answered (R457). -/
def answer (w : Waiting) (status detail : Nat) (s : State) : State :=
  let here := s.ses.waiting.contains w
  let s := if status = 0 then logWaited w detail s else s
  if !here then s
  else if status = 0 ∧ w.rest ≠ [] then
    s.modSes fun b => { b with waiting := b.waiting.map fun x => if x == w then { x with ready := true } else x }
  else
    let s := s.modSes fun b => { b with waiting := b.waiting.filter (· != w) }
    respond w.session (writeResponse w.conn w.reqId (if status = 0 then w.before + 1 else w.before) status detail) s

/-- Every waiting write that satisfies p is answered. -/
def answerAll (p : Waiting → Bool) (status detail : Nat) (s : State) : State :=
  (s.ses.waiting.filter p).foldl (fun s w => answer w status detail s) s

/-- MODE_RESULT is set (R73, R95). -/
def setModeResult (code reqMode session : Nat) (s : State) : State :=
  s.modSup fun b => { b with resCode := code, resMode := reqMode, resSession := session, resFrame := s.frame % 65536 }

end Sys2Proof.Machine
end

