-- ==== Sys2Proof/Machine/Link.lean ====
section
/-!
DEFINITION. What a member hands to the Icxon link (R414 to R417), used by every block that sends to the domain.
-/
set_option autoImplicit false
namespace Sys2Proof.Machine

/-- This module's index in the domain (R419). -/
def State.selfIndex (s : State) : Nat := s.icx.index

/-- The module is a MEMBER of a domain, or ISOLATED or SUSPECT in it (R419). -/
def State.inDomain (s : State) : Bool := s.icx.phase == .member || s.icx.phase == .isolated || s.icx.phase == .suspect

/-- The module is a member that does not hold LEAD: the domain commands of R429 go to the LEAD. -/
def State.forwards (s : State) : Bool := s.inDomain && s.icx.role != .lead

/-- The module has a place in a domain and does not hold LEAD: it releases no commands and steers to domain time (R419, R423). -/
def State.standsBack (s : State) : Bool := s.icx.phase != .detached && s.icx.role != .lead

/-- REF_SRC: a non-LEAD member of a domain steers by domain time (R463). -/
def State.refDomain (s : State) : Bool := s.standsBack && s.icx.leadKnown

/-- HOLDOVER (R468, R479). -/
def State.holdover (s : State) : Bool :=
  s.tim.state == .free || s.tim.state == .holdover || s.tim.tcxoFault
    || (s.refDomain && (match (s.icx.members.getD s.icx.lead {}).snap with | some (x, _) => x.holdover | none => false))

/-- An Icxon frame of this member (R414). -/
def State.icxFrame (s : State) (type dst tag : Nat) (ackReq : Bool) (payload : Bytes) : IcxFrame :=
  { type := type, flags := 2 * b2n ackReq, domain := match s.icx.cfg with | some d => d.domain | none => 0
    src := s.selfIndex, dst := dst, ttl := Config.icxTtl, frame := s.frame, epoch := s.icx.epoch, tag := tag, payload := payload }

/-- The 24-byte header (R414). -/
def IcxFrame.header (f : IcxFrame) : Bytes :=
  leBytes 1 f.type ++ leBytes 1 f.flags ++ leBytes 1 f.domain ++ leBytes 1 f.src ++ leBytes 1 f.dst ++ leBytes 1 f.res5 ++ leBytes 2 f.ttl
    ++ leBytes 2 f.payload.length ++ leBytes 2 f.res10 ++ leBytes 4 f.frame ++ leBytes 4 f.epoch ++ leBytes 4 f.tag

/-- CRC-32C over the header and the payload (R414). -/
def IcxFrame.crcNow (f : IcxFrame) : Nat := crc32c (f.header ++ f.payload)

/-- The frame with its CRC formed. -/
def IcxFrame.withCrc (f : IcxFrame) : IcxFrame := { f with crc := f.crcNow }

/-- Bytes of the frame between its delimiters (R414). -/
def IcxFrame.bytes (f : IcxFrame) : Bytes := f.header ++ f.payload ++ leBytes 4 f.crc

/-- A COMMAND or a part of STATE with the bytes of its content (R415, R420). -/
def IcxFrame.filled (f : IcxFrame) : IcxFrame :=
  match f.cmd, f.part with
  | some c, _ => { f with payload := (Config.commandBytes c).take 1024 }
  | none, some (k, _, x) => { f with payload := (Config.stateBytes k x).take 1024 }
  | none, none => f

/-- A frame is put on every UP port; DIR names the side it leaves by (R414, R416). -/
def postIcx (f : IcxFrame) (s : State) : State :=
  s.modIcx fun b => { b with
    sent := b.sent ++ [f.withCrc]
    ports := b.ports.mapIdx fun i p =>
      if p.phase == .up then { p with out := p.out ++ [({ f with port := i, flags := f.flags / 2 * 2 + b2n (i == 1) } : IcxFrame).withCrc] } else p }

/-- A broadcast without acknowledgement (R415). -/
def broadcastIcx (type : Nat) (payload : Bytes) (s : State) : State := postIcx (s.icxFrame type 0xFF 0 false payload) s

/-- A RESULT: tag and status of a transaction, whose tag its header carries too (R414, R415, R417). -/
def resultIcx (dst tag status : Nat) (s : State) : State :=
  postIcx (s.icxFrame 0x05 dst tag false (leBytes 4 tag ++ leBytes 4 status)) s

/-! ### Members and transactions (R417, R438) -/

/-- A member by its index. -/
def IcxState.m (b : IcxState) (i : Nat) : Member := b.members.getD i {}

/-- A member was heard within 3 frames (R438). -/
def State.heardLately (s : State) (i : Nat) : Bool :=
  match (s.icx.m i).heard with | some f => decide (serialDiff s.frame f ≤ 3) | none => false

/-- A member is present: heard within 3 frames, or this module itself (R438); the LEAD counts an ISOLATED one as absent (R433). -/
def State.present (s : State) (i : Nat) : Bool :=
  if i = s.selfIndex then s.inDomain
  else s.heardLately i && !(s.icx.role == .lead && (s.icx.m i).phase == .isolated)

/-- Present members other than this one. -/
def State.others (s : State) : List Nat := indices 8 fun i => i != s.selfIndex && s.present i

/-- A transaction is sent with an Icxon tag, or refused FULL and counted when 256 are outstanding (R54, R417); says whether it was sent. -/
def sendTxn (type dst : Nat) (origin : Option Waiting) (fill : IcxFrame → IcxFrame) (s : State) : State × Bool :=
  if 256 ≤ s.icx.txns.length then (s.modIcx fun b => { b with txnFull := satInc 32 b.txnFull }, false)
  else
    let t := s.newTag 0x18 13
    let f := (fill (s.icxFrame type dst t.word true [])).filled
    let told := match f.cmd with | some (.told _ _ _) => true | _ => false
    let s := openTag t s
    let s := s.modIcx fun b => { b with
      txns := b.txns ++ [{ tag := t.word, type := type, dst := dst, sentAt := s.now, origin := origin, left := if dst = 0xFF then s.others else [], told := told }] }
    (postIcx f s, true)

/-- The LEAD's evaluation, as its MODE_RESULT has it, goes to every other present member, whose MODE_RESULT reports it (R429). -/
def tellResult (s : State) : State :=
  if s.inDomain && s.icx.role == .lead && !s.others.isEmpty then
    (sendTxn 0x04 0xFF none (fun f => { f with cmd := some (.told s.sup.resCode s.sup.resMode s.sup.resSession) }) s).1
  else s

/-- A LEAD finds that another one stands: it steps down at the next frame instant (R432, R439). -/
def stepDown (other epoch : Nat) (onCan : Bool) (s : State) : State :=
  if s.icx.rejoin then s
  else (s.modIcx fun b => { b with rejoin := true, rejoinTo := if onCan then none else some (other, epoch) }).raise 0x1816 other
      (leBytes 4 s.icx.epoch ++ leBytes 4 epoch ++ [BitVec.ofNat 8 (b2n onCan)])

/-- A MODULE_STATUS with LEAD = 1 on the witness port (R431, R433). In a LEAD by silence it is a foreign one, and the second in
consecutive frames makes it step down (R432); which member sent it, and its epoch, the frame does not say (assumption log 26). -/
def witnessStatus (frame t : Nat) (s : State) : State :=
  let run := if s.icx.witnessFrame == some ((frame + 2 ^ 32 - 1) % 2 ^ 32) then min 2 (s.icx.foreignLead + 1) else 1
  let s := s.modIcx fun b => { b with witnessAt := some t, witnessFrame := some frame, foreignLead := run }
  if s.icx.role == .lead && s.icx.leadBySilence && decide (2 ≤ run) && !s.icx.rejoin then
    stepDown (Config.foreignLead s.free % 8) (Config.foreignEpoch s.free) true s.draw
  else s

end Sys2Proof.Machine
end

