-- ==== Sys2Proof/Machine/Can.lean ====
section
/-!
DEFINITION. The CAN FD ports and the Luquel frame set, block CAN (chapter 11_buses_and_serial.md, R376 to R398, R409).
-/
set_option autoImplicit false
namespace Sys2Proof.Machine

/-! ### Access -/

/-- A port by number. -/
def CanState.port (b : CanState) (p : Nat) : CanPort := b.ports.getD p {}

/-- One port changed. -/
def modPort (p : Nat) (f : CanPort → CanPort) (s : State) : State := s.modCan fun b => { b with ports := updAt b.ports p f }

/-- Drive feedback of a thruster (R394). -/
def CanState.fbOf (b : CanState) (i : Nat) : ThrFb := b.fb.getD i {}

/-- Assignment of a class (R387): 0 CMD, 1 FB, 2 JOY, 3 PWR, 4 ALLOC, 5 STATUS. -/
def CanState.cls (b : CanState) (c : Nat) : CanClassCfg := b.classes.getD c {}

/-- FD frames are enabled on the port (R376, R409). -/
def CanPort.isFd (p : CanPort) : Bool := bit p.cfg.cfg 5

/-- Listen-only (R384, R409). -/
def CanPort.listens (p : CanPort) : Bool := bit p.cfg.cfg 6

/-- Automatic bus-off recovery (R386, R409). -/
def CanPort.autoRecover (p : CanPort) : Bool := bit p.cfg.cfg 8

/-- Identifier of a Luquel offset on a port (R389). -/
def CanPort.luqId (p : CanPort) (off : Nat) : Nat := p.cfg.idBase + off

/-- Luquel identifiers are of 29 bits on the port (R409). -/
def CanPort.luqExt (p : CanPort) : Bool := bit p.cfg.cfg 9

/-! ### Submission (R378 to R382) -/

/-- Lengths a data field can have (R379). -/
def validDlc (fd : Bool) (n : Nat) : Bool := decide (n ≤ 8) || (fd && [12, 16, 20, 24, 32, 48, 64].contains n)

/-- A submission's refusal, if any (R31, R379). -/
def CanPort.refusal (p : CanPort) (f : CanFrame) : Option TxRefusal :=
  if p.phase == .off then some .domainOff
  else if 64 ≤ p.tx.length then some .full
  else if p.listens then some .listenOnly
  else if (f.fd && !p.isFd) || !validDlc f.fd f.data.length then some .format
  else none

/-- The next tick release (R51, R266). -/
def State.nextTick (s : State) : Nat := s.tim.tickAt + 1000000

/-- Module time at which a gate opens (R378). -/
def State.gateTime (s : State) : TxGate → Nat
  | .none_ => 0
  | .strobe => if s.tim.strobed then s.tim.frameAt + 36000000 else s.tim.frameAt + 16000000
  | .tick => s.nextTick

/-- Status of the tag of a transmit entry that ends with a status (R44, R378). -/
def TxStatus.tagStatus : TxStatus → TagStatus
  | .abandoned => .abandoned
  | .cancelled | .superseded => .cancelled
  | .memFault => .memFault
  | _ => .done

/-- A transmit entry leaves the controller with a status (R378). -/
def finishTx (p : Nat) (e : TxEntry) (st : TxStatus) (s : State) : State :=
  let s := modPort p (fun b => { b with
    tx := b.tx.filter (fun x => x.order != e.order)
    done := (e.tag, st, s.now) :: b.done
    txCount := if st == .sent || st == .sentAfterCancel then satInc 32 b.txCount else b.txCount
    cancelled := if st == .cancelled then satInc 16 b.cancelled else b.cancelled
    sentAfter := if st == .sentAfterCancel then satInc 16 b.sentAfter else b.sentAfter
    superseded := if st == .superseded then satInc 16 b.superseded else b.superseded }) s
  completeTag e.tag st.tagStatus s

/-- Two entries carry the same identifier (R381). -/
def sameId (a b : CanFrame) : Bool := a.id == b.id && a.ext == b.ext

/-- PENDING entries of the same identifier are superseded by an entry of a later submission (R381). -/
def supersede (p : Nat) (f : CanFrame) (order : Nat) (s : State) : State :=
  ((s.can.port p).tx.filter fun e => e.phase == .pending && sameId e.frame f && decide (e.order < order)).foldl
    (fun s e => finishTx p e .superseded s) s

/-- The submitter fills a FREE entry: identifier, format, length, data, release gate (R378). -/
def fillEntry (p : Nat) (f : CanFrame) (gateAt : Nat) (tag : Tag) (cls : Option Nat) (s : State) : State :=
  modPort p (fun b => { b with
    tx := b.tx ++ [{ frame := f, phase := .filled, gateAt := gateAt, tag := tag, cls := cls, order := b.nextOrder }], nextOrder := b.nextOrder + 1 }) s

/-- The controller acknowledges a FILLED entry, which is PENDING and its own from then on (R378). -/
def acknowledge (p order : Nat) (s : State) : State :=
  modPort p (fun b => { b with tx := b.tx.map fun e => if e.order == order && e.phase == .filled then { e with phase := .pending } else e }) s

/-- A submission to a port (R378, R379, R381). A refused one leaves its status with the submitter, whose entry is FREE again. -/
def submitCan (p engine : Nat) (f : CanFrame) (gate : TxGate) (cls : Option Nat) (s : State) : State :=
  let b := s.can.port p
  match b.refusal f with
  | some r => modPort p (fun b => { b with refused := satInc 16 b.refused, refusedWith := some (engine, r) }) s
  | none =>
    let t := s.newTag 0x14 engine
    let g := s.gateTime gate
    let s := acknowledge p b.nextOrder (fillEntry p f g t cls (openTag t s))
    let s := supersede p f b.nextOrder s
    modPort p (fun b => { b with peak := max b.peak b.tx.length }) s

/-- A STANDBY mirror of the class on this primary port is active, or its mirror is DUAL (R387). -/
def CanState.mirrorUsed (b : CanState) (c : CanClassCfg) : Bool :=
  decide (c.mirror < 4) && c.mirror != c.primary && (!c.standby || (b.port c.primary).mirrored)

/-- The outbound class whose frame a frame on its primary port is, by its identifier (R387, R389). -/
def CanState.classOf (b : CanState) (p : Nat) (f : CanFrame) : Option Nat :=
  let q := b.port p
  let off := f.id - q.cfg.idBase
  let cls := if off < 0x20 then some 0 else if 0x40 ≤ off ∧ off < 0x80 then some 4 else if off = 0xF0 then some 5 else none
  if f.ext == q.luqExt && decide (q.cfg.idBase ≤ f.id) then cls.filter fun c => (b.cls c).primary == p else none

/-- The mirror port that a submission to a port goes to as well (R387). -/
def CanState.mirrorOf (b : CanState) (p : Nat) (f : CanFrame) : Option Nat :=
  (b.classOf p f).bind fun c => if b.mirrorUsed (b.cls c) then some (b.cls c).mirror else none

/-- The frame with the Luquel identifier of another port (R389). -/
def CanState.rebase (b : CanState) (p m : Nat) (f : CanFrame) : CanFrame :=
  { f with id := (b.port m).luqId (f.id - (b.port p).cfg.idBase), ext := (b.port m).luqExt }

/-- A submission of an engine (R378, R387): a frame of a class goes to the class's mirror port too where that is used. -/
def submitFrame (p engine : Nat) (f : CanFrame) (gate : TxGate) (s : State) : State :=
  let cls := s.can.classOf p f
  let s' := submitCan p engine f gate cls s
  match s.can.mirrorOf p f with
  | some m => submitCan m engine (s.can.rebase p m f) gate cls s'
  | none => s'

/-- A Luquel frame of a class goes to its primary port, and to its mirror port under DUAL or an active STANDBY (R387, R389). -/
def sendLuquel (cls off : Nat) (fd : Bool) (data : Bytes) (gate : TxGate) (s : State) : State :=
  let c := s.can.cls cls
  let frame := fun p => { id := (s.can.port p).luqId off, ext := (s.can.port p).luqExt, fd := fd, data := data : CanFrame }
  if c.primary < 4 then
    let s' := submitCan c.primary 13 (frame c.primary) gate (some cls) s
    if s.can.mirrorUsed c then submitCan c.mirror 13 (frame c.mirror) gate (some cls) s' else s'
  else s

/-- A Luquel data field with its CRC-8 (R390). -/
def withCrc8 (d : Bytes) : Bytes := d ++ [BitVec.ofNat 8 (crc8 d)]

/-- THRUST_CMD (R392). -/
def thrustCmd (frame : Nat) (out : Rat) (enable ramp test : Bool) (mode : Nat) : Bytes :=
  withCrc8 (f32Bytes out ++ [BitVec.ofNat 8 (b2n enable + 2 * b2n ramp + 4 * b2n test), BitVec.ofNat 8 frame, BitVec.ofNat 8 mode])

/-- AZPITCH_CMD (R393). -/
def azPitchCmd (frame az slew seq : Nat) : Bytes :=
  withCrc8 (leBytes 2 az ++ [BitVec.ofNat 8 slew, 0, BitVec.ofNat 8 seq, BitVec.ofNat 8 frame, 0])

/-- EXT_DEMAND (R397). -/
def extDemandData (frame : Nat) (d : Demand) (valid : Bool) : Bytes :=
  withCrc8 (leBytes 4 frame ++ f32Bytes d.surge ++ f32Bytes d.sway ++ f32Bytes d.yaw ++ [BitVec.ofNat 8 (b2n valid), 0, 0])

/-- MODULE_STATUS (R398). -/
def moduleStatus (s : State) : Bytes :=
  let flags := b2n s.sup.dpReady + 2 * b2n s.safeStop + 4 * b2n s.sup.locked + 8 * b2n s.ctl.lost + 16 * b2n s.fus.snap.posValid
    + 32 * b2n s.fus.snap.hdgValid + 64 * b2n s.holdover + 128 * b2n (s.icx.role == .lead)
  withCrc8 ([BitVec.ofNat 8 (modeCode s.sup.mode), BitVec.ofNat 8 flags] ++ leBytes 4 s.frame ++ [0])

/-- One AZPITCH_CMD of a thruster, with the next SEQ (R393). -/
def sendAzPitch (i az slew : Nat) (gate : TxGate) (s : State) : State :=
  let seq := ((s.can.azSeq.getD i 0) + 1) % 256
  let s := s.modCan fun b => { b with azSeq := updAt b.azSeq i (fun _ => seq), azSlew := updAt b.azSlew i (fun _ => slew) }
  sendLuquel 0 (0x10 + i) false (azPitchCmd s.frame az slew seq) gate s

/-! ### Arbitration and errors (R378, R380, R382, R385 to R387) -/

/-- Key of arbitration: base identifier, 11-bit before 29-bit, extension, order of submission (R380). -/
def arbKey (e : TxEntry) : Nat × Nat × Nat × Nat :=
  if e.frame.ext then (e.frame.id / 2 ^ 18 % 2 ^ 11, 1, e.frame.id % 2 ^ 18, e.order) else (e.frame.id % 2 ^ 11, 0, 0, e.order)

/-- Lexicographic order of keys. -/
def keyLt (a b : Nat × Nat × Nat × Nat) : Bool :=
  decide (a.1 < b.1) || (a.1 == b.1 && (decide (a.2.1 < b.2.1) || (a.2.1 == b.2.1 &&
    (decide (a.2.2.1 < b.2.2.1) || (a.2.2.1 == b.2.2.1 && decide (a.2.2.2 < b.2.2.2))))))

/-- The entry that enters arbitration next (R380). -/
def CanPort.first (p : CanPort) (now : Nat) : Option TxEntry :=
  (p.tx.filter fun e => e.phase == .pending && decide (e.gateAt ≤ now)).foldl
    (fun best e => match best with
      | none => some e
      | some b => if keyLt (arbKey e) (arbKey b) then some e else some b) none

/-- The port takes part in bus traffic (R384, R386). -/
def CanPort.onBus (p : CanPort) : Bool := p.phase == .errorActive || p.phase == .errorPassive

/-- An entry enters arbitration (R378, R380). -/
def canFrameStart (p : Nat) (s : State) : State :=
  let b := s.can.port p
  if b.onBus && !b.listens && b.tx.all (fun e => e.phase == .pending) then
    match b.first s.now with
    | some e => modPort p (fun b => { b with tx := b.tx.map fun x => if x.order == e.order then { x with phase := .transmitting } else x }) s
    | none => s
  else s

/-- A copy of a PENDING entry of a class goes to the mirror port with a tag of its own (R387). -/
def copyToMirror (primary mirror : Nat) (e : TxEntry) (s : State) : State :=
  submitCan mirror e.tag.engine (s.can.rebase primary mirror e.frame) (if s.now < e.gateAt then (if e.gateAt == s.gateTime .strobe then .strobe else .tick) else .none_) e.cls s

/-- Classes with a STANDBY mirror whose primary port is p, by index. -/
def CanState.standbyClasses (b : CanState) (p : Nat) : List Nat :=
  (List.range 6).filter fun c => (b.cls c).primary == p && (b.cls c).standby && decide ((b.cls c).mirror < 4)

/-- The mirror ports of a primary port's STANDBY classes. -/
def CanState.mirrorPorts (b : CanState) (p : Nat) : List Nat :=
  (List.range 4).filter fun m => (b.standbyClasses p).any fun c => (b.cls c).mirror == m

/-- The STANDBY mirrors of a primary port become active (R387). -/
def activateMirrors (p : Nat) (s : State) : State :=
  let ms := s.can.mirrorPorts p
  if (s.can.port p).mirrored || ms.isEmpty then s
  else
    let cs := s.can.standbyClasses p
    let s := modPort p (fun b => { b with mirrored := true }) s
    ms.foldl (fun s m =>
      let es := (s.can.port p).tx.filter fun e => match e.cls with
        | some c => cs.contains c && (s.can.cls c).mirror == m
        | none => false
      let s := es.foldl (fun s e => copyToMirror p m e s) s
      (s.modCan fun b => { b with mirrors := satInc 32 b.mirrors }).raise 0x1416 p [BitVec.ofNat 8 m, 1]) s

/-- Bus-off (R386): every entry is PENDING and stays owned by the controller; a held CANCEL completes its entry. -/
def busOff (p : Nat) (s : State) : State :=
  let s := ((s.can.port p).tx.filter fun e => e.cancelHeld).foldl (fun s e => finishTx p e .cancelled s) s
  let s := modPort p (fun b => { b with
    phase := .busOff, busOffs := satInc 32 b.busOffs, busOffAt := s.now, recovering := b.autoRecover
    tx := b.tx.map fun e => { e with phase := .pending } }) s
  let s := s.raise 0x1412 p [BitVec.ofNat 8 (s.can.port p).tx.length]
  activateMirrors p s

/-- The error counters decide the port's state (R385, R386; ISO 11898-1 thresholds 127 and 255). -/
def errorState (p : Nat) (s : State) : State :=
  let b := s.can.port p
  if !b.onBus then s
  else if 255 < b.tec then busOff p s
  else
    let passive := decide (127 < b.tec) || decide (127 < b.rec_)
    let d := leBytes 2 b.tec ++ [BitVec.ofNat 8 b.rec_]
    if passive && b.phase == .errorActive then (modPort p (fun b => { b with phase := .errorPassive }) s).raise 0x1410 p d
    else if !passive && b.phase == .errorPassive then
      (modPort p (fun b => { b with phase := .errorActive, activeAt := s.now }) s).raise 0x1411 p d
    else s

/-- An entry returns to PENDING, and is superseded if a newer submission of its identifier waits (R378, R381). -/
def backToPending (p : Nat) (e : TxEntry) (s : State) : State :=
  if (s.can.port p).tx.any (fun x => x.order != e.order && sameId x.frame e.frame && decide (e.order < x.order)) then
    finishTx p e .superseded s
  else modPort p (fun b => { b with tx := b.tx.map fun x => if x.order == e.order then { x with phase := .pending } else x }) s

/-- A transmission ends (R378, R382, R385, R386). -/
def canFrameEnd (p : Nat) (how : CanEnd) (s : State) : State :=
  let b := s.can.port p
  match b.tx.find? (fun e => e.phase == .transmitting) with
  | none => s
  | some e =>
    if !b.onBus then s
    else match how with
    | .sent =>
      let s := finishTx p e (if e.cancelHeld then .sentAfterCancel else .sent) s
      errorState p (modPort p (fun b => { b with tec := b.tec - 1 }) s)
    | .lost => if e.cancelHeld then finishTx p e .cancelled s else backToPending p e s
    | _ =>
      let grow := !(how == .noAck && b.phase == .errorPassive)
      let s := modPort p (fun b => { b with errFrames := satInc 32 b.errFrames, tec := if grow then b.tec + 8 else b.tec }) s
      let s := if e.cancelHeld then finishTx p e .cancelled s else backToPending p e s
      errorState p s

/-- An error detected while receiving (R385, R409): the receive counter rises by 1, or by 8 for a dominant bit after the flag. A
listen-only port's counters do not change (R384). -/
def canErrorDetected (p : Nat) (dominant : Bool) (s : State) : State :=
  let b := s.can.port p
  if !b.onBus then s
  else
    let s := modPort p (fun b => { b with
      errFrames := satInc 32 b.errFrames
      rec_ := if b.listens then b.rec_ else min 255 (b.rec_ + (if dominant then 8 else 1)) }) s
    errorState p s

/-- CANCEL of an entry (R382): PENDING completes CANCELLED, TRANSMITTING holds it; otherwise the answer is NOTHING_PENDING. -/
def canCancel (p : Nat) (tag : Nat) (s : State) : State :=
  match (s.can.port p).tx.find? (fun e => e.tag.word == tag) with
  | none => modPort p (fun b => { b with nothingPending := some tag }) s
  | some e =>
    if e.phase == .pending then finishTx p e .cancelled s
    else modPort p (fun b => { b with tx := b.tx.map fun x => if x.order == e.order then { x with cancelHeld := true } else x }) s

/-- The port has seen 128 occurrences of 11 recessive bits (R386). -/
def canRecovered (p : Nat) (s : State) : State :=
  let b := s.can.port p
  if b.phase == .busOff && b.recovering then
    let s := modPort p (fun b => { b with phase := .errorActive, tec := 0, rec_ := 0, recovering := false, activeAt := s.now }) s
    s.raise 0x1413 p (zeros 4 ++ leBytes 4 ((s.now - b.busOffAt) / 1000))
  else s

/-- The primary port error-active for 1 s ends its mirrors (R387). -/
def mirrorEnd (p : Nat) (s : State) : State :=
  let b := s.can.port p
  if b.mirrored && b.phase == .errorActive && decide (1000000000 ≤ s.now - b.activeAt) then
    let s := modPort p (fun b => { b with mirrored := false }) s
    (s.can.mirrorPorts p).foldl (fun s m => s.raise 0x1416 p [BitVec.ofNat 8 m, 0]) s
  else s

/-- The class's CAN path is in fault: its primary port in bus-off and no mirror carries it (R388). -/
def CanState.classFault (b : CanState) (c : Nat) : Bool :=
  (b.port (b.cls c).primary).phase == .busOff &&
    !(b.mirrorUsed (b.cls c) && (b.port (b.cls c).mirror).phase != .busOff && (b.port (b.cls c).mirror).phase != .off)

/-- PORT_FAULT of a port (R388, R409). -/
def CanState.portFault (b : CanState) (p : Nat) : Bool :=
  let cs := (List.range 6).filter fun c => (b.cls c).primary == p
  (b.port p).phase == .busOff && (cs.isEmpty || cs.any fun c => b.classFault c)

/-! ### Reception (R383, R387, R389 to R398) -/

/-- Offset of an inbound frame (R389). -/
def LuqIn.offset : LuqIn → Nat
  | .azPitch i => 0x10 + i
  | .thrFb i => 0x20 + i
  | .joy => 0x30
  | .pwr b => 0x38 + b
  | .extCap g => 0x80 + g
  | .status => 0xF0

/-- Inbound frames that the image gives a port (R377, R387, R389, R560): those of the classes on the port, of the thrusters, buses and groups it
defines, AZPITCH_CMD in a module of a domain (R423) and MODULE_STATUS on the witness port (R431). -/
def Image.inbound (im : Image) (cls : Nat → CanClassCfg) (p : Nat) : List LuqIn :=
  let onPort := fun c => (cls c).primary == p || (cls c).mirror == p
  let some' := fun (c : Bool) (l : List LuqIn) => if c then l else []
  let thr := indices 16 fun i => (lookupK im.thrusters i).isSome
  some' (onPort 0 && im.domain.isSome) (thr.map .azPitch) ++ some' (onPort 1) (thr.map .thrFb) ++ some' (onPort 2) [.joy]
    ++ some' (onPort 3) ((indices 8 fun b => (lookupK im.buses b).isSome).map .pwr)
    ++ some' (onPort 4) ((indices 64 fun g => match lookupK im.groups g with | some c => c.external && !c.extIcxon | none => false).map .extCap)
    ++ some' (match im.domain with | some d => d.witness == p | none => false) [.status]

/-- A port's acceptance filters, which the module sets from the image (R377, R560): one for each inbound frame, which is FD where R389 says so. -/
def Image.canFilters (im : Image) (cls : Nat → CanClassCfg) (p : Nat) (q : CanPortCfg) : List CanFilter :=
  (im.inbound cls p).map fun k =>
    { id := q.idBase + k.offset, mask := if bit q.cfg 9 then 0x1FFFFFFF else 0x7FF, ext := bit q.cfg 9
      fd := match k with | .extCap _ => true | _ => false, target := k }

/-- A frame passes a filter (R377). -/
def CanFilter.takes (x : CanFilter) (f : CanFrame) : Bool := x.ext == f.ext && x.fd == f.fd && (x.id &&& x.mask) == (f.id &&& x.mask)

/-- The consumer of a received frame: that of the first filter it matches (R377). -/
def CanPort.route (b : CanPort) (f : CanFrame) : Option LuqIn := (b.filters.find? fun x => x.takes f).map CanFilter.target

/-- Length of an inbound frame (R389). -/
def LuqIn.len : LuqIn → Nat
  | .extCap _ => 64
  | _ => 8

/-- Bits of byte i that must be 0 (R394 to R398). -/
def LuqIn.reserved : LuqIn → List (Nat × Nat)
  | .azPitch _ => [(2, 0xF0), (3, 0xFF), (6, 0xFF)]
  | .thrFb _ => []
  | .joy => [(6, 0x0E)]
  | .pwr _ => [(4, 0xFE), (6, 0xFF)]
  | .extCap _ => (3, 0xFE) :: (List.range 11).map fun i => (52 + i, 0xFF)
  | .status => [(6, 0xFF)]

/-- What the ALIVE values of an inbound frame are compared under: its offset, and of EXT_CAP the PART too, whose frames have one SEQ (R390, R397). -/
def LuqIn.key (k : LuqIn) (d : Bytes) : Nat :=
  match k with
  | .extCap _ => k.offset + 256 * byteAt d 2
  | _ => k.offset

/-- ALIVE of an inbound frame; of EXT_CAP the SEQ (R394 to R397). MODULE_STATUS has none. -/
def LuqIn.alive (k : LuqIn) (d : Bytes) : Option Nat :=
  match k with
  | .azPitch _ => some (byteAt d 5 + 256 * byteAt d 4)
  | .thrFb _ => some (byteAt d 6 / 64)
  | .joy => some (byteAt d 6 / 16)
  | .pwr _ => some (byteAt d 5)
  | .extCap _ => some (leAt d 0 2)
  | .status => none

/-- Directions of the image's set, 26 by default (R245). -/
def Image.dirCount (im : Image) : Nat := if im.directions.isEmpty then 26 else im.directions.length

/-- The fields a consumer can use (R391); a facet beyond the direction set has no consumer, but must be finite (R397). -/
def LuqIn.usable (dirs : Nat) (k : LuqIn) (d : Bytes) : Bool :=
  match k with
  | .azPitch _ => decide (byteAt d 2 % 4 < 3) && decide (byteAt d 2 / 4 % 4 < 3)
  | .thrFb _ => f32Finite (f32At d 0)
  | .pwr _ => f32Finite (f32At d 0) && decide (0 ≤ ratAt d 0)
  | .extCap _ => (List.range 12).all fun i => f32Finite (f32At d (4 + 4 * i)) &&
      (decide (dirs ≤ 12 * byteAt d 2 + i) || decide (0 ≤ ratAt d (4 + 4 * i)))
  | _ => true

/-- Cause of a rejection, checked in the order length, CRC, reserved bits, value (R390, R391). -/
def luqCause (dirs : Nat) (k : LuqIn) (d : Bytes) : Option Nat :=
  if d.length ≠ k.len then some 1
  else if crc8 (d.take (d.length - 1)) ≠ byteAt d (d.length - 1) then some 0
  else if k.reserved.any (fun r => decide (byteAt d r.1 &&& r.2 ≠ 0)) then some 2
  else if !k.usable dirs d then some 4
  else none

/-- LUQ_REJECT (R390, R391, R412). -/
def luqReject (p off cause : Nat) (s : State) : State :=
  (modPort p (fun b => if cause = 3 then { b with luqAlive := satInc 16 b.luqAlive } else { b with luqCheck := satInc 16 b.luqCheck }) s).raise
    0x1415 p (leBytes 2 off ++ [BitVec.ofNat 8 cause])

/-- THR_FB reaches its consumers: CAN's own record and SC's mirror (R34, R394). Those that take a field keep its last valid value. -/
def deliverFb (i p t : Nat) (d : Bytes) (s : State) : State :=
  let old := s.can.fbOf i
  let st := byteAt d 6
  let outOk := decide (st / 32 % 2 = 1)
  let s := s.modCan fun b => { b with fb := updAt b.fb i fun x => { x with
    status := st, port := p, out := ratAt d 0, az := leAt d 4 2, outValid := if outOk then ratAt d 0 else x.outValid
    azValid := if st / 16 % 2 = 1 then leAt d 4 2 else x.azValid, at_ := some t } }
  let s := s.modSaf fun b => { b with
    mirrorAt := some s.now
    thr := updAt b.thr i fun x => if x.cfg.fbClassF || !outOk then x else { x with fb := ratAt d 0, fbAt := some t } }
  s.raiseIf (old.status != st) 0x1417 i [BitVec.ofNat 8 old.status, BitVec.ofNat 8 st]

/-- Fraction of a JOY field: −32,768 reads as −32,767 (R395). -/
def joyFrac (n : Nat) : Rat := ((max (toSigned 16 n) (-32767) : Int) : Rat) / 32767

/-- A part of EXT_CAP (R397): the capability is complete with its last part. -/
def deliverCap (g t : Nat) (d : Bytes) (s : State) : State :=
  let k := s.image.dirCount
  let seq := leAt d 0 2
  let part := byteAt d 2
  let vals := (List.range 12).map fun i => ratAt d (4 + 4 * i)
  let old := match lookupK s.can.caps g with | some c => if c.seq == seq then c else { seq := seq } | none => { seq := seq }
  let c : CapAssembly := { old with sat := decide (byteAt d 3 % 2 = 1), parts := insertK old.parts part vals }
  let need := (k + 11) / 12
  let s := s.modCan fun b => { b with caps := insertK b.caps g c }
  if (List.range need).all (fun i => (lookupK c.parts i).isSome) then
    let h := ((List.range need).flatMap fun i => (lookupK c.parts i).getD []).take k
    let s := s.modCan fun b => { b with caps := b.caps.filter fun e => e.1 != g }
    s.modCtl fun b => { b with groups := updAt b.groups g fun x => { x with extFacets := h, extAt := some t, extSat := c.sat } }
  else s

/-- An accepted Luquel frame reaches its consumer (R394 to R398, R431, R432). -/
def deliverLuq (k : LuqIn) (p t : Nat) (d : Bytes) (s : State) : State :=
  match k with
  | .azPitch i => if !s.standsBack then s else s.modCan fun b => { b with leadSlew := updAt b.leadSlew i fun _ => byteAt d 2 }
  | .thrFb i => deliverFb i p t d s
  | .joy =>
    if byteAt d 6 % 2 = 1 ∧ s.scalars.joySource = 2 then
      s.modCtl fun b => { b with joy := { b.joy with
        value := some ({ surge := joyFrac (leAt d 0 2), sway := joyFrac (leAt d 2 2), yaw := joyFrac (leAt d 4 2) }, t), stale := false } }
    else s
  | .pwr i =>
    let can := match lookupK s.image.buses i with | some b => b.source == 1 | none => false
    if byteAt d 4 % 2 = 1 ∧ can = true then
      s.modCtl fun b => { b with buses := updAt b.buses i fun x => { x with value := ratAt d 0, at_ := some t } }
    else s
  | .extCap g => deliverCap g t d s
  | .status =>
    if byteAt d 1 / 128 = 1 then witnessStatus (leAt d 2 4) t s else s

/-- A good reception lowers the receive error counter (R377, R385; ISO 11898-1). -/
def recGood (b : CanPort) : CanPort :=
  { b with rec_ := if b.listens then b.rec_ else if 127 < b.rec_ then 119 + Config.recAfterPassive % 9 else b.rec_ - 1 }

/-- What an ALIVE value shows: a new value, the second copy of one accepted from the class's other port, or a repetition (R387, R390). -/
inductive AliveMark where
  | fresh | copy | repeated
deriving DecidableEq, Repr

/-- An accepted ALIVE value of a frame, from another port within 100 ms, of which this is the second copy (R387). -/
def isCopy (now p key a : Nat) (x : Nat × Nat × Nat × Nat) : Bool :=
  x.1 == key && x.2.1 == a && x.2.2.1 != p && decide (now - x.2.2.2 ≤ 100000000)

/-- An ALIVE value against those accepted within 100 ms: every one of the frame, and the last on the same port (R387, R390). -/
def aliveCheck (s : State) (p key : Nat) (a : Option Nat) : AliveMark :=
  match a with
  | none => .fresh
  | some a =>
    let same := match lookupK s.can.aliveOn (4 * key + p) with
      | some (v, t) => v == a && decide (s.now - t ≤ 100000000)
      | none => false
    if s.can.alive.any (isCopy s.now p key a) then .copy else if same then .repeated else .fresh

/-- An accepted ALIVE value is kept for its second copy and for repetitions (R387, R390). -/
def acceptAlive (p key a : Nat) (s : State) : State :=
  s.modCan fun b => { b with
    alive := b.alive.filter (fun x => decide (s.now - x.2.2.2 ≤ 100000000) && !(x.1 == key && x.2.1 == a)) ++ [(key, a, p, s.now)]
    aliveOn := insertK b.aliveOn (4 * key + p) (a, s.now) }

/-- The second copy of an ALIVE value is discarded; a third would be none (R387). -/
def dropCopy (p key : Nat) (a : Option Nat) (s : State) : State :=
  match a with
  | some a => s.modCan fun b => { b with alive := b.alive.filter fun x => !isCopy s.now p key a x }
  | none => s

/-- A frame that finds no released receive entry is dropped; the drops of the last second are told at most once a second (R383, R412). -/
def dropRx (p : Nat) (s : State) : State :=
  let b := s.can.port p
  let l := b.drops.filter (fun a => decide (s.now - a < 1000000000)) ++ [s.now]
  let due := match b.overrunAt with | some a => decide (1000000000 ≤ s.now - a) | none => true
  let s := modPort p (fun b => { b with
    rxOverrun := satInc 32 b.rxOverrun, drops := l, overrunAt := if due then some s.now else b.overrunAt }) s
  s.raiseIf due 0x1414 p (leBytes 4 l.length)

/-- A received frame (R377, R383, R387, R389 to R391). `held` is the number of receive entries that the consumers have not released by now, the
newest, `backUs` how long before now its start of frame was. -/
def canRxFrame (p : Nat) (f : CanFrame) (remote : Bool) (held backUs : Nat) (s : State) : State :=
  let b := s.can.port p
  if !b.onBus then s
  else
    let s := errorState p (modPort p recGood s)
    let t := s.now - backUs * 1000
    if remote then s
    else if f.fd && !b.isFd then modPort p (fun b => { b with errFrames := satInc 32 b.errFrames }) s
    else
      match b.route f with
      | none => modPort p (fun b => { b with rxFiltered := satInc 32 b.rxFiltered }) s
      | some k =>
        let kept := b.rx.drop (b.rx.length - held)
        let s := modPort p (fun b => { b with rx := kept }) s
        if 256 ≤ kept.length then dropRx p s
        else
          let s := modPort p (fun b => { b with rx := kept ++ [{ frame := f, port := p, at_ := t }] }) s
          match luqCause s.image.dirCount k f.data with
          | some c => luqReject p k.offset c s
          | none =>
            let d := f.data
            let a := k.alive d
            let key := k.key d
            match aliveCheck s p key a with
            | .copy => dropCopy p key a s
            | .repeated => luqReject p k.offset 3 s
            | .fresh =>
              let s := match a with | some a => acceptAlive p key a s | none => s
              let s := modPort p (fun b => { b with rxCount := satInc 32 b.rxCount }) s
              deliverLuq k p t d s

/-- A drive reports ready by its THR_FB, apart from the age of the frame (R394). -/
def ThrFb.ready (x : ThrFb) : Bool := decide (x.status % 2 = 1) && decide (x.status / 4 % 2 = 0) && decide (x.status / 8 % 2 = 0)
  && decide (x.status / 32 % 2 = 1)

/-- The latest THR_FB is no older than 3 frames (R394, R409). -/
def ThrFb.fresh (x : ThrFb) (now : Nat) : Bool := match x.at_ with | some a => decide (now - a ≤ 60000000) | none => false

/-! ### Configuration and registers (R376, R409) -/

/-- The IO core configures the ports from the image when PD10 comes on (R376). -/
def loadCan (s : State) : State :=
  let im := s.image
  let cls := fun c => (lookupK im.canClasses c).getD {}
  s.modCan fun b => { b with
    classes := (List.range 6).map cls
    ports := b.ports.mapIdx fun p x => match lookupK im.canPorts p with
      | some c => { x with cfg := c, filters := im.canFilters cls p c, phase := .errorActive, activeAt := s.now, tec := 0, rec_ := 0 }
      | none => { x with phase := .off } }

/-- PD10 goes off: the ports are OFF and their entries are abandoned (R31, R32). -/
def canOff (s : State) : State :=
  s.forN 4 fun s p =>
    let s := (s.can.port p).tx.foldl (fun s e => finishTx p e .abandoned s) s
    modPort p (fun b => { b with phase := .off, mirrored := false, recovering := false, rx := [] }) s

/-- CAN_STATUS STATE (R409). -/
def CanPhase.code : CanPhase → Nat
  | .off => 0 | .errorActive => 1 | .errorPassive => 2 | .busOff => 3

/-- FB_STATUS AGE: ms, 0xFFFF when none or above 65,534 (R409). -/
def fbAge (now : Nat) : Option Nat → Nat
  | some a => sat 16 (msOf (now - a))
  | none => 0xFFFF

/-- Value of a CAN register; none where none is defined. -/
def canRead (s : State) (off : Nat) : Option Word :=
  let b := s.can
  let p := b.port b.portSel
  let f := b.fbOf b.fbSel
  let mir := fun q => (List.range 4).any fun pr => (b.port pr).mirrored && (b.mirrorPorts pr).contains q
  match off with
  | 0x10 => some (pack (((List.range 4).map fun q => ((b.port q).phase.code, 2 * q, 2)) ++
      ((List.range 4).map fun q => (b2n (mir q), 8 + q, 1)) ++ ((List.range 4).map fun q => (b2n (b.portFault q), 12 + q, 1))))
  | 0x14 => some (wordOf b.portSel)
  | 0x18 => some (p.cfg.cfg &&& 0x3FF)
  | 0x1C => some (pack [(p.tec, 0, 9), (p.rec_, 16, 8)])
  | 0x20 => some (pack [(p.tx.length, 0, 7), (p.peak, 16, 7)])
  | 0x24 => some (wordOf p.rx.length)
  | 0x28 => some (wordOf p.txCount)
  | 0x2C => some (wordOf p.rxCount)
  | 0x30 => some (wordOf p.rxOverrun)
  | 0x34 => some (wordOf p.rxFiltered)
  | 0x38 => some (wordOf p.errFrames)
  | 0x3C => some (wordOf p.busOffs)
  | 0x40 => some (pack [(p.cancelled, 0, 16), (p.sentAfter, 16, 16)])
  | 0x44 => some (pack [(p.superseded, 0, 16), (p.refused, 16, 16)])
  | 0x48 => some (pack [(p.luqCheck, 0, 16), (p.luqAlive, 16, 16)])
  | 0x4C => some (wordOf b.fbSel)
  | 0x50 => some (pack [(f.status, 0, 6), (b2n (f.ready && f.fresh s.now), 6, 1), (b2n (!f.fresh s.now), 7, 1), (f.port, 8, 2),
      (fbAge s.now f.at_, 16, 16)])
  | 0x54 => some (f32Of f.out)
  | 0x58 => some (wordOf f.az)
  | 0x5C => some 0
  | 0x60 => some (pack [(b.cmdResult, 0, 4), (b.cmdSession, 4, 5)])
  | 0x64 => some (wordOf b.mirrors)
  | _ => none

/-- What a read clears (R22, R409). -/
def canClear (off : Nat) (s : State) : State :=
  let p := s.can.portSel
  match off with
  | 0x28 => modPort p (fun b => { b with txCount := 0 }) s
  | 0x2C => modPort p (fun b => { b with rxCount := 0 }) s
  | 0x30 => modPort p (fun b => { b with rxOverrun := 0 }) s
  | 0x34 => modPort p (fun b => { b with rxFiltered := 0 }) s
  | 0x38 => modPort p (fun b => { b with errFrames := 0 }) s
  | 0x3C => modPort p (fun b => { b with busOffs := 0 }) s
  | 0x40 => modPort p (fun b => { b with cancelled := 0, sentAfter := 0 }) s
  | 0x44 => modPort p (fun b => { b with superseded := 0, refused := 0 }) s
  | 0x48 => modPort p (fun b => { b with luqCheck := 0, luqAlive := 0 }) s
  | 0x64 => s.modCan fun b => { b with mirrors := 0 }
  | _ => s

/-- Writable CAN registers (R409). -/
def canWritable (off : Nat) : Bool := [0x14, 0x4C, 0x5C].contains off

/-- CAN_CMD_RESULT (R409). -/
def canResult (w : WCtx) (r : Nat) (s : State) : State := s.modCan fun b => { b with cmdResult := r, cmdSession := w.session }

/-- CAN_CMD (R386, R409): RECOVER on a port in bus-off starts its recovery. -/
def canCmd (w : WCtx) (v : Word) (s : State) : WriteOut :=
  let p := field v 1 0
  needRole w roleEngineer (canResult w 2 s) <|
    if !bit v 2 then .done (canResult w 0 s) 0
    else if (s.can.port p).phase == .busOff then .done (canResult w 0 (modPort p (fun b => { b with recovering := true }) s)) 0
    else .refused (canResult w 1 s) 1

/-- A write to a CAN register (R409). -/
def canWrite (w : WCtx) (off : Nat) (v : Word) (s : State) : WriteOut :=
  match off with
  | 0x14 => selector v 1 3 s fun n => s.modCan fun b => { b with portSel := n }
  | 0x4C => selector v 3 15 s fun n => s.modCan fun b => { b with fbSel := n }
  | 0x5C => canCmd w v s
  | _ => .refused s 1

/-! ### Meanings of the commands -/

/-- Meaning of CAN_TX_SUBMIT (R378). -/
def execCanTxSubmit (port : Fin 4) (engine : Fin 16) (frame : CanFrame) (gate : TxGate) (s : State) : Host.Outcome
  State Fault Refusal :=
  .next (submitFrame port.val engine.val frame gate s)

/-- Meaning of CAN_FRAME_START (R380). -/
def execCanFrameStart (port : Fin 4) (s : State) : Host.Outcome State Fault Refusal :=
  .next (canFrameStart port.val s)

/-- Meaning of CAN_FRAME_END (R378). -/
def execCanFrameEnd (port : Fin 4) (how : CanEnd) (s : State) : Host.Outcome State Fault Refusal :=
  .next (canFrameEnd port.val how s)

/-- Meaning of CAN_CANCEL (R382). -/
def execCanCancel (port : Fin 4) (tag : Word) (s : State) : Host.Outcome State Fault Refusal :=
  .next (canCancel port.val tag.toNat s)

/-- Meaning of CAN_RX_FRAME (R383). -/
def execCanRxFrame (port : Fin 4) (frame : CanFrame) (remote : Bool) (held backUs : Nat) (s : State) : Host.Outcome
  State Fault Refusal :=
  .next (canRxFrame port.val frame remote held backUs s)

/-- Meaning of CAN_RECOVERED (R386). -/
def execCanRecovered (port : Fin 4) (s : State) : Host.Outcome State Fault Refusal :=
  .next (canRecovered port.val s)

/-- Meaning of MIRROR_END (R387). -/
def execMirrorEnd (port : Fin 4) (s : State) : Host.Outcome State Fault Refusal :=
  .next (mirrorEnd port.val s)

/-- Meaning of CAN_ERROR_DETECTED (R385). -/
def execCanErrorDetected (port : Fin 4) (dominant : Bool) (s : State) : Host.Outcome State Fault Refusal :=
  .next (canErrorDetected port.val dominant s)

end Sys2Proof.Machine
end

