-- ==== Sys2Proof/Machine/Geo.lean ====
section
/-!
DEFINITION. Points, vectors and frames: WGS 84 points, the earth frame at a working origin (R7, R139) and rotations (R134).
-/
set_option autoImplicit false
namespace Sys2Proof.Machine

/-- Difference of two vectors. -/
def Vec3.sub (a b : Vec3) : Vec3 := { x := a.x - b.x, y := a.y - b.y, z := a.z - b.z }

/-- Sum of two vectors. -/
def Vec3.add (a b : Vec3) : Vec3 := { x := a.x + b.x, y := a.y + b.y, z := a.z + b.z }

/-- Inner product. -/
def Vec3.dot (a b : Vec3) : Rat := a.x * b.x + a.y * b.y + a.z * b.z

/-- Length. -/
def Vec3.norm (a : Vec3) : Rat := Config.sqrt (a.dot a)

/-- WGS 84 semi-major axis, m. -/
def wgsA : Rat := 6378137

/-- WGS 84 first eccentricity squared, from the flattening 1/298.257223563. -/
def wgsE2 : Rat := (1000000000 / 298257223563) * (2 - 1000000000 / 298257223563)

/-- Earth-centred coordinates of a WGS 84 point. -/
def ecef (g : Geo) : Vec3 :=
  let sla := Config.sinT (g.lat / 360)
  let cla := Config.cosT (g.lat / 360)
  let n := wgsA / Config.sqrt (1 - wgsE2 * sla * sla)
  { x := (n + g.h) * cla * Config.cosT (g.lon / 360), y := (n + g.h) * cla * Config.sinT (g.lon / 360),
    z := (n * (1 - wgsE2) + g.h) * sla }

/-- North unit vector at a point. -/
def northAt (g : Geo) : Vec3 :=
  { x := -(Config.sinT (g.lat / 360) * Config.cosT (g.lon / 360)), y := -(Config.sinT (g.lat / 360) * Config.sinT (g.lon / 360)),
    z := Config.cosT (g.lat / 360) }

/-- East unit vector at a point. -/
def eastAt (g : Geo) : Vec3 := { x := -(Config.sinT (g.lon / 360)), y := Config.cosT (g.lon / 360), z := 0 }

/-- Down unit vector at a point. -/
def downAt (g : Geo) : Vec3 :=
  { x := -(Config.cosT (g.lat / 360) * Config.cosT (g.lon / 360)), y := -(Config.cosT (g.lat / 360) * Config.sinT (g.lon / 360)),
    z := -(Config.sinT (g.lat / 360)) }

/-- North, east and down of a point in the earth frame at an origin (R7, R139). -/
def toPlane (o g : Geo) : Vec3 :=
  let d := (ecef g).sub (ecef o)
  { x := d.dot (northAt o), y := d.dot (eastAt o), z := d.dot (downAt o) }

/-- A horizontal vector of the earth frame at origin o in the earth frame at origin n (R139). -/
def moveVec (o n : Geo) (x y : Rat) : Rat × Rat :=
  let a := northAt o
  let b := eastAt o
  let d : Vec3 := { x := x * a.x + y * b.x, y := x * a.y + y * b.y, z := x * a.z + y * b.z }
  (d.dot (northAt n), d.dot (eastAt n))

/-- A heading of the earth frame at origin o in the earth frame at origin n, turns (R139). -/
def moveHeading (o n : Geo) (psi : Rat) : Rat :=
  let v := moveVec o n (Config.cosT psi) (Config.sinT psi)
  turnFrac (Config.atan2T v.2 v.1)

/-- The WGS 84 point at a north, east and down of the earth frame at an origin. -/
def ofPlane (o : Geo) (v : Vec3) : Geo :=
  let a := ecef o
  let n := northAt o
  let e := eastAt o
  let d := downAt o
  let r := Config.geoOfEcef (a.x + v.x * n.x + v.y * e.x + v.z * d.x) (a.y + v.x * n.y + v.y * e.y + v.z * d.y)
    (a.z + v.x * n.z + v.y * e.z + v.z * d.z)
  { lat := r.1, lon := r.2.1, h := r.2.2 }

/-- A place of the earth frame at origin o in the earth frame at origin n, through WGS 84 (R139). -/
def movePlace (o n : Geo) (x y : Rat) : Rat × Rat :=
  let v := toPlane n (ofPlane o { x := x, y := y, z := 0 })
  (v.x, v.y)

/-- Rotation by an angle in turns: N = x cos ψ − y sin ψ, E = x sin ψ + y cos ψ (R134). -/
def rotT (psi x y : Rat) : Rat × Rat :=
  (x * Config.cosT psi - y * Config.sinT psi, x * Config.sinT psi + y * Config.cosT psi)

/-- Roll and pitch rotation R(φ, θ), angles in turns (R120, R134). -/
def rollPitch (phi theta : Rat) (v : Vec3) : Vec3 :=
  let sp := Config.sinT phi
  let cp := Config.cosT phi
  let st := Config.sinT theta
  let ct := Config.cosT theta
  { x := v.x * ct + v.y * sp * st + v.z * cp * st, y := v.y * cp - v.z * sp, z := v.y * sp * ct + v.z * cp * ct - v.x * st }

/-- Determinant of a 3 × 3 matrix, row by row. -/
def det3 (m : List Rat) : Rat :=
  let a := fun i j => m.getD (3 * i + j) 0
  a 0 0 * (a 1 1 * a 2 2 - a 1 2 * a 2 1) - a 0 1 * (a 1 0 * a 2 2 - a 1 2 * a 2 0) + a 0 2 * (a 1 0 * a 2 1 - a 1 1 * a 2 0)

/-- Solution of a 3 × 3 system by Cramer's rule, the matrix row by row (R161, R237, R250). -/
def solve3 (m r : List Rat) : List Rat :=
  (List.range 3).map fun j => det3 (m.mapIdx fun k x => if k % 3 = j then r.getD (k / 3) 0 else x) / det3 m

/-- Product of a 3 × 3 matrix, row by row, and a vector. -/
def mul3 (m v : List Rat) : List Rat := (List.range 3).map fun i => dotQ ((m.drop (3 * i)).take 3) v

/-- Turns of an angle in radians (R11). -/
def turnsOfRad (r : Rat) : Rat := r / twoPi

/-- Turns of an angle in degrees. -/
def turnsOfDeg (d : Rat) : Rat := d / 360

/-- YAW of a transform entry in turns; the rotation fields of entry 0 are ignored (R133). -/
def Image.mountYaw (im : Image) (i : Nat) : Rat :=
  if i = 0 then 0 else (((lookupK im.transforms i).getD {}).yaw : Rat) / 65536

/-- Lever arm of a transform entry in metres (R133). -/
def Image.lever (im : Image) (i : Nat) : Vec3 :=
  let t := (lookupK im.transforms i).getD {}
  let o := (lookupK im.transforms 0).getD {}
  { x := t.x - o.x, y := t.y - o.y, z := t.z - o.z }

end Sys2Proof.Machine
end

