-- ==== Sys2Proof/Machine/Stages.lean ====
section
/-!
DEFINITION. The stages of a frame and their deadlines (R45 to R48), as every stage command shares them.
-/
set_option autoImplicit false
namespace Sys2Proof.Machine

/-- The module time of a frame time in µs, never beyond the frame (R45). -/
def State.atFrame (us : Nat) (s : State) : State := s.advance (min (s.tim.frameAt + us * 1000) (s.tim.frameAt + 20000000))

/-- No stage runs in the frames that a forward step passes over (R466). -/
def State.stagesRun (s : State) : Bool := s.tim.skipUntil.isNone

/-- An engine runs: its domain is on, and it is neither lost nor retired (R30 to R32, R535). -/
def State.engineRuns (s : State) (e : Nat) : Bool :=
  let d := if e < 8 then 5 else if e = 8 ∨ e = 12 then 4 else if e < 12 then 6 else if e = 13 then 10 else if e = 14 then 11 else 0
  let x := s.sup.engines.getD e {}
  s.domOn d && !x.lost && !x.retired

/-- A missed window: DL_STATUS, its counter and FRAME_OVERRUN with the lateness (R47, R58, R59). -/
def missStage (bit lateNs : Nat) (s : State) : State :=
  let s := s.modSup fun b => { b with
    dlStatus := setBit b.dlStatus bit true
    dlCount := updAt b.dlCount bit (satInc 32)
    stageMissed := setBit b.stageMissed bit true
    slackMin := if bit = 3 then 0 else b.slackMin }
  s.raise 0x0111 bit (zeros 4 ++ leBytes 4 (sat 32 lateNs))

/-- A stage completes; beyond its deadline the miss is recorded unless the deadline has already won (R47). -/
def closeStage (bit deadlineUs : Nat) (s : State) : State :=
  let d := s.tim.frameAt + deadlineUs * 1000
  let late := decide (d < s.now) && !s.sup.stageMissed.getLsbD bit && !s.sup.stageDone.getLsbD bit
  let s := if late then missStage bit (s.now - d) s else s
  s.modSup fun b => { b with
    stageDone := setBit b.stageDone bit true
    slackMin := if bit = 3 ∧ b.stageDone.getLsbD 3 = false ∧ b.stageMissed.getLsbD 3 = false then min b.slackMin (d - s.now) else b.slackMin }

end Sys2Proof.Machine
end

