-- ==== Sys2Proof/Machine/Refs.lean ====
section
/-!
DEFINITION. The reference slots of the fusion and how a value reaches them (R130, R131, R139, R148 to R151, R606).
-/
set_option autoImplicit false
namespace Sys2Proof.Machine

/-- Identifier of a slot by its place in `refs`: 0 to 7, and 0x10 plus its number for a heading slot (R130). -/
def slotId (i : Nat) : Nat := if i < 8 then i else 8 + i

/-- Image record of a slot (R130, R554). -/
def State.refCfg (s : State) (i : Nat) : Option RefCfg := s.image.refs.find? fun r => r.slot == slotId i

/-- A reference slot by its place. -/
def FusState.ref (b : FusState) (i : Nat) : RefState := b.refs.getD i {}

/-- One slot changed. -/
def modRef (i : Nat) (f : RefState → RefState) (s : State) : State := s.modFus fun b => { b with refs := updAt b.refs i f }

/-- The working model with an update that takes effect at the next frame instant: kernel, SCALE and histogram (R169). -/
def RefState.working (r : RefState) : RefModel :=
  match r.modelNext with
  | some m => { r.model with kernel := m.kernel, scale := m.scale, hist := m.hist }
  | none => r.model

/-- A relative reference: laser or taut wire (R130). -/
def relativeType (t : Nat) : Bool := t == 2 || t == 3

/-- A newer value takes the place of the one held; of equal stamps the later arrival counts (R149). -/
def newerThan (h : Option Sample) (x : Sample) : Bool := match h with | some y => decide (y.stamp ≤ x.stamp) | none => true

/-- The working origin is set: at once when none exists, and at the next frame instant otherwise (R139). -/
def wantOrigin (g : Geo) (s : State) : State :=
  s.modFus fun b => if b.origin.isNone then { b with origin := some g } else { b with originNext := some g }

/-- The fused snapshot that FC holds, in another earth frame. -/
def FusedSnap.moveTo (o n : Geo) (f : FusedSnap) : FusedSnap :=
  if f.posState = 0 then f
  else
    let p := movePlace o n f.posN f.posE
    let b := moveVec o n f.biasN f.biasE
    let c := moveVec o n 1 0
    let d := moveVec o n 0 1
    let q := f.rho * f.sigN * f.sigE
    let form := fun (x y : Rat × Rat) => x.1 * y.1 * f.sigN * f.sigN + (x.1 * y.2 + x.2 * y.1) * q + x.2 * y.2 * f.sigE * f.sigE
    let sn := Config.sqrt (form (c.1, d.1) (c.1, d.1))
    let se := Config.sqrt (form (c.2, d.2) (c.2, d.2))
    { f with
      posN := p.1, posE := p.2, biasN := b.1, biasE := b.2, sigN := sn, sigE := se, rho := form (c.1, d.1) (c.2, d.2) / (sn * se)
      heading := bamOf (moveHeading o n (turnsOf f.heading)) }

/-- The newest snapshot in the earth frame in force: its numbers converted where the origin has moved since it was formed (R33, R139). -/
def State.heldSnap (s : State) : FusedSnap :=
  match s.fus.snapOrigin, s.fus.origin with
  | some o, some n => if o = n then s.fus.snap else s.fus.snap.moveTo o n
  | _, _ => s.fus.snap

/-- The first value of an absolute reference before observer start sets the origin (R139). -/
def originOf (x : Sample) (s : State) : State :=
  match x.value with
  | .geo g _ _ =>
    if s.fus.originWanted && !s.fus.obs.started then wantOrigin g (s.modFus fun b => { b with originWanted := false }) else s
  | _ => s

/-- FC runs the fusion: not in DORMANT, and only while its engine runs (R164, R522). -/
def State.fcRuns (s : State) : Bool := s.stagesRun && s.engineRuns 8 && s.sup.mode != .dormant

/-- The input cut of the running frame: what the slots hold, the GNSS velocity and yaw rate and the motion reference unit's values are frozen for
the frame (R151, R167). -/
def freezeRefs (cut : Nat) (s : State) : State :=
  let g := s.gns
  s.modFus fun b => { b with
    cutAt := some cut, mruCut := b.mruVal
    motion := { vel := g.vel, velValid := g.velValid, yawRate := g.yawRate, yawValid := g.yawValid }
    refs := b.refs.map fun r => { r with cut := r.latest, cutDelivery := r.delivery } }

/-- Frame time 1.0 ms has come without a GT snapshot: the cut lies there (R151). -/
def passCut (s : State) : State :=
  if s.fcRuns && s.fus.cutAt.isNone && decide (s.tim.frameAt + 1000000 ≤ s.now) then freezeRefs (s.tim.frameAt + 1000000) s else s

/-- FC receives the GT snapshot: the cut lies here, unless it has passed (R151). -/
def cutHere (s : State) : State := let s := passCut s; if s.fcRuns && s.fus.cutAt.isNone then freezeRefs s.now s else s

/-- A value of a reference arrives (R149, R151): held back when stamped after the frame's TOV, late after the cut, else the latest. -/
def takeSample (i : Nat) (x : Sample) (s : State) : State :=
  let s := originOf x (passCut s)
  if s.tim.frameAt < x.stamp then modRef i (fun r => { r with delivery := .valid, held := r.held ++ [x] }) s
  else
    let newer := newerThan (s.fus.ref i).latest x
    let s := modRef i (fun r => { r with delivery := .valid, latest := if newer then some x else r.latest }) s
    match s.fus.cutAt with
    | none => s
    | some c =>
      let s := modRef i (fun r => { r with late := satInc 32 r.late }) s
      let s := s.modFus fun b => { b with
        lateCount := satInc 32 b.lateCount, olderCount := if newer then b.olderCount else satInc 32 b.olderCount }
      s.raise 0x0A1B (slotId i) (zeros 4 ++ leBytes 4 (sat 32 ((s.now - c) / 1000)))

/-- A delivery declared invalid: no value, and the age of the value held runs on (R131). -/
def takeInvalid (i : Nat) (s : State) : State := modRef i (fun r => { r with delivery := .invalid }) (passCut s)

/-- A delivery of a used slot; nothing is received while FC does not run (R130, R131). -/
def deliverRef (i : Nat) (v : Option Sample) (s : State) : State :=
  if (s.refCfg i).isNone || !s.engineRuns 8 then s
  else match v with
    | some x => takeSample i x s
    | none => takeInvalid i s

/-- Accepted input of a serial port (R402, R410): PORT_ACTIVE at the first one of a SILENT port. -/
def heardInput (p : Nat) (s : State) : State :=
  let b := s.ser.ports.getD p {}
  let s := s.modSer fun x => { x with
    ports := updAt x.ports p fun y => { y with lastRx := s.now, heard := true, silent := false, rx := satInc 32 y.rx } }
  s.raiseIf b.silent 0x1511 p (zeros 4 ++ leBytes 4 (sat 32 (msOf (s.now - b.silentAt))))

/-- The slots whose image record satisfies p. -/
def State.slotsWhere (s : State) (p : RefCfg → Bool) : List Nat :=
  indices 12 fun i => match s.refCfg i with | some r => p r | none => false

/-- A write of REF_SELECT, in a domain at its effect frame: the enables wait for the frame instant, and with them the end of the VOTE mask of a
slot that the write disables (R132, R155, R429). -/
def enableRefs (v : Word) (s : State) : State :=
  s.modFus fun b => { b with refs := b.refs.mapIdx fun i r => { r with enableNext := bit v i, voteEnds := r.voteEnds || !bit v i } }

/-- Values held back whose stamp a frame's instant has reached become the latest (R151). -/
def releaseHeld (tov : Nat) (s : State) : State :=
  s.forN 12 fun s i =>
    let ripe := (s.fus.ref i).held.filter fun x => decide (x.stamp ≤ tov)
    let s := modRef i (fun r => { r with held := r.held.filter fun x => !decide (x.stamp ≤ tov) }) s
    ripe.foldl (fun s x => modRef i (fun r => { r with latest := if newerThan r.latest x then some x else r.latest }) s) s

end Sys2Proof.Machine
end

