-- ==== Sys2Proof/Machine/Signal.lean ====
section
/-!
DEFINITION. Analog inputs and outputs, block SIG (chapter 08_signal_conditioning.md, R299 to R319).
-/
set_option autoImplicit false
namespace Sys2Proof.Machine

/-- An analog input channel. -/
def SigState.chan (b : SigState) (i : Nat) : AinChan := b.ins.getD i {}

/-- An analog output. -/
def SigState.out (b : SigState) (i : Nat) : AoutChan := b.outs.getD i {}

/-- One input channel changed. -/
def modAin (i : Nat) (f : AinChan → AinChan) (s : State) : State := s.modSig fun b => { b with ins := updAt b.ins i f }

/-- One output changed. -/
def modAout (i : Nat) (f : AoutChan → AoutChan) (s : State) : State := s.modSig fun b => { b with outs := updAt b.outs i f }

/-! ### The chain (R302 to R309) -/

/-- k of the decimation D = 2^k: the largest from 3 to 20 with f_mod / (8·D) at least 4·f_out (R303). -/
def decimLog2 (rate : Nat) : Nat :=
  (List.range 18).foldl (fun (k : Nat) (j : Nat) => if 4 * rate * 8 * 2 ^ (j + 3) ≤ 20480000 then j + 3 else k) 3

/-- Rate at the resampler input, Hz (R303). -/
def AinChan.fIn (c : AinChan) : Rat := 256000 / ((2 ^ decimLog2 c.rate : Nat) : Rat)

/-- Settling length in ns (R304, R307). -/
def AinChan.settleNs (c : AinChan) : Nat := nsOf (76 / c.fIn)

/-- Group delay at 0 Hz in s (R305). -/
def AinChan.groupDelay (c : AinChan) : Rat := (if c.minimum then 20 else 38) / c.fIn

/-- The rate of a class S channel is accepted (R309): 0.02·f_out or its inverse is an integer. -/
def gridRate (rate : Nat) : Bool := decide (0 < rate) && (rate % 500 == 0 || 500 % rate == 0)

/-- A delay is within 32 ms (R312). -/
def delayOk (rate eighths : Nat) : Bool := decide (eighths * 10000 ≤ 32 * 8 * rate)

/-- Lowest fault code present (R301). -/
def AinChan.code (c : AinChan) : Nat := ([1, 2, 3, 4, 5].find? fun k => c.present.getLsbD k).getD 0

/-- OUT_STATE FAULT_CODE: the lowest fault present, 0 for none (R316, R318). -/
def AoutChan.fault (o : AoutChan) : Nat := ([1, 2, 3, 4].find? fun k => o.present.getLsbD k).getD 0

/-- Code of a channel state (R307). -/
def SigPhase.code : SigPhase → Nat
  | .stopped => 0 | .settling => 1 | .running => 2 | .fault => 3

/-- A channel goes to a state; a change raises CH_STATE_CHANGE (R307). -/
def chanState (i : Nat) (p : SigPhase) (s : State) : State :=
  let old := (s.sig.chan i).phase
  let s := modAin i (fun c => { c with phase := p, valid := c.valid && p == .running }) s
  s.raiseIf (old != p) 0x1012 i [BitVec.ofNat 8 old.code, BitVec.ofNat 8 p.code]

/-- A channel starts or restarts: every stage is cleared and it settles (R306, R307). None does once SIG has failed its BIST (R80). -/
def startChan (i : Nat) (aligned : Bool) (s : State) : State :=
  if s.bst.failedMask.getLsbD 18 then s
  else chanState i .settling (modAin i (fun c => { c with
    startAt := s.now, gridFrom := s.tim.frameAt, aligned := aligned && !c.classF, cicLog2 := decimLog2 c.rate }) s)

/-- A channel stops (R307). -/
def stopChan (i : Nat) (s : State) : State :=
  chanState i .stopped (modAin i (fun c => { c with present := 0, told := 0, aligned := false, cicLog2 := 0, tripAt := none }) s)

/-- The channels that satisfy p. -/
def SigState.which (b : SigState) (p : AinChan → Bool) : List Nat := indices 16 fun i => p (b.chan i)

/-- A SYNC is performed on channels: all restart at one edge; SYNC_OUT echoes it in mode ECHO (R310, R476). -/
def syncChans (source : Nat) (l : List Nat) (s : State) : State :=
  let s := l.foldl (fun s i => startChan i true s) s
  let s := s.modSig fun b => { b with syncAccepted := satInc 16 b.syncAccepted, syncLast := some s.now }
  let s := if s.scalars.syncMode = 2 then s.modTim fun b => { b with syncOutAt := some s.now } else s
  s.raise 0x1013 0xFF (BitVec.ofNat 8 source :: zeros 3 ++ leBytes 2 (maskOf 16 fun i => l.contains i).toNat)

/-- A SYNC of every class S channel that is not STOPPED (R310). -/
def syncAll (source : Nat) (s : State) : State := syncChans source (s.sig.which fun c => !c.classF && c.phase != .stopped) s

/-- After a forward step of module time every channel that runs restarts (R308). -/
def syncAfterStep (s : State) : State :=
  let l := s.sig.which fun c => c.phase != .stopped
  if l.isEmpty then s else syncChans 3 l s

/-- An edge on SYNC_IN (R311, R477). A pulse shorter than 1 µs is not accepted. -/
def syncInEdge (edge : PulseEdge) (s : State) : State :=
  let near := match s.sig.edgeAt with | some t => decide (s.now - t < 2000) | none => false
  if !s.domOn 12 || edge.width < 1000 || near then s
  else
    let s := s.modSig fun b => { b with edgeAt := some s.now }
    if edge.falling != s.sig.syncFalling then s
    else
      let soon := match s.sig.syncLast with | some t => decide (s.now - t < 100000000) | none => false
      if !s.sig.syncEn || soon then
        (s.modSig fun b => { b with syncIgnored := satInc 16 b.syncIgnored }).raise 0x1014 0xFF [if s.sig.syncEn then 1 else 0]
      else syncAll 0 s

/-- The latest instant of an output grid at or before a time: a whole multiple of 1 / f_out from a base, ns (R309, R312). -/
def gridBefore (rate base t : Nat) : Nat := base + (t - base) * rate / 10000000000 * 10000000000 / rate

/-- Stamp of the newest sample that can be read at a time (R305): for class S the grid instant that lies a group delay back, for class F the grid
instant itself less the group delay, whatever DELAY is (R309, R312). -/
def AinChan.stampAt (c : AinChan) (t : Nat) : Nat :=
  let g := nsOf c.groupDelay
  if c.classF then gridBefore c.rate c.gridFrom t - g else gridBefore c.rate 0 (t - g)

/-- A word of the modulator island: an output sample, stamped on the clocked side (R41, R305, R317); `at_` is the time at which it could be read. -/
def takeAnalog (i : Nat) (raw : F32) (at_ : Nat) (s : State) : State :=
  if (s.sig.chan i).phase == .stopped then s
  else modAin i (fun c => { c with
    raw := f32Val raw, value := f32Val raw * c.scale + c.offset, stamp := c.stampAt at_, valid := c.phase == .running
    lastGood := if c.phase == .running then some (f32Val raw * c.scale + c.offset, c.stampAt at_) else c.lastGood }) s

/-- A taut wire delivers when both its angles of one sample-sync have arrived (R45, R130, R131, R137, R148). -/
def deliverWires (i : Nat) (s : State) : State :=
  let t := (s.sig.chan i).stamp
  (s.slotsWhere fun r => r.type == 3 && (r.srcIndex == i || r.chan2 == i)).foldl (fun s k =>
    match s.refCfg k with
    | none => s
    | some c =>
      let x := s.sig.chan c.srcIndex
      let y := s.sig.chan c.chan2
      let d := s.sig.chan c.depthChan
      let depth := if c.depthChan = 255 then some c.depth else if d.valid then some d.value else none
      let limit := twoPi / 12
      if x.stamp ≠ t ∨ y.stamp ≠ t ∨ t % 20000000 ≠ 0 then s
      else match depth with
        | some d =>
          if x.valid && y.valid && decide (absQ x.value ≤ limit) && decide (absQ y.value ≤ limit) then
            deliverRef k (some { stamp := t, value := .wire x.value y.value d }) s
          else deliverRef k none s
        | none => deliverRef k none s) s

/-- Output range of the tables (R275). -/
def ThrCfg.outMax (c : ThrCfg) : Rat := maxList 0 (c.fwdTable.map (·.2))
def ThrCfg.outMin (c : ThrCfg) : Rat := -(maxList 0 (c.revTable.map (·.2)))

/-- The channel runs and its latest sample is valid (R277, R307). -/
def AinChan.good (c : AinChan) : Bool := c.phase == .running && c.valid

/-- The mirror port carries a class F channel that the image names as a thruster's output feedback to SC: the fraction of the channel over the
output range, as the servo core scales it (R34, R265, R342, R361, R366). -/
def mirrorClassF (i : Nat) (s : State) : State :=
  let a := s.sig.chan i
  let takes := fun (t : SafThr) => t.cfg.fbClassF && t.cfg.chan == i
  if a.good && s.saf.thr.any takes then
    s.modSaf fun b => { b with
      mirrorAt := some s.now
      thr := b.thr.mapIdx fun k t => match lookupK s.image.thrusters k with
        | some c => if takes t then { t with fb := c.outMin + a.value * (c.outMax - c.outMin), fbAt := some a.stamp } else t
        | none => t }
  else s

/-- An output sample crosses into the fabric (R41, R305). -/
def analogWord (i : Nat) (raw : F32) (backUs : Nat) (s : State) : State :=
  mirrorClassF i (deliverWires i (takeAnalog i raw (s.now - backUs * 1000) s))

/-! ### Channel faults (R301) -/

/-- The condition of a fault holds; `n` is its consecutive samples, or modulator periods for code 5. -/
def ainFaulty (range code : Nat) (raw : Rat) (n : Nat) : Bool :=
  match code with
  | 1 => decide (3 ≤ n) && (match range with
    | 0 => decide (21 / 2 < absQ raw)
    | 1 => decide (raw < -1 / 2) || decide (21 / 2 < raw)
    | 3 => decide (21 / 20 < absQ raw)
    | _ => false)
  | 2 => decide (3 ≤ n) && range == 2 && decide (raw < 18 / 5)
  | 3 => decide (3 ≤ n) && range == 2 && decide (21 < raw)
  | 4 => range == 2 && decide (30 < raw)
  | 5 => decide (64 ≤ n)
  | _ => false

/-- The condition under which a fault clears, apart from its time (R301). -/
def ainHealthy (range code : Nat) (raw : Rat) : Bool :=
  match code with
  | 1 => (match range with
    | 0 => decide (absQ raw ≤ 21 / 2)
    | 1 => decide (-1 / 2 ≤ raw) && decide (raw ≤ 21 / 2)
    | _ => decide (absQ raw ≤ 21 / 20))
  | 2 => decide (19 / 5 ≤ raw)
  | 3 => decide (raw ≤ 41 / 2)
  | 4 => decide (raw ≤ 30)
  | _ => true

/-- The condition of a fault that arose still holds: codes 1 to 3 in the newest sample, the others until they have cleared (R301, R307). -/
def AinChan.holds (c : AinChan) (code : Nat) : Bool := c.present.getLsbD code && (decide (4 ≤ code) || ainFaulty c.range code c.raw 3)

/-- A fault is told: it counts and CH_FAULT is raised, unless that was done before and it has not cleared since (R318, R319). -/
def tellFault (i code : Nat) (raw : Rat) (s : State) : State :=
  if (s.sig.chan i).told.getLsbD code then s
  else (modAin i (fun c => { c with faults := satInc 32 c.faults, told := setBit c.told code true }) s).raise 0x1010 i
    (BitVec.ofNat 8 code :: zeros 3 ++ f32Bytes raw)

/-- A fault is no longer present; of one that CH_FAULT told, CH_FAULT_CLEARED tells it (R319). -/
def dropFault (i code : Nat) (s : State) : State :=
  let told := (s.sig.chan i).told.getLsbD code
  (modAin i (fun c => { c with present := setBit c.present code false, told := setBit c.told code false }) s).raiseIf told 0x1011 i
    [BitVec.ofNat 8 code]

/-- A settled channel becomes RUNNING, or FAULT when a fault's condition still holds (R307). -/
def channelSettled (i : Nat) (s : State) : State :=
  let c := s.sig.chan i
  if c.phase != .settling || decide (s.now < c.startAt + c.settleNs) then s
  else
    let s := ([1, 2, 3, 4, 5].filter fun k => c.present.getLsbD k && !c.holds k).foldl (fun s k => dropFault i k s) s
    let code := (s.sig.chan i).code
    if code = 0 then chanState i .running s else tellFault i code c.raw (chanState i .fault s)

/-- CH_FAULT (R301): from RUNNING the channel goes to FAULT; in SETTLING the fault waits for its end (R307). -/
def chFault (i code : Nat) (raw : F32) (n : Nat) (s : State) : State :=
  let c := s.sig.chan i
  if c.phase == .stopped || !ainFaulty c.range code (f32Val raw) n then s
  else
    let s := modAin i (fun c => { c with
      present := setBit c.present code true, tripAt := if code = 4 then some s.now else c.tripAt }) s
    if c.phase == .settling || c.present.getLsbD code then s else tellFault i code (f32Val raw) (chanState i .fault s)

/-- CH_FAULT_CLEARED (R301): a fault clears after its time, while the channel settles too; the last one returns the channel to RUNNING, code 5
through SETTLING. -/
def chFaultCleared (i code : Nat) (raw : F32) (us : Nat) (s : State) : State :=
  let c := s.sig.chan i
  let joined := code ≠ 4 ∨ (c.tripAt = none ∧ c.joinAt + us * 1000 ≤ s.now)
  if !c.present.getLsbD code || !ainHealthy c.range code (f32Val raw) || decide (us < 100000) || !decide joined then s
  else
    let s := dropFault i code s
    if code = 5 then startChan i c.aligned s
    else if c.phase == .fault && decide ((s.sig.chan i).code = 0) then chanState i .running s else s

/-- A tripped shunt is reconnected after 1 s (R301). -/
def shuntReconnect (i : Nat) (s : State) : State :=
  match (s.sig.chan i).tripAt with
  | some t => if s.now < t + 1000000000 then s else modAin i (fun c => { c with tripAt := none, joinAt := s.now }) s
  | none => s

/-! ### Outputs (R314 to R316) -/

/-- Code of a raw output value in V or mA, and whether it was clamped (R314). -/
def outCode (current : Bool) (raw : Rat) : BitVec 16 × Bool :=
  if current then
    let n := roundEven (raw * 65536 / 24)
    let m := max 0 (min 65535 n)
    (BitVec.ofInt 16 m, decide (m ≠ n))
  else
    let n := roundEven (raw * 65536 / 20)
    let m := max (-32768) (min 32767 n)
    (BitVec.ofInt 16 m, decide (m ≠ n))

/-- Raw value of a code (R314). -/
def outRaw (current : Bool) (c : BitVec 16) : Rat :=
  if current then (c.toNat : Rat) * 24 / 65536 else (c.toInt : Rat) * 20 / 65536

/-- A raw value is released on an output (R314, R315). -/
def driveOut (i : Nat) (raw : Rat) (s : State) : State :=
  let r := outCode (s.sig.out i).current raw
  if s.bst.failedMask.getLsbD 18 then s
  else
  let s := modAout i (fun o => { o with code := r.1, staged := false, safe := false }) s
  if r.2 then s.modSig fun b => { b with clamps := satInc 32 b.clamps } else s

/-- A value of an output is staged: its hold timer restarts and TIMEOUT clears (R315, R316). -/
def stageOut (i : Nat) (v : Rat) (s : State) : State :=
  let o := s.sig.out i
  let s := modAout i (fun o => { o with value := v, staged := true, stagedAt := s.now, present := setBit o.present 4 false }) s
  s.raiseIf (o.present.getLsbD 4) 0x1017 i [4]

/-- Engineering value to raw (R314). -/
def AoutChan.rawOf (o : AoutChan) (v : Rat) : Rat := v * o.scale + o.offset

/-- The strobe releases the staged values of sources THRUSTER and SESSION; DORMANT and the start phase have their own (R314). -/
def releaseAnalog (s : State) : State :=
  if !s.domOn 12 then s
  else s.forN 12 fun s i =>
    let o := s.sig.out i
    match s.sup.mode with
    | .start => driveOut i 0 (modAout i (fun o => { o with stagedAt := s.now }) s)
    | .dormant => driveOut i (o.rawOf o.dormantValue) (modAout i (fun o => { o with stagedAt := s.now }) s)
    | _ =>
      if o.src == .unused then driveOut i 0 s
      else if (o.src == .thruster || o.src == .session) && o.staged then driveOut i (o.rawOf o.value) s
      else s

/-- Level of a slew in V or mA (R264). -/
def slewLevel (current : Bool) (v : Rat) : Slew → Rat
  | .stop => if current then 12 else 0
  | .first => if current then 20 else v
  | .second => if current then 4 else -v

/-- Outputs of source SERVO take their servo's state at the tick release (R264, R266, R314). -/
def releaseAnalogServo (slew : Nat → Bool → Slew) (s : State) : State :=
  if !s.domOn 12 || s.sup.mode == .start || s.sup.mode == .dormant then s
  else s.forN 12 fun s i =>
    let o := s.sig.out i
    if o.src == .servo then
      let v := match lookupK s.image.thrusters o.thr with | some c => c.vSlew | none => 0
      let l := slewLevel o.current v (slew o.thr o.pitch)
      driveOut i l (stageOut i l s)
    else s

/-- The readback of every output, once per frame (R316). -/
def takeReadbacks (l : List F32) (s : State) : State :=
  if s.domOn 12 then s.modSig fun b => { b with outs := b.outs.mapIdx fun i o => { o with readback := (l[i]?.map f32Val).getD o.readback } } else s

/-- The hold timer of an output has expired (R315). -/
def outTimeout (i : Nat) (s : State) : State :=
  let o := s.sig.out i
  if !s.domOn 12 || o.src == .unused || o.present.getLsbD 4 || s.sup.mode == .start || s.sup.mode == .dormant
      || decide (s.now < o.stagedAt + o.timeout * 1000000) then s
  else
    let s := if o.safeHold then s else driveOut i (o.rawOf o.safeValue) s
    (modAout i (fun o => { o with present := setBit o.present 4 true, safe := true, staged := false }) s).raise 0x1016 i (4 :: zeros 3 ++ f32Bytes o.readback)

/-- The condition of an output fault (R316): `limit` says that the compliance or the current limit is reached. -/
def aoutFaulty (o : AoutChan) (code : Nat) (rb : Rat) (limit : Bool) : Bool :=
  let set := outRaw o.current o.code
  let opened := o.current && limit && decide (rb < set * 9 / 10)
  let shorted := !o.current && limit
  match code with
  | 1 => opened
  | 2 => shorted
  | 3 => !opened && !shorted && decide ((if o.current then 24 else 20) / 100 < absQ (rb - set))
  | _ => false

/-- OUT_FAULT (R316): the condition has stood for 3 frames. -/
def outFault (i code : Nat) (readback : F32) (limit : Bool) (frames : Nat) (s : State) : State :=
  let o := s.sig.out i
  if !s.domOn 12 || o.present.getLsbD code || decide (frames < 3) || !aoutFaulty o code (f32Val readback) limit then s
  else (modAout i (fun o => { o with present := setBit o.present code true, readback := f32Val readback }) s).raise 0x1016 i
    (BitVec.ofNat 8 code :: zeros 3 ++ leBytes 4 readback.toNat)

/-- OUT_CLEARED (R316): 1 s without the condition of the lowest fault of the readback. -/
def outCleared (i us : Nat) (s : State) : State :=
  let n := (s.sig.out i).fault
  if n = 0 ∨ n = 4 ∨ us < 1000000 then s
  else (modAout i (fun o => { o with present := setBit o.present n false }) s).raise 0x1017 i [BitVec.ofNat 8 n]

/-- An output fault holds on the servo path of a thruster's axis (R277, R316). -/
def State.servoOutFault (s : State) (i : Nat) (pitch : Bool) : Bool :=
  s.sig.outs.any fun o => o.src == .servo && o.thr == i && o.pitch == pitch && o.fault != 0

/-! ### Configuration and power (R306, R314, R317, R318) -/

/-- Channel settings of a CH_CFG word (R318). -/
def ainOfWord (w : Word) (c : AinChan) : AinChan :=
  { c with range := field w 2 0, classF := bit w 3, minimum := bit w 4, rate := field w 22 6 }

/-- The CH_CFG word (R318). -/
def ainWord (c : AinChan) : Word := pack [(c.range, 0, 3), (b2n c.classF, 3, 1), (b2n c.minimum, 4, 1), (c.rate, 6, 17)]

/-- Output settings of an AOUT record (R318, R560). -/
def aoutOf (c : AoutCfg) (now : Nat) : AoutChan :=
  { current := bit c.cfg 0
    src := match field c.cfg 3 1 with | 1 => .thruster | 2 => .servo | 3 => .session | _ => .unused
    thr := field c.cfg 7 4, pitch := bit c.cfg 8, safeHold := bit c.cfg 9
    scale := c.scale, offset := c.offset, safeValue := c.safeValue, dormantValue := c.dormantValue, timeout := c.outTimeout
    stagedAt := now }

/-- The OUT_CFG word (R318). -/
def aoutWord (o : AoutChan) : Word :=
  let src := match o.src with | .unused => 0 | .thruster => 1 | .servo => 2 | .session => 3
  pack [(b2n o.current, 0, 1), (src, 1, 3), (o.thr, 4, 4), (b2n o.pitch, 8, 1), (b2n o.safeHold, 9, 1)]

/-- PD12 is switched on: the image's channels start at one edge, source START_UP (R307, R310, R317). -/
def loadSignal (s : State) : State :=
  let im := s.image
  let s := s.modSig fun b => { b with
    ins := (List.range 16).map fun i => match lookupK im.ains i with
      | some c => { ainOfWord c.cfg (b.chan i) with
          used := true, delay := field c.delay 11 0, delayNext := none, scale := c.scale, offset := c.offset }
      | none => {}
    outs := (List.range 12).map fun i => match lookupK im.aouts i with | some c => aoutOf c s.now | none => {}
    syncEn := bit (wordOf im.scalars.syncCtrl) 0, syncFalling := bit (wordOf im.scalars.syncCtrl) 1 }
  syncChans 2 (s.sig.which (·.used)) s

/-- PD12 is switched off: every channel STOPPED, every output at 0 (R307, R314, R317). -/
def signalOff (s : State) : State :=
  let s := s.forN 16 fun s i => stopChan i s
  s.modSig fun b => { b with outs := b.outs.map fun o => { o with code := 0, staged := false } }

/-- Delays written take effect at the frame instant (R313). -/
def applyDelays (s : State) : State :=
  s.modSig fun b => { b with ins := b.ins.map fun c => match c.delayNext with | some d => { c with delay := d, delayNext := none } | none => c }

/-! ### Registers (R318) -/

/-- MOD_OFFSET: rate of the modulator clock, which the TCXO makes, against module time, ppm (R302, R460, R464). -/
def State.modOffset (s : State) : Rat :=
  (1 / (1 - s.tim.yEst / 1000000000 + s.tim.steer) - 1) * 1000000

/-- The modulator clock runs (R302, R479). -/
def State.modClk (s : State) : Bool := s.domOn 12 && !s.tim.tcxoFault

/-- Value of a SIG register; none where none is defined. -/
def sigRead (s : State) (off : Nat) : Option Word :=
  let b := s.sig
  let c := b.chan b.chSel
  let o := b.out b.outSel
  let m16 : (AinChan → Bool) → Nat := fun p => (maskOf 16 fun i => p (b.chan i)).toNat
  match off with
  | 0x10 => some (pack [(m16 fun c => c.phase == .running, 0, 16), (m16 fun c => c.phase == .fault, 16, 16)])
  | 0x14 => some (pack [(m16 fun c => c.aligned, 0, 16), ((maskOf 12 fun i => (b.out i).fault != 0).toNat, 16, 12), (b2n s.modClk, 28, 1)])
  | 0x18 => some (pack [(b2n b.syncEn, 0, 1), (b2n b.syncFalling, 1, 1)])
  | 0x1C => some (pack [(b.syncAccepted, 0, 16), (b.syncIgnored, 16, 16)])
  | 0x20 => some (loWord (b.syncLast.getD 0))
  | 0x24 => some (hiWord (b.syncLast.getD 0))
  | 0x28 => some 0
  | 0x2C => some (pack [(b.cmdResult, 0, 4), (b.cmdSession, 4, 5)])
  | 0x30 => some (wordOf b.chSel)
  | 0x34 => some (ainWord c)
  | 0x38 => some (wordOf c.delay)
  | 0x3C => some (f32Of c.scale)
  | 0x40 => some (f32Of c.offset)
  | 0x44 => some (pack [(c.phase.code, 0, 2), (if c.phase == .fault then c.code else 0, 2, 3), (b2n c.aligned, 5, 1), (c.cicLog2, 6, 5)])
  | 0x48 => some (f32Of c.value)
  | 0x4C => some (f32Of c.raw)
  | 0x50 => some (loWord c.stamp)
  | 0x54 => some (hiWord c.stamp)
  | 0x58 => some (f32Of (if c.phase == .stopped then 0 else c.groupDelay * 1000000))
  | 0x5C => some (wordOf c.faults)
  | 0x60 => some (wordOf b.outSel)
  | 0x64 => some (aoutWord o)
  | 0x68 => some (f32Of o.value)
  | 0x6C => some (wordOf o.code.toNat)
  | 0x70 => some (f32Of o.readback)
  | 0x74 => some (pack [(o.fault, 0, 3), (b2n o.safe, 3, 1)])
  | 0x78 => some (wordOf b.clamps)
  | 0x7C => some (f32Of s.modOffset)
  | _ => none

/-- What a read clears (R22, R318). -/
def sigClear (off : Nat) (s : State) : State :=
  match off with
  | 0x1C => s.modSig fun b => { b with syncAccepted := 0, syncIgnored := 0 }
  | 0x5C => modAin s.sig.chSel (fun c => { c with faults := 0 }) s
  | 0x78 => s.modSig fun b => { b with clamps := 0 }
  | _ => s

/-- Writable SIG registers (R318). -/
def sigWritable (off : Nat) : Bool := [0x18, 0x28, 0x30, 0x34, 0x38, 0x60, 0x68].contains off

/-- SIG_CMD_RESULT (R318). -/
def sigResult (w : WCtx) (r : Nat) (s : State) : State := s.modSig fun b => { b with cmdResult := r, cmdSession := w.session }

/-- Channels of a mask are started or stopped (R307). -/
def startMask (v : Word) (s : State) : State :=
  (s.sig.which fun c => c.used && c.phase == .stopped).foldl (fun s i => if v.getLsbD i then startChan i false s else s) s
def stopMask (v : Word) (s : State) : State :=
  (s.sig.which fun c => c.phase != .stopped).foldl (fun s i => if v.getLsbD i then stopChan i s else s) s

/-- SIG_CMD (R307, R310, R311, R318). A SYNC and a START of one write meet at one instant; the arbiter orders them. -/
def sigCmd (w : WCtx) (v : Word) (s : State) : WriteOut :=
  if (bit v 16 || bit v 17) && s.sup.mode != .service then .refused (sigResult w 1 s) 1
  else
    let move := fun (s : State) => if bit v 16 then startMask v s else if bit v 17 then stopMask v s else s
    let sync := fun (s : State) => if bit v 18 then syncAll 1 s else s
    let s := sigResult w 0 s
    if bit v 18 && bit v 16 then
      let s := s.draw
      .done (if Config.arbiterFirst s.free then sync (move s) else move (sync s)) 0
    else .done (sync (move s)) 0

/-- A write of CH_CFG (R306, R309, R318). A delay that the new class or rate does not allow becomes 0, one that waits is dropped (R312; DESIGN
CHOICE, assumption log 24). -/
def writeChCfg (w : WCtx) (v : Word) (s : State) : WriteOut :=
  let i := s.sig.chSel
  let c := ainOfWord v (s.sig.chan i)
  if 4 ≤ c.range ∨ c.rate = 0 ∨ 80000 < c.rate then .range
  else if s.sup.mode != .service then .refused (sigResult w 1 s) 1
  else if (s.sig.chan i).phase != .stopped then .refused (sigResult w 3 s) 3
  else if c.classF = false ∧ gridRate c.rate = false then .refused (sigResult w 1 s) 1
  else
    let keep := fun (d : Nat) => c.classF && delayOk c.rate d
    let s := modAin i (fun x => { ainOfWord v x with
      used := true, delay := if keep x.delay then x.delay else 0, delayNext := x.delayNext.filter keep }) (sigResult w 0 s)
    .done (s.raise 0x1015 i [BitVec.ofNat 8 w.session, 0]) 0

/-- A write of CH_DELAY (R312, R313). -/
def writeChDelay (w : WCtx) (v : Word) (s : State) : WriteOut :=
  let i := s.sig.chSel
  let c := s.sig.chan i
  let d := field v 11 0
  if (s.sup.mode != .standby && s.sup.mode != .service) || !c.classF || !delayOk c.rate d then .refused (sigResult w 1 s) 1
  else .done ((modAin i (fun x => { x with delayNext := some d }) (sigResult w 0 s)).raise 0x1015 i [BitVec.ofNat 8 w.session, 1]) 0

/-- A write of OUT_VALUE (R314, R315). -/
def writeOutValue (w : WCtx) (v : Word) (s : State) : WriteOut :=
  let i := s.sig.outSel
  if !f32Finite v then .badValue
  else if s.sup.mode == .dormant || (s.sig.out i).src != .session then .refused (sigResult w 1 s) 1
  else .done (stageOut i (f32Val v) (sigResult w 0 s)) 0

/-- A write to a SIG register (R318). -/
def sigWrite (w : WCtx) (off : Nat) (v : Word) (s : State) : WriteOut :=
  let no := sigResult w 2 s
  match off with
  | 0x18 => needRole w roleEngineer no <| .done (s.modSig fun b => { b with syncEn := bit v 0, syncFalling := bit v 1 }) 0
  | 0x28 => needRole w roleEngineer no <| sigCmd w v s
  | 0x30 => selector v 3 15 s fun n => s.modSig fun b => { b with chSel := n }
  | 0x34 => needRole w roleEngineer no <| writeChCfg w v s
  | 0x38 => needRole w roleEngineer no <| writeChDelay w v s
  | 0x60 => selector v 3 11 s fun n => s.modSig fun b => { b with outSel := n }
  | 0x68 => needRole w roleOperator no <| writeOutValue w v s
  | _ => .refused s 1

/-! ### Meanings of the commands -/

/-- Meaning of CH_FAULT (R301). -/
def execChFault (ch : Fin 16) (code : Fin 6) (raw : F32) (count : Nat) (s : State) : Host.Outcome State Fault Refusal
  :=
  .next (chFault ch.val code.val raw count s)

/-- Meaning of CH_FAULT_CLEARED (R301). -/
def execChFaultCleared (ch : Fin 16) (code : Fin 6) (raw : F32) (us : Nat) (s : State) : Host.Outcome State Fault
  Refusal :=
  .next (chFaultCleared ch.val code.val raw us s)

/-- Meaning of SHUNT_RECONNECT (R301). -/
def execShuntReconnect (ch : Fin 16) (s : State) : Host.Outcome State Fault Refusal :=
  .next (shuntReconnect ch.val s)

/-- Meaning of CHANNEL_SETTLED (R307). -/
def execChannelSettled (ch : Fin 16) (s : State) : Host.Outcome State Fault Refusal :=
  .next (channelSettled ch.val s)

/-- Meaning of SYNC_IN_EDGE (R311). -/
def execSyncInEdge (edge : PulseEdge) (s : State) : Host.Outcome State Fault Refusal :=
  .next (syncInEdge edge s)

/-- Meaning of OUT_TIMEOUT (R315). -/
def execOutTimeout (out : Fin 12) (s : State) : Host.Outcome State Fault Refusal :=
  .next (outTimeout out.val s)

/-- Meaning of OUT_FAULT (R316). -/
def execOutFault (out : Fin 12) (code : Fin 4) (readback : F32) (limit : Bool) (frames : Nat) (s : State) :
  Host.Outcome State Fault Refusal :=
  .next (outFault out.val code.val readback limit frames s)

/-- Meaning of OUT_CLEARED (R316). -/
def execOutCleared (out : Fin 12) (us : Nat) (s : State) : Host.Outcome State Fault Refusal :=
  .next (outCleared out.val us s)

end Sys2Proof.Machine
end

