-- ==== Sys2Proof/Machine/Feedback.lean ====
section
/-!
DEFINITION. Thruster feedback and output tables, as the servo core and the control cores read them (R240, R252, R253, R265,
R394, R555).
-/
set_option autoImplicit false
namespace Sys2Proof.Machine

/-- An analog input channel. -/
def State.ain (s : State) (ch : Nat) : AinChan := s.sig.ins.getD ch {}

/-- A thruster the image defines (R240). -/
def State.thrCfg (s : State) (i : Nat) : Option ThrCfg := lookupK s.image.thrusters i

/-- Thrusters the image defines. -/
def State.thrusters (s : State) : List Nat := indices 16 fun i => (s.thrCfg i).isSome

/-- Azimuth of a thruster that does not turn (R240): tunnel at +90°, otherwise the mounting yaw; turns. -/
def State.fixedAz (s : State) (c : ThrCfg) : Rat :=
  if c.type = 1 then 1 / 4 else s.image.mountYaw c.transform

/-- Interpolation in a table of ascending arguments; the end values beyond its ends. -/
def tableAt (x : Rat) : List (Rat × Rat) → Rat
  | [] => 0
  | [p] => p.2
  | p :: q :: l =>
    if x ≤ p.1 then p.2
    else if x ≤ q.1 then p.2 + (x - p.1) / (q.1 - p.1) * (q.2 - p.2)
    else tableAt x (q :: l)

/-- Output value of a thrust (R240, R252). -/
def ThrCfg.outOf (c : ThrCfg) (t : Rat) : Rat := if t < 0 then -(tableAt (-t) c.revTable) else tableAt t c.fwdTable

/-- Thrust of an output value: the tables inverted (R253). -/
def ThrCfg.thrustOf (c : ThrCfg) (o : Rat) : Rat :=
  let inv := fun (t : List (Rat × Rat)) => t.map fun p => (p.2, p.1)
  if o < 0 then -(tableAt (-o) (inv c.revTable)) else tableAt o (inv c.fwdTable)

/-- Azimuth sample of a thruster's source before zero offset and sense (R265, R277). -/
def State.rawAz (s : State) (i : Nat) (c : ThrCfg) : Option FbSample :=
  match c.fbSource with
  | 0 =>
    let a := s.ain c.fbChanA
    let b := s.ain c.fbChanB
    let r := a.value * a.value + b.value * b.value
    some { at_ := min a.stamp b.stamp, value := turnFrac (Config.atan2T a.value b.value)
           valid := a.good && b.good && decide (1 / 4 ≤ r) && decide (r ≤ 9 / 4) }
  | 1 =>
    let a := s.ain c.fbChanA
    some { at_ := a.stamp, value := turnFrac a.value, valid := a.good && decide (-1 / 50 ≤ a.value) && decide (a.value ≤ 51 / 50) }
  | _ =>
    let f := s.can.fbOf i
    match f.at_ with
    | some t => some { at_ := t, value := turnsOf f.azValid, valid := decide (f.status / 16 % 2 = 1) }
    | none => none

/-- Azimuth sample with zero offset and direction sense applied (R265). -/
def State.azSample (s : State) (i : Nat) (c : ThrCfg) : Option FbSample :=
  (s.rawAz i c).map fun x => { x with value := turnFrac ((if c.reversed then -x.value else x.value) + turnsOf c.zeroOffset) }

/-- Output feedback sample: a class F channel over the output range, or OUTPUT_FB of THR_FB (R265, R275, R555). -/
def State.outSample (s : State) (i : Nat) (c : ThrCfg) : Option FbSample :=
  if c.pitchFb = 255 then
    let f := s.can.fbOf i
    match f.at_ with
    | some t => some { at_ := t, value := f.outValid, valid := decide (f.status / 32 % 2 = 1) }
    | none => none
  else
    let a := s.ain c.pitchFb
    some { at_ := a.stamp, value := c.outMin + a.value * (c.outMax - c.outMin)
           valid := a.good && decide (-1 / 50 ≤ a.value) && decide (a.value ≤ 51 / 50) }

/-- Azimuth feedback of a thruster in turns, as the control cores use it: the servo's feedback, or the fixed azimuth. -/
def State.azFb (s : State) (i : Nat) (c : ThrCfg) : Rat :=
  if c.azKind = 1 then (s.srv.thr.getD i {}).az.fb else s.fixedAz c

/-- Thrust feedback of a thruster in kN (R237, R253). -/
def State.thrustFb (s : State) (i : Nat) (c : ThrCfg) : Rat :=
  match s.outSample i c with | some x => c.thrustOf x.value | none => 0

/-- Force of a thrust at an azimuth in turns (R9, R240). -/
def forceOf (t az : Rat) : Rat × Rat := (t * Config.cosT az, t * Config.sinT az)

/-- Root force and moment of a force at a thruster's place (R240). -/
def State.momentOf (s : State) (c : ThrCfg) (f : Rat × Rat) : Demand :=
  let l := s.image.lever c.transform
  { surge := f.1, sway := f.2, yaw := l.x * f.2 - l.y * f.1 }

/-- Sum of demands. -/
def Demand.add (a b : Demand) : Demand := { surge := a.surge + b.surge, sway := a.sway + b.sway, yaw := a.yaw + b.yaw }

/-- Difference of demands. -/
def Demand.sub (a b : Demand) : Demand := { surge := a.surge - b.surge, sway := a.sway - b.sway, yaw := a.yaw - b.yaw }

/-- A demand scaled by a factor. -/
def Demand.scale (k : Rat) (a : Demand) : Demand := { surge := k * a.surge, sway := k * a.sway, yaw := k * a.yaw }

/-- Components of a demand in order. -/
def Demand.toList (a : Demand) : List Rat := [a.surge, a.sway, a.yaw]

/-- A demand from its components. -/
def demandOf (l : List Rat) : Demand := { surge := l.getD 0 0, sway := l.getD 1 0, yaw := l.getD 2 0 }

/-- Realised root force and moment (R253). -/
def State.realisedNow (s : State) : Demand :=
  s.thrusters.foldl (fun d i => match s.thrCfg i with
    | some c => d.add (s.momentOf c (forceOf (s.thrustFb i c) (s.azFb i c)))
    | none => d) {}

end Sys2Proof.Machine
end

