-- ==== Sys2Proof/Machine/Field.lean ====
section
/-!
DEFINITION. The isolated 24 V field channels, block FIO (chapter 09_field_io.md, R320 to R341).
-/
set_option autoImplicit false
namespace Sys2Proof.Machine

/-- Channel configuration of a CH_CFG word (R340, R560). -/
def fioCfgOf (w : Word) : FioChanCfg :=
  { dir := match field w 1 0 with | 1 => .input | 2 => .output | _ => .unused
    type3 := bit w 2
    src := match field w 5 3 with | 1 => .session | 2 => .servo | 3 => .status | _ => .unused
    safe := match field w 7 6 with | 1 => .on | 2 => .hold | _ => .off
    restore := bit w 8, essential := bit w 9, openDet := bit w 10, edgeEvt := bit w 11, dormantOn := bit w 12, invert := bit w 13
    filter := field w 20 14, thr := field w 27 24, pitch := bit w 28, second := bit w 29, statusBit := field w 26 24 }

/-- The CH_CFG word of a configuration (R340). -/
def fioCfgWord (c : FioChanCfg) : Word :=
  let dir := match c.dir with | .unused => 0 | .input => 1 | .output => 2
  let src := match c.src with | .unused => 0 | .session => 1 | .servo => 2 | .status => 3
  let safe := match c.safe with | .off => 0 | .on => 1 | .hold => 2
  let arg := match c.src with
    | .servo => c.thr + 16 * b2n c.pitch + 32 * b2n c.second
    | .status => c.statusBit
    | _ => 0
  pack [(dir, 0, 2), (b2n c.type3, 2, 1), (src, 3, 3), (safe, 6, 2), (b2n c.restore, 8, 1), (b2n c.essential, 9, 1),
    (b2n c.openDet, 10, 1), (b2n c.edgeEvt, 11, 1), (b2n c.dormantOn, 12, 1), (b2n c.invert, 13, 1), (c.filter, 14, 7), (arg, 24, 8)]

/-- Bank of a channel (R320). -/
def bankOf (ch : Nat) : Nat := ch / 24

/-- Instance of a bank in events (R341). -/
def bankInst (k : Nat) : Nat := 0x30 + k

/-- A channel record by number. -/
def FioState.chan (b : FioState) (i : Nat) : FioChan := b.chans.getD i {}

/-- A bank record by number. -/
def FioState.bank (b : FioState) (k : Nat) : Bank := b.banks.getD k {}

/-- One channel changed. -/
def modChan (i : Nat) (f : FioChan → FioChan) (s : State) : State := s.modFio fun b => { b with chans := updAt b.chans i f }

/-- One bank changed. -/
def modBank (k : Nat) (f : Bank → Bank) (s : State) : State := s.modFio fun b => { b with banks := updAt b.banks k f }

/-- The channels of a bank. -/
def bankChans (k : Nat) : List Nat := (List.range 24).map (· + 24 * k)

/-- CH_STATUS STATE (R340). -/
def fioPhase (b : Bank) (c : FioChan) : FioPhase :=
  match c.cfg.dir with
  | .unused => .unused
  | .input => .input
  | .output =>
    if c.latched then .latched else if c.retryWait then .retryWait else if c.blocked then .blocked
    else if b.applied then .safe else if c.act then .on else .off

/-- Code of a channel state (R340). -/
def fioPhaseCode : FioPhase → Nat
  | .unused => 0 | .input => 1 | .off => 2 | .on => 3 | .retryWait => 4 | .latched => 5 | .blocked => 6 | .safe => 7

/-- The fault reported: the lowest code present, 0 for none (R336). -/
def fioFault (c : FioChan) : Nat :=
  if c.ocFault then 1 else if c.latched then 2 else if c.stuckHigh then 3 else if c.openLoad then 4
  else if c.fieldLost then 5 else if c.unavailable then 6 else 0

/-- A channel marked ESSENTIAL has a fault of code 2, 3, 5 or 6, or its bank's link is lost (R337). -/
def essentialFault (b : FioState) : Bool :=
  (List.range 48).any fun i =>
    let c := b.chan i
    c.cfg.essential && (c.latched || c.stuckHigh || c.fieldLost || c.unavailable || (b.bank (bankOf i)).safe)

/-- The value an output is commanded to at its field side: that of the last frame applied, or in the safe state R338's (HOLD keeps the last applied).
A frame lost leaves it as it was (R321). -/
def fioWanted (b : Bank) (c : FioChan) : Bool :=
  if b.applied then (match c.cfg.safe with | .off => false | .on => true | .hold => c.carried) else c.carried

/-- The compared level of a pin voltage (R326): on from the rising threshold, off from the falling one, between them as it was. The thresholds are
taken at their nominal values (DESIGN CHOICE, assumption log 8). -/
def pinLevel (type3 was : Bool) (v : Rat) : Bool :=
  if (if type3 then 19 / 2 else 25 / 2) ≤ v then true else if v ≤ (if type3 then 13 / 2 else 8) then false else was

/-- The switch of an output is set; a change is counted and stamped (R340). -/
def setSwitch (now : Nat) (on : Bool) (c : FioChan) : FioChan :=
  if c.act == on then c
  else { c with act := on, edges := satInc 32 c.edges, edgeAt := now, onSince := if on then now else c.onSince }

/-- The output may not be switched on: latched, unavailable, or its bank in FIELD_LOST or OFF or FAILED (R330, R332, R336). -/
def fioBarred (b : Bank) (c : FioChan) : Bool :=
  c.latched || c.unavailable || b.phase == .fieldLost || b.phase == .off || b.phase == .failed

/-- A valid link frame's state on one output, or the safe state's: command first, then a retry that waits (R331, R332). A command OFF ends the
reports of OVERCURRENT and OPEN_LOAD, whatever state the output is in (R335, R336). -/
def applyOutput (now : Nat) (b : Bank) (c : FioChan) : FioChan :=
  if c.cfg.dir != .output then c
  else
    let want := fioWanted b c
    let c := if want then c else { c with openLoad := false, ocFault := false }
    if fioBarred b c then setSwitch now false c
    else if c.blocked then setSwitch now false { c with blocked := want || b.applied }
    else if c.retryWait then
      if want && c.retryDue then setSwitch now true { c with retryWait := false, retryDue := false, ocFault := false }
      else setSwitch now false c
    else setSwitch now want c

/-- FAULT_CLEARED of a channel (R341): fault code, and 1 for a command. -/
def raiseFieldCleared (ch code : Nat) (byCommand : Bool) (s : State) : State :=
  s.raise 0x1118 ch [BitVec.ofNat 8 code, BitVec.ofNat 8 (b2n byCommand)]

/-- An output takes the state of its bank's frame; a fault report that OFF ends is recorded as cleared (R335, R336). -/
def applyChannel (ch : Nat) (s : State) : State :=
  let c := s.fio.chan ch
  let c' := applyOutput s.now (s.fio.bank (bankOf ch)) c
  let s := modChan ch (fun _ => c') s
  let s := if c.ocFault && !c'.ocFault then raiseFieldCleared ch 1 false s else s
  if c.openLoad && !c'.openLoad then raiseFieldCleared ch 4 false s else s

/-- The bank's domain is on and its field side holds its configuration (R320, R322). -/
def bankLive (s : State) (k : Nat) : Bool := s.domOn (8 + k) && (s.fio.bank k).loaded

/-- The IO core and a bank's field side exchange frames (R32, R321). -/
def linkRuns (s : State) (k : Nat) : Bool := bankLive s k && s.engineRuns 13 && !s.fullBist

/-- The link instant of the exchange that runs: the last servo tick instant or 16 ms strobe (R46, R321). -/
def State.linkInstant (s : State) : Nat :=
  let e := s.now - s.tim.frameAt
  if e < 500000 then s.tim.frameAt - 500000
  else s.tim.frameAt + max (500000 + (e - 500000) / 1000000 * 1000000) (if 16000000 ≤ e then 16000000 else 0)

/-- A link frame at the field side, one for each link instant (R321, R338, R339). A frame that fails its CRC is not valid, so it breaks a run of
consecutive valid ones; where the safe state ends, an output whose bank returned from FIELD_LOST meanwhile follows R331. -/
def fieldLinkFrame (k : Nat) (crcOk : Bool) (s : State) : State :=
  if !linkRuns s k || (s.fio.bank k).sentAt == some s.linkInstant then s
  else if !crcOk then modBank k (fun b => { b with linkErrors := satInc 16 b.linkErrors, sentAt := some s.linkInstant, goodFrames := 0 }) s
  else
    let b := s.fio.bank k
    let s := modBank k (fun b => { b with lastValid := s.now, sentAt := some s.linkInstant }) s
    if b.applied && decide (b.goodFrames < 3) then modBank k (fun b => { b with goodFrames := b.goodFrames + 1 }) s
    else
      let s := modBank k (fun b => { b with applied := false, goodFrames := 0 }) s
      (bankChans k).foldl (fun s ch =>
        applyChannel ch (modChan ch (fun c => { c with carried := c.cmd, blocked := c.blocked || c.returned, returned := false }) s)) s

/-- The IO core finds a bank's link silent, by its own count or at the next reply (R338): LINK_LOST, SAFE set, IN_VALID cleared. -/
def linkLost (k : Nat) (s : State) : State :=
  let b := s.fio.bank k
  if !b.safe && linkRuns s k && (b.applied || decide (s.fio.linkTimeout * 1000000 ≤ s.now - b.lastValid)) then
    let s := modBank k (fun b => { b with safe := true, link := false, linkLosses := satInc 16 b.linkLosses }) s
    let s := (bankChans k).foldl (fun s ch => modChan ch (fun c => { c with inValid := false }) s) s
    s.raise 0x111A (bankInst k) (zeros 4 ++ leBytes 4 (msOf (s.now - b.lastValid)))
  else s

/-- What a reply says of a channel (R321, R327, R328): of an output the readback, compared with the type 3 thresholds, and the current; of an input the
level, which is taken as it is when the link starts or comes back, and otherwise follows the edges. -/
def replyChan (fresh : Bool) (volts cur : Rat) (demag : Bool) (c : FioChan) : FioChan :=
  match c.cfg.dir with
  | .output =>
    let lvl := pinLevel true c.now volts
    { c with now := lvl, pinHigh := if c.act then c.pinHigh else lvl, demag := demag, current := cur }
  | .input =>
    let lvl := pinLevel c.cfg.type3 c.comp volts
    { c with comp := lvl, now := if fresh then lvl else c.now, demag := false, current := 0 }
  | .unused => c

/-- Total of a bank's output currents; a pin that is no output has none (R333). -/
def outputCurrent (k : Nat) (currents : List F32) (s : State) : Rat :=
  sumQ ((List.range 24).map fun j => if (s.fio.chan (24 * k + j)).cfg.dir == .output then f32Val (currents.getD j 0) else 0)

/-- What a reply carries (R321): pin voltages, demagnetisation, currents and supply; one for each link instant. -/
def linkReply (k : Nat) (crcOk : Bool) (pins : List F32) (demag : BitVec 24) (currents : List F32) (supply : F32) (s : State) : State :=
  if !linkRuns s k || (s.fio.bank k).replyAt == some s.linkInstant then s
  else if !crcOk then modBank k (fun b => { b with linkErrors := satInc 16 b.linkErrors, replyAt := some s.linkInstant }) s
  else
    let s := modBank k (fun b => { b with replyAt := some s.linkInstant, heardAt := s.now }) s
    let s := if (s.fio.bank k).applied then linkLost k s else s
    let b := s.fio.bank k
    let at_ := fun (l : List F32) j => f32Val (l.getD j 0)
    let total := outputCurrent k currents s
    let s := (List.range 24).foldl (fun s j =>
      modChan (24 * k + j) (replyChan (!b.link) (at_ pins j) (at_ currents j) (demag.getLsbD j)) s) s
    let restored := b.safe && !b.applied
    let s := modBank k (fun b => { b with
      supply := f32Val supply, current := total, overload := decide (6 < total)
      link := !b.safe || restored, safe := b.safe && b.applied }) s
    s.raiseIf restored 0x111B (bankInst k) (leBytes 4 (msOf (s.now - b.safeAt)))

/-- A field side without a valid frame for LINK_TIMEOUT applies its safe states (R338). -/
def linkTimeout (k : Nat) (s : State) : State :=
  let b := s.fio.bank k
  if bankLive s k && !b.applied && decide (s.fio.linkTimeout * 1000000 ≤ s.now - b.lastValid) then
    let s := modBank k (fun b => { b with applied := true, goodFrames := 0, safeAt := s.now }) s
    (bankChans k).foldl (fun s ch => applyChannel ch s) s
  else s

/-- A filtered input changes (R327); during a silence, or with the IO core lost, the edge is lost (R339). `heldUs` is how long every sample has shown
the level of the voltage, `backUs` how long before now the deciding sample was taken; the samples stand every 250 µs, counted from the
frame instants as the link instants are (DEDUCED, assumption log 8). -/
def inputEdge (ch : Nat) (volts : F32) (heldUs backUs : Nat) (s : State) : State :=
  let c := s.fio.chan ch
  let b := s.fio.bank (bankOf ch)
  let level := pinLevel c.cfg.type3 c.comp (f32Val volts)
  let s := if bankLive s (bankOf ch) && c.cfg.dir == .input then modChan ch (fun c => { c with comp := level }) s else s
  if bankLive s (bankOf ch) && c.cfg.dir == .input && c.now != level && decide (c.cfg.filter * 1000 ≤ heldUs) then
    let t := (s.now - backUs * 1000) / 250000 * 250000
    if b.applied || b.safe || !linkRuns s (bankOf ch) then modChan ch (fun c => { c with now := level }) s
    else
      let s := modChan ch (fun c => { c with now := level, edges := satInc 32 c.edges, edgeAt := t }) s
      s.raiseIf c.cfg.edgeEvt 0x111C ch (BitVec.ofNat 8 (b2n level) :: zeros 3 ++ leBytes 8 t)
  else s

/-- The IO core has heard a valid reply of a bank within LINK_TIMEOUT (R340). -/
def State.linkValid (s : State) (k : Nat) : Bool :=
  let b := s.fio.bank k
  b.link && decide (s.now < b.heardAt + s.fio.linkTimeout * 1000000)

/-- A request reads the channel records as they are now (R340). -/
def showField (s : State) : State :=
  s.modFio fun b => { b with shown := b.chans.mapIdx fun i c => (c, fioPhase (b.bank (bankOf i)) c) }

/-- The published states of all channels at a frame instant, with the CMD, ACT and FAULT registers (R328, R340). -/
def publishField (s : State) : State :=
  showField <| s.modFio fun b =>
    let chans := (List.range 48).map fun i =>
      let c := b.chan i
      let k := b.bank (bankOf i)
      let v := s.linkValid (bankOf i) && !k.safe && s.domOn (8 + bankOf i) && k.loaded
      if v then { c with level := c.now, inValid := true } else { c with inValid := false }
    { b with
      chans := chans
      cmdFrame := maskOf 48 fun i => (b.chan i).cfg.dir == .output && (b.chan i).cmd
      actFrame := maskOf 48 fun i => (b.chan i).act
      faultFrame := maskOf 48 fun i => decide (fioFault (b.chan i) ≠ 0) }

/-- The commanded value of an output of source SESSION or STATUS at the strobe (R323, R324). -/
def strobeValue (s : State) (c : FioChan) : Bool :=
  match s.sup.mode with
  | .start => false
  | .dormant => c.cfg.dormantOn
  | _ => match c.cfg.src with
    | .session => c.session
    | .status => s.statusBit c.cfg.statusBit != c.cfg.invert
    | _ => false

/-- Outputs of sources SESSION and STATUS take their commanded value at the strobe (R323, R324). -/
def releaseField (s : State) : State :=
  s.modFio fun b => { b with chans := b.chans.map fun c =>
    if c.cfg.dir == .output && (c.cfg.src == .session || c.cfg.src == .status) then { c with cmd := strobeValue s c } else c }

/-- Outputs of source SERVO take their servo's states at the tick release (R264, R266, R323); `on t pitch second` is the state of
one output of a thruster's servo. -/
def releaseFieldServo (on : Nat → Bool → Bool → Bool) (s : State) : State :=
  s.modFio fun b => { b with chans := b.chans.map fun c =>
    if c.cfg.dir == .output && c.cfg.src == .servo then
      { c with cmd := s.sup.mode != .start && on c.cfg.thr c.cfg.pitch c.cfg.second } else c }

/-! ### Field supply (R330, R331) -/

/-- FIELD_LOW: below 18.0 V for 10 ms. -/
def fieldLow (k : Nat) (volts : F32) (us : Nat) (s : State) : State :=
  if (s.fio.bank k).phase == .normal && decide (f32Val volts < 18) && decide (10000 ≤ us) && s.domOn (8 + k) then
    (modBank k (fun b => { b with phase := .fieldLow, awayAt := s.now, supply := f32Val volts }) s).raise 0x1110 (bankInst k)
      (leBytes 4 volts.toNat)
  else s

/-- FIELD_HIGH: above 32.0 V for 10 ms. -/
def fieldHigh (k : Nat) (volts : F32) (us : Nat) (s : State) : State :=
  if (s.fio.bank k).phase == .normal && decide (32 < f32Val volts) && decide (10000 ≤ us) && s.domOn (8 + k) then
    (modBank k (fun b => { b with phase := .fieldHigh, awayAt := s.now, supply := f32Val volts }) s).raise 0x1113 (bankInst k)
      (leBytes 4 volts.toNat)
  else s

/-- What FIELD_LOST does to one channel (R330, R331). -/
def loseField (now : Nat) (c : FioChan) : FioChan :=
  if c.cfg.dir == .output then
    setSwitch now false { c with
      fieldLost := true
      retryPaused := if c.retryWait && !c.retryDue then some (c.retryAt - now) else none }
  else c

/-- FIELD_LOST: below 14.0 V for 1 ms; every output switch of the bank is disabled. -/
def fieldLostCmd (k : Nat) (volts : F32) (us : Nat) (s : State) : State :=
  let p := (s.fio.bank k).phase
  if (p == .normal || p == .fieldHigh || p == .fieldLow) && decide (f32Val volts < 14) && decide (1000 ≤ us) && s.domOn (8 + k) then
    let s := modBank k (fun b => { b with
      phase := .fieldLost, awayAt := if p == .normal then s.now else b.awayAt, supply := f32Val volts }) s
    let s := (bankChans k).foldl (fun s ch => modChan ch (loseField s.now) s) s
    s.raise 0x1111 (bankInst k) (leBytes 4 volts.toNat)
  else s

/-- What the return from FIELD_LOST does to one channel: the retry timer resumes, and RESTORE 0 gives BLOCKED, but for an output that the safe
state holds ON (R331, R338). -/
def regainField (now : Nat) (b : Bank) (c : FioChan) : FioChan :=
  if c.cfg.dir == .output then
    let c := { c with
      fieldLost := false
      retryAt := match c.retryPaused with | some r => now + r | none => c.retryAt
      retryPaused := none
      returned := c.returned || (!c.cfg.restore && b.applied && c.cfg.safe == .on)
      blocked := c.blocked || (!c.cfg.restore && !(b.applied && c.cfg.safe == .on)) }
    c
  else c

/-- The supply back in range for its time returns the bank to NORMAL (R330, R331). -/
def fieldRestored (k : Nat) (volts : F32) (us : Nat) (s : State) : State :=
  let b := s.fio.bank k
  let v := f32Val volts
  let ok := match b.phase with
    | .fieldLow => decide (18 ≤ v) | .fieldLost => decide (18 ≤ v) | .fieldHigh => decide (v ≤ 31) | _ => false
  if ok && decide (100000 ≤ us) && s.domOn (8 + k) then
    let prev := match b.phase with | .fieldLow => 2 | .fieldLost => 3 | _ => 4
    let s := modBank k (fun b => { b with phase := .normal, supply := v }) s
    let s := if b.phase == .fieldLost then
        (bankChans k).foldl (fun s ch =>
          let was := (s.fio.chan ch).fieldLost
          let s := modChan ch (regainField s.now (s.fio.bank k)) s
          let s := if (s.fio.chan ch).blocked then s else applyChannel ch s
          if was then raiseFieldCleared ch 5 false s else s) s
      else s
    s.raise 0x1112 (bankInst k) (BitVec.ofNat 8 prev :: zeros 3 ++ leBytes 4 (msOf (s.now - b.awayAt)))
  else s

/-! ### Output faults (R332 to R335) -/

/-- A trip: RETRY_WAIT, or LATCHED at the fourth without a clean period (R332). `cause` is byte 5 of OVERCURRENT. -/
def tripOutput (ch cause : Nat) (amps : Rat) (s : State) : State :=
  let c := s.fio.chan ch
  let n := c.retries + 1
  let s := modChan ch (fun c =>
    let c := setSwitch s.now false { c with retries := min n 3, trips := satInc 32 c.trips }
    if 4 ≤ n then { c with latched := true, retryWait := false, retryDue := false, ocFault := false }
    else { c with retryWait := true, retryDue := false, retryAt := s.now + 1000000000, retryPaused := none, ocFault := true }) s
  let s := s.raise 0x1114 ch ([BitVec.ofNat 8 (min n 3), BitVec.ofNat 8 cause] ++ zeros 2 ++ f32Bytes amps)
  s.raiseIf (decide (4 ≤ n)) 0x1115 ch (leBytes 4 n)

/-- An output in current limit for 5 ms, or in thermal shutdown, trips (R332). -/
def overcurrent (ch : Nat) (thermal : Bool) (amps : F32) (us : Nat) (s : State) : State :=
  let c := s.fio.chan ch
  if bankLive s (bankOf ch) && c.cfg.dir == .output && c.act && (thermal || decide (5000 ≤ us)) then
    tripOutput ch (if thermal then 2 else 0) (f32Val amps) s
  else s

/-- After 1 s in RETRY_WAIT the output is switched on again if its commanded value is ON; otherwise the retry waits (R332). -/
def ocRetry (ch : Nat) (s : State) : State :=
  let c := s.fio.chan ch
  let b := s.fio.bank (bankOf ch)
  if bankLive s (bankOf ch) && c.retryWait && !c.retryDue && c.retryPaused == none && decide (c.retryAt ≤ s.now)
      && b.phase != .fieldLost then
    applyChannel ch (modChan ch (fun c => { c with retryDue := true }) s)
  else s

/-- Ten seconds on without a trip return the retry count to 0 (R332). -/
def ocCleanPeriod (ch : Nat) (s : State) : State :=
  let c := s.fio.chan ch
  if bankLive s (bankOf ch) && c.act && decide (10000000000 ≤ s.now - c.onSince) then modChan ch (fun c => { c with retries := 0 }) s
  else s

/-- The channel with the largest current among those that satisfy p, the lowest number when equal (R333). -/
def largestOutput (k : Nat) (cur : Nat → Rat) (p : Nat → Bool) : Option Nat :=
  ((bankChans k).filter p).foldl (fun best ch =>
    match best with
    | none => some ch
    | some b => if cur b < cur ch then some ch else some b) none

/-- The bank's output currents have exceeded 6.0 A for 100 ms: one output trips (R333). -/
def bankOverload (k : Nat) (currents : List F32) (us : Nat) (s : State) : State :=
  let cur := fun ch => f32Val (currents.getD (ch - 24 * k) 0)
  let on := fun ch => (s.fio.chan ch).cfg.dir == .output && (s.fio.chan ch).act
  let total := outputCurrent k currents s
  if bankLive s k && decide (6 < total) && decide (100000 ≤ us) then
    let s := modBank k (fun b => { b with overload := true, current := total }) s
    let s := s.raise 0x1119 (bankInst k) (f32Bytes total)
    let pick := match largestOutput k cur (fun ch => on ch && !(s.fio.chan ch).cfg.essential) with
      | some ch => some ch
      | none => largestOutput k cur on
    match pick with
    | some ch => tripOutput ch 1 (cur ch) s
    | none => s
  else s

/-- STUCK_HIGH: the pin of an output commanded OFF reads at or above 9.5 V for 10 ms, not before 5 ms after demagnetisation, and
not in FIELD_LOST (R334). -/
def stuckHigh (ch : Nat) (volts : F32) (us demagUs : Nat) (s : State) : State :=
  let c := s.fio.chan ch
  if bankLive s (bankOf ch) && c.cfg.dir == .output && !fioWanted (s.fio.bank (bankOf ch)) c && !c.stuckHigh
      && (s.fio.bank (bankOf ch)).phase != .fieldLost && decide (19 / 2 ≤ f32Val volts) && decide (10000 ≤ us)
      && decide (5000 ≤ demagUs) then
    (modChan ch (fun c => { c with stuckHigh := true, pinHigh := true }) s).raise 0x1116 ch (zeros 4 ++ leBytes 4 volts.toNat)
  else s

/-- STUCK_HIGH clears when the pin has read low for 1 s while the output is commanded OFF (R334). -/
def stuckHighClear (ch : Nat) (us : Nat) (s : State) : State :=
  let c := s.fio.chan ch
  if c.stuckHigh && !fioWanted (s.fio.bank (bankOf ch)) c && decide (1000000 ≤ us) then
    raiseFieldCleared ch 3 false (modChan ch (fun c => { c with stuckHigh := false, pinHigh := false }) s)
  else s

/-- OPEN_LOAD: an output ON with its current below 5 mA for 100 ms (R335). -/
def openLoad (ch : Nat) (amps : F32) (us : Nat) (s : State) : State :=
  let c := s.fio.chan ch
  if bankLive s (bankOf ch) && c.cfg.dir == .output && c.cfg.openDet && fioWanted (s.fio.bank (bankOf ch)) c && c.act && !c.openLoad
      && decide (f32Val amps < 1 / 200) && decide (100000 ≤ us) then
    (modChan ch (fun c => { c with openLoad := true }) s).raise 0x1117 ch (zeros 4 ++ leBytes 4 amps.toNat)
  else s

/-- OPEN_LOAD clears at or above 7 mA for 1 s (R335). -/
def openLoadClear (ch : Nat) (amps : F32) (us : Nat) (s : State) : State :=
  let c := s.fio.chan ch
  if c.openLoad && decide (7 / 1000 ≤ f32Val amps) && decide (1000000 ≤ us) then
    raiseFieldCleared ch 4 false (modChan ch (fun c => { c with openLoad := false }) s)
  else s

/-- CLEAR_FAULT on one channel (R336). -/
def clearFieldFault (ch : Nat) (s : State) : State :=
  let c := s.fio.chan ch
  let stuck := c.stuckHigh && !c.pinHigh
  let s := modChan ch (fun c => { c with
    latched := false, blocked := false, stuckHigh := c.stuckHigh && c.pinHigh
    retries := if c.latched || c.retryWait then 0 else c.retries }) s
  let s := if c.latched then raiseFieldCleared ch 2 true s else s
  if stuck then raiseFieldCleared ch 3 true s else s

/-! ### Configuration (R322) -/

/-- The IO core loads a bank's channel configuration from the image (R322); a bank that failed its BIST has its channels
UNAVAILABLE (R336). With NO_IMAGE set, or in a failed bank, the field side receives none. -/
def loadBank (k : Nat) (s : State) : State :=
  let s := (bankChans k).foldl (fun s ch => modChan ch (fun c =>
    { c with cfg := match lookupK s.image.fields ch with | some w => fioCfgOf w | none => {} }) s) s
  let s := s.modFio fun b => { b with linkTimeout := s.scalars.linkTimeout }
  let failed := s.bst.failedMask.getLsbD (19 + k)
  showField <| modBank k (fun b => { b with
    phase := if failed then .failed else if b.phase == .off then .normal else b.phase, loaded := !s.sup.noImage && !failed, lastValid := s.now
    heardAt := s.now, link := false, safe := false, applied := false, goodFrames := 0, sentAt := none, replyAt := none }) s

/-- A bank whose domain goes off: every output off, inputs invalid (R320). -/
def bankOff (k : Nat) (s : State) : State :=
  let s := modBank k (fun b => { b with phase := .off, loaded := false, link := false, safe := false, applied := false }) s
  (bankChans k).foldl (fun s ch => modChan ch (fun c =>
    { setSwitch s.now false c with inValid := false, unavailable := c.cfg.dir != .unused }) s) s

/-- A bank has failed its BIST: it is off as with its domain, and shows FAILED (R336, R340). -/
def bankFailed (k : Nat) (s : State) : State := modBank k (fun b => { b with phase := .failed }) (bankOff k s)

/-! ### Registers (R340) -/

/-- Value of a FIO register; none where none is defined. CH_CFG to CH_TRIPS show one frame (R340). -/
def fioRead (s : State) (off : Nat) : Option Word :=
  let b := s.fio
  let a := b.bank 0
  let z := b.bank 1
  let x := b.shown.getD b.chSel ({}, .unused)
  let c := x.1
  let bp : Bank → Nat → Nat := fun b d => if !s.domOn d then 0 else match b.phase with
    | .off => 0 | .normal => 1 | .fieldLow => 2 | .fieldLost => 3 | .fieldHigh => 4 | .failed => 5
  let lo : (Nat → Bool) → Word := fun p => maskOf 32 p
  let hi : (Nat → Bool) → Word := fun p => (maskOf 16 fun i => p (i + 32)).setWidth 32
  match off with
  | 0x10 => some (pack [(bp a 8, 0, 3), (bp z 9, 3, 3), (b2n (s.linkValid 0), 6, 1), (b2n (s.linkValid 1), 7, 1), (b2n a.safe, 8, 1), (b2n z.safe, 9, 1),
      (b2n a.overload, 10, 1), (b2n z.overload, 11, 1)])
  | 0x14 => some (f32Of a.supply)
  | 0x18 => some (f32Of z.supply)
  | 0x1C => some (f32Of a.current)
  | 0x20 => some (f32Of z.current)
  | 0x24 => some (lo fun i => (b.chan i).level)
  | 0x28 => some (hi fun i => (b.chan i).level)
  | 0x2C => some (lo b.cmdFrame.getLsbD)
  | 0x30 => some (hi b.cmdFrame.getLsbD)
  | 0x34 => some (lo b.actFrame.getLsbD)
  | 0x38 => some (hi b.actFrame.getLsbD)
  | 0x3C => some (lo b.faultFrame.getLsbD)
  | 0x40 => some (hi b.faultFrame.getLsbD)
  | 0x44 => some 0 | 0x48 => some 0 | 0x4C => some 0 | 0x50 => some 0 | 0x54 => some 0
  | 0x58 => some (pack [(b.cmdResult, 0, 4), (b.cmdSession, 4, 5)])
  | 0x5C => some (wordOf b.chSel)
  | 0x60 => some (fioCfgWord c.cfg)
  | 0x64 => some (pack [(fioPhaseCode x.2, 0, 3), (fioFault c, 3, 3), (c.retries, 6, 2), (b2n c.cmd, 8, 1),
      (b2n c.level, 9, 1), (b2n c.inValid, 10, 1), (b2n c.demag, 11, 1)])
  | 0x68 => some (f32Of c.current)
  | 0x6C => some (loWord c.edgeAt)
  | 0x70 => some (hiWord c.edgeAt)
  | 0x74 => some (wordOf c.edges)
  | 0x78 => some (wordOf c.trips)
  | 0x7C => some (wordOf b.linkTimeout)
  | 0x80 => some (pack [(a.linkErrors, 0, 16), (z.linkErrors, 16, 16)])
  | 0x84 => some (pack [(a.linkLosses, 0, 16), (z.linkLosses, 16, 16)])
  | _ => none

/-- The record shown of a channel changed. -/
def modShown (i : Nat) (f : FioChan → FioChan) (s : State) : State :=
  s.modFio fun b => { b with shown := updAt b.shown i fun x => (f x.1, x.2) }

/-- What a read clears (R22, R340); of a channel's counts, what the read showed. -/
def fioClear (off : Nat) (s : State) : State :=
  let i := s.fio.chSel
  let x := (s.fio.shown.getD i ({}, .unused)).1
  match off with
  | 0x74 => modShown i (fun c => { c with edges := 0 }) (modChan i (fun c => { c with edges := c.edges - x.edges }) s)
  | 0x78 => modShown i (fun c => { c with trips := 0 }) (modChan i (fun c => { c with trips := c.trips - x.trips }) s)
  | 0x80 => s.modFio fun b => { b with banks := b.banks.map fun k => { k with linkErrors := 0 } }
  | 0x84 => s.modFio fun b => { b with banks := b.banks.map fun k => { k with linkLosses := 0 } }
  | _ => s

/-- Writable FIO registers (R340). -/
def fioWritable (off : Nat) : Bool := [0x44, 0x48, 0x4C, 0x50, 0x54, 0x5C].contains off

/-- FIO_CMD_RESULT (R340). -/
def fioResult (w : WCtx) (r : Nat) (s : State) : State := s.modFio fun b => { b with cmdResult := r, cmdSession := w.session }

/-- OUT_ON or OUT_OFF of a bank (R324, R325). -/
def writeOut (w : WCtx) (k : Nat) (on : Bool) (v : Word) (s : State) : WriteOut :=
  let hit := fun ch => v.getLsbD (ch - 24 * k)
  needRole w roleOperator (fioResult w 2 s) <|
    if s.sup.mode == .dormant || (bankChans k).any (fun ch => hit ch &&
        !((s.fio.chan ch).cfg.dir == .output && (s.fio.chan ch).cfg.src == .session)) then .refused (fioResult w 1 s) 1
    else .done (fioResult w 0 ((bankChans k).foldl (fun s ch =>
      if hit ch then modChan ch (fun c => { c with session := on }) s else s) s)) 0

/-- A write to a FIO register (R325, R336, R340). -/
def fioWrite (w : WCtx) (off : Nat) (v : Word) (s : State) : WriteOut :=
  match off with
  | 0x44 => writeOut w 0 true v s
  | 0x48 => writeOut w 0 false v s
  | 0x4C => writeOut w 1 true v s
  | 0x50 => writeOut w 1 false v s
  | 0x54 =>
    needRole w roleOperator (fioResult w 2 s) <|
      if !bit v 6 && decide (47 < field v 5 0) then .refused (fioResult w 1 s) 1
      else if !bit v 7 then .done (fioResult w 0 s) 0
      else if bit v 6 then .done (fioResult w 0 (s.forN 48 fun s ch => clearFieldFault ch s)) 0
      else .done (fioResult w 0 (clearFieldFault (field v 5 0) s)) 0
  | 0x5C => selector v 5 47 s fun n => s.modFio fun b => { b with chSel := n }
  | _ => .refused s 1

/-! ### Meanings of the commands -/

/-- Meaning of FIELD_LINK_FRAME (R321). -/
def execFieldLinkFrame (bank : Fin 2) (crcOk : Bool) (s : State) : Host.Outcome State Fault Refusal :=
  .next (fieldLinkFrame bank.val crcOk s)

/-- Meaning of LINK_REPLY (R321). -/
def execLinkReply (bank : Fin 2) (crcOk : Bool) (pins : List F32) (demag : BitVec 24) (currents : List F32) (supply : F32)
    (s : State) : Host.Outcome State Fault Refusal :=
  .next (linkReply bank.val crcOk pins demag currents supply s)

/-- Meaning of LINK_TIMEOUT (R338). -/
def execLinkTimeout (bank : Fin 2) (s : State) : Host.Outcome State Fault Refusal :=
  .next (linkTimeout bank.val s)

/-- Meaning of LINK_LOST (R338). -/
def execLinkLost (bank : Fin 2) (s : State) : Host.Outcome State Fault Refusal :=
  .next (linkLost bank.val s)

/-- Meaning of INPUT_EDGE (R327). -/
def execInputEdge (ch : Fin 48) (volts : F32) (heldUs backUs : Nat) (s : State) : Host.Outcome State Fault Refusal :=
  .next (inputEdge ch.val volts heldUs backUs s)

/-- Meaning of FIELD_LOW (R330). -/
def execFieldLow (bank : Fin 2) (volts : F32) (us : Nat) (s : State) : Host.Outcome State Fault Refusal :=
  .next (fieldLow bank.val volts us s)

/-- Meaning of FIELD_HIGH (R330). -/
def execFieldHigh (bank : Fin 2) (volts : F32) (us : Nat) (s : State) : Host.Outcome State Fault Refusal :=
  .next (fieldHigh bank.val volts us s)

/-- Meaning of FIELD_LOST (R330). -/
def execFieldLost (bank : Fin 2) (volts : F32) (us : Nat) (s : State) : Host.Outcome State Fault Refusal :=
  .next (fieldLostCmd bank.val volts us s)

/-- Meaning of FIELD_RESTORED (R331). -/
def execFieldRestored (bank : Fin 2) (volts : F32) (us : Nat) (s : State) : Host.Outcome State Fault Refusal :=
  .next (fieldRestored bank.val volts us s)

/-- Meaning of OVERCURRENT (R332). -/
def execOvercurrent (ch : Fin 48) (thermal : Bool) (amps : F32) (us : Nat) (s : State) : Host.Outcome State Fault
  Refusal :=
  .next (overcurrent ch.val thermal amps us s)

/-- Meaning of OC_RETRY (R332). -/
def execOcRetry (ch : Fin 48) (s : State) : Host.Outcome State Fault Refusal :=
  .next (ocRetry ch.val s)

/-- Meaning of OC_CLEAN_PERIOD (R332). -/
def execOcCleanPeriod (ch : Fin 48) (s : State) : Host.Outcome State Fault Refusal :=
  .next (ocCleanPeriod ch.val s)

/-- Meaning of BANK_OVERLOAD (R333). -/
def execBankOverload (bank : Fin 2) (currents : List F32) (us : Nat) (s : State) : Host.Outcome State Fault Refusal :=
  .next (bankOverload bank.val currents us s)

/-- Meaning of STUCK_HIGH (R334). -/
def execStuckHigh (ch : Fin 48) (volts : F32) (us demagUs : Nat) (s : State) : Host.Outcome State Fault Refusal :=
  .next (stuckHigh ch.val volts us demagUs s)

/-- Meaning of STUCK_HIGH_CLEAR (R334). -/
def execStuckHighClear (ch : Fin 48) (us : Nat) (s : State) : Host.Outcome State Fault Refusal :=
  .next (stuckHighClear ch.val us s)

/-- Meaning of OPEN_LOAD (R335). -/
def execOpenLoad (ch : Fin 48) (amps : F32) (us : Nat) (s : State) : Host.Outcome State Fault Refusal :=
  .next (openLoad ch.val amps us s)

/-- Meaning of OPEN_LOAD_CLEAR (R335). -/
def execOpenLoadClear (ch : Fin 48) (amps : F32) (us : Nat) (s : State) : Host.Outcome State Fault Refusal :=
  .next (openLoadClear ch.val amps us s)

end Sys2Proof.Machine
end

