-- ==== Sys2Proof/Machine/Capability.lean ====
section
/-!
DEFINITION. Thruster availability, power shares and capability polygons, and the facets of the allocation groups (R240 to R245,
R251), with the plane geometry they share with consequence analysis (R257).
-/
set_option autoImplicit false
namespace Sys2Proof.Machine

/-- A thruster as CC0 holds it. -/
def CtlState.thruster (b : CtlState) (i : Nat) : ThrState := b.thr.getD i {}

/-- One thruster changed. -/
def modThr (i : Nat) (f : ThrState → ThrState) (s : State) : State := s.modCtl fun b => { b with thr := updAt b.thr i f }

/-- A group as CC0 holds it. -/
def CtlState.group (b : CtlState) (g : Nat) : GroupState := b.groups.getD g {}

/-- One group changed. -/
def modGroup (g : Nat) (f : GroupState → GroupState) (s : State) : State := s.modCtl fun b => { b with groups := updAt b.groups g f }

/-! ### Availability (R241) -/

/-- The servo of a thruster is in fault (R277). -/
def State.servoFault (s : State) (i : Nat) : Bool :=
  let t := s.srv.thr.getD i {}
  t.az.fault != 0 || t.pitch.fault != 0

/-- What the drive feedback condition finds (R241, R394): none when it holds. -/
def State.feedbackReason (s : State) (i : Nat) (c : ThrCfg) : Option ThrReason :=
  if c.readySrc = 255 then
    let f := s.can.fbOf i
    if !f.fresh s.now then some .feedbackStale else if !f.ready then some .notReady else none
  else
    let ch := s.fio.chan c.readySrc
    if !ch.inValid then some .feedbackStale else if !ch.level then some .notReady else none

/-- Reason of unavailability of the lowest code, if any (R241). -/
def State.thrReason (s : State) (i : Nat) (c : ThrCfg) : ThrReason :=
  if !s.ctl.thrEnable.getLsbD i then .disabled
  else if (s.saf.thr.getD i {}).phase != .armed then .safeStop
  else match s.feedbackReason i c with
    | some .notReady => .notReady
    | some r => r
    | none => if s.servoFault i then .servoFault else .none

/-- Code of a reason (R261). -/
def ThrReason.code : ThrReason → Nat
  | .none => 0 | .disabled => 1 | .safeStop => 2 | .notReady => 3 | .feedbackStale => 4 | .servoFault => 5

/-- The hold azimuth of a thruster: its azimuth feedback now (R61). -/
def State.holdBam (s : State) (i : Nat) : Nat := match s.thrCfg i with | some c => bamOf (s.azFb i c) | none => 0

/-- A thruster's availability is evaluated at the allocation start (R241). One that becomes unavailable while thrust is released
holds the azimuth it has (R61). -/
def evalThruster (i : Nat) (c : ThrCfg) (s : State) : State :=
  let old := s.ctl.thruster i
  let r := s.thrReason i c
  let ok := r == .none
  let s := if old.available && !ok && !s.inhibited then s.modSup fun b => { b with holdAz := updAt b.holdAz i fun _ => s.holdBam i } else s
  let s := modThr i (fun t => { t with available := ok, reason := r, evaluated := true, changed := ok != old.available }) s
  if ok then s.raiseIf (old.evaluated && !old.available) 0x0D1F i [BitVec.ofNat 8 old.reason.code]
  else s.raiseIf (old.available || !old.evaluated) 0x0D1E i [BitVec.ofNat 8 r.code]

/-- All defined thrusters are evaluated (R241). -/
def evalThrusters (s : State) : State :=
  s.forN 16 fun s i => match s.thrCfg i with | some c => evalThruster i c s | none => s

/-! ### Power (R242) -/

/-- Newest value that a bus's source delivered, with its module time, none when it never delivered one: a channel in fault delivers none and
the previous value is aged; an analog power is clamped below at 0 kW (R242, R301, R391, R396). -/
def State.busReading (s : State) (b : Nat) (c : BusCfg) : Option (Rat × Nat) :=
  match c.source with
  | 2 => (s.ain c.chan).lastGood.map fun v => (maxQ 0 v.1, v.2)
  | _ => let x := s.ctl.buses.getD b {}; match x.at_ with | some t => some (x.value, t) | none => none

/-- The value of a bus is current (R242). -/
def State.busFresh (s : State) (b : Nat) (c : BusCfg) : Bool :=
  c.source == 0 || (match s.busReading b c with | some r => decide (s.now ≤ r.2 + nsOf s.scalars.busMaxAge) | none => false)

/-- P_avail of a bus in kW (R242). -/
def State.busPower (s : State) (b : Nat) (c : BusCfg) : Rat :=
  if c.source = 0 then c.fixed
  else if s.busFresh b c then (match s.busReading b c with | some r => r.1 | none => c.fallback)
  else c.fallback

/-- One bus changed. -/
def modBus (b : Nat) (f : BusState → BusState) (s : State) : State := s.modCtl fun x => { x with buses := updAt x.buses b f }

/-- BUS_STALE: the fallback takes the place of a value older than BUS_MAX_AGE (R242). -/
def busStale (b : Nat) (s : State) : State :=
  match lookupK s.image.buses b with
  | none => s
  | some c =>
    if s.busFresh b c || (s.ctl.buses.getD b {}).stale then s
    else (modBus b (fun x => { x with stale := true, avail := c.fallback }) s).raise 0x0D21 b (f32Bytes c.fallback)

/-- Available powers at the allocation start (R242). -/
def evalBuses (s : State) : State :=
  s.forN 8 fun s b => match lookupK s.image.buses b with
    | none => s
    | some c =>
      let s := busStale b s
      modBus b (fun x => { x with avail := s.busPower b c, stale := !s.busFresh b c }) s

/-- Thrust cap of a thruster when the thrusters of `on` share the buses (R242). -/
def State.capOf (s : State) (on : Nat → Bool) (c : ThrCfg) : Rat :=
  let p := (s.ctl.buses.getD c.bus {}).avail
  let rated := sumQ (s.thrusters.map fun j => match s.thrCfg j with
    | some d => if d.bus = c.bus && on j then d.pRated else 0
    | none => 0)
  let share := minQ c.pRated (p * c.pRated / rated)
  let q := share / c.kPow
  minQ c.tMax (Config.cbrt (q * q))

/-- Thrust caps at the allocation start (R242). -/
def evalCaps (s : State) : State :=
  s.forN 16 fun s i => match s.thrCfg i with
    | some c => modThr i (fun t => { t with tCap := if t.available then s.capOf (fun j => (s.ctl.thruster j).available) c else 0 }) s
    | none => s

/-! ### Arcs and polygons (R243, R257), angles in turns -/

/-- Clockwise way from a to b. -/
def cwWay (a b : Rat) : Rat := turnFrac (b - a)

/-- Forbidden zones in turns (R240, R555). -/
def ThrCfg.zonesT (c : ThrCfg) : List (Rat × Rat) := c.zones.map fun z => (turnsOf z.1, turnsOf z.2)

/-- The zone that holds an angle in its inside, if any; its edges are allowed. -/
def ThrCfg.zoneOf (c : ThrCfg) (a : Rat) : Option (Rat × Rat) :=
  c.zonesT.find? fun z => decide (0 < cwWay z.1 a) && decide (cwWay z.1 a < cwWay z.1 z.2)

/-- Clockwise and counter-clockwise way from an allowed angle to the nearest zone edge, a whole turn without zones. -/
def ThrCfg.room (c : ThrCfg) (a : Rat) : Rat × Rat :=
  ((c.zonesT.map fun z => cwWay a z.1).foldl minQ 1, (c.zonesT.map fun z => cwWay z.2 a).foldl minQ 1)

/-- End points of the equal segments of an arc from lo to hi at a radius: at most 22.5° each, at least one (R243). -/
def arcPoints (lo hi r : Rat) : List (Rat × Rat) :=
  let w := hi - lo
  let n := max 1 (-(-(w * 16)).floor).toNat
  (List.range (n + 1)).map fun (k : Nat) => forceOf r (lo + w * (k : Rat) / (n : Rat))

/-- Vertices of the capability polygon of a thruster (R243). -/
def State.polygon (s : State) (i : Nat) (c : ThrCfg) : List (Rat × Rat) :=
  let t := s.ctl.thruster i
  if !t.available then [(0, 0)]
  else if c.type = 0 then
    let a := s.azFb i c
    if (c.zoneOf a).isSome then [(0, 0)]
    else
      let reach := turnsOfRad (c.aRate * (s.image.tunes.foldl (fun x e => if e.1 = s.ctl.tune then e.2.lookahead else x) 0))
      let r := c.room a
      let up := minQ (1 / 4) (minQ reach r.1)
      let dn := minQ (1 / 4) (minQ reach r.2)
      (0, 0) :: arcPoints (a - dn) (a + up) t.tCap
  else [forceOf (-(minQ c.tRev t.tCap)) (s.fixedAz c), forceOf t.tCap (s.fixedAz c)]

/-- Linear rows a·F with bounds that hold a polygon of vertices in counter-clockwise order (R246): one row per edge; of a segment
the line as an equality and the range along it; of a point both components. At most ten. -/
def polyRows (v : List (Rat × Rat)) : List ((Rat × Rat) × Rat × Rat) :=
  let absent : Rat := 100000000000000000000
  match v.eraseDups with
  | [] => [((1, 0), 0, 0), ((0, 1), 0, 0)]
  | [p] => [((1, 0), p.1, p.1), ((0, 1), p.2, p.2)]
  | [p, q] =>
    let d := (q.1 - p.1, q.2 - p.2)
    let n := (d.2, -d.1)
    [(n, n.1 * p.1 + n.2 * p.2, n.1 * p.1 + n.2 * p.2),
     (d, minQ (d.1 * p.1 + d.2 * p.2) (d.1 * q.1 + d.2 * q.2), maxQ (d.1 * p.1 + d.2 * p.2) (d.1 * q.1 + d.2 * q.2))]
  | p :: rest =>
    ((p :: rest).zip (rest ++ [p])).map fun e =>
      let n := (e.2.2 - e.1.2, e.1.1 - e.2.1)
      (n, -absent, n.1 * e.1.1 + n.2 * e.1.2)

/-! ### Facets (R245, R251) -/

/-- The default direction set: the 26 normalised vectors of components −1, 0 and 1 (R245). -/
def defaultDirections : List (Rat × Rat × Rat) :=
  let c : List Rat := [-1, 0, 1]
  (c.flatMap fun a => c.flatMap fun b => c.map fun d => (a, b, d)).filterMap fun v =>
    let q := v.1 * v.1 + v.2.1 * v.2.1 + v.2.2 * v.2.2
    if q = 0 then none else let r := Config.sqrt q; some (v.1 / r, v.2.1 / r, v.2.2 / r)

/-- The direction set in force (R245). -/
def Image.dirs (im : Image) : List (Rat × Rat × Rat) := if im.directions.isEmpty then defaultDirections else im.directions

/-- A demand in scaled coordinates (R245). -/
def State.scaled (s : State) (d : Demand) : Demand :=
  { surge := d.surge / s.scalars.fRef, sway := d.sway / s.scalars.fRef, yaw := d.yaw / s.scalars.mRef }

/-- A scaled demand in kN and kN·m (R245). -/
def State.unscaled (s : State) (d : Demand) : Demand :=
  { surge := d.surge * s.scalars.fRef, sway := d.sway * s.scalars.fRef, yaw := d.yaw * s.scalars.mRef }

/-- Inner product of a direction and a demand. -/
def dirDot (n : Rat × Rat × Rat) (d : Demand) : Rat := n.1 * d.surge + n.2.1 * d.sway + n.2.2 * d.yaw

/-- Facet values of a thruster: the largest n·ξ over its polygon (R245). -/
def State.thrFacets (s : State) (i : Nat) (c : ThrCfg) : List Rat :=
  let vs := (s.polygon i c).map fun f => s.scaled (s.momentOf c f)
  s.image.dirs.map fun n => match vs.map (dirDot n) with | [] => 0 | v :: l => maxList v l

/-- A group of the image. -/
def State.groupCfg (s : State) (g : Nat) : Option GroupCfg := lookupK s.image.groups g

/-- Depth of a group below the root, along its parents (R244). -/
def groupDepth (im : Image) : Nat → Nat → Nat
  | 0, _ => 0
  | k + 1, g => match lookupK im.groups g with
    | some c => if c.parent = 255 then 0 else 1 + groupDepth im k c.parent
    | none => 0

/-- Groups of the image, deepest first. -/
def State.groupsUp (s : State) : List Nat :=
  let gs := indices 64 fun g => (s.groupCfg g).isSome
  (List.range 64).reverse.flatMap fun d => gs.filter fun g => groupDepth s.image 64 g == d

/-- EXTERNAL capability older than two frames at the allocation start (R251). -/
def State.extOld (s : State) (g : Nat) : Bool :=
  match (s.ctl.group g).extAt with | some t => decide (t + 40000000 < s.now) | none => true

/-- EXT_GROUP_STALE: h = 0 takes the place of an old capability (R251). -/
def extGroupStale (g : Nat) (s : State) : State :=
  match s.groupCfg g with
  | some c =>
    if c.external && s.extOld g && !(s.ctl.group g).stale then
      let n := match (s.ctl.group g).extAt with | some t => sat 8 ((s.now - t) / 20000000) | none => 255
      (modGroup g (fun x => { x with stale := true, facets := s.image.dirs.map fun _ => 0, extSat := false }) s).raise 0x0D22 g [BitVec.ofNat 8 n]
    else s
  | none => s

/-- Facet values of a group (R245, R251). -/
def State.groupFacets (s : State) (c : GroupCfg) (g : Nat) : List Rat :=
  if c.external then (if s.extOld g then s.image.dirs.map fun _ => 0 else (s.ctl.group g).extFacets)
  else
    let parts := c.children.map fun ch =>
      if ch.isGroup then (s.ctl.group ch.index).facets
      else match s.thrCfg ch.index with | some t => s.thrFacets ch.index t | none => []
    (List.range s.image.dirs.length).map fun k => sumQ (parts.map fun p => p.getD k 0)

/-- All facets, bottom-up (R245). -/
def evalFacets (s : State) : State :=
  s.groupsUp.foldl (fun s g => match s.groupCfg g with
    | some c =>
      let s := extGroupStale g s
      modGroup g (fun x => { x with facets := s.groupFacets c g, stale := c.external && s.extOld g }) s
    | none => s) s

end Sys2Proof.Machine
end

