-- ==== Sys2Proof/Machine/F64.lean ====
section
/-!
DEFINITION. Solver arithmetic (R176): IEEE 754 binary64 on bit patterns, rounded to nearest with ties to even, subnormals kept, a fused
multiply-add rounded once. An operation that overflows, has no value, or meets an operand that is not finite answers none, which
stops the solve (R207); an underflow to a subnormal or to a zero is a value.
-/
set_option autoImplicit false
namespace Sys2Proof.Machine

/-- The number that a finite pattern denotes. -/
def fVal (a : F64) : Rat := f64Val a.toNat

/-- Neither NaN nor infinity. -/
def fFinite (a : F64) : Bool := f64Finite a.toNat

/-- The sign bit. -/
def fNegative (a : F64) : Bool := a.getLsbD 63

/-- −a and |a|: the sign bit alone changes. -/
def fNeg (a : F64) : F64 := a ^^^ BitVec.ofNat 64 (2 ^ 63)
def fAbs (a : F64) : F64 := a &&& BitVec.ofNat 64 (2 ^ 63 - 1)

/-- The binary64 nearest to a number, ties to even; infinity beyond the largest finite one. -/
def fOf (q : Rat) : F64 := BitVec.ofNat 64 (f64Of q)

/-- An exact result rounded once (R176); a result of zero has the sign given, and one that overflows is none (R207). -/
def fRound (negative : Bool) (q : Rat) : Option F64 :=
  if q = 0 then some (if negative then BitVec.ofNat 64 (2 ^ 63) else 0)
  else
    let w := fOf q
    if fFinite w then some w else none

/-- a + b; zeros of opposite sign and cancelled sums give +0. -/
def fAdd (a b : F64) : Option F64 := if fFinite a && fFinite b then fRound (fNegative a && fNegative b) (fVal a + fVal b) else none

/-- a − b. -/
def fSub (a b : F64) : Option F64 := fAdd a (fNeg b)

/-- a · b. -/
def fMul (a b : F64) : Option F64 := if fFinite a && fFinite b then fRound (fNegative a != fNegative b) (fVal a * fVal b) else none

/-- a / b; a division by zero has no value. -/
def fDiv (a b : F64) : Option F64 :=
  if fFinite a && fFinite b && decide (fVal b ≠ 0) then fRound (fNegative a != fNegative b) (fVal a / fVal b) else none

/-- a · b + c, rounded once (R176). -/
def fFma (a b c : F64) : Option F64 :=
  if fFinite a && fFinite b && fFinite c then fRound ((fNegative a != fNegative b) && fNegative c) (fVal a * fVal b + fVal c) else none

/-- c − a · b, rounded once. -/
def fFnma (a b c : F64) : Option F64 := fFma (fNeg a) b c

/-- a < b and a ≤ b of finite numbers. -/
def fLt (a b : F64) : Bool := decide (fVal a < fVal b)
def fLe (a b : F64) : Bool := decide (fVal a ≤ fVal b)

/-- The larger and the smaller; the first of equals. -/
def fMax (a b : F64) : F64 := if fLt a b then b else a
def fMin (a b : F64) : F64 := if fLt b a then b else a

/-- 1 and 2. -/
def fOne : F64 := BitVec.ofNat 64 (1023 * 2 ^ 52)
def fTwo : F64 := BitVec.ofNat 64 (1024 * 2 ^ 52)

/-! ### Vectors -/

/-- Two vectors combined entry by entry, in ascending order (assumption log 36). -/
def zipF (f : F64 → F64 → Option F64) : List F64 → List F64 → Option (List F64)
  | a :: as, b :: bs => do
    let c ← f a b
    let cs ← zipF f as bs
    some (c :: cs)
  | _, _ => some []

/-- Inner product by fused multiply-adds in ascending order onto a start value (assumption log 36). -/
def dotOnto (start : F64) (a b : List F64) : Option F64 := (a.zip b).foldlM (fun s p => fFma p.1 p.2 s) start

/-- Sum in ascending order (assumption log 36). -/
def sumF (l : List F64) : Option F64 := l.foldlM fAdd 0

/-- Largest magnitude of a vector, 0 of an empty one. -/
def normF (l : List F64) : F64 := (l.map fAbs).foldl fMax 0

/-- An entry of a vector raised by a · b; no entry beyond its end. -/
def fmaAt (v : List F64) (i : Nat) (a b : F64) : Option (List F64) :=
  match v[i]? with
  | none => some v
  | some x => (fFma a b x).map (v.set i)

end Sys2Proof.Machine
end

