-- ==== Sys2Proof/Machine/Qp.lean ====
section
/-!
DEFINITION. Quadratic programs in slots (R178 to R182, R190): a structure's patterns, signature and data vector, its products in binary64,
and the measures of R208 and R210.
-/
set_option autoImplicit false
namespace Sys2Proof.Machine

/-! ### Structures and data vectors (R180, R190) -/

/-- Row and column of every stored nonzero of a pattern of n columns, in canonical order (R180). -/
def patEntries (n : Nat) (pat : List Nat) : List (Nat × Nat) :=
  (List.range n).flatMap fun j =>
    (List.range (pat.getD (j + 1) 0 - pat.getD j 0)).map fun k => (pat.getD (n + 1 + pat.getD j 0 + k) 0, j)

/-- Length of the data vector (R190). -/
def StructCfg.dataLen (t : StructCfg) : Nat := t.nnzH + t.n + t.nnzA + t.mE + t.nnzC + 2 * t.mI + 2 * t.n

/-- Canonical encoding of a structure, whose CRC-64 is its signature (R180). -/
def StructCfg.encoding (t : StructCfg) : Bytes :=
  [BitVec.ofNat 8 t.cls] ++ leBytes 4 t.n ++ leBytes 4 t.mE ++ leBytes 4 t.mI ++ (t.patH ++ t.patA ++ t.patC).flatMap (leBytes 4)

/-- Signature the module computes (R180, R181). -/
def StructCfg.sig (t : StructCfg) : Nat := crc64 t.encoding

/-- The default data vector, as BIND loads it (R186, R558). -/
def StructCfg.defaults (t : StructCfg) : List F64 := t.defaultData.map (BitVec.ofNat 64)

/-! ### Problems (R178) -/

/-- A bound of magnitude 10²⁰ or more, an infinity among them, is absent (R178). -/
def boundOn (b : F64) : Bool := fFinite b && decide (absQ (fVal b) < 100000000000000000000)

/-- A bound pair with the sides that are present (R178). -/
structure Bnd where
  lo : Option F64 := none
  hi : Option F64 := none
deriving DecidableEq, Repr, Inhabited

/-- The pair of two bounds of a data vector. -/
def Bnd.of (lo hi : F64) : Bnd := { lo := if boundOn lo then some lo else none, hi := if boundOn hi then some hi else none }

/-- The value of a pair whose bounds are equal, which is solved as one equality (R178). -/
def Bnd.equal (b : Bnd) : Option F64 :=
  match b.lo, b.hi with
  | some l, some h => if fVal l = fVal h then some l else none
  | _, _ => none

/-- A problem: its patterns by entries, its values, its right-hand sides and its bound pairs (R178). -/
structure Problem where
  n : Nat := 0
  eh : List (Nat × Nat) := []
  ea : List (Nat × Nat) := []
  ec : List (Nat × Nat) := []
  h : List F64 := []
  q : List F64 := []
  a : List F64 := []
  b : List F64 := []
  c : List F64 := []
  rows : List Bnd := []
  vars : List Bnd := []
deriving DecidableEq, Repr, Inhabited

/-- The problem that a data vector spells under a structure (R178, R190). -/
def problemOf (t : StructCfg) (d : List F64) : Problem :=
  let part := fun i k => (d.drop i).take k
  let i1 := t.nnzH
  let i2 := i1 + t.n
  let i3 := i2 + t.nnzA
  let i4 := i3 + t.mE
  let i5 := i4 + t.nnzC
  let i6 := i5 + 2 * t.mI
  { n := t.n, eh := patEntries t.n t.patH, ea := patEntries t.n t.patA, ec := patEntries t.n t.patC
    h := part 0 t.nnzH, q := part i1 t.n, a := part i2 t.nnzA, b := part i3 t.mE, c := part i4 t.nnzC
    rows := ((part i5 t.mI).zip (part (i5 + t.mI) t.mI)).map fun p => Bnd.of p.1 p.2
    vars := ((part i6 t.n).zip (part (i6 + t.n) t.n)).map fun p => Bnd.of p.1 p.2 }

/-! ### Products, by fused multiply-adds in canonical order (R176, R180; assumption log 36) -/

/-- Product of a sparse matrix of m rows and a vector. -/
def sparseMul (m : Nat) (es : List (Nat × Nat)) (vals x : List F64) : Option (List F64) :=
  (es.zip vals).foldlM (fun r e => fmaAt r e.1.1 e.2 (x.getD e.1.2 0)) (List.replicate m 0)

/-- Product of the transpose of a sparse matrix of n columns and a vector. -/
def sparseMulT (n : Nat) (es : List (Nat × Nat)) (vals y : List F64) : Option (List F64) :=
  (es.zip vals).foldlM (fun r e => fmaAt r e.1.2 e.2 (y.getD e.1.1 0)) (List.replicate n 0)

/-- H x from the upper triangle of H (R178). -/
def symMul (n : Nat) (es : List (Nat × Nat)) (vals x : List F64) : Option (List F64) :=
  (es.zip vals).foldlM (fun r e => do
    let r ← fmaAt r e.1.1 e.2 (x.getD e.1.2 0)
    if e.1.1 = e.1.2 then some r else fmaAt r e.1.2 e.2 (x.getD e.1.1 0)) (List.replicate n 0)

/-- A x, C x, and H x of a problem. -/
def Problem.ax (p : Problem) (x : List F64) : Option (List F64) := sparseMul p.b.length p.ea p.a x
def Problem.cx (p : Problem) (x : List F64) : Option (List F64) := sparseMul p.rows.length p.ec p.c x
def Problem.hx (p : Problem) (x : List F64) : Option (List F64) := symMul p.n p.eh p.h x

/-- Objective ½ xᵀHx + qᵀx (R178). -/
def Problem.objective (p : Problem) (x : List F64) : Option F64 := do
  let hx ← p.hx x
  let two ← dotOnto 0 x hx
  let half ← fDiv two fTwo
  dotOnto half p.q x

/-! ### Measures (R208, R210) -/

/-- Multiplier of a bound pair in the dual residual: its upper side's less its lower side's, or the equality's (R178, R208). -/
def Bnd.mult (b : Bnd) (p : SidePair) : Option F64 := if b.equal.isSome then some p.zEq else fSub p.zHi p.zLo

/-- Multipliers of pairs. -/
def multsOf (bs : List Bnd) (ps : List SidePair) : Option (List F64) := (bs.zip ps).mapM fun e => e.1.mult e.2

/-- Aᵀy + Cᵀz + w. -/
def Problem.adjoint (p : Problem) (y z w : List F64) : Option (List F64) := do
  let aty ← sparseMulT p.n p.ea p.a y
  let ctz ← sparseMulT p.n p.ec p.c z
  zipF fAdd (← zipF fAdd aty ctz) w

/-- Dual residual Hx + q + Aᵀy + Cᵀz + w (R208). -/
def Problem.dualRes (p : Problem) (v : Vectors) : Option (List F64) := do
  let hx ← p.hx v.x
  let adj ← p.adjoint v.y (← multsOf p.rows v.rows) (← multsOf p.vars v.bounds)
  zipF fAdd (← zipF fAdd hx p.q) adj

/-- By how much a value lies outside a bound pair (R178). -/
def Bnd.outside (b : Bnd) (v : F64) : Option F64 := do
  let lo ← match b.lo with | some l => fSub l v | none => some 0
  let hi ← match b.hi with | some u => fSub v u | none => some 0
  some (fMax 0 (fMax lo hi))

/-- Slack times multiplier of every side that is present, in order: rows, then variables (R208). -/
def sideProducts (bs : List Bnd) (ps : List SidePair) : Option (List F64) := do
  let l ← (bs.zip ps).mapM fun e =>
    if e.1.equal.isSome then some [] else do
      let lo ← match e.1.lo with | some _ => (fMul e.2.lo e.2.zLo).map fun x => [x] | none => some []
      let hi ← match e.1.hi with | some _ => (fMul e.2.hi e.2.zHi).map fun x => [x] | none => some []
      some (lo ++ hi)
  some l.flatten

/-- Average complementarity gap: the mean of slack times multiplier over the sides present, 0 without any (R208). -/
def Problem.avgGap (p : Problem) (v : Vectors) : Option F64 := do
  let l := (← sideProducts p.rows v.rows) ++ (← sideProducts p.vars v.bounds)
  if l.isEmpty then some 0 else fDiv (← sumF l) (fOf (l.length : Nat))

/-- The four measures of R208: primal residual, inequality violation over 1 + the largest bound magnitude (R210), dual residual, gap. -/
structure Measures where
  prim : F64 := 0
  ineq : F64 := 0
  dual : F64 := 0
  gap : F64 := 0
deriving DecidableEq, Repr, Inhabited

/-- x over 1 + y. -/
def relTo (x y : F64) : Option F64 := do fDiv x (← fAdd fOne y)

/-- The measures of an iterate on a problem's data (R208, R210). -/
def Problem.measures (p : Problem) (v : Vectors) : Option Measures := do
  let prim ← relTo (normF (← zipF fSub (← p.ax v.x) p.b)) (normF p.b)
  let out := (← (p.rows.zip (← p.cx v.x)).mapM fun e => e.1.outside e.2) ++ (← (p.vars.zip v.x).mapM fun e => e.1.outside e.2)
  let top := normF ((p.rows ++ p.vars).flatMap fun b => b.lo.toList ++ b.hi.toList)
  let ineq ← relTo (normF out) top
  let dual ← relTo (normF (← p.dualRes v)) (normF p.q)
  let gap ← relTo (← p.avgGap v) (fAbs (← p.objective v.x))
  some { prim := prim, ineq := ineq, dual := dual, gap := gap }

/-- The largest measure (R197, R210). -/
def Measures.top (m : Measures) : F64 := fMax (fMax m.prim m.ineq) (fMax m.dual m.gap)

/-- The feasibility measures are at most a tolerance. -/
def Measures.primal (m : Measures) (tol : Rat) : Bool := decide (fVal m.prim ≤ tol) && decide (fVal m.ineq ≤ tol)

end Sys2Proof.Machine
end

