-- ==== Sys2Proof/Machine/Ipm.lean ====
section
/-!
DEFINITION. The interior-point method of the Percolator (R202 to R209): equilibration, the Newton system, its LDLᵀ factorisation with
regularised pivots, refinement, Mehrotra's predictor and corrector, and the tests of an iteration. Every operation is one of R176's. What R203 to R209 name
without fixing it stands in assumption log 19, the order of operations in log 36.
-/
set_option autoImplicit false
namespace Sys2Proof.Machine

/-! ### Equilibration (R203) -/

/-- A scale factor: a positive finite number, else 1. -/
def scaleOr1 (a : F64) : F64 := if fFinite a && fLt 0 a then a else fOne

/-- Scale factors of equality rows, inequality rows and variables. -/
structure Scales where
  eq : List F64 := []
  row : List F64 := []
  var : List F64 := []
deriving DecidableEq, Repr, Inhabited

/-- The scale factors of a structure's problem with this data vector. -/
def scalesOf (t : StructCfg) (d : List F64) : Scales :=
  { eq := (List.range t.mE).map fun i => scaleOr1 (Config.scaleEq t d i)
    row := (List.range t.mI).map fun i => scaleOr1 (Config.scaleRow t d i)
    var := (List.range t.n).map fun i => scaleOr1 (Config.scaleVar t d i) }

/-- Factor i of a list, 1 beyond its end. -/
def factor (l : List F64) (i : Nat) : F64 := l.getD i fOne

/-- Values of a sparse matrix scaled by row and by column. -/
def scaleEntries (es : List (Nat × Nat)) (vals rows cols : List F64) : Option (List F64) :=
  (es.zip vals).mapM fun e => do fMul (← fMul (factor rows e.1.1) e.2) (factor cols e.1.2)

/-- A bound pair changed side by side. -/
def Bnd.mapM (f : F64 → Option F64) (b : Bnd) : Option Bnd := do
  let lo ← match b.lo with | some l => (f l).map some | none => some none
  let hi ← match b.hi with | some h => (f h).map some | none => some none
  some { lo := lo, hi := hi }

/-- A problem in scaled rows and columns. -/
def Problem.scale (p : Problem) (k : Scales) : Option Problem := do
  some { p with
    h := ← scaleEntries p.eh p.h k.var k.var, q := ← zipF fMul k.var p.q, a := ← scaleEntries p.ea p.a k.eq k.var
    b := ← zipF fMul k.eq p.b, c := ← scaleEntries p.ec p.c k.row k.var
    rows := ← (p.rows.zip k.row).mapM fun e => e.1.mapM (fMul e.2)
    vars := ← (p.vars.zip k.var).mapM fun e => e.1.mapM fun x => fDiv x e.2 }

/-- Slacks and multipliers of a pair changed by two functions. -/
def SidePair.mapM (f g : F64 → Option F64) (p : SidePair) : Option SidePair := do
  some { lo := ← f p.lo, zLo := ← g p.zLo, hi := ← f p.hi, zHi := ← g p.zHi, zEq := ← g p.zEq }

/-- Vectors of unscaled data taken to scaled data. -/
def Vectors.scale (v : Vectors) (k : Scales) : Option Vectors := do
  some { x := ← zipF fDiv v.x k.var, y := ← zipF fDiv v.y k.eq
         rows := ← (v.rows.zip k.row).mapM fun e => e.1.mapM (fMul e.2) fun z => fDiv z e.2
         bounds := ← (v.bounds.zip k.var).mapM fun e => e.1.mapM (fun s => fDiv s e.2) (fMul e.2) }

/-- Vectors of scaled data taken back to unscaled data (R203). -/
def Vectors.unscale (v : Vectors) (k : Scales) : Option Vectors := do
  some { x := ← zipF fMul v.x k.var, y := ← zipF fMul v.y k.eq
         rows := ← (v.rows.zip k.row).mapM fun e => e.1.mapM (fun s => fDiv s e.2) (fMul e.2)
         bounds := ← (v.bounds.zip k.var).mapM fun e => e.1.mapM (fMul e.2) fun z => fDiv z e.2 }

/-! ### Starts (R202) -/

/-- Cold start of a bound pair at a value: slack max(1, |residual|) and multiplier 1 on each side present, 0 for an equality (R202). -/
def Bnd.cold (b : Bnd) (v : F64) : Option SidePair :=
  if b.equal.isSome then some {} else do
    let side := fun (o : Option F64) => match o with
      | some x => (fSub v x).map fun r => (fMax fOne (fAbs r), fOne)
      | none => some ((0, 0) : F64 × F64)
    let lo ← side b.lo
    let hi ← side b.hi
    some { lo := lo.1, zLo := lo.2, hi := hi.1, zHi := hi.2 }

/-- Cold value of a variable: the midpoint of its bounds, the bound present, or 0 (R202). -/
def Bnd.coldX (b : Bnd) : Option F64 :=
  match b.lo, b.hi with
  | some l, some h => do fDiv (← fAdd l h) fTwo
  | some l, none => some l
  | none, some h => some h
  | none, none => some 0

/-- Cold start vectors (R202); none when an operation overflows. -/
def coldVectors (t : StructCfg) (d : List F64) : Option Vectors := do
  let p := problemOf t d
  let x ← p.vars.mapM Bnd.coldX
  some { x := x, y := List.replicate t.mE 0
         rows := ← (p.rows.zip (← p.cx x)).mapM fun e => e.1.cold e.2
         bounds := ← (p.vars.zip x).mapM fun e => e.1.cold e.2 }

/-- 10⁻⁴, the floor of slacks and multipliers after a warm or mapped start (R202). -/
def startFloor : F64 := fOf (1 / 10000)

/-- A pair of a start made to fit its bounds: an equality takes the multiplier of both sides, a side's slack and multiplier are raised to the
floor (R202), and a side that is absent has none. -/
def Bnd.fit (b : Bnd) (p : SidePair) : Option SidePair :=
  if b.equal.isSome then do
    let d ← fSub p.zHi p.zLo
    some { zEq := ← fAdd p.zEq d }
  else
    let up := fMax p.zHi p.zEq
    let dn := fMax p.zLo (fNeg p.zEq)
    let raise := fun (o : Option F64) (x : F64) => if o.isSome then fMax startFloor x else 0
    some { lo := raise b.lo p.lo, zLo := raise b.lo dn, hi := raise b.hi p.hi, zHi := raise b.hi up }

/-- The start vectors made to fit a problem's bounds (R202). -/
def Problem.fit (p : Problem) (v : Vectors) : Option Vectors := do
  some { v with rows := ← (p.rows.zip v.rows).mapM fun e => e.1.fit e.2, bounds := ← (p.vars.zip v.bounds).mapM fun e => e.1.fit e.2 }

/-! ### Rows and order of the Newton system (R203, R205, R213) -/

/-- A side of the pair is present. -/
def Bnd.any (b : Bnd) : Bool := b.lo.isSome || b.hi.isSome

/-- Rows of the system: the variables, the equality rows, and the inequality rows and bound pairs of which a side is present (R178, R203). -/
def Problem.kRows (p : Problem) : List KRow :=
  ((List.range p.n).map .var) ++ ((List.range p.b.length).map .eq) ++
    ((indices p.rows.length fun i => (p.rows.getD i {}).any).map .row) ++
    ((indices p.vars.length fun j => (p.vars.getD j {}).any).map .bnd)

/-- A row put in front of the first of a higher rank. -/
def insertRow (key : KRow → Nat) (r : KRow) : List KRow → List KRow
  | [] => [r]
  | x :: l => if key r < key x then r :: x :: l else x :: insertRow key r l

/-- Rows in the structure's elimination order (R205). -/
def inOrder (t : StructCfg) (l : List KRow) : List KRow := l.foldl (fun acc r => insertRow (Config.orderKey t) r acc) []

/-- Service-path block of a variable (R213, R558). -/
def StructCfg.blockOf (t : StructCfg) (j : Nat) : Nat := ((List.range 7).filter fun k => decide (t.blockBounds.getD (k + 1) 0 ≤ j)).length

/-- Columns of a row of the system among the variables. -/
def Problem.colsOf (p : Problem) : KRow → List Nat
  | .var j => [j]
  | .eq i => (p.ea.filter fun e => e.1 == i).map (·.2)
  | .row i => (p.ec.filter fun e => e.1 == i).map (·.2)
  | .bnd j => [j]

/-- A variable is a boundary state: an equality row couples it to an earlier block (R212). -/
def Problem.onBoundary (p : Problem) (t : StructCfg) (j : Nat) : Bool :=
  p.ea.any fun e => e.2 == j && p.ea.any fun f => f.1 == e.1 && decide (t.blockOf f.2 < t.blockOf j)

/-- Stage block that eliminates a row; none for a row of the reduced system on the boundary states (R212). -/
def Problem.blockOfRow (p : Problem) (t : StructCfg) (r : KRow) : Option Nat :=
  match (p.colsOf r).filter fun j => !p.onBoundary t j with
  | [] => none
  | j :: l => some (l.foldl (fun m k => Nat.min m (t.blockOf k)) (t.blockOf j))

/-- How a path divides the system: the rows each block eliminates and those of the reduced system (R211, R212). A problem on one engine is one
block. -/
def Problem.division (p : Problem) (t : StructCfg) (staged : Bool) : List (List KRow) × List KRow :=
  let all := inOrder t p.kRows
  if staged then ((List.range 8).map fun b => all.filter fun r => p.blockOfRow t r == some b, all.filter fun r => (p.blockOfRow t r).isNone)
  else ([all], [])

/-! ### Residuals and sides -/

/-- Residuals of a pair at a value: of its lower and of its upper side, or of the equality as the first (R178). -/
def Bnd.resid (b : Bnd) (p : SidePair) (v : F64) : Option (F64 × F64) :=
  match b.equal with
  | some x => (fSub v x).map fun r => (r, 0)
  | none => do
    let lo ← match b.lo with | some l => do fSub (← fSub v p.lo) l | none => some 0
    let hi ← match b.hi with | some h => do fSub (← fAdd v p.hi) h | none => some 0
    some (lo, hi)

/-- Ratio of multiplier to slack of a pair, summed over its sides: its inverse stands on the diagonal (R203). -/
def Bnd.ratio (b : Bnd) (p : SidePair) : Option F64 :=
  if b.equal.isSome then some 0 else do
    let lo ← if b.lo.isSome then fDiv p.zLo p.lo else some 0
    let hi ← if b.hi.isSome then fDiv p.zHi p.hi else some 0
    fAdd lo hi

/-- Right-hand term of a pair for complementarity targets c of its sides: (z_u r_u − c_u)/s_u + (c_l + z_l r_l)/s_l. -/
def Bnd.term (b : Bnd) (p : SidePair) (r c : F64 × F64) : Option F64 :=
  if b.equal.isSome then some 0 else do
    let lo ← if b.lo.isSome then do fDiv (← fFma p.zLo r.1 c.1) p.lo else some 0
    let hi ← if b.hi.isSome then do fDiv (← fFma p.zHi r.2 (fNeg c.2)) p.hi else some 0
    fAdd lo hi

/-- Direction of a pair from that of its value and, for an equality, of its multiplier. -/
def Bnd.dir (b : Bnd) (p : SidePair) (r c : F64 × F64) (dv dz : F64) : Option SidePair :=
  if b.equal.isSome then some { zEq := dz } else do
    let lo ← if b.lo.isSome then do
        let ds ← fAdd dv r.1
        some (ds, fNeg (← fDiv (← fFma p.zLo ds c.1) p.lo))
      else some ((0, 0) : F64 × F64)
    let hi ← if b.hi.isSome then do
        let ds := fNeg (← fAdd dv r.2)
        some (ds, fNeg (← fDiv (← fFma p.zHi ds c.2) p.hi))
      else some ((0, 0) : F64 × F64)
    some { lo := lo.1, zLo := lo.2, hi := hi.1, zHi := hi.2 }

/-- Complementarity targets: slack times multiplier, for the corrector with the predictor's second-order term and less σμ (R203). -/
def Bnd.targets (b : Bnd) (p : SidePair) (aff : Option (SidePair × F64)) : Option (F64 × F64) :=
  if b.equal.isSome then some (0, 0) else do
    let side := fun (o : Option F64) (s z ds dz : F64) (mu : Option F64) => match o, mu with
      | none, _ => some (0 : F64)
      | some _, none => fMul s z
      | some _, some m => do fSub (← fFma ds dz (← fMul s z)) m
    match aff with
    | none => do some (← side b.lo p.lo p.zLo 0 0 none, ← side b.hi p.hi p.zHi 0 0 none)
    | some (d, m) => do some (← side b.lo p.lo p.zLo d.lo d.zLo (some m), ← side b.hi p.hi p.zHi d.hi d.zHi (some m))

/-- An iterate with its residuals and ratios: what the Newton system of an iteration is made of. -/
structure Linear where
  dual : List F64 := []
  prim : List F64 := []
  rowRes : List (F64 × F64) := []
  varRes : List (F64 × F64) := []
  rowRatio : List F64 := []
  varRatio : List F64 := []
deriving DecidableEq, Repr, Inhabited

/-- Value of a sparse matrix at a place, 0 where it has no entry. -/
def entryAt (es : List (Nat × Nat)) (vals : List F64) (i j : Nat) : F64 :=
  match (es.zip vals).find? fun e => e.1 == (i, j) with | some e => e.2 | none => 0

/-- Residuals and ratios of an iterate. -/
def Problem.linear (p : Problem) (v : Vectors) : Option Linear := do
  let cx ← p.cx v.x
  some { dual := ← p.dualRes v
         prim := ← zipF fSub (← p.ax v.x) p.b
         rowRes := ← (p.rows.zip (v.rows.zip cx)).mapM fun e => e.1.resid e.2.1 e.2.2
         varRes := ← (p.vars.zip (v.bounds.zip v.x)).mapM fun e => e.1.resid e.2.1 e.2.2
         rowRatio := ← (p.rows.zip v.rows).mapM fun e => e.1.ratio e.2
         varRatio := ← (p.vars.zip v.bounds).mapM fun e => e.1.ratio e.2 }

/-- Diagonal entry of an inequality row or a bound pair: its slack-multiplier ratio, negated; 0 for an equality (R203). -/
def Bnd.diag (b : Bnd) (ratio : F64) : Option F64 := if b.equal.isSome then some 0 else (fDiv fOne ratio).map fNeg

/-- An entry of the quasi-definite system (R203): H, A, C, a unit entry for a variable's bound pair, and the slack-multiplier ratios on the
diagonal. -/
def Problem.kEntry (p : Problem) (l : Linear) : KRow → KRow → Option F64
  | .var i, .var j => some (entryAt p.eh p.h (Nat.min i j) (Nat.max i j))
  | .eq i, .var j | .var j, .eq i => some (entryAt p.ea p.a i j)
  | .row i, .var j | .var j, .row i => some (entryAt p.ec p.c i j)
  | .bnd i, .var j | .var j, .bnd i => some (if i = j then fOne else 0)
  | .row i, .row j => if i = j then (p.rows.getD i {}).diag (l.rowRatio.getD i 0) else some 0
  | .bnd i, .bnd j => if i = j then (p.vars.getD i {}).diag (l.varRatio.getD i 0) else some 0
  | _, _ => some 0

/-- A block of the system. -/
def Problem.kBlock (p : Problem) (l : Linear) (rows cols : List KRow) : Option (List (List F64)) :=
  rows.mapM fun r => cols.mapM fun c => p.kEntry l r c

/-- Right-hand side of the row of a pair: its residual for an equality, else its term over its ratio, negated. -/
def Bnd.rhs (b : Bnd) (p : SidePair) (r c : F64 × F64) (ratio : F64) : Option F64 :=
  if b.equal.isSome then some (fNeg r.1) else do
    let g ← b.term p r c
    (fDiv g ratio).map fNeg

/-- Right-hand side of a row of the system for complementarity targets of the rows and the bounds. -/
def Problem.rhsAt (p : Problem) (v : Vectors) (l : Linear) (cr cv : List (F64 × F64)) : KRow → Option F64
  | .var j => some (fNeg (l.dual.getD j 0))
  | .eq i => some (fNeg (l.prim.getD i 0))
  | .row i => (p.rows.getD i {}).rhs (v.rows.getD i {}) (l.rowRes.getD i (0, 0)) (cr.getD i (0, 0)) (l.rowRatio.getD i 0)
  | .bnd j => (p.vars.getD j {}).rhs (v.bounds.getD j {}) (l.varRes.getD j (0, 0)) (cv.getD j (0, 0)) (l.varRatio.getD j 0)

/-! ### Factorisation (R203, R205) -/

/-- Row scale: the largest magnitude in the row of the assembled system, 1 for a row without a nonzero (R205). -/
def rowScale (r : List F64) : F64 := let m := normF r; if fLt 0 m then m else fOne

/-- Sign that the quasi-definite system requires at a row (R205). -/
def KRow.multiplier : KRow → Bool
  | .var _ => false | _ => true

/-- 10⁻¹⁰ and 10⁻⁸ of R205. -/
def pivotTest : F64 := fOf (1 / 10000000000)
def pivotSet : F64 := fOf (1 / 100000000)

/-- The pivot taken for d, and whether it was regularised (R205). -/
def takePivot (scale : F64) (multiplier : Bool) (d : F64) : Option (F64 × Bool) := do
  let least ← fMul pivotTest scale
  if fLt (fAbs d) least || decide (fVal d = 0) then do
    let r ← fMul pivotSet scale
    some (if multiplier then fNeg r else r, true)
  else some (d, false)

/-- Factors of an elimination: pivot and column of L below it, row by row. -/
abbrev Factors := List (F64 × List F64)

/-- The result of operations, or what is known of the solve when one of them overflows (R207). -/
def orFail {ε α : Type} (e : ε) : Option α → Except ε α
  | none => .error e
  | some a => .ok a

/-- A count added to one of pivots regularised before an overflow. -/
def failAfter {α : Type} (n : Nat) : Except Nat α → Except Nat α
  | .error e => .error (n + e)
  | .ok a => .ok a

/-- LDLᵀ of the leading rows of a symmetric matrix, one per pivot described, in their order and without permutation: the factors, the pivots
regularised, and the matrix that is left (R205). An overflow tells the pivots regularised before it. -/
def ldl : List (F64 × Bool) → List (List F64) → Except Nat (Factors × Nat × List (List F64))
  | [], m => .ok ([], 0, m)
  | p :: ps, m => do
    let d ← orFail 0 (takePivot p.1 p.2 ((m.headD []).headD 0))
    let rest := m.tail
    let heads := rest.map fun r => r.headD 0
    let col ← orFail (b2n d.2) (heads.mapM fun a => fDiv a d.1)
    let next ← orFail (b2n d.2) ((rest.zip col).mapM fun e => zipF (fFnma e.2) heads e.1.tail)
    let r ← failAfter (b2n d.2) (ldl ps next)
    .ok ((d.1, col) :: r.1, b2n d.2 + r.2.1, r.2.2)

/-- Forward substitution over factored rows: their intermediate values and the right-hand side that is left. -/
def forward : Factors → List F64 → Option (List F64 × List F64)
  | [], b => some ([], b)
  | f :: fs, b => do
    let r ← forward fs (← zipF (fun l x => fFnma l (b.headD 0) x) f.2 b.tail)
    some (b.headD 0 :: r.1, r.2)

/-- Division by the diagonal and backward substitution, onto the solution of the rows behind. -/
def backward : Factors → List F64 → List F64 → Option (List F64)
  | [], _, tail => some tail
  | f :: fs, y, tail => do
    let xs ← backward fs y.tail tail
    let z ← fDiv (y.headD 0) f.1
    let x ← (f.2.zip xs).foldlM (fun s e => fFnma e.1 e.2 s) z
    some (x :: xs)

/-- A factored system: each block's factors over its own rows and those of the reduced system, and the factors of the reduced system (R212). -/
structure Factored where
  blocks : List (Nat × Factors) := []
  reduced : Factors := []
  reg : Nat := 0
deriving DecidableEq, Repr, Inhabited

/-- A matrix plus another, entry by entry. -/
def addMat (a b : List (List F64)) : Option (List (List F64)) := (a.zip b).mapM fun e => zipF fAdd e.1 e.2

/-- What a stage-block sub-job does with its rows (R212): it factorises them and eliminates them to a contribution to the reduced system on the
boundary states. -/
def Problem.elimBlock (p : Problem) (l : Linear) (scale : KRow → F64) (own edge : List KRow) :
    Except Nat (Factors × Nat × List (List F64)) := do
  let top ← orFail 0 (p.kBlock l own (own ++ edge))
  let side ← orFail 0 (p.kBlock l edge own)
  ldl (own.map fun r => (scale r, r.multiplier)) (top ++ side.map fun r => r ++ List.replicate edge.length 0)

/-- Every block eliminated, in block order: their factors and contributions, and the pivots regularised in them. -/
def Problem.elimBlocks (p : Problem) (l : Linear) (scale : KRow → F64) (edge : List KRow) :
    List (List KRow) → Except Nat (List (Factors × Nat × List (List F64)) × Nat)
  | [] => .ok ([], 0)
  | own :: rest => do
    let b ← p.elimBlock l scale own edge
    let r ← failAfter b.2.1 (p.elimBlocks l scale edge rest)
    .ok (b :: r.1, b.2.1 + r.2)

/-- The factorisation of an iteration: every block, then the reduced system of the boundary states in block order (R203, R212, R213). An
overflow tells the pivots regularised before it. -/
def Problem.factorise (p : Problem) (l : Linear) (d : List (List KRow) × List KRow) : Except Nat Factored := do
  let order := d.1.flatten ++ d.2
  let scales ← orFail 0 (order.mapM fun r => (order.mapM (p.kEntry l r)).map rowScale)
  let scale := fun r => scales.getD (order.idxOf r) fOne
  let parts ← p.elimBlocks l scale d.2 d.1
  let edge ← orFail parts.2 ((p.kBlock l d.2 d.2).bind fun m => parts.1.foldlM (fun m e => addMat m e.2.2) m)
  let red ← failAfter parts.2 (ldl (d.2.map fun r => (scale r, r.multiplier)) edge)
  .ok { blocks := (d.1.zip parts.1).map fun e => (e.1.length, e.2.1), reduced := red.1, reg := parts.2 + red.2.1 }

/-- Parts of a list of given lengths, and what is left. -/
def splitLens : List Nat → List F64 → List (List F64) × List F64
  | [], l => ([], l)
  | n :: ns, l => let r := splitLens ns (l.drop n); (l.take n :: r.1, r.2)

/-- A solution of the factored system (R203): forward through every block, the reduced system, and back through every block (R212). -/
def Factored.solve (f : Factored) (b : List F64) : Option (List F64) := do
  let parts := splitLens (f.blocks.map (·.1)) b
  let fwd ← (f.blocks.zip parts.1).mapM fun e => forward e.1.2 (e.2 ++ List.replicate parts.2.length 0)
  let edge ← fwd.foldlM (fun s e => zipF fAdd s e.2) parts.2
  let r ← forward f.reduced edge
  let xe ← backward f.reduced r.1 []
  let own ← (f.blocks.zip fwd).mapM fun e => (backward e.1.2 e.2.1 xe).map fun x => x.take e.1.1
  some (own.flatten ++ xe)

/-! ### Refinement (R206) -/

/-- Residual of a solution against the unregularised system. -/
def residOf (m : List (List F64)) (b x : List F64) : Option (List F64) :=
  (b.zip m).mapM fun e => (e.2.zip x).foldlM (fun s p => fFnma p.1 p.2 s) e.1

/-- The residual is small enough to stop: at most 10⁻¹² of 1 + the largest magnitude of the right-hand side (R206). -/
def refined (b r : List F64) : Option Bool := do
  let lim ← fMul (fOf (1 / 1000000000000)) (← fAdd fOne (normF b))
  some (decide (fVal (normF r) ≤ fVal lim))

/-- Iterative refinement of a solution: one step, and a second one unless the first has brought the residual down (R206). An overflow tells
whether a step had run. -/
def refine (m : List (List F64)) (solve : List F64 → Option (List F64)) (b x : List F64) : Except Bool (List F64) := do
  let step := fun x => do zipF fAdd x (← solve (← residOf m b x))
  let x ← orFail false (step x)
  if ← orFail true ((residOf m b x).bind (refined b)) then .ok x else orFail true (step x)

/-! ### Directions and steps (R203) -/

/-- A direction of all vectors. -/
abbrev Direction := Vectors

/-- The direction that a solution of the system gives, its rows in a known order. -/
def Problem.direction (p : Problem) (v : Vectors) (l : Linear) (cr cv : List (F64 × F64)) (order : List KRow) (sol : List F64) :
    Option Direction := do
  let at_ := fun r => match order.idxOf? r with | some i => sol.getD i 0 | none => 0
  let dx := (List.range p.n).map fun j => at_ (.var j)
  let dv ← p.cx dx
  let rows ← (List.range p.rows.length).mapM fun i =>
    (p.rows.getD i {}).dir (v.rows.getD i {}) (l.rowRes.getD i (0, 0)) (cr.getD i (0, 0)) (dv.getD i 0) (at_ (.row i))
  let bounds ← (List.range p.vars.length).mapM fun j =>
    (p.vars.getD j {}).dir (v.bounds.getD j {}) (l.varRes.getD j (0, 0)) (cv.getD j (0, 0)) (dx.getD j 0) (at_ (.bnd j))
  some { x := dx, y := (List.range p.b.length).map fun i => at_ (.eq i), rows := rows, bounds := bounds }

/-- Slacks and multipliers of an iterate with their directions, side by side. -/
def sidesOf (v d : Vectors) : List (F64 × F64) :=
  ((v.rows ++ v.bounds).zip (d.rows ++ d.bounds)).flatMap fun e =>
    [(e.1.lo, e.2.lo), (e.1.zLo, e.2.zLo), (e.1.hi, e.2.hi), (e.1.zHi, e.2.zHi)]

/-- Step to the boundary along a direction, limited by a fraction of it and by 1 (R203). -/
def stepLen (fraction : F64) (v d : Vectors) : Option F64 :=
  (sidesOf v d).foldlM (fun a e => if fLt e.2 0 then do
      let r ← fDiv e.1 (fNeg e.2)
      some (fMin a (← fMul fraction r))
    else some a) fOne

/-- An iterate moved along a direction. -/
def Vectors.move (v d : Vectors) (a : F64) : Option Vectors := do
  let pair := fun (e : SidePair × SidePair) => do
    some ({ lo := ← fFma a e.2.lo e.1.lo, zLo := ← fFma a e.2.zLo e.1.zLo, hi := ← fFma a e.2.hi e.1.hi, zHi := ← fFma a e.2.zHi e.1.zHi
            zEq := ← fFma a e.2.zEq e.1.zEq } : SidePair)
  some { x := ← zipF (fun x dx => fFma a dx x) v.x d.x, y := ← zipF (fun y dy => fFma a dy y) v.y d.y
         rows := ← (v.rows.zip d.rows).mapM pair, bounds := ← (v.bounds.zip d.bounds).mapM pair }

/-- 0.995 of R203. -/
def toBoundary : F64 := fOf (199 / 200)

/-- Mehrotra's centring: σμ with σ the cube of the predictor's gap over the gap (R203; assumption log 19). -/
def Problem.centring (p : Problem) (v aff : Vectors) : Option F64 := do
  let mu ← p.avgGap v
  if fVal mu = 0 then some 0 else do
    let a ← stepLen fOne v aff
    let r ← fDiv (← p.avgGap (← v.move aff a)) mu
    fMul (← fMul (← fMul r r) r) mu

/-- Complementarity targets of rows and bounds, for the predictor or with the predictor's direction and σμ for the corrector. -/
def Problem.targets (p : Problem) (v : Vectors) (aff : Option (Direction × F64)) : Option (List (F64 × F64) × List (F64 × F64)) := do
  let one := fun (bs : List Bnd) (ps ds : List SidePair) => (List.range bs.length).mapM fun i =>
    (bs.getD i {}).targets (ps.getD i {}) (aff.map fun a => (ds.getD i {}, a.2))
  some (← one p.rows v.rows (match aff with | some a => a.1.rows | none => []), ← one p.vars v.bounds (match aff with | some a => a.1.bounds | none => []))

/-! ### One iteration (R203 to R209) -/

/-- A solution of the system for complementarity targets, refined when a pivot was regularised (R206). An overflow tells whether a step of the
refinement had run. -/
def Problem.solveFor (p : Problem) (v : Vectors) (l : Linear) (order : List KRow) (m : List (List F64)) (f : Factored)
    (c : List (F64 × F64) × List (F64 × F64)) : Except Bool Direction := do
  let b ← orFail false (order.mapM (p.rhsAt v l c.1 c.2))
  let x ← orFail false (f.solve b)
  let x ← if 0 < f.reg then refine m f.solve b x else .ok x
  orFail (decide (0 < f.reg)) (p.direction v l c.1 c.2 order x)

/-- The step of an iteration from its factored system: predictor, corrector, and the move that the fraction-to-boundary rule limits (R203). An
overflow tells whether a refinement step had run (R206). -/
def Problem.advance (p : Problem) (v : Vectors) (l : Linear) (d : List (List KRow) × List KRow) (f : Factored) : Except Bool Vectors := do
  let order := d.1.flatten ++ d.2
  let m ← orFail false (p.kBlock l order order)
  let aff ← p.solveFor v l order m f (← orFail false (p.targets v none))
  let ran := decide (0 < f.reg)
  let c ← orFail ran ((p.centring v aff).bind fun mu => p.targets v (some (aff, mu)))
  match p.solveFor v l order m f c with
  | .error _ => .error ran
  | .ok cor => orFail ran ((stepLen toBoundary v cor).bind (v.move cor))

/-- Multipliers (y, z, w) certify primal infeasibility: residual at most 10⁻⁸ of their magnitude, bound term negative (R209). -/
def Problem.certifies (p : Problem) (v : Vectors) : Option Bool := do
  let z ← multsOf p.rows v.rows
  let w ← multsOf p.vars v.bounds
  let mag := normF (v.y ++ z ++ w)
  let lim ← fMul pivotSet mag
  let res := normF (← p.adjoint v.y z w)
  let side := fun (s : F64) (e : Bnd × SidePair) => match e.1.equal with
    | some x => fFma x e.2.zEq s
    | none => do
      let s ← match e.1.lo with | some x => fFnma x e.2.zLo s | none => some s
      match e.1.hi with | some x => fFma x e.2.zHi s | none => some s
  let t ← (p.rows.zip v.rows ++ p.vars.zip v.bounds).foldlM side (← dotOnto 0 p.b v.y)
  some (fLt 0 mag && decide (fVal res ≤ fVal lim) && fLt t 0)

/-- How the measures leave a solve: converged, with a certificate, or going on (R208, R209). -/
def Problem.verdict (p : Problem) (t : StructCfg) (v : Vectors) : Option IpmPhase := do
  let m ← p.measures v
  if m.primal t.epsFeas && decide (fVal m.dual ≤ t.epsFeas) && decide (fVal m.gap ≤ t.epsGap) then some .converged
  else if ← p.certifies v then some .certificate else some .running

/-- One iteration: the system is assembled and factorised once and solved twice, and the step is taken and measured (R203). An operation that
overflows stops the solve in it (R207). -/
def Problem.iterate (p : Problem) (t : StructCfg) (staged : Bool) (s : Iterate) : Iterate :=
  let bad := { s with iter := s.iter + 1, phase := .failed }
  match p.linear s.v with
  | none => bad
  | some l =>
    let d := p.division t staged
    match p.factorise l d with
    | .error n => { bad with pivots := s.pivots + n }
    | .ok f =>
      let bad := { bad with pivots := s.pivots + f.reg }
      match p.advance s.v l d f with
      | .error ran => { bad with refined := s.refined || ran }
      | .ok v =>
        let out := { bad with refined := s.refined || decide (0 < f.reg) }
        match p.verdict t v with
        | none => out
        | some x => { out with v := v, phase := x }

/-- The iterate after k iterations, or where the solve has ended before (R203, R208, R209). -/
def Problem.after (p : Problem) (t : StructCfg) (staged : Bool) : Nat → Iterate → Iterate
  | 0, s => s
  | k + 1, s => if s.phase = .running ∧ s.iter < t.iterCap then p.after t staged k (p.iterate t staged s) else s

end Sys2Proof.Machine
end

