-- ==== Sys2Proof/Machine/Schedule.lean ====
section
/-!
DEFINITION. The two paths of a solve (R211 to R215): the sequencer that runs the entries of the schedule table, the iterations of the service
path, and what a solve gives after a number of iterations. Which block of the Newton system stands at an operand is
`Config.opPlace`; what the operands of an operation are, assumption log 36 says.
-/
set_option autoImplicit false
namespace Sys2Proof.Machine

/-! ### Entries (R214) -/

/-- Operation code, FLAGS, LEN and operands of an entry. -/
def SchedEntry.op (e : SchedEntry) : Nat := byteAt e.raw 0
def SchedEntry.signedNeg (e : SchedEntry) : Bool := decide (byteAt e.raw 1 % 2 = 1)
def SchedEntry.len (e : SchedEntry) : Nat := leAt e.raw 2 2
def SchedEntry.srcA (e : SchedEntry) : Nat := leAt e.raw 4 4
def SchedEntry.srcB (e : SchedEntry) : Nat := leAt e.raw 8 4
def SchedEntry.dst (e : SchedEntry) : Nat := leAt e.raw 12 4

/-- Byte offsets that an entry addresses: those of its blocks and vectors; JUMP, ITER_END, CHECK and END address nothing. -/
def SchedEntry.offsets (e : SchedEntry) : List Nat := if e.op < 0x0A then [e.srcA, e.srcB, e.dst] else []

/-- Sizes of the working set and of the spill region (R175). -/
def workBytes : Nat := 458752
def spillBytes : Nat := 8388608

/-- An operand lies in the working set, or with bit 31 in the spill region (R175, R214). -/
def offsetOk (o : Nat) : Bool := if o < 2 ^ 31 then decide (o < workBytes) else decide (o - 2 ^ 31 < spillBytes)

/-- The entries of a structure (R214, R558). -/
def StructCfg.entries (t : StructCfg) (table : List SchedEntry) : List SchedEntry :=
  if t.firstSched = 0xFFFFFFFF then [] else (table.drop t.firstSched).take t.schedCount

/-- A structure's schedule uses the spill region (R175, R220). -/
def StructCfg.spills (t : StructCfg) (table : List SchedEntry) : Bool :=
  (t.entries table).any fun e => e.offsets.any fun o => decide (2 ^ 31 ≤ o)

/-! ### Words and blocks of the working set and the spill region (R175, R214) -/

/-- A word by byte offset. -/
def heldWord (m : List (Nat × F64)) (a : Nat) : F64 := (lookupK m a).getD 0

/-- A word written: the list keeps its offsets rising and lists no word that holds 0. A word outside the two regions is not there. -/
def setWord (m : List (Nat × F64)) (a : Nat) (x : F64) : List (Nat × F64) :=
  let rest := m.filter fun e => e.1 != a
  if x = 0 ∨ !offsetOk (a + 7) then rest
  else (rest.takeWhile fun e => decide (e.1 < a)) ++ (a, x) :: rest.dropWhile fun e => decide (e.1 < a)

/-- Byte offset of a place of a block, which stands dense and by rows. -/
def Blk.addr (b : Blk) (i k : Nat) : Nat := b.off + 8 * (i * b.stride + k)

/-- The places of a block's words; a vector has one word for each row. -/
def Blk.places (b : Blk) : List (Nat × Nat) :=
  b.rows.flatMap fun i => if b.cols.isEmpty then [(i.2, 0)] else b.cols.map fun k => (i.2, k.2)

/-- What stands in a block copied to another place. -/
def copyBlk (src dst : Blk) (m : List (Nat × F64)) : List (Nat × F64) :=
  if src.off = dst.off then m else dst.places.foldl (fun r p => setWord r (dst.addr p.1 p.2) (heldWord m (src.addr p.1 p.2))) m

/-- The values of a vector by row number of a system of n rows, 0 at a row that it has not. -/
def readVec (m : List (Nat × F64)) (n : Nat) (b : Blk) : List F64 :=
  b.rows.foldl (fun v i => v.set i.1 (heldWord m (b.addr i.2 0))) (List.replicate n 0)

/-- The values of a vector written, by row number. -/
def writeVec (m : List (Nat × F64)) (b : Blk) (v : List F64) : List (Nat × F64) :=
  b.rows.foldl (fun m i => setWord m (b.addr i.2 0) (v.getD i.1 0)) m

/-- A word lowered by a product, rounded once. -/
def lower (m : List (Nat × F64)) (at_ : Nat) (a b : F64) : Option (List (Nat × F64)) := (fFnma a b (heldWord m at_)).map (setWord m at_)

/-- FACT: dense LDLᵀ of a diagonal block in its place, with the pivots of R205 and the sign that FLAGS gives. An overflow tells the pivots
regularised before it. -/
def factBlock (scale : Nat → F64) (neg : Bool) (b : Blk) : List (Nat × Nat) → List (Nat × F64) × Nat → Except Nat (List (Nat × F64) × Nat)
  | [], r => .ok r
  | i :: rest, (m, n) => do
    let d ← orFail n (takePivot (scale i.1) neg (heldWord m (b.addr i.2 i.2)))
    let n := n + b2n d.2
    let m := setWord m (b.addr i.2 i.2) d.1
    let heads := rest.map fun k => (k.2, heldWord m (b.addr k.2 i.2))
    let cols ← orFail n (heads.mapM fun h => (fDiv h.2 d.1).map fun l => (h.1, l))
    let m ← orFail n ((cols.flatMap fun c => heads.map fun h => (c, h)).foldlM (fun m e => lower m (b.addr e.1.1 e.2.1) e.1.2 e.2.2) m)
    factBlock scale neg b rest (cols.foldl (fun m c => setWord m (b.addr c.1 i.2) c.2) m, n)

/-- TRSM: an off-diagonal block solved in its place against a factored block, row by row: first by L, then by D. -/
def trsmBlock (f b : Blk) (m : List (Nat × F64)) : Option (List (Nat × F64)) :=
  b.rows.foldlM (fun m k => do
    let m ← f.rows.zipIdx.foldlM (fun m c =>
      (f.rows.take c.2).foldlM (fun m q => lower m (b.addr k.2 c.1.2) (heldWord m (b.addr k.2 q.2)) (heldWord m (f.addr c.1.2 q.2))) m) m
    f.rows.foldlM (fun m c => (fDiv (heldWord m (b.addr k.2 c.2)) (heldWord m (f.addr c.2 c.2))).map (setWord m (b.addr k.2 c.2))) m) m

/-- The entry of a block in a row and a column of the system, 0 where it has none. -/
def Blk.entry (b : Blk) (m : List (Nat × F64)) (i k : Nat) : F64 :=
  match b.rows.find? (fun e => e.1 == i), b.cols.find? (fun e => e.1 == k) with
  | some r, some c => heldWord m (b.addr r.2 c.2)
  | _, _ => 0

/-- The pivot of an eliminated row, from the factored blocks. -/
def pivotOf (facts : List Blk) (m : List (Nat × F64)) (p : Nat) : F64 :=
  match facts.find? fun f => f.rows.any fun e => e.1 == p with | some f => f.entry m p p | none => 0

/-- UPDATE: a later block lowered in its place by L D Lᵀ, the rows of L from one solved block and the columns of Lᵀ from another or the same. -/
def updateBlock (facts : List Blk) (b x y : Blk) (m : List (Nat × F64)) : Option (List (Nat × F64)) :=
  (b.rows.flatMap fun i => b.cols.flatMap fun j => x.cols.map fun p => (i, j, p.1)).foldlM (fun m e => do
    let w ← fMul (y.entry m e.2.1.1 e.2.2) (pivotOf facts m e.2.2)
    lower m (b.addr e.1.2 e.2.1.2) (x.entry m e.1.1 e.2.2) w) m

/-- The column of L below an eliminated row: the rows behind it in its factored block, then those of the solved blocks that have its column. -/
def columnBelow (offs : List Blk) (m : List (Nat × F64)) (f : Blk) (p : Nat × Nat) : List (Nat × F64) :=
  ((f.rows.dropWhile (· != p)).tail.map fun k => (k.1, heldWord m (f.addr k.2 p.2))) ++
    offs.flatMap fun b => match b.cols.find? fun c => c.1 == p.1 with
      | some c => b.rows.map fun k => (k.1, heldWord m (b.addr k.2 c.2))
      | none => []

/-- FWD over a factored block: its rows' values leave the later rows. -/
def fwdBlock (offs : List Blk) (m : List (Nat × F64)) (f : Blk) (v : List F64) : Option (List F64) :=
  f.rows.foldlM (fun v p => (columnBelow offs m f p).foldlM (fun v e => (fFnma e.2 (v.getD p.1 0) (v.getD e.1 0)).map (v.set e.1)) v) v

/-- DSCALE: division by the diagonal D. -/
def scaleBlock (m : List (Nat × F64)) (f : Blk) (v : List F64) : Option (List F64) :=
  f.rows.foldlM (fun v p => (fDiv (v.getD p.1 0) (heldWord m (f.addr p.2 p.2))).map (v.set p.1)) v

/-- BWD over a factored block: the later rows' values leave its rows, the last row first. -/
def bwdBlock (offs : List Blk) (m : List (Nat × F64)) (f : Blk) (v : List F64) : Option (List F64) :=
  f.rows.reverse.foldlM (fun v p => (columnBelow offs m f p).foldlM (fun v e => (fFnma e.2 (v.getD e.1 0) (v.getD p.1 0)).map (v.set p.1)) v) v

/-! ### The sequencer (R194, R214) -/

/-- What a solve works on: its structure, its scaled problem, the order of its rows and its entries. -/
structure Job where
  t : StructCfg
  p : Problem
  order : List KRow
  entries : List SchedEntry

/-- Right-hand side of the solution that comes next: the predictor's, then the corrector's (R203), with its complementarity targets. -/
def Job.rhs (j : Job) (r : SchedRun) : Option (Linear × (List (F64 × F64) × List (F64 × F64)) × List F64) := do
  let v := r.it.v
  let l ← j.p.linear v
  let base ← j.p.targets v none
  let c ← match r.sols with
    | [] => some base
    | a :: _ => do
      let aff ← j.p.direction v l base.1 base.2 j.order a
      j.p.targets v (some (aff, ← j.p.centring v aff))
  some (l, c, ← j.order.mapM (j.p.rhsAt v l c.1 c.2))

/-- The block or vector at an operand, of at most LEN rows and columns; rows that the problem does not have are left out. -/
def Job.blk (j : Job) (off len : Nat) : Blk :=
  let w := Config.opPlace j.t off
  let num := fun (l : List KRow) => (l.take len).zipIdx.filterMap fun e => (j.order.idxOf? e.1).map fun i => (i, e.2)
  { off := off, stride := max 1 w.2.length, rows := num w.1, cols := num w.2 }

/-- The unregularised system of the present iterate, row by row (R203, R206). -/
def Job.sys (j : Job) (r : SchedRun) : Option (List (List F64)) := do j.p.kBlock (← j.p.linear r.it.v) j.order j.order

/-- GATHER: a block of the Newton system is assembled from the data vector and the current iterate, or a part of its right-hand side. -/
def Job.gather (j : Job) (b : Blk) (r : SchedRun) : Option SchedRun := do
  if b.cols.isEmpty then
    let v ← j.rhs r
    some { r with words := writeVec r.words b v.2.2 }
  else
    let sys ← j.sys r
    let put := fun m (e : (Nat × Nat) × (Nat × Nat)) => setWord m (b.addr e.1.2 e.2.2) ((sys.getD e.1.1 []).getD e.2.1 0)
    some { r with words := (b.rows.flatMap fun i => b.cols.map fun k => (i, k)).foldl put r.words }

/-- The whole solution by the blocks factored so far. -/
def SchedRun.solve (r : SchedRun) (b : List F64) : Option (List F64) := do
  let y ← r.facts.foldlM (fun v f => fwdBlock r.offs r.words f v) b
  let z ← r.facts.foldlM (fun v f => scaleBlock r.words f v) y
  r.facts.reverse.foldlM (fun v f => bwdBlock r.offs r.words f v) z

/-- FACT of an entry: SRC_A's block is factored at DST. -/
def Job.fact (j : Job) (e : SchedEntry) (r : SchedRun) : Except Iterate SchedRun := do
  let b := j.blk e.dst e.len
  let sys ← orFail r.it (j.sys r)
  match factBlock (fun i => rowScale (sys.getD i [])) e.signedNeg b b.rows (copyBlk (j.blk e.srcA e.len) b r.words, 0) with
  | .error n => .error { r.it with pivots := r.it.pivots + n }
  | .ok f => .ok { r with
      words := f.1, facts := (r.facts.filter fun x => x.off != b.off) ++ [b], reg := r.reg + f.2, it := { r.it with pivots := r.it.pivots + f.2 } }

/-- TRSM of an entry: SRC_A's block is solved at DST against SRC_B's factored block. -/
def Job.trsm (j : Job) (e : SchedEntry) (r : SchedRun) : Option SchedRun := do
  let b := j.blk e.dst e.len
  let m ← trsmBlock (j.blk e.srcB e.len) b (copyBlk (j.blk e.srcA e.len) b r.words)
  some { r with words := m, offs := (r.offs.filter fun x => x.off != b.off) ++ [b] }

/-- UPDATE of an entry: the block at DST is lowered by the solved blocks of SRC_A and SRC_B. -/
def Job.update (j : Job) (e : SchedEntry) (r : SchedRun) : Option SchedRun := do
  some { r with words := ← updateBlock r.facts (j.blk e.dst e.len) (j.blk e.srcA e.len) (j.blk e.srcB e.len) r.words }

/-- FWD, DSCALE and BWD of an entry: SRC_B's vector is worked on over SRC_A's factored block and stands at DST then. -/
def Job.onVector (j : Job) (e : SchedEntry) (r : SchedRun) (f : Blk → List F64 → Option (List F64)) : Option SchedRun := do
  let v ← f (j.blk e.srcA e.len) (readVec r.words j.order.length (j.blk e.srcB e.len))
  some { r with words := writeVec r.words (j.blk e.dst e.len) v }

/-- REFINE: the solve just completed, the vector at SRC_A, is refined to DST when a pivot of this iteration was regularised (R206). -/
def Job.refineSol (j : Job) (e : SchedEntry) (r : SchedRun) : Except Iterate SchedRun := do
  let x := readVec r.words j.order.length (j.blk e.srcA e.len)
  if r.reg = 0 then .ok { r with sols := r.sols ++ [x] }
  else
    let b ← orFail r.it (j.rhs r)
    let m ← orFail r.it (j.sys r)
    match refine m r.solve b.2.2 x with
    | .error ran => .error { r.it with refined := r.it.refined || ran }
    | .ok y => .ok { r with words := writeVec r.words (j.blk e.dst e.len) y, sols := r.sols ++ [y], it := { r.it with refined := true } }

/-- STEP: step length, update of the iterate and the measures of R208, from the last solution, the vector at SRC_A. -/
def Job.step (j : Job) (e : SchedEntry) (r : SchedRun) : Option SchedRun := do
  let v := r.it.v
  let b ← j.rhs { r with sols := r.sols.dropLast }
  let d ← j.p.direction v b.1 b.2.1.1 b.2.1.2 j.order (readVec r.words j.order.length (j.blk e.srcA e.len))
  let v ← v.move d (← stepLen toBoundary v d)
  some { r with it := { r.it with v := v, iter := r.it.iter + 1, phase := ← j.p.verdict j.t v } }

/-- One entry of the table (R214); when an operation overflows, what the solve's pivots and refinements were by then (R207). -/
def Job.exec (j : Job) (e : SchedEntry) (r : SchedRun) : Except Iterate SchedRun :=
  let next := { r with pc := r.pc + 1, atEnd := false }
  match e.op with
  | 0x01 => orFail r.it (j.gather (j.blk e.dst e.len) next)
  | 0x02 => j.fact e next
  | 0x03 => orFail r.it (j.trsm e next)
  | 0x04 => orFail r.it (j.update e next)
  | 0x05 => orFail r.it (j.onVector e next (fwdBlock r.offs r.words))
  | 0x06 => orFail r.it (j.onVector e next (scaleBlock r.words))
  | 0x07 => orFail r.it (j.onVector e next (bwdBlock r.offs r.words))
  | 0x08 => j.refineSol e next
  | 0x09 => orFail r.it (j.step e next)
  | 0x0A => .ok { next with facts := [], offs := [], reg := 0, sols := [], atEnd := true }
  | 0x0B => .ok { next with pc := if r.it.phase = .running ∧ r.it.iter < j.t.iterCap then e.srcB - j.t.firstSched else r.pc + 1 }
  | _ => .ok { next with ended := true }

/-- The sequencer runs until the schedule ends, an operation overflows, or k iterations have reached their ITER_END. -/
def Job.run (j : Job) (k : Nat) : Nat → SchedRun → SchedRun
  | 0, r => r
  | fuel + 1, r =>
    if r.ended || r.it.phase = .failed || (r.atEnd && decide (k ≤ r.it.iter)) then r
    else match j.entries[r.pc]? with
      | none => { r with ended := true }
      | some e => match j.exec e r with
        | .ok n => j.run k fuel n
        | .error it => { r with it := { it with iter := it.iter + 1, phase := .failed } }

/-! ### A solve after a number of iterations (R203, R211, R215) -/

/-- The kind of a solve's run: on one engine as one block, on the service path of MPC by stage blocks, or by the schedule (R211). -/
inductive SolvePath where
  | plain | staged | schedule
deriving DecidableEq, Repr

/-- The run of a schedule-path solve after k iterations (R194, R214). -/
def schedAfter (t : StructCfg) (table : List SchedEntry) (p : Problem) (v : Vectors) (k : Nat) : SchedRun :=
  let j : Job := { t := t, p := p, order := inOrder t p.kRows, entries := t.entries table }
  j.run k ((t.iterCap + 2) * (t.schedCount + 1)) { it := { v := v } }

/-- The iterate of a solve after k iterations, on scaled data. A structure without a schedule runs as one block. -/
def iterateAfter (t : StructCfg) (table : List SchedEntry) (path : SolvePath) (p : Problem) (v : Vectors) (k : Nat) : Iterate :=
  match path with
  | .plain => p.after t false k { v := v }
  | .staged => p.after t true k { v := v }
  | .schedule => if (t.entries table).isEmpty then p.after t false k { v := v } else (schedAfter t table p v k).it

/-- A solve's scaled problem and its start vectors on scaled data (R202, R203); none when an operation overflows. -/
def scaledStart (t : StructCfg) (d : List F64) (start : Option Vectors) : Option (Problem × Vectors) := do
  let raw := problemOf t d
  let v ← raw.fit (← start)
  some (← raw.scale (scalesOf t d), ← v.scale (scalesOf t d))

/-- What the sequencer of an engine holds of a solve after k iterations (R194, R214); none without a schedule. -/
def schedRunAfter (t : StructCfg) (table : List SchedEntry) (d : List F64) (start : Option Vectors) (k : Nat) : Option SchedRun :=
  if (t.entries table).isEmpty then none else (scaledStart t d start).map fun p => schedAfter t table p.1 p.2 k

/-- The iterate that the working set of a solve off the schedule path holds after k iterations (R175, R212); none where forming it overflows. -/
def workAfter (t : StructCfg) (table : List SchedEntry) (path : SolvePath) (d : List F64) (start : Option Vectors) (k : Nat) : Option Iterate :=
  (scaledStart t d start).map fun p => iterateAfter t table path p.1 p.2 k

/-- What a solve gives when it has run k iterations (R203): a function of the structure, the path, the data vector and the start vectors alone
(R215). Data are scaled before and results unscaled after; an overflow in that stops the solve too (R207). -/
def solveAfter (t : StructCfg) (table : List SchedEntry) (path : SolvePath) (d : List F64) (start : Option Vectors) (k : Nat) : IpmOut :=
  match scaledStart t d start with
  | none => { phase := .failed }
  | some (p, v) =>
    let s := iterateAfter t table path p v k
    match (if s.phase = .failed then none else s.v.unscale (scalesOf t d)) with
    | some v => { vecs := some v, iter := s.iter, phase := s.phase, pivots := s.pivots, refined := s.refined }
    | none => { iter := s.iter, phase := .failed, pivots := s.pivots, refined := s.refined }

end Sys2Proof.Machine
end

