-- ==== Sys2Proof/Machine/Solver.lean ====
section
/-!
DEFINITION. The Percolator, block SLV (chapter 05_percolator_solver.md): slots, submission, dispatch, the check of a result and
its completion record. What its consumers do with a record is in Solve.lean.
-/
set_option autoImplicit false
namespace Sys2Proof.Machine

/-! ### Slots -/

/-- A slot by number. -/
def SlvState.slot (b : SlvState) (i : Nat) : Slot := b.slots.getD i {}

/-- A solver engine by number. -/
def SlvState.engine (b : SlvState) (e : Nat) : SolverEngine := b.engines.getD e {}

/-- One slot changed. -/
def modSlot (i : Nat) (f : Slot → Slot) (s : State) : State := s.modSlv fun b => { b with slots := updAt b.slots i f }

/-- One solver engine changed. -/
def modSolver (e : Nat) (f : SolverEngine → SolverEngine) (s : State) : State := s.modSlv fun b => { b with engines := updAt b.engines e f }

/-- A read of a slot's published solution: the solution, if there is one, or the status MEM_FAULT (R188, R199). -/
def Slot.readSolution (k : Slot) : Except SolveStatus (Option Published) := if k.memFault then .error .memFault else .ok k.published

/-- Structure of the image by index (R179). -/
def State.structAt (s : State) (i : Nat) : Option StructCfg := lookupK s.image.structs i

/-- Structure a slot is bound to, the empty one when it is free. -/
def State.slotStruct (s : State) (i : Nat) : StructCfg := (s.structAt (s.slv.slot i).struct).getD {}

/-- Engine index of an owner (R30, R183). -/
def SlotOwner.engine : SlotOwner → Nat
  | .cc0 => 9 | .cc1 => 10 | .su => 15 | .unassigned => 255

/-- Owner of a code (R220). -/
def ownerOf : Nat → SlotOwner
  | 0 => .cc0 | 1 => .cc1 | 2 => .su | _ => .unassigned

/-- A slot event: its number modulo 256 as instance, bit 8 in byte 15 (R221). -/
def State.raiseSlot (s : State) (code slot : Nat) (d : Bytes) : State :=
  s.raise code (slot % 256) ((d ++ zeros 11).take 11 ++ [BitVec.ofNat 8 (slot / 256)])

/-- Available solver engines (R216). -/
def SlvState.availCount (b : SlvState) : Nat := popcount b.avail

/-- CONSEQ_REDUCED: consequence analysis every 5 s, with two engines or under the throttle (R216, R217, R528). -/
def State.conseqReduced (s : State) : Bool := s.slv.availCount == 2 || s.thm.enforced

/-- A class is suspended with this many engines (R216): MPC and consequence analysis with one, every class with none. -/
def SlvState.suspended (b : SlvState) (cls : Nat) : Bool :=
  b.availCount == 0 || (b.availCount == 1 && (cls == 1 || cls == 2))

/-- Solver engines that are on, not lost and not retired (R32, R216, R535). -/
def State.solverAvail (s : State) : BitVec 8 := maskOf 8 fun e => s.engineRuns e

/-- The Percolator adapts to the engines there are (R216). -/
def capacityChange (s : State) : State :=
  let v := s.solverAvail
  let old := s.slv.availCount
  let s := s.modSlv fun b => { b with
    avail := v, mpcPath := if popcount v = 1 then 3 else b.mpcPath }
  s.raiseIf (decide (popcount v ≠ old)) 0x0C19 0xFF [BitVec.ofNat 8 v.toNat, BitVec.ofNat 8 (popcount v)]

/-! ### Completion (R197 to R199, R207 to R210) -/

/-- Code of a completion status (R198). -/
def SolveStatus.code : SolveStatus → Nat
  | .ok => 0 | .suboptimal => 1 | .infeasible => 2 | .numericFail => 3 | .residualFail => 4 | .expired => 5 | .cancelled => 6
  | .abandoned => 7 | .memFault => 8

/-- Status of the tag's completion. -/
def SolveStatus.tagStatus : SolveStatus → TagStatus
  | .cancelled => .cancelled | .abandoned => .abandoned | .memFault => .memFault | _ => .done

/-- Code of a start (R197). -/
def StartKind.code : StartKind → Nat
  | .cold => 0 | .warm => 1 | .mapped => 2

/-- The span an engine was busy is kept for a second (R220). -/
def SolverEngine.pushSpan (x : SolverEngine) (now : Nat) : SolverEngine :=
  { x with spans := (x.spans.filter fun p => decide (now < p.2 + 1000000000)) ++ [(x.busyFrom, now)] }

/-- The engine is free again (R220); its working set holds no solve any more unless one waits on it. -/
def freeEngine (e : Nat) (done : Bool) (s : State) : State :=
  let s := s.draw
  modSolver e (fun x => { x.pushSpan s.now with
    slot := none, subjob := false, solves := if done then satInc 32 x.solves else x.solves
    gflops := if done then Config.engineRate s.free else x.gflops, run := if x.held.isSome then x.run else none, work := none }) s

/-- Engines that work on a slot's solve, and those that hold it after a yield, are released (R197, R212). Work that finished is counted. -/
def releaseEngines (i : Nat) (done : Bool) (s : State) : State :=
  s.forN 8 fun s e =>
    let x := s.slv.engine e
    let s := if x.slot == some i then freeEngine e done s else s
    if x.held == some i then modSolver e (fun y => { y with held := none, run := none }) s else s

/-- Status with which work of an engine is not finished: the engine was lost, or the slot's contents were (R188, R216). -/
def SolveStatus.unfinished : SolveStatus → Bool
  | .abandoned | .memFault => true
  | _ => false

/-- A solve completes with a record (R197): counters, events, its tag, and the record in the submitter's queue. -/
def finishSolve (i : Nat) (st : SolveStatus) (out : IpmOut) (res obj : F64) (s : State) : State :=
  let k := s.slv.slot i
  let ran := k.phase == .running
  let r : Completion := { tag := k.tag, status := st, pivotReg := ran && decide (0 < out.pivots), refined := ran && out.refined
                          start := if ran then k.start else .cold, schedulePath := ran && k.schedule, iter := out.iter
                          engine := if ran then k.engine else 0, slot := i, mapPct := if ran && k.start == .mapped then k.mapPct else 0
                          frame := match k.desc with | some d => d.frame | none => 0
                          time := s.now, res := res, obj := obj }
  let s := releaseEngines i (!st.unfinished) s
  let s := modSlot i (fun y => { y with
    phase := if y.phase == .queued || y.phase == .running then .bound else y.phase
    desc := none, yielded := false, iters := 0, pinned := none, subjobs := 0, rounds := 0, last := some r
    lastUs := if ran then sat 32 ((s.now - y.dispatched) / 1000) else y.lastUs }) s
  let s := s.modSlv fun b => { b with
    solves := satInc 32 b.solves
    numFail := if st == .numericFail then satInc 32 b.numFail else b.numFail
    resFail := if st == .residualFail then satInc 32 b.resFail else b.resFail
    pivReg := if r.pivotReg then satInc 32 b.pivReg else b.pivReg
    expired := if st == .expired then satInc 32 b.expired else b.expired
    infeas := if st == .infeasible then satInc 32 b.infeas else b.infeas
    nSubopt := if st == .suboptimal then satInc 16 b.nSubopt else b.nSubopt
    queue := b.queue ++ [r] }
  let tag := leBytes 4 k.tag.word
  let s := if r.pivotReg then s.raiseSlot 0x0C12 i (tag ++ [BitVec.ofNat 8 (sat 8 out.pivots)]) else s
  let s := match st with
    | .numericFail => s.raiseSlot 0x0C10 i (tag ++ [BitVec.ofNat 8 k.cls, BitVec.ofNat 8 out.iter, BitVec.ofNat 8 k.engine])
    | .residualFail => s.raiseSlot 0x0C11 i (tag ++ f32Bytes (fVal res))
    | .infeasible => s.raiseSlot 0x0C13 i (tag ++ [BitVec.ofNat 8 k.cls])
    | .suboptimal => s.raiseSlot 0x0C1B i (tag ++ f32Bytes (fVal res))
    | .expired => s.raiseSlot 0x0C14 i (tag ++ leBytes 4 (match k.desc with | some d => sat 32 ((s.now - d.latestStart) / 1000) | none => 0))
    | _ => s
  completeTag k.tag st.tagStatus s

/-- Path of a running solve (R211). -/
def Slot.path (k : Slot) : SolvePath := if k.schedule then .schedule else if k.cls = 1 then .staged else .plain

/-- What the running solve of a slot has when it has run n iterations (R203, R215). -/
def State.solveRun (s : State) (i n : Nat) : IpmOut :=
  let k := s.slv.slot i
  solveAfter (s.slotStruct i) s.image.schedule k.path k.data k.startVecs n

/-- What the running solve of a slot gives at its end (R204 to R209). -/
def State.solveOut (s : State) (i : Nat) : IpmOut := s.solveRun i (s.slotStruct i).iterCap

/-- Status of a result (R207 to R210), with its measures on unscaled data. -/
def solveStatus (t : StructCfg) (o : IpmOut) (m : Option Measures) : SolveStatus :=
  match o.phase, m with
  | .failed, _ => .numericFail
  | .certificate, _ => .infeasible
  | _, none => .numericFail
  | .converged, some m => if fVal m.top ≤ t.resTol then .ok else .residualFail
  | .running, some m => if m.primal t.resTol then .suboptimal else .residualFail

/-- Rounds of a solve of the service path of MPC: one for each iteration and a final one (R212), but none after an operation that overflowed
(R207). -/
def State.roundsOf (s : State) (i : Nat) : Nat :=
  let o := s.solveOut i
  if o.phase = .failed then o.iter else o.iter + 1

/-- A solve of the service path of MPC has had its rounds (R212). One that fails stops in the round of the operation that overflowed (R207). -/
def State.roundsDone (s : State) (i : Nat) : Bool :=
  let k := s.slv.slot i
  let o := s.solveOut i
  k.cls != 1 || k.schedule || decide ((if o.phase = .failed then o.iter - 1 else o.iter + 1) ≤ k.rounds)

/-- A running solve finishes (R197 to R199, R207 to R210). Its record is in the submitter's queue. -/
def finishRun (i : Nat) (s : State) : State :=
  let k := s.slv.slot i
  if k.phase != .running || k.yielded || !s.roundsDone i then s
  else
    let t := s.slotStruct i
    let o := s.solveOut i
    let p := problemOf t k.data
    let m := o.vecs.bind p.measures
    let st := solveStatus t o m
    let good := st == .ok || st == .suboptimal
    let judged := good || st == .residualFail
    let res := if judged then (m.getD {}).top else 0
    let obj := if judged then ((o.vecs.bind fun v => p.objective v.x).getD 0) else 0
    let out : Published := { vecs := o.vecs.getD {}, obj := obj, status := st, tag := k.tag
                             frame := match k.desc with | some d => d.frame | none => 0 }
    let s := modSlot i (fun y => { y with
      iterate := if st == .numericFail || st == .residualFail then none else o.vecs
      published := if good then some out else y.published
      warm := if good then some { sol := out, signature := t.signature, struct := y.struct } else y.warm }) s
    finishSolve i st o res obj s

/-- Iterations of a running solve when it ends before its end: those of its rounds or up to its yield, else a number that the time it ran
decides (R194, R197, R212). -/
def State.itersNow (s : State) (i : Nat) : Nat :=
  let k := s.slv.slot i
  let all := (s.solveOut i).iter
  if k.yielded || k.path == .staged then min k.iters all else min all (k.iters + Config.itersRun s.free % (all + 1 - k.iters))

/-- A solve that does not run to its end (R195, R196, R212, R216); of one that was running, the record tells what it has run. -/
def endSolve (i : Nat) (st : SolveStatus) (s : State) : State :=
  if (s.slv.slot i).phase == .running then
    let s := s.draw
    finishSolve i st (s.solveRun i (s.itersNow i)) 0 0 s
  else finishSolve i st {} 0 0 s

/-! ### Mailbox commands (R185, R186, R196) -/

/-- Result of a mailbox command (R185, R220). -/
def mailboxResult (r : Nat) (s : State) : State := s.modSlv fun b => { b with mailbox := r }

/-- BIND (R185, R186). An index that names no structure of the slot's class is bad (assumption log 19). -/
def bindSlot (o : SlotOwner) (i st : Nat) (s : State) : State :=
  let k := s.slv.slot i
  if !s.domOn 5 then mailboxResult 2 s
  else if k.owner != o || k.owner == .unassigned then mailboxResult 5 s
  else if k.phase == .queued || k.phase == .running then mailboxResult 3 s
  else match (s.structAt st).filter fun t => t.cls == k.cls with
    | none => mailboxResult 6 s
    | some t =>
      modSlot i (fun y => { y with
        phase := .bound, struct := st, data := t.defaults, iterate := none, memFault := false
        warm := if y.phase == .faulted then none else y.warm, published := if y.phase == .faulted then none else y.published })
        (mailboxResult 0 s)

/-- RELEASE (R184, R185). That RELEASE of a FREE slot answers SLOT_UNBOUND, and that the slot's data, published solution and warm source go
with it, is the model's choice (DESIGN CHOICE, assumption log 19). -/
def releaseSlot (o : SlotOwner) (i : Nat) (s : State) : State :=
  let k := s.slv.slot i
  if !s.domOn 5 then mailboxResult 2 s
  else if k.owner != o || k.owner == .unassigned then mailboxResult 5 s
  else if k.phase == .queued || k.phase == .running then mailboxResult 3 s
  else if k.phase == .free then mailboxResult 4 s
  else modSlot i (fun y => { owner := y.owner, cls := y.cls, last := y.last, lastUs := y.lastUs }) (mailboxResult 0 s)

/-- CANCEL (R196); its record is in the submitter's queue. That CANCEL of a FREE or FAULTED slot answers NOTHING_PENDING is the model's choice
(DESIGN CHOICE, assumption log 19). -/
def cancelSlot (o : SlotOwner) (i : Nat) (s : State) : State :=
  let k := s.slv.slot i
  if !s.domOn 5 then mailboxResult 2 s
  else if k.owner != o || k.owner == .unassigned then mailboxResult 5 s
  else match k.phase with
    | .queued => endSolve i .cancelled (mailboxResult 0 s)
    | .running => mailboxResult 9 s
    | _ => mailboxResult 10 s

/-! ### Submission (R189 to R192) -/

/-- Check of a submission (R191): the RESULT code of the first failing one. A delta whose value is not finite has none. -/
def State.submitCheck (s : State) (o : SlotOwner) (d : Descriptor) (count : Nat) (ds : List (Nat × Option F64)) : Nat :=
  let k := s.slv.slot d.slot
  let t := s.slotStruct d.slot
  if !s.domOn 5 || s.slv.suspended k.cls then 2
  else if k.owner != o || k.owner == .unassigned then 5
  else if k.phase == .queued || k.phase == .running then 3
  else if k.phase != .bound then 4
  else if 512 ≤ (s.slv.slots.filter fun x => x.phase == .queued || x.phase == .running).length then 1
  else if 4096 < count then 8
  else if ds.any (fun e => decide (t.dataLen ≤ e.1)) then 6
  else if ds.any (fun e => e.2.isNone) then 7
  else if d.forceSchedule && k.cls != 1 && k.cls != 3 then 5
  else 0

/-- A submission is refused, or its deltas are applied in order and the slot is queued under a new tag (R191, R192). -/
def submitSolve (o : SlotOwner) (d : Descriptor) (count : Nat) (ds : List (Nat × Option F64)) (s : State) : State :=
  match s.submitCheck o d count ds with
  | 0 =>
    let t := s.newTag 0x0C o.engine
    modSlot d.slot (fun y => { y with
      phase := .queued, desc := some d, tag := t
      data := ds.foldl (fun v e => v.set e.1 (e.2.getD 0)) y.data }) (openTag t (mailboxResult 0 s))
  | r =>
    (mailboxResult r (s.modSlv fun b => { b with refused := satInc 32 b.refused })).raiseSlot 0x0C18 d.slot
      [BitVec.ofNat 8 r, BitVec.ofNat 8 o.engine]

/-- Changes that bring a slot's data vector to another one: the packet an owner sends (R190, R192). -/
def deltasTo (old new : List F64) : List (Nat × Option F64) :=
  (new.zipIdx.filter fun e => old.getD e.2 0 != e.1).map fun e => (e.2, if fFinite e.1 then some e.1 else none)

/-- Submits a slot's problem with a new data vector. -/
def submitData (o : SlotOwner) (d : Descriptor) (new : List F64) (s : State) : State :=
  let ds := deltasTo (s.slv.slot d.slot).data new
  submitSolve o d ds.length ds s

/-- A descriptor and delta packet as bytes (R189, R190). -/
def submitBytes (o : SlotOwner) (desc packet : Bytes) (s : State) : State :=
  let opt := byteAt desc 2
  let n := leAt desc 6 2
  let d : Descriptor := { slot := leAt desc 0 2 % 512, cold := decide (opt % 2 = 1), mapFrom := decide (opt / 2 % 2 = 1)
                          forceSchedule := decide (opt / 4 % 2 = 1), srcSlot := leAt desc 4 2 % 512, frame := leAt desc 8 4
                          latestStart := leAt desc 12 8 }
  submitSolve o d n ((List.range (min n 4096)).map fun i =>
    let v := BitVec.ofNat 64 (leAt packet (12 * i + 4) 8)
    (leAt packet (12 * i) 4, if fFinite v then some v else none)) s

/-! ### Starts (R200 to R202) -/

/-- Place of a tag in a list of tags, if it is not 0 and present. -/
def tagAt (tags : List Nat) (tag : Nat) : Option Nat := if tag = 0 then none else tags.findIdx? (· == tag)

/-- Multiplier of a pair: its upper side's less its lower side's, and the equality's. -/
def SidePair.mult (p : SidePair) : Option F64 := do fAdd p.zEq (← fSub p.zHi p.zLo)

/-- Mapped start vectors (R201; assumption log 19) and the number of variables matched. A row copied from a row of the other kind takes its
multiplier, and an inequality row keeps its cold slack where the source row has none. -/
def mapVectors (t src : StructCfg) (d : List F64) (v : Vectors) : Option Vectors × Nat :=
  let p := problemOf t d
  let varOf := fun i => tagAt (src.tags.take src.n) (t.tags.getD i 0)
  let rowOf := fun i => tagAt (src.tags.drop src.n) (t.tags.getD (t.n + i) 0)
  let vecs : Option Vectors := do
    let x ← (List.range t.n).mapM fun i => match varOf i with
      | some j => some (v.x.getD j 0)
      | none => (p.vars.getD i {}).coldX
    let cx ← p.cx x
    let y ← (List.range t.mE).mapM fun i => match rowOf i with
      | some j => if j < src.mE then some (v.y.getD j 0) else (v.rows.getD (j - src.mE) {}).mult
      | none => some 0
    let rows ← (List.range t.mI).mapM fun i => do
      let c ← (p.rows.getD i {}).cold (cx.getD i 0)
      some (match rowOf (t.mE + i) with
        | some j => if j < src.mE then { c with zLo := 0, zHi := 0, zEq := v.y.getD j 0 } else v.rows.getD (j - src.mE) {}
        | none => c)
    let bounds ← (List.range t.n).mapM fun i => match varOf i with
      | some j => some (v.bounds.getD j {})
      | none => (p.vars.getD i {}).cold (x.getD i 0)
    some { x := x, y := y, rows := rows, bounds := bounds }
  (vecs, (indices t.n fun i => (varOf i).isSome).length)

/-- Start of a slot's queued solve (R200): kind, vectors and MAP_PCT. -/
def State.startOf (s : State) (i : Nat) : StartKind × Option Vectors × Nat :=
  let k := s.slv.slot i
  let t := s.slotStruct i
  let d := k.desc.getD {}
  let cold := (StartKind.cold, coldVectors t k.data, 0)
  let src := if d.mapFrom then s.slv.slot d.srcSlot else k
  if d.cold then cold
  else match (if src.memFault then none else src.warm) with
    | none => cold
    | some w =>
      if w.signature = t.signature then (.warm, some w.sol.vecs, 0)
      else
        let st := (s.structAt w.struct).getD {}
        if t.tags.isEmpty || st.tags.isEmpty then cold
        else
          let m := mapVectors t st k.data w.sol.vecs
          if m.2 = 0 then cold else (.mapped, m.1, 100 * m.2 / t.n)

/-! ### Dispatch (R193, R194, R211, R212, R216) -/

/-- A queued problem or sub-job: slot and whether it is a sub-job (R193, R212). -/
abbrev Work := Nat × Bool

/-- Order of work: class priority, earliest LATEST_START with 0 last, lower slot (R193). -/
def State.workKey (s : State) (w : Work) : Nat × Nat × Nat :=
  let k := s.slv.slot w.1
  let l := match k.desc with | some d => d.latestStart | none => 0
  (k.cls, if l = 0 then 2 ^ 64 else l, w.1)

/-- Lexicographic order of keys. -/
def key3Lt (a b : Nat × Nat × Nat) : Bool :=
  decide (a.1 < b.1) || (a.1 == b.1 && (decide (a.2.1 < b.2.1) || (a.2.1 == b.2.1 && decide (a.2.2 < b.2.2))))

/-- All queued work. -/
def State.queuedWork (s : State) : List Work :=
  let slots := (s.slv.slots.take 512).zipIdx
  (slots.filter fun x => x.1.phase == .queued).map (fun x => (x.2, false)) ++
    (slots.filter fun x => x.1.phase == .running && decide (0 < x.1.subjobs)).map (fun x => (x.2, true))

/-- The lowest-numbered available engine (R216). -/
def SlvState.lowest (b : SlvState) : Nat := ((List.range 8).find? fun e => b.avail.getLsbD e).getD 8

/-- The LATEST_START of a queued problem has not passed (R195). -/
def State.inTime (s : State) (w : Work) : Bool :=
  w.2 || ((s.slv.slot w.1).desc.all fun d => d.latestStart == 0 || decide (s.now ≤ d.latestStart))

/-- An engine may take work under R211, R212, R216 and R219. -/
def State.mayTake (s : State) (e : Nat) (w : Work) : Bool :=
  let k := s.slv.slot w.1
  let n := s.slv.availCount
  if w.2 then true
  else match k.cls with
    | 0 => true
    | 1 => n == 8 || (decide (2 ≤ n) && e == s.slv.lowest)
    | 2 => decide (2 ≤ n)
    | _ => k.pinned.all (· == e)

/-- What an engine can take now: all work when it is free, priority 0 when it holds a yielded solve or is at a yield point of the
schedule path, and its own sub-jobs when it coordinates (R194, R212). -/
def State.offer (s : State) (e : Nat) (w : Work) : Bool :=
  let x := s.slv.engine e
  s.slv.avail.getLsbD e && s.inTime w && s.mayTake e w && (match x.slot with
    | none => x.held.isNone || (s.slv.slot w.1).cls == 0
    | some i =>
      let k := s.slv.slot i
      !x.subjob && (if k.schedule then (s.slv.slot w.1).cls == 0 && x.held.isNone else k.cls == 1 && w == (i, true)))

/-- The first of the work an engine can take (R193). -/
def State.nextWork (s : State) (e : Nat) : Option Work :=
  (s.queuedWork.filter (s.offer e)).foldl (fun best w => match best with
    | none => some w
    | some b => if key3Lt (s.workKey w) (s.workKey b) then some w else some b) none

/-- Path of a solve (R211): true for the schedule path. -/
def State.onSchedule (s : State) (i : Nat) (start : StartKind) : Bool :=
  let k := s.slv.slot i
  k.cls == 3 || (k.cls == 1 && (decide (s.slv.availCount < 8) || start == .cold || (k.desc.getD {}).forceSchedule))

/-- A solve starts on an engine (R193, R200, R211, R212). -/
def startSolve (e i : Nat) (s : State) : State :=
  let k := s.slv.slot i
  let st := s.startOf i
  let sched := s.onSchedule i st.1
  let s := modSlot i (fun y => { y with
    phase := .running, engine := e, start := st.1, startVecs := st.2.1, mapPct := st.2.2, schedule := sched, yielded := false, iters := 0
    subjobs := if y.cls = 1 ∧ !sched then 8 else 0, rounds := 0, dispatched := s.now }) s
  let run := if sched then schedRunAfter (s.slotStruct i) s.image.schedule k.data st.2.1 0 else none
  let s := modSolver e (fun x => { x with
    slot := some i, subjob := false, busyFrom := s.now, cache := Config.cacheAfter x.cache k.struct
    run := if x.held.isSome then x.run else run
    work := if sched then none else workAfter (s.slotStruct i) s.image.schedule (if k.cls = 1 then .staged else .plain) k.data st.2.1 0 }) s
  let s := s.modSlv fun b => { b with
    nWarm := if st.1 == .warm then satInc 16 b.nWarm else b.nWarm
    nMapped := if st.1 == .mapped then satInc 16 b.nMapped else b.nMapped
    nCold := if st.1 == .cold then satInc 16 b.nCold else b.nCold }
  if k.cls = 1 then
    let old := s.slv.mpcPath
    let new := if sched then 2 else 1
    let s := s.modSlv fun b => { b with mpcPath := new }
    let s := if st.1 == .cold then s.modSup fun b => { b with mpcWarm := false } else s
    s.raiseIf (decide (old ≠ 0 ∧ old ≠ new)) 0x0C15 0xFF [BitVec.ofNat 8 old, BitVec.ofNat 8 new]
  else s

/-- A schedule-path solve yields at the end of an iteration (R194): which one it is, the time it ran decides. Without an iteration boundary before
its end there is none. -/
def yieldSolve (e i : Nat) (s : State) : Option State :=
  let s := s.draw
  let k := s.slv.slot i
  let all := (s.solveOut i).iter
  if all ≤ k.iters then none
  else
    let n := k.iters + 1 + Config.itersRun s.free % (all - k.iters)
    let run := schedRunAfter (s.slotStruct i) s.image.schedule k.data k.startVecs n
    some (modSolver e (fun x => { x.pushSpan s.now with held := some i, slot := none, run := run })
      (modSlot i (fun y => { y with yielded := true, iters := n }) s))

/-- Work starts on an engine (R193, R212): a problem, or the next stage block of a round. -/
def takeWork (e : Nat) (w : Work) (s : State) : State :=
  if w.2 then modSolver e (fun x => { x with
      slot := some w.1, subjob := true, block := 8 - (s.slv.slot w.1).subjobs, busyFrom := if x.slot.isNone then s.now else x.busyFrom })
    (modSlot w.1 (fun y => { y with subjobs := y.subjobs - 1 }) s)
  else startSolve e w.1 s

/-- SOLVE_DISPATCH on an engine (R193): not while a lower-numbered engine can take the same work. On an engine that runs a schedule-path
solve it is the end of an iteration, where the solve yields (R194). -/
def dispatch (e : Nat) (s : State) : State :=
  match s.nextWork e with
  | none => s
  | some w =>
    if (List.range e).any fun f => (s.slv.engine f).slot.isNone && s.offer f w then s
    else match (s.slv.engine e).slot with
      | some i => if (s.slv.slot i).schedule then (match yieldSolve e i s with | some t => takeWork e w t | none => s) else takeWork e w s
      | none => takeWork e w s

/-- SOLVE_RESUME (R194): the yielded solve goes on while no priority-0 problem is queued. -/
def resumeSolve (e : Nat) (s : State) : State :=
  let x := s.slv.engine e
  match x.held with
  | some i =>
    if x.slot.isNone && s.slv.avail.getLsbD e && !s.queuedWork.any (fun w => (s.slv.slot w.1).cls == 0) then
      modSolver e (fun x => { x with slot := some i, held := none, busyFrom := s.now }) (modSlot i (fun y => { y with yielded := false }) s)
    else s
  | none => s

/-- SUBJOB_COMPLETE (R212): with the eighth of a round the coordinating engine goes to the next round. -/
def subjobComplete (e : Nat) (s : State) : State :=
  let x := s.slv.engine e
  match x.slot with
  | none => s
  | some i =>
    if !x.subjob then s
    else
      let own := (s.slv.slot i).engine == e
      let s := if own then modSolver e (fun y => { y with subjob := false, solves := satInc 32 y.solves }) s else freeEngine e true s
      if (s.slv.slot i).subjobs = 0 && !(s.slv.engines.any fun y => y.slot == some i && y.subjob) then
        let k := s.slv.slot i
        let n := k.rounds + 1
        let w := workAfter (s.slotStruct i) s.image.schedule k.path k.data k.startVecs n
        modSolver k.engine (fun y => { y with work := w })
          (modSlot i (fun y => { y with rounds := n, iters := min n (s.solveOut i).iter, subjobs := if n < s.roundsOf i then 8 else 0 }) s)
      else s

/-- A queued solve whose LATEST_START passes expires (R195); at that instant itself the arbiter has let the expiry win. -/
def expireSolve (i : Nat) (s : State) : State :=
  let k := s.slv.slot i
  match k.desc with
  | some d => if k.phase == .queued && d.latestStart != 0 && decide (d.latestStart ≤ s.now) then endSolve i .expired s else s
  | none => s

/-- A solver engine is lost: the solves it ran, held or worked a sub-job for complete ABANDONED, and a queued
self-test goes to the remaining engines (R212, R216). -/
def loseSolver (e : Nat) (s : State) : State :=
  let x := s.slv.engine e
  let s := match x.slot with | some i => endSolve i .abandoned s | none => s
  let s := match x.held with | some i => endSolve i .abandoned s | none => s
  let s := s.modSlv fun b => { b with slots := b.slots.map fun y => if y.pinned == some e then { y with pinned := none } else y }
  capacityChange s

/-- An uncorrectable error in slot contents (R188). -/
def faultSlot (i addr : Nat) (s : State) : State :=
  let k := s.slv.slot i
  if k.phase == .free then s
  else
    let s := if k.phase == .queued || k.phase == .running then endSolve i .memFault s else s
    (modSlot i (fun y => { y with phase := .faulted, memFault := true, warm := none }) s).raiseSlot 0x0C16 i (leBytes 4 addr)

/-- PD5 goes off: every slot becomes FREE and holds nothing, and the structure caches are discarded (R187); outstanding solves are abandoned. -/
def slotsOff (s : State) : State :=
  let s := s.forN 512 fun s i => if (s.slv.slot i).phase == .queued || (s.slv.slot i).phase == .running then endSolve i .abandoned s else s
  let s := s.modSlv fun b => { b with
    slots := b.slots.map fun y => { owner := y.owner, cls := y.cls }
    engines := b.engines.map fun x => { x with run := none, work := none, cache := [] } }
  capacityChange s

/-- The slot map of the image (R183, R558). -/
def loadSlots (s : State) : State :=
  let m := s.image.slotMap
  s.modSlv fun b => { b with
    schedSig := ((s.structAt s.scalars.mpcStruct).getD {}).signature
    slots := b.slots.mapIdx fun i y => { y with owner := ownerOf (m.getD i (3, 0)).1, cls := (m.getD i (3, 0)).2 } }

/-! ### Self-test (R219) -/

/-- CRC-32C of the self-test solution in revision C (R530). -/
def testCrcExpected : Nat := 0xE4D70A39

/-- Slot of the self-test: the one the map gives SU with class TEST (R219). -/
def State.testSlot (s : State) : Option Nat :=
  (List.range 512).find? fun i => (s.slv.slot i).owner == .su && (s.slv.slot i).cls == 3

/-- SLV_CMD TEST is allowed (R219). -/
def State.testAllowed (s : State) (e : Nat) : Bool :=
  (s.sup.mode == .standby || s.sup.mode == .service) && s.engineRuns e && s.slv.testResult != 3 &&
    s.testSlot.any fun i => (s.slv.slot i).phase != .queued && (s.slv.slot i).phase != .running

/-- The self-test solve is bound and submitted, cold (R219). -/
def startTest (e : Nat) (s : State) : State :=
  match s.testSlot with
  | none => s
  | some i =>
    let s := s.modSlv fun b => { b with testResult := 3, testEngine := e }
    let s := bindSlot .su i s.scalars.testStruct s
    let s := submitSolve .su { slot := i, cold := true, frame := s.frame } 0 [] s
    modSlot i (fun y => if y.phase == .queued then { y with pinned := some e } else y) s

/-- The self-test completes: the CRC of the bytes of x in order against the expected value (R219). -/
def finishTest (r : Completion) (s : State) : State :=
  let x := match (s.slv.slot r.slot).readSolution with | .ok (some p) => if p.tag == r.tag then p.vecs.x else [] | _ => []
  let crc := if x.isEmpty then 0 else crc32c (x.flatMap fun v => leBytes 8 v.toNat)
  let res := if r.status == .ok && crc == testCrcExpected then 1 else 2
  let s := s.modSlv fun b => { b with testResult := res, testStatus := r.status.code, testCrc := crc }
  s.raise 0x0C1A s.slv.testEngine ([BitVec.ofNat 8 res, 0, 0, 0] ++ leBytes 4 crc)

/-! ### Registers (R220) -/

/-- Code of a slot state (R184). -/
def SlotPhase.code : SlotPhase → Nat
  | .free => 0 | .bound => 1 | .queued => 2 | .running => 3 | .faulted => 4

/-- Code of an owner (R220). -/
def SlotOwner.code : SlotOwner → Nat
  | .cc0 => 0 | .cc1 => 1 | .su => 2 | .unassigned => 3

/-- FLAGS of a completion record, bits 4 to 0 (R197). -/
def Completion.flags (r : Completion) : Nat := b2n r.pivotReg + 2 * b2n r.refined + 4 * r.start.code + 16 * b2n r.schedulePath

/-- The 32 bytes of a completion record (R197). -/
def Completion.bytes (r : Completion) : Bytes :=
  leBytes 4 r.tag.word ++ [BitVec.ofNat 8 r.status.code, BitVec.ofNat 8 r.flags, BitVec.ofNat 8 r.iter, BitVec.ofNat 8 r.engine]
    ++ leBytes 2 r.slot ++ [BitVec.ofNat 8 r.mapPct, 0] ++ leBytes 4 r.frame ++ leBytes 8 r.time ++ f32Bytes (fVal r.res) ++ f32Bytes (fVal r.obj)

/-- ENG_BUSY_PCT (R220): share of the last second. -/
def SolverEngine.busyPct (x : SolverEngine) (now : Nat) : Nat :=
  let from_ := now - 1000000000
  let spans := if x.slot.isSome then x.spans ++ [(x.busyFrom, now)] else x.spans
  min 100 (((spans.map fun p => p.2 - max p.1 from_).foldl (· + ·) 0) / 10000000)

/-- SLV registers (R220). -/
def slvRead (s : State) (off : Nat) : Option Word :=
  let b := s.slv
  let x := b.engine b.engSel
  let k := b.slot b.slotSel
  let depth := fun p => sat 8 ((s.queuedWork.filter fun w => (b.slot w.1).cls == p).map fun w => if w.2 then (b.slot w.1).subjobs else 1).sum
  let live := k.phase != .free
  match off with
  | 0x10 => some (pack [(b.avail.toNat, 0, 8), (bitsToNat (b.engines.map fun e => e.slot.isSome), 8, 8), (b.mpcPath, 16, 2), (b2n s.conseqReduced, 18, 1)])
  | 0x14 => some (pack [((b.slots.filter fun y => y.phase != .free).length, 0, 10),
      ((b.slots.filter fun y => y.phase == .queued || y.phase == .running).length, 16, 10)])
  | 0x18 => some (pack [(depth 0, 0, 8), (depth 1, 8, 8), (depth 2, 16, 8), (depth 3, 24, 8)])
  | 0x1C => some (wordOf b.solves)
  | 0x20 => some (wordOf b.numFail)
  | 0x24 => some (wordOf b.resFail)
  | 0x28 => some (wordOf b.pivReg)
  | 0x2C => some (wordOf b.expired)
  | 0x30 => some (wordOf b.infeas)
  | 0x34 => some (pack [(b.nWarm, 0, 16), (b.nMapped, 16, 16)])
  | 0x38 => some (pack [(b.nCold, 0, 16), (b.nSubopt, 16, 16)])
  | 0x3C => some (wordOf b.refused)
  | 0x40 => some (pack [(s.image.schedule.length, 0, 14), (s.image.structs.length - 1, 24, 8)])
  | 0x44 => some s.image.workload.schedMflop
  | 0x48 => some (loWord b.schedSig)
  | 0x4C => some (hiWord b.schedSig)
  | 0x50 => some (wordOf b.engSel)
  | 0x54 =>
    let e := s.sup.engines.getD b.engSel {}
    let st := if e.lost || e.retired then 3 else if !s.domOn 5 then 0 else if x.slot.isSome then 2 else 1
    match x.slot with
    | some i => some (pack [(st, 0, 2), (b2n ((b.slot i).schedule && (s.slotStruct i).spills s.image.schedule), 2, 1), ((b.slot i).cls, 8, 3), (b2n x.subjob, 11, 1), (i, 16, 9)])
    | none => some (pack [(st, 0, 2)])
  | 0x58 => some (wordOf x.solves)
  | 0x5C => some (f32Of x.gflops)
  | 0x60 => some (wordOf (x.busyPct s.now))
  | 0x64 => some (wordOf b.slotSel)
  | 0x68 => some (pack [(k.phase.code, 0, 3), (k.cls, 3, 3), (k.owner.code, 6, 2),
      (match k.last with | some r => r.status.code | none => 0, 8, 4), (b2n k.warm.isSome, 12, 1), (if live then k.struct else 0, 16, 8)])
  | 0x6C => some (loWord (if live then (s.slotStruct b.slotSel).signature else 0))
  | 0x70 => some (hiWord (if live then (s.slotStruct b.slotSel).signature else 0))
  | 0x74 => some (match k.last with
      | some r => pack [(r.iter, 0, 8), (r.flags, 8, 5), (r.engine, 13, 3), (r.frame, 16, 16)] | none => 0)
  | 0x78 => some (match k.last with | some r => f32Of (fVal r.res) | none => 0)
  | 0x7C => some (wordOf k.lastUs)
  | 0x80 => some (match k.last with | some r => wordOf r.mapPct | none => 0)
  | 0x84 => some 0
  | 0x88 => some (pack [(b.testResult, 0, 2), (b.testEngine, 2, 3), (b.testStatus, 8, 4)])
  | 0x8C => some (wordOf b.testCrc)
  | _ => none

/-- Read-clear registers of SLV (R220). -/
def slvClear (off : Nat) (s : State) : State :=
  match off with
  | 0x1C => s.modSlv fun b => { b with solves := 0 }
  | 0x20 => s.modSlv fun b => { b with numFail := 0 }
  | 0x24 => s.modSlv fun b => { b with resFail := 0 }
  | 0x28 => s.modSlv fun b => { b with pivReg := 0 }
  | 0x2C => s.modSlv fun b => { b with expired := 0 }
  | 0x30 => s.modSlv fun b => { b with infeas := 0 }
  | 0x34 => s.modSlv fun b => { b with nWarm := 0, nMapped := 0 }
  | 0x38 => s.modSlv fun b => { b with nCold := 0, nSubopt := 0 }
  | 0x3C => s.modSlv fun b => { b with refused := 0 }
  | 0x58 => modSolver s.slv.engSel (fun x => { x with solves := 0 }) s
  | _ => s

/-- Writable registers of SLV (R220). -/
def slvWritable (off : Nat) : Bool := off == 0x50 || off == 0x64 || off == 0x84

/-- Writes to SLV (R219, R220). -/
def slvWrite (w : WCtx) (off : Nat) (v : Word) (s : State) : WriteOut :=
  match off with
  | 0x50 => .done (s.modSlv fun b => { b with engSel := field v 2 0 }) 0
  | 0x64 => .done (s.modSlv fun b => { b with slotSel := field v 8 0 }) 0
  | _ =>
    needRole w roleEngineer s
      (if bit v 0 then (if s.testAllowed (field v 3 1) then .done (startTest (field v 3 1) s) 0 else .refused s 1) else .done s 0)

end Sys2Proof.Machine
end

