-- ==== Sys2Proof/Machine/Control.lean ====
section
/-!
DEFINITION. Control laws, targets, tracks, joystick, integrator and blends: the root demand of a frame (R87 to R94, R222 to R235,
R437), and the registers of block CTL (R261).
-/
set_option autoImplicit false
namespace Sys2Proof.Machine

/-! ### The snapshot and the law (R222, R226, R425, R437) -/

/-- A member of a domain that does not hold LEAD, with a LEAD it knows. -/
def State.follows (s : State) : Bool :=
  (s.icx.phase == .member || s.icx.phase == .suspect || (s.icx.phase == .isolated && s.icx.xfer.isSome)) && s.icx.role != .lead
    && s.icx.leadKnown

/-- The LEAD's snapshot of the running frame, when its EXCHANGE has arrived (R425). -/
def State.leadSnap (s : State) : Option FusedSnap :=
  match (s.icx.members.getD s.icx.lead {}).snap with
  | some (f, n) => if n = s.frame then some f else none
  | none => none

/-- The snapshot that CC0 works from (R425): the LEAD's in a domain, otherwise the own one. -/
def State.ctlSnap (s : State) : FusedSnap :=
  if s.follows then s.leadSnap.getD s.heldSnap else s.heldSnap

/-- A tuning set of the image (R227). -/
def Image.tune (im : Image) (i : Nat) : TuneCfg := (lookupK im.tunes i).getD {}

/-- The module is a member of a subordinate domain (R437). -/
def State.subordinate (s : State) : Bool :=
  s.inDomain && (match s.icx.cfg with | some d => d.parent != 0 | none => false)

/-- MPC is suspended: at most one solver engine, or CRIT for a module that is not LEAD (R216, R226, R529). -/
def State.mpcSuspended (s : State) : Bool :=
  decide (s.slv.availCount ≤ 1) || (s.thm.band == .crit && !(s.inDomain && s.icx.role == .lead))

/-- Age of the newest plan at the frame instant, ns (R226). -/
def State.planAge (s : State) : Option Nat := s.ctl.plan.map fun p => s.tim.frameAt - p.t0

/-- A plan no older than PLAN_MAX_AGE exists (R226). -/
def State.planFresh (s : State) : Bool :=
  match s.planAge with | some a => decide (a ≤ nsOf s.scalars.planMaxAge) | none => false

/-- MPC or DIRECT, with the cause that LAW_CHANGE carries (R226). -/
def State.autoLaw (s : State) : Law × Nat :=
  if s.mpcSuspended then (.direct, 2)
  else if !s.ctl.planSinceEntry then (.direct, 3)
  else if s.planFresh then (.mpc, 0) else (.direct, 1)

/-- The law of the frame (R222). -/
def State.lawNow (s : State) : Law × Nat :=
  match s.sup.mode with
  | .dormant | .service | .start => (.none, 4)
  | .joystick => if s.subordinate then (.parent, 4) else (.joystick, 4)
  | _ => if s.subordinate then (.parent, 4) else s.autoLaw

/-- Codes of the laws (R222). -/
def Law.code : Law → Nat
  | .none => 0 | .mpc => 1 | .direct => 2 | .joystick => 3 | .parent => 4

/-- A change between these laws raises LAW_CHANGE (R226, R262). -/
def lawPair (a b : Law) : Bool := a != b && a != .none && b != .none && (a == .parent || b == .parent || (a != .joystick && b != .joystick))

/-! ### Targets (R229, R232 to R234) -/

/-- The pose of a snapshot (R222). -/
def FusedSnap.pose (f : FusedSnap) : Pose := { n := f.posN, e := f.posE, psi := turnsOf f.heading }

/-- The working origin; before any exists the point of latitude and longitude 0 (R139). -/
def State.originAt (s : State) : Geo := s.fus.origin.getD {}

/-- A point given in 10⁻⁷ degree. The spec gives it no height: it takes the height of the working origin in force, which the origin set from it
keeps (DESIGN CHOICE, assumption log 17). -/
def State.geoOf (s : State) (lat lon : Int) : Geo := { lat := (lat : Rat) / 10000000, lon := (lon : Rat) / 10000000, h := s.originAt.h }

/-- North and east of a WGS 84 point. -/
def State.planeOf (s : State) (g : Geo) : Rat × Rat := let v := toPlane s.originAt g; (v.x, v.y)

/-- Pose of a setpoint. -/
def State.spPose (s : State) (p : Setpoint) : Pose := let v := s.planeOf p.pos; { n := v.1, e := v.2, psi := turnsOf p.hdg }

/-- An angle turned toward another the shorter way by at most a step, turns. -/
def turnToward (cur goal step : Rat) : Rat :=
  let d := wrapTurn (goal - cur)
  if absQ d ≤ step then turnFrac goal else turnFrac (cur + signQ d * step)

/-- Turns by which a heading may turn in a frame at SP_ROT (R227). -/
def TuneCfg.rotStep (t : TuneCfg) : Rat := t.spRot / 360 / 50

/-- The target moves toward the setpoint (R229). -/
def moveTarget (t : TuneCfg) (goal cur : Pose) : Pose :=
  let dn := goal.n - cur.n
  let de := goal.e - cur.e
  let q := dn * dn + de * de
  let step := t.spSpeed / 50
  let psi := turnToward cur.psi goal.psi t.rotStep
  if q ≤ step * step then { n := goal.n, e := goal.e, psi := psi }
  else
    let r := Config.sqrt q
    { n := cur.n + step * dn / r, e := cur.e + step * de / r, psi := psi }

/-- A leg in the earth frame: start, unit vector and length (R231, R232). -/
structure Leg where
  n : Rat := 0
  e : Rat := 0
  un : Rat := 0
  ue : Rat := 0
  len : Rat := 0
deriving DecidableEq, Repr

/-- A leg of the active track. -/
def State.leg (s : State) (i : Nat) : Leg :=
  let at_ := fun k => let w := s.ctl.track.getD k {}; s.planeOf (s.geoOf w.lat w.lon)
  let a := at_ i
  let b := at_ (i + 1)
  let dn := b.1 - a.1
  let de := b.2 - a.2
  let r := Config.sqrt (dn * dn + de * de)
  { n := a.1, e := a.2, un := dn / r, ue := de / r, len := r }

/-- Course of a leg, turns. -/
def Leg.course (l : Leg) : Rat := turnFrac (Config.atan2T l.ue l.un)

/-- Distance along a leg of the projection of a point. -/
def Leg.proj (l : Leg) (n e : Rat) : Rat := (n - l.n) * l.un + (e - l.e) * l.ue

/-- Cross-track error, positive to starboard (R261). -/
def Leg.cross (l : Leg) (n e : Rat) : Rat := (e - l.e) * l.un - (n - l.n) * l.ue

/-- Heading that the rule of a leg asks for; `cur` is the heading setpoint at its start (R233). -/
def Waypoint.goal (w : Waypoint) (l : Leg) (cur : Rat) : Rat :=
  match w.rule with
  | .along => turnFrac (l.course + (toSigned 16 w.offset : Rat) / 65536)
  | .fixed => turnsOf w.offset
  | .keep => cur

/-- Number of legs of the active track. -/
def CtlState.legs (b : CtlState) : Nat := b.track.length - 1

/-- The track point at entry to AUTO_TRACK: the nearest point of the track (R232). -/
def trackEntry (f : FusedSnap) (s : State) : State :=
  let near := fun i =>
    let l := s.leg i
    let a := clampQ 0 l.len (l.proj f.posN f.posE)
    let dn := l.n + a * l.un - f.posN
    let de := l.e + a * l.ue - f.posE
    (a, dn * dn + de * de)
  let best := (List.range s.ctl.legs).foldl (fun (b : Nat × Rat × Rat) i =>
    let x := near i
    if i = 0 ∨ x.2 < b.2.2 then (i, x.1, x.2) else b) (0, 0, 0)
  let h := turnsOf f.heading
  s.modCtl fun b => { b with
    tp := { leg := best.1, along := best.2.1, hdg := h, goal := ((b.track.getD best.1 {}).goal (s.leg best.1) h) } }

/-- Speed of the track point at a distance from the next waypoint: the leg's, until the change to the next leg's speed, slower or faster, has to
begin to be complete at the waypoint (R232). -/
def legSpeed (own next acc rem : Rat) : Rat :=
  let gain := 2 * acc * maxQ 0 rem
  if next ≤ own then minQ own (Config.sqrt (next * next + gain))
  else if next * next - gain ≤ own * own then own
  else Config.sqrt (next * next - gain)

/-- The track point of one frame (R232 to R234): it advances unless it waits, passes waypoints, and stops at the last. -/
def trackStep (dt : Rat) (wait : Bool) (f : FusedSnap) (s : State) : State × Bool :=
  let b := s.ctl
  let t := b.tp
  let l := s.leg t.leg
  let acc := s.scalars.trackAccel
  let waiting := wait && decide (s.scalars.trackLead < t.along - l.proj f.posN f.posE)
  let last := decide (b.legs ≤ t.leg + 1)
  let next := if last then 0 else (b.track.getD (t.leg + 1) {}).speed
  let v := if waiting then t.speed
    else
      let want := legSpeed (b.track.getD t.leg {}).speed next acc (l.len - t.along)
      if want < t.speed then maxQ want (t.speed - acc * dt) else minQ want (t.speed + acc * dt)
  let along := if waiting then t.along else t.along + v * dt
  let hdg := turnToward t.hdg t.goal ((s.image.tune b.tune).spRot / 360 * dt)
  let t := { t with waiting := waiting, speed := v, along := along, hdg := hdg }
  if l.len ≤ along then
    if last then (s.modCtl fun b => { b with tp := { t with along := l.len, speed := 0 } }, false)
    else
      let k := t.leg + 1
      (s.modCtl fun b => { b with tp := { t with leg := k, along := along - l.len, goal := (b.track.getD k {}).goal (s.leg k) hdg } }, true)
  else (s.modCtl fun b => { b with tp := t }, false)

/-- Pose of the track point. -/
def State.trackPose (s : State) : Pose :=
  let l := s.leg s.ctl.tp.leg
  { n := l.n + s.ctl.tp.along * l.un, e := l.e + s.ctl.tp.along * l.ue, psi := s.ctl.tp.hdg }

/-- The track of a frame with its events (R232 to R234). -/
def trackFrame (f : FusedSnap) (s : State) : State :=
  let r := trackStep (1 / 50) true f s
  let s := r.1
  let k := s.ctl.tp.leg
  let s := s.raiseIf r.2 0x0D1A k [BitVec.ofNat 8 k]
  let l := s.leg k
  let p := s.trackPose
  let dn := f.posN - p.n
  let de := f.posE - p.e
  let rad := s.scalars.trackEndRadius
  let ended := decide (s.ctl.legs ≤ k + 1) && s.ctl.tp.along == l.len && s.ctl.tp.speed == 0 && decide (dn * dn + de * de ≤ rad * rad)
  s.modCtl fun b => { b with target := p, tp := { b.tp with xte := l.cross f.posN f.posE, ended := ended } }

/-- The setpoint is set: the origin moves to it (R94, R139, R230). -/
def useSetpoint (p : Setpoint) (s : State) : State :=
  wantOrigin p.pos (s.modCtl fun b => { b with setpoint := some p, spUsed := some (p, s.frame) })

/-- Setpoint, target and heading setpoint formed from the fused pose of the frame of entry (R94, R229, R232). -/
def ctlEntry (f : FusedSnap) (s : State) : State :=
  let s := match s.sup.mode with
    | .autoPos =>
      let s := match s.ctl.setpoint with
        | some _ => s
        | none => useSetpoint { pos := ofPlane s.originAt { x := f.posN, y := f.posE, z := 0 }, hdg := f.heading } s
      s.modCtl fun b => { b with target := f.pose }
    | .autoTrack => let s := trackEntry f s; s.modCtl fun b => { b with target := s.trackPose }
    | .joystick => s.modCtl fun b => { b with holdHdg := turnsOf f.heading }
    | .standby => s.modCtl fun b => { b with target := f.pose }
    | _ => s
  s.modCtl fun b => { b with entry := false }

/-- The target of a frame (R229, R232). -/
def targetFrame (f : FusedSnap) (s : State) : State :=
  if s.ctl.entry then ctlEntry f s
  else match s.sup.mode with
    | .standby => s.modCtl fun b => { b with target := f.pose }
    | .autoPos => (match s.ctl.setpoint with
      | some p => s.modCtl fun b => { b with target := moveTarget (s.image.tune b.tune) (s.spPose p) b.target }
      | none => s)
    | .autoTrack => trackFrame f s
    | _ => s

/-! ### Joystick (R235) -/

/-- Newest value of an analog joystick source: taken while none of its channels is in fault. -/
def refreshJoy (s : State) : State :=
  let chans := s.scalars.joyChans
  let used := chans.filter (· != 255)
  if s.scalars.joySource = 1 && used.all (fun c => (s.ain c).good) then
    let v := fun i => let c := chans.getD i 255; if c = 255 then 0 else clampQ (-1) 1 (s.ain c).value
    let t := used.foldl (fun m c => min m (s.ain c).stamp) s.now
    s.modCtl fun b => { b with joy := { b.joy with
      value := some ({ surge := v 0, sway := v 1, yaw := v 2 }, t)
      stale := b.joy.stale && (match b.joy.value with | some x => decide (t ≤ x.2) | none => false) } }
  else s

/-- The joystick fractions in use: the newest valid value while no older than JOY_MAX_AGE. -/
def State.joyNow (s : State) : Demand :=
  match s.ctl.joy.value with
  | some v => if s.now ≤ v.2 + nsOf s.scalars.joyMaxAge then v.1 else {}
  | none => {}

/-- Later of the newest valid value and the entry to JOYSTICK. -/
def State.joySince (s : State) : Nat := match s.ctl.joy.value with | some v => max v.2 s.ctl.joy.entered | none => s.ctl.joy.entered

/-- JOY_STALE: no valid value for JOY_MAX_AGE in JOYSTICK; ownership ends (R235). -/
def joyStale (s0 : State) : State :=
  let s := refreshJoy s0
  if s.sup.mode == .joystick && !s.ctl.joy.stale && decide (s.joySince + nsOf s.scalars.joyMaxAge < s.now) then
    (s.modCtl fun b => { b with joy := { b.joy with stale := true, owner := none } }).raise 0x0D20 0xFF [BitVec.ofNat 8 s.scalars.joySource]
  else s

/-! ### Non-integral terms (R222) -/

/-- A vector of the earth frame and a yaw moment in the vessel frame: R(ψ)ᵀ applied (R134). -/
def toVessel (psi n e yaw : Rat) : Demand := let b := rotT (-psi) n e; { surge := b.1, sway := b.2, yaw := yaw }

/-- Error of the fused pose from a target: north, east in m, heading in rad (R222). -/
def poseError (f : FusedSnap) (t : Pose) : List Rat := [f.posN - t.n, f.posE - t.e, radOf (wrapTurn (turnsOf f.heading - t.psi))]

/-- The DIRECT law (R222). -/
def directTau (f : FusedSnap) (t : TuneCfg) (target : Pose) : Demand :=
  let psi := turnsOf f.heading
  let v := rotT psi f.u f.v
  let vel := [v.1, v.2, f.r]
  let bias := [f.biasN, f.biasE, f.biasYaw]
  let e := poseError f target
  let c := fun i => -(t.kP.getD i 0 * e.getD i 0) - t.kD.getD i 0 * vel.getD i 0 - bias.getD i 0
  toVessel psi (c 0) (c 1) (c 2)

/-- Demand of a plan at a module time, interpolated between its stages (R239). -/
def Plan.demandAt (p : Plan) (t : Nat) : Demand :=
  let x : Rat := ((t - p.t0 : Nat) : Rat) / 500000000
  let k := floorNat x
  let w := x - (k : Rat)
  let a := (p.stages.getD k ({}, {})).1
  if k + 1 < p.stages.length then (a.scale (1 - w)).add ((p.stages.getD (k + 1) ({}, {})).1.scale w)
  else if k + 1 = p.stages.length && w == 0 then a
  else
    let n := p.stages.length - 1
    Config.planBeyond (p.stages.getD n ({}, {})).1 ((x - (n : Rat)) / 2)

/-- Demand from the parent domain (R437): zero when VALID is 0 or it is older than two frames. -/
def State.parentTau (s : State) : Demand :=
  match s.icx.extDemand with
  | some (d, v, n) => if v && decide (serialDiff s.frame n ≤ 2) then d else {}
  | none => {}

/-- Non-integral terms of a law (R222). -/
def State.niTau (s : State) (f : FusedSnap) (law : Law) (t : TuneCfg) (target : Pose) (hold : Bool) (hdg : Rat) : Demand :=
  match law with
  | .none => {}
  | .mpc => (match s.ctl.plan with | some p => p.demandAt (s.tim.frameAt + 16000000) | none => {})
  | .direct => directTau f t target
  | .joystick =>
    let j := s.joyNow
    let m := fun i => t.joyMax.getD i 0
    { surge := j.surge * m 0, sway := j.sway * m 1
      yaw := if hold then (directTau f t { target with psi := hdg }).yaw else j.yaw * m 2 }
  | .parent => s.parentTau

/-! ### Integrator (R223 to R225) -/

/-- Components of the integrator that a law runs in a mode (R222). -/
def runsInt (law : Law) (mode : Mode) (hold : Bool) : List Bool :=
  match law with
  | .mpc | .direct => let r := mode != .standby; [r, r, r]
  | .joystick => [false, false, hold]
  | _ => [false, false, false]

/-- The integrator's part of the root demand, R(ψ̂)ᵀ·I (R223). -/
def intTau (psi : Rat) (i : Rat × Rat × Rat) : Demand := toVessel psi i.1 i.2.1 i.2.2

/-- One frame of the integrator (R224); a component that does not run is held at 0. -/
def stepInt (t : TuneCfg) (run frozen : List Bool) (e : List Rat) (i : Rat × Rat × Rat) : Rat × Rat × Rat :=
  let c := fun k x =>
    if !run.getD k false then 0
    else if frozen.getD k false then x
    else clampQ (-(t.iMax.getD k 0)) (t.iMax.getD k 0) (x - t.kI.getD k 0 * e.getD k 0 / 50)
  (c 0 i.1, c 1 i.2.1, c 2 i.2.2)

/-- The integrator that makes the first output equal the demand released before (R88). -/
def initInt (psi : Rat) (run : List Bool) (released ni : Demand) : Rat × Rat × Rat :=
  let d := released.sub ni
  let v := rotT psi d.surge d.sway
  let c := fun k x => if run.getD k false then x else 0
  (c 0 v.1, c 1 v.2, c 2 d.yaw)

/-- SAT_TOL of a demand, by component (R227). -/
def TuneCfg.satTol (t : TuneCfg) (d : Demand) : List Rat :=
  [t.satTolAbs.getD 0 0 + t.satTolRel * absQ d.surge, t.satTolAbs.getD 1 0 + t.satTolRel * absQ d.sway,
   t.satTolAbs.getD 2 0 + t.satTolRel * absQ d.yaw]

/-- A slack component exceeds SAT_TOL (R249). -/
def TuneCfg.slackOut (t : TuneCfg) (d slack : Demand) : Bool := (slack.toList.zip (t.satTol d)).any fun p => decide (p.2 < absQ p.1)

/-- Frozen components by what the preceding frame and the snapshot show (R225). -/
def State.freezes (s : State) (f : FusedSnap) : List Bool :=
  let t := s.image.tune s.ctl.tune
  let all := s.ctl.lost || s.ctl.groups.any (fun g => g.sat && g.demand != {}) || t.slackOut s.ctl.root s.ctl.slack
  let pos := f.posState != 1
  [all || pos, all || pos, all || f.hdgState != 1]

/-! ### Blend (R88 to R91, R228) -/

/-- Target of the outgoing controller: the one in force when its mode is, otherwise its own. -/
def State.outTarget (s : State) : Pose := if s.ctl.outgoing.mode == s.sup.mode then s.ctl.target else s.ctl.outgoing.target

/-- Demand of the outgoing controller, which runs on (R89). -/
def State.outDemand (s : State) (f : FusedSnap) : Demand :=
  let o := s.ctl.outgoing
  let i := o.int.getD (s.ctl.intN, s.ctl.intE, s.ctl.intYaw)
  (s.niTau f o.law (s.image.tune o.tune) s.outTarget o.hold o.hdg).add (intTau (turnsOf f.heading) i)

/-- A blend starts (R88, R89, R91): the demand released before is frozen when the outgoing controller cannot run. -/
def startBlend (tBlend : Rat) (cannotRun : Bool) (o : Outgoing) (s : State) : State :=
  let frozen := cannotRun || s.sup.blend.active
  let s := s.modCtl fun b => { b with outgoing := o }
  let s := s.modSup fun b => { b with blend := { active := true, frozen := frozen, dFrozen := s.ctl.root, startFrame := s.frame, tBlend := tBlend
                                                 framesLeft := ceilNat (tBlend * 50) } }
  s.raise 0x0129 0xFF (f32Bytes tBlend ++ [BitVec.ofNat 8 (b2n frozen)])

/-- The outgoing controller as it is now. -/
def State.asOutgoing (s : State) : Outgoing :=
  { mode := s.sup.mode, hold := s.sup.hdgHold, law := s.ctl.law, tune := s.ctl.tune, int := some (s.ctl.intN, s.ctl.intE, s.ctl.intYaw)
    target := s.ctl.target, hdg := s.ctl.holdHdg, goal := s.ctl.setpoint, tp := s.ctl.tp }

/-- The outgoing controller runs on (R89): its target goes on toward its setpoint, or its track point along the track. -/
def runOutgoing (f : FusedSnap) (s : State) : State :=
  let o := s.ctl.outgoing
  if !s.sup.blend.active || s.sup.blend.frozen || o.mode == s.sup.mode then s
  else
    let put := fun (g : Outgoing → Outgoing) => s.modCtl fun b => { b with outgoing := g b.outgoing }
    match o.mode with
    | .autoPos => (match o.goal with
      | some p => put fun x => { x with target := moveTarget (s.image.tune o.tune) (s.spPose p) x.target }
      | none => s)
    | .autoTrack =>
      let t := (trackStep (1 / 50) true f (s.modCtl fun b => { b with tp := o.tp, tune := o.tune })).1
      put fun x => { x with tp := t.ctl.tp, target := t.trackPose }
    | _ => s

/-- The blended root demand of a frame; at s = 1 the blend ends (R89). -/
def blendDemand (f : FusedSnap) (dIn : Demand) (s : State) : Demand × State :=
  let b := s.sup.blend
  if !b.active then (dIn, s)
  else
    let k : Nat := (s.frame + 2 ^ 32 - b.startFrame) % 2 ^ 32
    let w : Rat := if b.tBlend = 0 then 1 else minQ 1 ((k : Rat) / 50 / b.tBlend)
    let dOut := if b.frozen then b.dFrozen else s.outDemand f
    let d := (dOut.scale (1 - w)).add (dIn.scale w)
    let left := ceilNat ((1 - w) * b.tBlend * 50)
    if 1 ≤ w then
      (d, ((s.modCtl fun c => { c with outgoing := {} }).modSup fun c => { c with blend := {} }).raise 0x012A 0xFF (leBytes 4 b.startFrame))
    else (d, s.modSup fun c => { c with blend := { c.blend with framesLeft := left } })

/-- The law of the frame takes effect (R226): a change between MPC and DIRECT in AUTO_POS and AUTO_TRACK is a handover. -/
def applyLaw (s : State) : State :=
  let n := s.lawNow
  let old := s.ctl.law
  let auto := s.sup.mode == .autoPos || s.sup.mode == .autoTrack
  let hand := lawPair old n.1 && old != .parent && n.1 != .parent && auto && !s.ctl.entry
  let o := s.asOutgoing
  let s := if hand then startBlend s.sup.tBlend (n.2 == 2) o s else s
  let s := s.modCtl fun b => { b with law := n.1, intInit := b.intInit || hand }
  let cause := if old == .parent || n.1 == .parent then 4 else n.2
  s.raiseIf (lawPair old n.1) 0x0D16 0xFF [BitVec.ofNat 8 old.code, BitVec.ofNat 8 n.1.code, BitVec.ofNat 8 cause]

/-- The root demand of a frame (R222 to R229). -/
def rootDemand (f : FusedSnap) (s0 : State) : Demand × State :=
  let frozen := s0.freezes f
  let s := refreshJoy (applyLaw s0)
  let s := runOutgoing f (targetFrame f s)
  let t := s.image.tune s.ctl.tune
  let psi := turnsOf f.heading
  let hold := s.sup.hdgHold
  let ni := s.niTau f s.ctl.law t s.ctl.target hold s.ctl.holdHdg
  let run := runsInt s.ctl.law s.sup.mode hold
  let e := if s.ctl.law == .joystick then [0, 0, (poseError f { s.ctl.target with psi := s.ctl.holdHdg }).getD 2 0] else poseError f s.ctl.target
  let old := (s.ctl.intN, s.ctl.intE, s.ctl.intYaw)
  let i := if s.ctl.intInit then initInt psi run s.ctl.root ni else stepInt t run frozen e old
  let o := s.ctl.outgoing
  let eo := poseError f (if o.law == .joystick then { s.outTarget with psi := o.hdg } else s.outTarget)
  let s := s.modCtl fun b => { b with
    intN := i.1, intE := i.2.1, intYaw := i.2.2, intInit := false, frozen := frozen
    outgoing := { b.outgoing with int := b.outgoing.int.map (stepInt (s.image.tune o.tune) (runsInt o.law o.mode o.hold) frozen eo) } }
  blendDemand f (ni.add (intTau psi i)) s

/-- A tuning set written takes effect at the frame instant (R228); `handover` says that a mode change does too. -/
def tuneInstant (handover : Bool) (s : State) : State :=
  match s.ctl.tuneNext with
  | none => s
  | some (n, sess) =>
    let old := s.ctl.tune
    let s := s.modCtl fun b => { b with tuneNext := none }
    if n = old then s
    else
      let blends := !handover && (s.ctl.law == .direct || (s.ctl.law == .joystick && s.sup.hdgHold))
      let s := if blends then startBlend 1 false { s.asOutgoing with int := none } s else s
      (s.modCtl fun b => { b with tune := n }).raise 0x0D17 sess [BitVec.ofNat 8 old, BitVec.ofNat 8 n]

/-! ### Requests (R227, R230, R231, R235, R241) -/

/-- Bytes of SETPOINT (R262). -/
def spBytes (p : Setpoint) (now : Bool) : Bytes :=
  leBytes 4 (wordOfInt (roundEven (p.pos.lat * 10000000))).toNat ++ leBytes 4 (wordOfInt (roundEven (p.pos.lon * 10000000))).toNat
    ++ leBytes 2 p.hdg ++ [BitVec.ofNat 8 (b2n now)]

/-- A new setpoint by command (R230). -/
def newSetpoint (w : WCtx) (p : Setpoint) (s : State) : WriteOut :=
  let v := s.planeOf p.pos
  let f := s.ctlSnap
  let dn := v.1 - f.posN
  let de := v.2 - f.posE
  let m := s.scalars.spMaxDist
  if !f.posValid || decide (m * m < dn * dn + de * de) then .refused s 1
  else
    let auto := s.sup.mode == .autoPos
    let s := s.modCtl fun b => { b with spStored := some (p, s.frame), spNext := if auto then some p else b.spNext }
    let s := if auto then wantOrigin p.pos s else s
    .done (s.raise 0x0D18 w.session (spBytes p auto)) 0

/-- SP_CMD APPLY (R230). -/
def spApply (w : WCtx) (s : State) : WriteOut := newSetpoint w { pos := s.geoOf s.ctl.spLat s.ctl.spLon, hdg := s.ctl.spHdg } s

/-- The setpoint a MOVE starts from (R230): the one in force in AUTO_POS, otherwise the later of the stored and the used one. -/
def State.moveBase (s : State) : Option Setpoint :=
  if s.sup.mode == .autoPos then s.ctl.setpoint
  else match s.ctl.spStored, s.ctl.spUsed with
    | some a, some b => some (if serialLater b.2 a.2 then b.1 else a.1)
    | some a, none => some a.1
    | none, some b => some b.1
    | none, none => none

/-- SP_CMD MOVE (R230). -/
def spMove (w : WCtx) (s : State) : WriteOut :=
  match s.moveBase with
  | none => .refused s 1
  | some p =>
    let g := ofPlane p.pos { x := s.ctl.spMoveN, y := s.ctl.spMoveE, z := 0 }
    newSetpoint w { pos := { g with h := p.pos.h }, hdg := s.ctl.spHdg } s

/-- A write of SP_CMD. -/
def spCommand (w : WCtx) (v : Word) (s : State) : WriteOut :=
  if bit v 0 then spApply w s else if bit v 1 then spMove w s else .done s 0

/-- A write of TUNE_SEL (R227, R228). -/
def tuneSelect (w : WCtx) (v : Word) (s : State) : WriteOut :=
  let n := field v 2 0
  if (lookupK s.image.tunes n).isNone then .refused s 1
  else .done (s.modCtl fun b => { b with tuneNext := some (n, w.session) }) 0

/-- A session owns the joystick and has written within JOY_MAX_AGE (R235). -/
def State.joyOwner (s : State) : Option Nat :=
  match s.ctl.joy.owner, s.ctl.joy.value with
  | some o, some v => if s.now ≤ v.2 + nsOf s.scalars.joyMaxAge then some o else none
  | _, _ => none

/-- Signed fraction of a field of JOY_DEMAND, limited to −1 (R235). -/
def joyField (v : Word) (hi lo : Nat) : Rat := ((max (toSigned 10 (field v hi lo)) (-511) : Int) : Rat) / 511

/-- A write of JOY_DEMAND (R235). -/
def joyWrite (w : WCtx) (v : Word) (s : State) : WriteOut :=
  if s.scalars.joySource != 0 then .refused s 1
  else if s.sup.mode != .joystick then .done s 0
  else if s.joyOwner.isSome && s.joyOwner != some w.session then .refused s 3
  else if bit v 31 then .done (s.modCtl fun b => { b with joy := { b.joy with owner := none } }) 0
  else
    .done (s.modCtl fun b => { b with joy := { b.joy with
      owner := some w.session, stale := false
      value := some ({ surge := joyField v 9 0, sway := joyField v 19 10, yaw := joyField v 29 20 }, s.now) } }) 0

/-- A session that ends releases the joystick (R235). -/
def joyRelease (sess : Nat) (s : State) : State :=
  if s.ctl.joy.owner == some sess then s.modCtl fun b => { b with joy := { b.joy with owner := none } } else s

/-- TRACK_CMD COMMIT may be carried out (R231). -/
def State.trackOk (s : State) (n : Nat) : Bool :=
  let w := fun i => s.ctl.staging.getD i {}
  let near := fun i =>
    let a := s.geoOf (w i).lat (w i).lon
    let b := s.geoOf (w (i + 1)).lat (w (i + 1)).lon
    let d := toPlane a b
    let q := d.x * d.x + d.y * d.y
    decide (1 ≤ q) && decide (q ≤ 100000 * 100000)
  s.sup.mode != .autoTrack && decide (2 ≤ n) && decide (n ≤ 64) &&
    (List.range (n - 1)).all fun i => decide (1 / 20 ≤ (w i).speed) && decide ((w i).speed ≤ 1543 / 1000) && near i

/-- A write of TRACK_CMD (R231). -/
def trackCommand (w : WCtx) (v : Word) (s : State) : WriteOut :=
  if bit v 0 then
    let n := field v 14 8
    if s.trackOk n then .done (s.modCtl fun b => { b with trackNext := some (b.staging.take n, w.session) }) 0 else .refused s 1
  else if bit v 1 then
    if s.sup.mode == .autoTrack then .refused s 1 else .done (s.modCtl fun b => { b with trackNext := some ([], w.session) }) 0
  else .done s 0

/-- A committed or cleared track takes effect at the frame instant (R231). -/
def trackInstant (s : State) : State :=
  match s.ctl.trackNext with
  | none => s
  | some (t, sess) =>
    let s := s.modCtl fun b => { b with track := t, trackNext := none }
    s.raiseIf (!t.isEmpty) 0x0D19 sess [BitVec.ofNat 8 t.length]

/-- A write of THR_ENABLE (R241). -/
def thrEnable (v : Word) (s : State) : WriteOut :=
  let t := s.modCtl fun b => { b with thrEnable := BitVec.ofNat 16 v.toNat }
  let left := t.thrusters.any fun i => match t.thrCfg i with | some c => t.thrReason i c == .none | none => false
  if releasesThrust s.sup.mode && !left then .refused s 1 else .done t 0

/-! ### Registers (R261) -/

/-- A waypoint of the staging buffer changed. -/
def modWay (f : Waypoint → Waypoint) (s : State) : State := s.modCtl fun b => { b with staging := updAt b.staging b.wpSel f }

/-- Code of a heading rule. -/
def HdgRule.code : HdgRule → Nat
  | .along => 0 | .fixed => 1 | .keep => 2

/-- Codes of CONSEQ_STATE (R261). -/
def ConseqPhase.code : ConseqPhase → Nat
  | .notReady => 0 | .ok => 1 | .alarm => 2 | .suspended => 3

/-- Heading index of the smallest entry of an envelope. -/
def worstHeading (e : List Rat) : Nat :=
  (e.zipIdx.foldl (fun (b : Nat × Rat) x => if x.2 = 0 ∨ x.1 < b.2 then (x.2, x.1) else b) (0, 0)).1

/-- CTL registers. A selected record shows one frame (R261). -/
def ctlRead (s : State) (off : Nat) : Option Word :=
  let b := s.ctl
  let w := b.staging.getD b.wpSel {}
  let t := b.thrShown.getD b.thrSel {}
  let g := b.groupShown.getD b.grpSel {}
  let fg := b.fail.getD b.fgSel {}
  let bus := b.busShown.getD b.busSel {}
  let stale := b.plan.isSome && !s.planFresh
  match off with
  | 0x10 => some (pack [(b.law.code, 0, 3), (b2n b.deadline, 3, 1), (b2n b.lost, 4, 1),
      (b2n (b.groups.any (·.sat) || (s.image.tune b.tune).slackOut b.root b.slack), 5, 1), (b2n (b.frozen.any id), 6, 1), (b2n stale, 7, 1),
      (b2n b.holdLast, 8, 1), (b.conseq.code, 9, 2), (b.tune, 11, 3), (b2n b.fallbackAlloc, 14, 1), (b2n s.joyOwner.isSome, 15, 1),
      (b.dlRun, 16, 8), (s.joyOwner.getD 0, 24, 5)])
  | 0x14 => some (f32Of b.root.surge)
  | 0x18 => some (f32Of b.root.sway)
  | 0x1C => some (f32Of b.root.yaw)
  | 0x20 => some (f32Of b.slack.surge)
  | 0x24 => some (f32Of b.slack.sway)
  | 0x28 => some (f32Of b.slack.yaw)
  | 0x2C => some (f32Of b.intN)
  | 0x30 => some (f32Of b.intE)
  | 0x34 => some (f32Of b.intYaw)
  | 0x38 => some (f32Of b.target.n)
  | 0x3C => some (f32Of b.target.e)
  | 0x40 => some (wordOf (bamOf b.target.psi))
  | 0x44 => some (wordOfInt b.spLat)
  | 0x48 => some (wordOfInt b.spLon)
  | 0x4C => some (wordOf b.spHdg)
  | 0x50 => some (f32Of b.spMoveN)
  | 0x54 => some (f32Of b.spMoveE)
  | 0x58 => some 0
  | 0x5C => some (wordOf (match b.tuneNext with | some x => x.1 | none => b.tune))
  | 0x60 => some 0
  | 0x64 => some (pack [(match s.planAge with | some a => if 65534 < a / 1000000 then 0xFFFF else a / 1000000 | none => 0xFFFF, 0, 16),
      (match b.plan with | some p => p.stages.length - 1 | none => 0, 16, 8), (b.planStatus, 24, 4)])
  | 0x68 => some (wordOf b.mpcFail)
  | 0x6C => some (pack [(b2n (!b.track.isEmpty), 0, 1), (b.tp.leg, 8, 6), (b.track.length, 16, 7), (b2n b.tp.waiting, 23, 1)])
  | 0x70 => some (f32Of b.tp.xte)
  | 0x74 => some (f32Of b.tp.speed)
  | 0x78 => some (wordOf b.wpSel)
  | 0x7C => some (wordOfInt w.lat)
  | 0x80 => some (wordOfInt w.lon)
  | 0x84 => some (f32Of w.speed)
  | 0x88 => some (pack [(w.offset, 0, 16), (w.rule.code, 16, 2)])
  | 0x8C => some 0
  | 0x90 => some (wordOf b.thrSel)
  | 0x94 => some (match s.thrCfg b.thrSel with
      | some c => pack [(b2n t.available, 0, 1), (t.reason.code, 1, 3), (c.type, 4, 2), (c.bus, 6, 3), (c.group, 16, 6)]
      | none => pack [(3, 4, 2)])
  | 0x98 => some (f32Of t.fx)
  | 0x9C => some (f32Of t.fy)
  | 0xA0 => some (f32Of t.cmdT)
  | 0xA4 => some (wordOf t.cmdAz)
  | 0xA8 => some (f32Of t.tCap)
  | 0xAC => some (wordOf b.grpSel)
  | 0xB0 => some (match s.groupCfg b.grpSel with
      | some c => pack [(if b.grpSel = 0 then 0 else c.parent, 0, 6), (b2n c.external, 6, 1), (b2n g.sat, 7, 1), (g.nodeStatus, 8, 4),
          (b2n (b.grpSel == 0), 12, 1), (c.children.length, 16, 6), (b2n g.stale, 22, 1)]
      | none => 0)
  | 0xB4 => some (f32Of g.demand.surge)
  | 0xB8 => some (f32Of g.demand.sway)
  | 0xBC => some (f32Of g.demand.yaw)
  | 0xC0 => some (pack [(b.fgSel, 0, 6), (b.fgHdg, 8, 6)])
  | 0xC4 => some (pack [(b2n (lookupK s.image.failGroups b.fgSel).isSome, 0, 1), (b2n fg.alarm, 1, 1), (b2n fg.stale, 2, 1), (worstHeading fg.env, 8, 6)])
  | 0xC8 => some (f32Of (fg.env.getD b.fgHdg 0))
  | 0xCC => some (f32Of fg.util)
  | 0xD0 => some (pack [(b.worstFg, 0, 6), (b.conseqRun, 8, 8), (b.cycleMs, 16, 16)])
  | 0xD4 => some (wordOf b.busSel)
  | 0xD8 => some (f32Of bus.avail)
  | 0xDC => some (f32Of bus.used)
  | 0xE0 => some (match lookupK s.image.buses b.busSel with | some c => pack [(c.source, 0, 2), (b2n bus.stale, 2, 1)] | none => 0)
  | 0xE4 => some (wordOf b.thrEnable.toNat)
  | 0xE8 => some (wordOf b.nodeFail)
  | 0xEC => some (wordOf b.satFrames)
  | 0xF0 => some (wordOf b.dlMiss)
  | 0xF4 => some (f32Of b.realised.surge)
  | 0xF8 => some (f32Of b.realised.yaw)
  | 0xFC => some (f32Of b.realised.sway)
  | _ => none

/-- Read-clear registers of CTL. -/
def ctlClear (off : Nat) (s : State) : State :=
  match off with
  | 0x68 => s.modCtl fun b => { b with mpcFail := 0 }
  | 0xE8 => s.modCtl fun b => { b with nodeFail := 0 }
  | 0xEC => s.modCtl fun b => { b with satFrames := 0 }
  | 0xF0 => s.modCtl fun b => { b with dlMiss := 0 }
  | _ => s

/-- Writable registers of CTL. -/
def ctlWritable (off : Nat) : Bool :=
  [0x44, 0x48, 0x4C, 0x50, 0x54, 0x58, 0x5C, 0x60, 0x78, 0x7C, 0x80, 0x84, 0x88, 0x8C, 0x90, 0xAC, 0xC0, 0xD4, 0xE4].contains off

/-- Writes to CTL (R227, R230, R231, R235, R241, R261). -/
def ctlWrite (w : WCtx) (off : Nat) (v : Word) (s : State) : WriteOut :=
  let op := needRole w roleOperator s
  match off with
  | 0x44 => op (.done (s.modCtl fun b => { b with spLat := signedOf v }) 0)
  | 0x48 => op (.done (s.modCtl fun b => { b with spLon := signedOf v }) 0)
  | 0x4C => op (.done (s.modCtl fun b => { b with spHdg := field v 15 0 }) 0)
  | 0x50 => op (f32Register v (fun _ => true) fun x => s.modCtl fun b => { b with spMoveN := x })
  | 0x54 => op (f32Register v (fun _ => true) fun x => s.modCtl fun b => { b with spMoveE := x })
  | 0x58 => op (spCommand w v s)
  | 0x5C => op (tuneSelect w v s)
  | 0x60 => op (joyWrite w v s)
  | 0x78 => op (.done (s.modCtl fun b => { b with wpSel := field v 5 0 }) 0)
  | 0x7C => op (.done (modWay (fun y => { y with lat := signedOf v }) s) 0)
  | 0x80 => op (.done (modWay (fun y => { y with lon := signedOf v }) s) 0)
  | 0x84 => op (if !f32Finite v then .badValue else if f32Val v ≤ 1543 / 1000 then .done (modWay (fun y => { y with speed := f32Val v }) s) 0
      else .range)
  | 0x88 => op (match field v 17 16 with
      | 0 => .done (modWay (fun y => { y with offset := field v 15 0, rule := .along }) s) 0
      | 1 => .done (modWay (fun y => { y with offset := field v 15 0, rule := .fixed }) s) 0
      | 2 => .done (modWay (fun y => { y with offset := field v 15 0, rule := .keep }) s) 0
      | _ => .range)
  | 0x8C => op (trackCommand w v s)
  | 0x90 => .done (s.modCtl fun b => { b with thrSel := field v 3 0 }) 0
  | 0xAC => .done (s.modCtl fun b => { b with grpSel := field v 5 0 }) 0
  | 0xC0 => if field v 13 8 ≤ 35 then .done (s.modCtl fun b => { b with fgSel := field v 5 0, fgHdg := field v 13 8 }) 0 else .range
  | 0xD4 => .done (s.modCtl fun b => { b with busSel := field v 2 0 }) 0
  | _ => op (thrEnable v s)

end Sys2Proof.Machine
end

