-- ==== Sys2Proof/Machine/Allocation.lean ====
section
/-!
DEFINITION. The allocation tree and the commands formed from it (R244 to R255): node problems, their results, saturation, the closed
form of R250, command formation and the end of the stage.
-/
set_option autoImplicit false
namespace Sys2Proof.Machine

/-! ### Quadratic programs as data vectors (R178, R190) -/

/-- A problem by its entries: H, q, A, b, C with its bounds, and the bounds of the variables (R178). -/
structure Qp where
  h : Nat → Nat → Rat
  q : Nat → Rat
  a : Nat → Nat → Rat
  b : Nat → Rat
  c : Nat → Nat → Rat
  l : Nat → Rat
  u : Nat → Rat
  xl : Nat → Rat
  xu : Nat → Rat

/-- The data vector of a problem in a structure's order, in binary64 (R190). -/
def Qp.data (p : Qp) (t : StructCfg) : List F64 :=
  ((patEntries t.n t.patH).map (fun e => p.h e.1 e.2) ++ (List.range t.n).map p.q ++ (patEntries t.n t.patA).map (fun e => p.a e.1 e.2) ++
    (List.range t.mE).map p.b ++ (patEntries t.n t.patC).map (fun e => p.c e.1 e.2) ++ (List.range t.mI).map p.l ++ (List.range t.mI).map p.u ++
    (List.range t.n).map p.xl ++ (List.range t.n).map p.xu).map fOf

/-- The absent bound (R178). -/
def absent : Rat := 100000000000000000000

/-- A slot is bound to a structure by its owner where it is not yet (R186, R247). -/
def ensureBound (o : SlotOwner) (slot st : Nat) (s : State) : State :=
  let k := s.slv.slot slot
  if k.phase == .free || k.phase == .faulted || (k.phase == .bound && k.struct != st) then bindSlot o slot st s else s

/-! ### Node problems (R246, R247) -/

/-- A variable of a node: child slot and component, or a slack. -/
inductive NodeVar where
  | force (child : Nat) (thr : Nat) (comp : Nat)
  | group (child : Nat) (grp : Nat) (comp : Nat)
  | plus (comp : Nat)
  | minus (comp : Nat)
deriving DecidableEq, Repr

/-- Variables of a node in order: the children's in the order of the GROUP record, s⁺, s⁻ (R246). -/
def GroupCfg.vars (c : GroupCfg) : List NodeVar :=
  (c.children.zipIdx.flatMap fun e =>
    if e.1.isGroup then (List.range 3).map (NodeVar.group e.2 e.1.index) else (List.range 2).map (NodeVar.force e.2 e.1.index)) ++
  (List.range 3).map NodeVar.plus ++ (List.range 3).map NodeVar.minus

/-- Inequality rows of a node: child and row of the child, ten for a thruster and 32 for a group (R246). -/
def GroupCfg.rows (c : GroupCfg) : List (ChildCfg × Nat) :=
  c.children.flatMap fun ch => (List.range (if ch.isGroup then 32 else 10)).map fun k => (ch, k)

/-- Weights W_c and V_c of a child slot (R227, R246). -/
def TuneCfg.weight (t : TuneCfg) (g child : Nat) : Rat × Rat :=
  match t.weights.find? (fun w => w.group == g && w.child == child) with | some w => (w.w, w.v) | none => (1, 0)

/-- Scale of a component (R245). -/
def State.scaleOf (s : State) (k : Nat) : Rat := if k = 2 then s.scalars.mRef else s.scalars.fRef

/-- Column of a thruster's force component in the equalities, scaled (R246). -/
def State.forceCol (s : State) (i comp : Nat) : Demand :=
  match s.thrCfg i with
  | some c => s.scaled (s.momentOf c (if comp = 0 then (1, 0) else (0, 1)))
  | none => {}

/-- Availability has changed in a group's subtree (R246). -/
def changedBelow (s : State) : Nat → Nat → Bool
  | 0, _ => false
  | k + 1, g => match s.groupCfg g with
    | some c => c.children.any fun ch => if ch.isGroup then changedBelow s k ch.index else (s.ctl.thruster ch.index).changed
    | none => false

/-- Demand a child had in the preceding frame, scaled; 0 after a change of availability (R246). -/
def State.prevScaled (s : State) : NodeVar → Rat
  | .force _ i k =>
    let t := s.ctl.thruster i
    if t.changed then 0 else (if k = 0 then t.fx else t.fy) / s.scalars.fRef
  | .group _ g k => if changedBelow s 64 g then 0 else (s.scaled (s.ctl.group g).demand).toList.getD k 0
  | _ => 0

/-- Coefficient of a variable in equality row r (R246). -/
def State.nodeEq (s : State) (r : Nat) : NodeVar → Rat
  | .force _ i k => (s.forceCol i k).toList.getD r 0
  | .group _ _ k => if k = r then 1 else 0
  | .plus k => if k = r then 1 else 0
  | .minus k => if k = r then -1 else 0

/-- The problem of a node (R246). -/
def State.nodeQp (s : State) (g : Nat) (c : GroupCfg) : Qp :=
  let t := s.image.tune s.ctl.tune
  let vs := c.vars
  let rows := c.rows
  let d := (s.scaled (s.ctl.group g).demand).toList
  let var := fun i => vs.getD i (.plus 0)
  let poly := fun i => match s.thrCfg i with | some x => polyRows (s.polygon i x) | none => polyRows []
  let f2 := s.scalars.fRef * s.scalars.fRef
  let bound := fun (r : Nat) => match rows[r]? with
    | none => (-absent, absent)
    | some (ch, k) =>
      if ch.isGroup then
        (if k < s.image.dirs.length then (-absent, (s.ctl.group ch.index).facets.getD k 0) else (-absent, absent))
      else match (poly ch.index)[k]? with | some x => (x.2.1, x.2.2) | none => (-absent, absent)
  { h := fun i j => if i != j then 0 else match var i with
      | .force ch _ _ => let w := t.weight g ch; (w.1 + w.2) / f2
      | .group ch _ _ => let w := t.weight g ch; w.1 + w.2
      | _ => t.slackQuad
    q := fun i => match var i with
      | .force ch x k => -((t.weight g ch).2 * s.prevScaled (.force ch x k) / s.scalars.fRef)
      | .group ch x k => -((t.weight g ch).2 * s.prevScaled (.group ch x k))
      | _ => t.slackLin
    a := fun r i => s.nodeEq r (var i)
    b := fun r => d.getD r 0
    c := fun r i => match rows[r]?, var i with
      | some (ch, k), .force _ x comp =>
        if ch.isGroup || ch.index != x then 0
        else (match (poly x)[k]? with | some y => (if comp = 0 then y.1.1 else y.1.2) | none => 0)
      | some (ch, k), .group _ x comp =>
        if !ch.isGroup || ch.index != x then 0
        else (match s.image.dirs[k]? with | some n => [n.1, n.2.1, n.2.2].getD comp 0 | none => 0)
      | _, _ => 0
    l := fun r => (bound r).1
    u := fun r => (bound r).2
    xl := fun i => match var i with | .plus _ => 0 | .minus _ => 0 | _ => -absent
    xu := fun _ => absent }

/-- A node fails: its children keep their previous demands and it reports SAT (R248). -/
def failNode (g status : Nat) (s : State) : State :=
  let s := modGroup g (fun x => { x with solved := true, failed := true, nodeStatus := status }) s
  (s.modCtl fun b => { b with nodeFail := satInc 32 b.nodeFail }).raise 0x0D15 g [BitVec.ofNat 8 status]

/-- A node is submitted, due by frame time 11 ms (R247); a refused submission is a failed node (assumption log 21). -/
def submitNode (g : Nat) (c : GroupCfg) (s : State) : State :=
  let s := ensureBound .cc0 c.slot c.struct s
  let t := (s.structAt c.struct).getD {}
  let s := submitData .cc0 { slot := c.slot, frame := s.frame, latestStart := s.tim.frameAt + 11000000 } ((s.nodeQp g c).data t) s
  if s.slv.mailbox = 0 then modGroup g (fun x => { x with tag := some (s.slv.slot c.slot).tag }) s else failNode g 5 s

/-- LOCAL groups of the image with their depth. -/
def State.localGroups (s : State) : List (Nat × Nat) :=
  (indices 64 fun g => match s.groupCfg g with | some c => !c.external | none => false).map fun g => (g, groupDepth s.image 64 g)

/-- Least depth at which a LOCAL group is not solved (R247). -/
def State.openDepth (s : State) : Option Nat :=
  ((s.localGroups.filter fun e => !(s.ctl.group e.1).solved).map (·.2)).foldl (fun m d => match m with
    | none => some d
    | some x => some (min x d)) none

/-- All nodes of a level are submitted at once (R247). -/
def submitLevel (d : Nat) (s : State) : State :=
  (s.localGroups.filter fun e => e.2 == d && !(s.ctl.group e.1).solved).foldl (fun s e =>
    match s.groupCfg e.1 with | some c => submitNode e.1 c s | none => s) s

/-- Some node of a level is outstanding. -/
def State.levelWaits (s : State) (d : Nat) : Bool :=
  s.localGroups.any fun e => e.2 == d && (s.ctl.group e.1).tag.isSome && !(s.ctl.group e.1).solved

/-! ### Saturation (R249) -/

/-- A group's SAT before its children's (R248 to R250). -/
def State.ownSat (s : State) (g : Nat) (c : GroupCfg) : Bool :=
  let x := s.ctl.group g
  if c.external then x.extSat else x.failed || (s.image.tune s.ctl.tune).slackOut x.demand x.slack

/-- Component of the largest slack (R262). -/
def worstComp (d : Demand) : Nat :=
  (d.toList.zipIdx.foldl (fun (b : Nat × Rat) x => if b.2 < absQ x.1 then (x.2, absQ x.1) else b) (0, 0)).1

/-- A group's SAT of the frame with its event (R249). -/
def satGroup (g : Nat) (c : GroupCfg) (s : State) : State :=
  let x := s.ctl.group g
  let now := s.ownSat g c || c.children.any fun ch => ch.isGroup && (s.ctl.group ch.index).sat
  let n := if now then satInc 32 x.satFrames else 0
  let s := modGroup g (fun y => { y with sat := now, satFrames := n }) s
  if now && !x.sat then s.raise 0x0D13 g (f32Bytes (x.slack.toList.getD (worstComp x.slack) 0) ++ [BitVec.ofNat 8 (worstComp x.slack)])
  else s.raiseIf (x.sat && !now) 0x0D14 g (leBytes 4 x.satFrames)

/-- SAT of every group, bottom-up, and the frames with any (R249). -/
def saturation (s : State) : State :=
  let s := s.groupsUp.foldl (fun s g => match s.groupCfg g with | some c => satGroup g c s | none => s) s
  s.modCtl fun b => { b with satFrames := if b.groups.any (·.sat) then satInc 32 b.satFrames else b.satFrames }

/-! ### Commands (R61, R252) -/

/-- The hold value of a thruster (R61). -/
def holdThr (i : Nat) (s : State) : State :=
  modThr i (fun t => { t with cmdT := 0, output := 0, cmdAz := s.sup.holdAz.getD i 0 }) s

/-- The command of an available thruster from its allocated force (R252). -/
def formThr (i : Nat) (c : ThrCfg) (s : State) : State :=
  let t := s.ctl.thruster i
  let azi := c.type == 0
  let fixed := s.fixedAz c
  let t0 := if azi then Config.sqrt (t.fx * t.fx + t.fy * t.fy) else t.fx * Config.cosT fixed + t.fy * Config.sinT fixed
  let az := if !azi then turnFrac fixed
    else if t0 < c.tMax / 200 then turnsOf t.cmdAz else turnFrac (Config.atan2T t.fy t.fx)
  let step := c.tRate / 50
  let t1 := clampQ (t.cmdT - step) (t.cmdT + step) t0
  let t2 := if azi then t1 * maxQ 0 (Config.cosT (az - s.azFb i c)) else t1
  modThr i (fun x => { x with cmdT := t2, cmdAz := bamOf az, output := c.outOf t2 }) s

/-- |T|^1.5 (R242). -/
def powT (t : Rat) : Rat := absQ t * Config.sqrt (absQ t)

/-- BUS_USED: power of the staged thrusts (R261). -/
def busUse (s : State) : State :=
  s.forN 8 fun s b => modBus b (fun x => { x with used := sumQ (s.thrusters.map fun i => match s.thrCfg i with
    | some c => if c.bus = b then c.kPow * powT (s.ctl.thruster i).cmdT else 0
    | none => 0) }) s

/-- Every thruster's command is formed; one that is unavailable or inhibited has the hold value (R61, R223, R252). -/
def formCommands (s : State) : State :=
  busUse (s.forN 16 fun s i => match s.thrCfg i with
    | some c => if (s.ctl.thruster i).available && !s.inhibited then formThr i c s else holdThr i s
    | none => s)

/-- The commands just formed are those that CONTROL_LOST goes back to (R255). -/
def keepCommands (s : State) : State :=
  s.modCtl fun b => { b with thr := b.thr.map fun t => { t with kept := (t.cmdT, t.cmdAz, t.output) } }

/-! ### End of the stage (R247, R254, R255) -/

/-- A frame that meets the deadline (R254, R255). -/
def metDeadline (s : State) : State :=
  let run := s.ctl.metRun + 1
  let s := s.modCtl fun b => { b with deadline := false, dlRun := 0, holdLast := false, metRun := if b.lost then run else 0 }
  if s.ctl.lost && decide (50 ≤ run) then
    (s.modCtl fun b => { b with lost := false, handed := false, metRun := 0 }).raise 0x0D12 0xFF (leBytes 4 (s.frame + 2 ^ 32 - s.ctl.lostFrame))
  else s

/-- The frame's allocation has ended: a request reads the records as they are now (R261). -/
def showCtl (s : State) : State := s.modCtl fun b => { b with thrShown := b.thr, groupShown := b.groups, busShown := b.buses }

/-- The tree is solved: SAT, commands and the released demand, unless frame time 12 ms has passed (R249, R252, R254). -/
def finishAllocation (s : State) : State :=
  if s.ctl.allocDone || decide (s.tim.frameAt + 12000000 < s.now) then closeStage 3 12000 s
  else
    let s := saturation s
    let root := s.ctl.group 0
    let s := keepCommands (formCommands s)
    let s := s.modCtl fun b => { b with root := root.demand, slack := root.slack, allocDone := true }
    closeStage 3 12000 (metDeadline (showCtl s))

/-- The tree goes on: levels are submitted from the root down until one waits (R247). -/
def pumpTree : Nat → State → State
  | 0, s => s
  | k + 1, s => match s.openDepth with
    | none => finishAllocation s
    | some d => if s.levelWaits d then s else pumpTree k (submitLevel d s)

/-- The children's demands from a node's solution, and its slack (R247, R248). -/
def takeNode (g : Nat) (c : GroupCfg) (x : List Rat) (s : State) : State :=
  let vs := c.vars
  let val := fun v => match vs.findIdx? (· == v) with | some i => x.getD i 0 | none => 0
  let s := c.children.zipIdx.foldl (fun s e =>
    if e.1.isGroup then
      modGroup e.1.index (fun y => { y with demand := s.unscaled (demandOf ((List.range 3).map fun k => val (.group e.2 e.1.index k))) }) s
    else modThr e.1.index (fun y => { y with fx := val (.force e.2 e.1.index 0), fy := val (.force e.2 e.1.index 1) }) s) s
  let sl := demandOf ((List.range 3).map fun k => val (.plus k) - val (.minus k))
  modGroup g (fun y => { y with slack := s.unscaled sl }) s

/-- A node completion of the running frame (R248); another frame's result is discarded (R254). -/
def allocResult (r : Completion) (s : State) : State :=
  match (List.range 64).find? fun g => (s.ctl.group g).tag == some r.tag with
  | none => s
  | some g =>
    if s.ctl.allocFrame != some s.frame || s.ctl.allocDone || r.frame != s.frame then s
    else match s.groupCfg g with
      | none => s
      | some c =>
        let s := match r.status, (s.slv.slot r.slot).readSolution with
          | .ok, .ok (some p) | .suboptimal, .ok (some p) =>
            modGroup g (fun x => { x with solved := true, nodeStatus := r.status.code }) (takeNode g c (p.vecs.x.map fVal) s)
          | _, _ => failNode g r.status.code s
        pumpTree 130 s

/-! ### The closed form (R250) -/

/-- A column of the closed form: a force component of a thruster child, or a component of a group child. -/
structure WlsCol where
  child : Nat
  dir : Rat × Rat := (0, 0)
  comp : Nat := 0
  h : Rat := 0
  q : Rat := 0
  a : Demand := {}
deriving DecidableEq, Repr

/-- Columns of a node in the closed form: the variables of R246 without the slack, (F_x, F_y) of each thruster child and ξ of each group
child; none of R246's inequalities enters (R250). -/
def State.wlsCols (s : State) (g : Nat) (c : GroupCfg) : List WlsCol :=
  let t := s.image.tune s.ctl.tune
  let f := s.scalars.fRef
  c.children.zipIdx.flatMap fun e =>
    let w := t.weight g e.2
    if e.1.isGroup then (List.range 3).map fun k =>
      { child := e.2, comp := k, h := w.1 + w.2, q := -(w.2 * s.prevScaled (.group e.2 e.1.index k)),
        a := demandOf ((List.range 3).map fun r => if r = k then 1 else 0) }
    else match s.thrCfg e.1.index with
      | none => []
      | some x =>
        [((1 : Rat), (0 : Rat)), (0, 1)].map fun d =>
          let p := d.1 * s.prevScaled (.force e.2 e.1.index 0) + d.2 * s.prevScaled (.force e.2 e.1.index 1)
          { child := e.2, dir := d, h := (w.1 + w.2) * (d.1 * d.1 + d.2 * d.2) / (f * f), q := -(w.2 * p / f), a := s.scaled (s.momentOf x d) }

/-- Weighted least squares under the three equalities: x = H⁻¹(Aᵀλ − q) with (A H⁻¹ Aᵀ) λ = d + A H⁻¹ q (R250). -/
def wls (cols : List WlsCol) (d : Demand) : List Rat :=
  let rows := fun (k : Nat) => cols.map fun x => x.a.toList.getD k 0
  let m := fun i j => sumQ ((cols.zip ((rows i).zip (rows j))).map fun x => x.2.1 * x.2.2 / x.1.h)
  let r := fun i => d.toList.getD i 0 + sumQ ((cols.zip (rows i)).map fun x => x.2 * x.1.q / x.1.h)
  let sys := (List.range 9).map fun k => m (k / 3) (k % 3)
  if det3 sys = 0 ∨ cols.any (fun x => x.h == 0) then Config.wlsSingular (cols.map fun x => (x.h, x.q, x.a.surge, x.a.sway, x.a.yaw)) d
  else
    let l := solve3 sys [r 0, r 1, r 2]
    cols.map fun x => (dotQ x.a.toList l - x.q) / x.h

/-- Largest factor from 0 to 1 that brings a force radially into a polygon (R250). -/
def radial (rows : List ((Rat × Rat) × Rat × Rat)) (f : Rat × Rat) : Rat :=
  rows.foldl (fun m e =>
    let p := e.1.1 * f.1 + e.1.2 * f.2
    if e.2.2 < p then minQ m (maxQ 0 (e.2.2 / p)) else if p < e.2.1 then minQ m (maxQ 0 (e.2.1 / p)) else m) 1

/-- A node in closed form (R250). -/
def closedNode (g : Nat) (c : GroupCfg) (s : State) : State :=
  let cols := s.wlsCols g c
  let x := wls cols (s.scaled (s.ctl.group g).demand)
  let pairs := cols.zip x
  let s := modGroup g (fun y => { y with solved := true, failed := false, slack := {} }) s
  c.children.zipIdx.foldl (fun s e =>
    let mine := pairs.filter fun p => p.1.child == e.2
    if e.1.isGroup then
      modGroup e.1.index (fun y => { y with demand := s.unscaled (demandOf ((List.range 3).map fun k =>
        sumQ ((mine.filter fun p => p.1.comp == k).map (·.2)))) }) s
    else match s.thrCfg e.1.index with
      | none => s
      | some t =>
        let f := mine.foldl (fun (f : Rat × Rat) p => (f.1 + p.1.dir.1 * p.2, f.2 + p.1.dir.2 * p.2)) (0, 0)
        let k := radial (polyRows (s.polygon e.1.index t)) f
        let s := if k < 1 then modGroup g (fun y => { y with failed := true }) s else s
        modThr e.1.index (fun y => { y with fx := k * f.1, fy := k * f.2 }) s) s

/-- The whole tree in closed form, from the root down (R250). -/
def closedTree (s : State) : State :=
  finishAllocation (s.groupsUp.reverse.foldl (fun s g => match s.groupCfg g with
    | some c => if c.external then s else closedNode g c s
    | none => s) s)

/-! ### The stage (R247) -/

/-- The SAT of every group falls (R249). -/
def clearSats (s : State) : State :=
  s.groupsUp.foldl (fun s g => s.raiseIf (s.ctl.group g).sat 0x0D14 g (leBytes 4 (s.ctl.group g).satFrames)) s

/-- No law: no allocation, the integrator at 0 and every thruster at its hold value (R61, R222). -/
def noAllocation (s : State) : State :=
  let s := (clearSats s).modCtl fun b => { b with
    law := .none, root := {}, slack := {}, intN := 0, intE := 0, intYaw := 0, intInit := false, frozen := [false, false, false]
    fallbackAlloc := false, allocDone := true
    groups := b.groups.map fun g => { g with demand := {}, sat := false, satFrames := 0, slack := {}, tag := none } }
  showCtl <| keepCommands (busUse (s.forN 16 fun s i => modThr i (fun t => { t with fx := 0, fy := 0 }) (if (s.thrCfg i).isSome then holdThr i s else s)))

/-- The tree starts with the root demand (R247, R250). -/
def startTree (d : Demand) (s : State) : State :=
  let none_ := s.slv.availCount == 0
  let s := s.modCtl fun b => { b with
    fallbackAlloc := none_, planUsed := b.plan
    groups := b.groups.map fun g => { g with tag := none, solved := false, failed := false } }
  let s := modGroup 0 (fun g => { g with demand := d }) s
  if none_ then closedTree s else pumpTree 130 s

/-- A member waits for the LEAD's EXCHANGE until frame time 6 ms (R424, R425). -/
def State.awaitsLead (s : State) (us : Nat) : Bool := s.follows && s.leadSnap.isNone && decide (us < 6000)

/-- ALLOCATION_STAGE (R247): once the fused state is published, once a frame. Availability is evaluated in every mode (R241). -/
def allocationStage (us : Nat) (s : State) : State :=
  let cc0 := s.sup.engines.getD 9 {}
  if s.sup.mode == .start || !s.stagesRun || !s.fus.published || s.ctl.allocFrame == some s.frame || s.awaitsLead us
      || cc0.lost || cc0.retired then s
  else
    let s := s.atFrame us
    let s := s.modCtl fun b => { b with allocFrame := some s.frame, allocDone := false, allocStart := s.now }
    let s := evalThrusters s
    if !s.engineRuns 9 then showCtl (s.modCtl fun b => { b with allocDone := true })
    else
      let s := s.modIcx fun b => { b with ownState := s.follows && s.leadSnap.isNone }
      let s := evalFacets (evalCaps (evalBuses s))
      let s := s.modCtl fun b => { b with realised := s.realisedNow }
      let f := s.ctlSnap
      if s.lawNow.1 == .none then noAllocation s
      else
        let r := rootDemand f s
        startTree r.1 r.2

/-- Node problems of the frame that ends which are still queued are cancelled (R254). -/
def cancelNodes (s : State) : State :=
  s.forN 64 fun s g => match s.groupCfg g, (s.ctl.group g).tag with
    | some c, some t =>
      let k := s.slv.slot c.slot
      let s := if k.phase == .queued && k.tag == t then endSolve c.slot .cancelled s else s
      modGroup g (fun x => { x with tag := none }) s
    | _, _ => s

/-- The module goes on by itself under CONTROL_LOST (R255). -/
def CtlState.holdsOn (b : CtlState) : Bool := b.lost && !b.handed

/-- A thruster's last command formed by an allocation that met its deadline (R255). -/
def keptThr (i : Nat) (s : State) : State :=
  modThr i (fun t => { t with cmdT := t.kept.1, cmdAz := t.kept.2.1, output := t.kept.2.2 }) s

/-- A frame without an allocation in time: the commands staged in the preceding frame again (R254), under CONTROL_LOST the last ones formed
by an allocation that met its deadline (R255), with the hold value for a thruster unavailable now. -/
def restage (s : State) : State :=
  busUse (s.forN 16 fun s i =>
    if (s.thrCfg i).isNone then s
    else if !(s.ctl.thruster i).available || s.inhibited then holdThr i s
    else if s.ctl.holdsOn then keptThr i s else s)

/-- An allocation not complete by frame time 12 ms (R254), up to the declaration of CONTROL_LOST. -/
def missedDeadline (s : State) : State :=
  let run := satInc 8 s.ctl.dlRun
  let s := restage s
  let s := s.modCtl fun b => { b with
    deadline := true, dlRun := run, metRun := 0, dlMiss := satInc 32 b.dlMiss, allocDone := true, allocFrame := some s.frame
    holdLast := b.holdsOn
    groups := b.groups.map fun g => { g with solved := true } }
  (showCtl s).raise 0x0D10 0xFF [BitVec.ofNat 8 run]

/-- The allocation of the running frame is owed: the mode allocates and it has not completed (R254). -/
def State.allocOwed (s : State) : Bool :=
  s.stagesRun && s.sup.mode != .start && s.lawNow.1 != .none && !(s.ctl.allocFrame == some s.frame && s.ctl.allocDone)

/-! ### Meanings of the commands -/

/-- Meaning of ALLOCATION_STAGE (R247). -/
def execAllocationStage (us : Nat) (s : State) : Host.Outcome State Fault Refusal :=
  .next (allocationStage us s)

/-- Meaning of JOY_STALE (R235). -/
def execJoyStale (s : State) : Host.Outcome State Fault Refusal :=
  .next (if s.engineRuns 9 then joyStale s else s)

/-- Meaning of BUS_STALE (R242). -/
def execBusStale (bus : Fin 8) (s : State) : Host.Outcome State Fault Refusal :=
  .next (if s.engineRuns 9 then busStale bus.val s else s)

/-- Meaning of EXT_GROUP_STALE (R251). -/
def execExtGroupStale (group : Fin 64) (s : State) : Host.Outcome State Fault Refusal :=
  .next (if s.engineRuns 9 then extGroupStale group.val s else s)

end Sys2Proof.Machine
end

