-- ==== Sys2Proof/Machine/TimeBase.lean ====
section
/-!
DEFINITION. The time base and the Carafe holdover model, block TIM (chapter 14_time_base.md, R460 to R481).
-/
set_option autoImplicit false
namespace Sys2Proof.Machine

/-! ### Carafe (R470 to R473) -/

/-- Value of a bin: its own, or that of the nearest bin with a count; 0 while every count is 0 (R470). -/
def CarafeModel.bin (m : CarafeModel) (i : Nat) : Rat :=
  let c := fun j => (m.bins.getD j (0, 0)).2
  let v := fun j => (m.bins.getD j (0, 0)).1
  if 0 < c i then v i
  else
    let lo := (List.range i).reverse.find? fun j => decide (0 < c j)
    let hi := ((List.range 81).filter fun j => decide (i < j)).find? fun j => decide (0 < c j)
    match lo, hi with
    | none, none => 0
    | some l, none => v l
    | none, some h => v h
    | some l, some h => if i - l < h - i then v l else if h - i < i - l then v h else if Config.binColder then v l else v h

/-- F(T), ppb (R470): linear between bin centres −40 °C, −38 °C, … +120 °C. -/
def CarafeModel.freq (m : CarafeModel) (t : Rat) : Rat :=
  let x := (t + 40) / 2
  if x < 0 ∨ 80 < x then Config.carafeBeyond t
  else
    let i := floorNat x
    let r := x - (i : Rat)
    if r = 0 then m.bin i else m.bin i + r * (m.bin (i + 1) - m.bin i)

/-- Days since the model was started (R470). -/
def CarafeModel.age (m : CarafeModel) (now : Nat) : Rat := (((now : Int) - (m.started : Int) : Int) : Rat) / 86400000000000

/-- y_pred = F(T) + A + B·d, ppb (R470). -/
def CarafeModel.predict (m : CarafeModel) (t : Rat) (now : Nat) : Rat := m.freq t + m.a + m.b * m.age now

/-- The TCXO sensor, T (R470, R524). -/
def State.tcxoSensor (s : State) : Sensor := s.thm.sensors.getD 7 {}

/-- T is treated as too hot: the last reading of the TCXO sensor failed (R470, R472, R525). -/
def State.tcxoHot (s : State) : Bool := s.tcxoSensor.fault

/-- Bin of a temperature, if it has one (R470). -/
def carafeBin (t : Rat) : Option Nat :=
  if t < -40 ∨ 120 < t then none else some (roundEven ((t + 40) / 2)).toNat

/-- The model is LEARNED at the present temperature (R472). -/
def State.learned (s : State) : Bool :=
  decide (30 ≤ s.tim.model.days) && (match carafeBin s.tcxoSensor.temp with
    | some i => decide (600 ≤ (s.tim.model.bins.getD i (0, 0)).2)
    | none => false)

/-- A temperature reading in FREE or HOLDOVER, or while an offset is suspect, sets y_est (R467, R472). -/
def carafeReading (s : State) : State :=
  if (s.tim.state == .free || s.tim.state == .holdover || s.tim.suspect) && s.thm.band != .crit && !s.tcxoHot then
    s.modTim fun b => { b with yEst := b.model.predict s.tcxoSensor.temp s.now }
  else s

/-- HOLD_EST, ns; none when unknown (R472). -/
def State.holdEst (s : State) : Option Rat :=
  match s.tim.state, s.tim.offsetAt with
  | .free, _ => none
  | _, none => none
  | _, some a =>
    let t := secOf (s.now - a)
    let rate : Rat := if s.learned then 3 / 2 else 2000
    some (50 + rate * t + t * t / 10000)

/-- TIME_DEGRADED and the cause that comes first (R468, R481). -/
def State.degradedCause (s : State) : Option Nat :=
  if !s.tim.confirmed then some 0
  else if s.tim.bigSlew then some 1
  else if (match s.holdEst with | some h => decide (s.scalars.holdLimit * 1000000000 < h) | none => false) then some 2
  else if s.tim.tcxoFault then some 3
  else none

/-- Saturated signed 32-bit bytes of a time in ns (R481). -/
def nsBytes (i : Int) : Bytes := leBytes 4 (ofSigned 32 (max (-2147483648) (min 2147483647 i)))

/-! ### Steering (R462 to R467) -/

/-- CONFIRMED is set once (R468). -/
def confirmTime (byStep : Bool) (s : State) : State :=
  if s.tim.confirmed then s
  else (s.modTim fun b => { b with confirmed := true }).raise 0x0915 0xFF [BitVec.ofNat 8 (b2n byStep), BitVec.ofNat 8 (b2n s.refDomain)]

/-- Steering term for an offset in a state (R464). -/
def steerOf (locked : Bool) (o : Rat) : Rat :=
  if locked then clampQ (-(1 / 20000)) (1 / 20000) (o / 1000000000 / 100)
  else if 1000 < absQ o then signQ o / 20000 else clampQ (-(1 / 20000)) (1 / 20000) (o / 1000000000 / 100)

/-- Modes in which module time may step (R465). -/
def stepAllowed (m : Mode) : Bool := m == .start || m == .dormant || m == .service

/-- The mode that the next frame instant will have in force (R465, R75). -/
def State.modeNext (s : State) : Mode := match s.sup.pendMode with | some p => p.target | none => s.sup.mode

/-- Consecutive frames with an offset above 2 µs, the running one included; a frame counts once, and one without an offset ends the run (R462). -/
def overRun (b : TimState) : Nat :=
  match b.overAt with
  | some t => if t = b.frameAt then b.unlockRun else if t + 20000000 = b.frameAt then min 5 (b.unlockRun + 1) else 1
  | none => 1

/-- y_est follows the reference's frequency with a time constant of 1,000 s (R464), as a first-order lag over `dt` seconds (log 15). -/
def followRef (y o dt : Rat) : Rat := y + minQ 1 (dt / 1000) * (Config.followFreq y o dt - y)

/-- A reference offset is acted on (R462, R464, R465); while a step is to follow, nothing is slewed. -/
def actOffset (o : Int) (s : State) : State :=
  let prev := s.tim.state
  let s := if prev == .holdover then
      s.raise 0x0912 0xFF (leBytes 4 ((s.now - s.tim.holdAt) / 1000000000) ++ nsBytes o) else s
  let dt := match s.tim.offsetAt with | some a => secOf (s.now - a) | none => 0
  let slewing := prev != .locked
  let tooFar := prev == .locked && decide (2000 < o.natAbs)
  let locks := slewing && decide (o.natAbs ≤ 1000)
  let big := decide (1000000 < o.natAbs)
  let start := if prev == .free || prev == .holdover then o else s.tim.slewStart
  let steps := big && decide (0 < o) && stepAllowed s.modeNext
  let s := s.modTim fun b => { b with
    offset := o, offsetAt := some s.now, applied := 0, suspects := [], suspect := false, slewStart := start
    state := if locks then .locked else if slewing then .slewing else .locked
    unlockRun := if tooFar then overRun b else 0
    overAt := if tooFar then some b.frameAt else none
    steer := if steps then 0 else steerOf (locks || prev == .locked) (o : Rat)
    yEst := if prev == .locked then followRef b.yEst (o : Rat) dt else b.yEst
    step := if big && decide (0 < o) then some o.natAbs else none
    bigSlew := big && !steps }
  if locks then confirmTime false (s.raise 0x0910 0xFF (zeros 4 ++ nsBytes start)) else s

/-- An offset above 1 s after CONFIRMED is held as suspect (R467); a frame without one starts the 60 s again. -/
def suspectOffset (o : Int) (s : State) : State :=
  let first := !s.tim.suspect
  let gap := match s.tim.suspects.getLast? with | some e => decide (30000000 < s.now - e.1) | none => false
  let s := s.modTim fun b => { b with
    offset := o, steer := 0, suspect := true
    suspects := if gap then [(s.now, o)] else b.suspects ++ [(s.now, o)] }
  let s := carafeReading s
  s.raiseIf first 0x0916 0xFF (leBytes 8 (ofSigned 64 o))

/-- A position solution of the module's own is valid (R463, R470). -/
def State.ownFix (s : State) : Bool := s.gns.sols.any fun x => x.valid

/-- The GNSS offset of a frame: the receiver clock bias of its valid position solutions, the mean over antennas A and B when both are valid (R463);
half a nanosecond is rounded to even (DESIGN CHOICE, assumption log 15). -/
def State.clockOffset (s : State) : Option Int :=
  match (s.gns.sols.filter fun x => x.valid).map fun x => (x.clockBias : Rat) with
  | [] => none
  | l => some (roundEven (sumQ l / (l.length : Nat)))

/-- The clock drift of each valid solution of a frame counts in the frame's second (R470). -/
def gatherDrift (s : State) : State :=
  let l := (s.gns.sols.filter fun x => x.valid).map fun x => x.clockDrift
  let sec := s.tim.frameAt / 1000000000
  s.modTim fun b =>
    if b.drift.1 = sec then { b with drift := (sec, b.drift.2.1 + sumQ l, b.drift.2.2 + l.length) }
    else { b with drift := (sec, sumQ l, l.length), driftLast := b.drift }

/-- GT has published the solutions of a frame: where GNSS is the reference, they give its offset or none (R463). -/
def measureGnss (s : State) : State :=
  let s := gatherDrift s
  if s.refDomain then s else s.modTim fun b => { b with measured := s.clockOffset.map fun o => (false, o) }

/-- A SYNC gives the offset of a member whose reference is domain time (R422, R463). -/
def measureDomain (o : Int) (s : State) : State :=
  if s.refDomain then s.modTim fun b => { b with measured := some (true, o) } else s

/-- What a reference offset does (R464 to R467). -/
def actMeasured (o : Int) (s : State) : State :=
  if s.tim.confirmed && decide (1000000000 < o.natAbs) then suspectOffset o s
  else actOffset o s

/-- The reference offset formed in the frame from the source in use is acted on, once (R463 to R467). None is while the backup
oscillator runs: HOLDOVER then holds until restart (R479). -/
def referenceOffset (domain : Bool) (o : Int) (s : State) : State :=
  if s.tim.tcxoFault || domain != s.refDomain || s.tim.measured != some (domain, o) then s
  else actMeasured o (s.modTim fun b => { b with measured := none })

/-- What each frame of SLEWING or LOCKED without a valid offset does: steering goes on by the predicted offset (R464). -/
def steerFrame (s : State) : State :=
  if (s.tim.state == .slewing || s.tim.state == .locked) && !s.tim.suspect then
    s.modTim fun b =>
      let ap := b.applied + b.steer * 20000000
      let fresh := match b.offsetAt with | some a => decide (b.frameAt ≤ a) | none => false
      if fresh then { b with applied := ap }
      else { b with applied := ap, steer := steerOf (b.state == .locked) ((b.offset : Rat) - ap) }
  else s

/-- LOCKED returns to SLEWING after 5 frames above 2 µs (R462). -/
def timeUnlock (s : State) : State :=
  if s.tim.state == .locked && decide (5 ≤ s.tim.unlockRun) then
    s.modTim fun b => { b with state := .slewing, unlockRun := 0, slewStart := b.offset, steer := steerOf false (b.offset : Rat) }
  else s

/-- Module time of the last offset measured, suspect ones included. -/
def TimState.lastMeasured (b : TimState) : Nat :=
  match b.suspects.getLast? with | some e => e.1 | none => b.offsetAt.getD 0

/-- No valid reference for 1 s (R462). -/
def holdoverEnter (s : State) : State :=
  let st := s.tim.state
  if (st == .slewing || st == .locked) && decide (1000000000 ≤ s.now - s.tim.lastMeasured) then
    let next : SteerState := if st == .locked || s.tim.confirmed then .holdover else .free
    let s := s.modTim fun b => { b with
      state := next, steer := 0, holdAt := s.now, suspects := [], suspect := false, step := none, bigSlew := false, unlockRun := 0 }
    (carafeReading s).raise 0x0911 0xFF [if st == .locked then 2 else 1]
  else s

/-- Least-squares line through points: intercept and slope. -/
def fitLine (ps : List (Rat × Rat)) : Rat × Rat :=
  let n : Rat := (ps.length : Nat)
  let sx := sumQ (ps.map fun p => p.1)
  let sy := sumQ (ps.map fun p => p.2)
  let sxx := sumQ (ps.map fun p => p.1 * p.1)
  let sxy := sumQ (ps.map fun p => p.1 * p.2)
  let d := n * sxx - sx * sx
  let b := if d = 0 then 0 else (n * sxy - sx * sy) / d
  let a := if n = 0 then 0 else (sy - b * sx) / n
  (a, b)

/-- After 60 s of suspect offsets the line's value is acted on, or the 60 s start again (R467). -/
def timeJumpResolve (s : State) : State :=
  match s.tim.suspects.head? with
  | none => s
  | some first =>
    if s.now - first.1 < 60000000000 then s
    else
      let ps := s.tim.suspects.map fun e => (secOf (e.1 - first.1), (e.2 : Rat))
      let l := fitLine ps
      if ps.all fun p => decide (absQ (p.2 - (l.1 + l.2 * p.1)) ≤ 1000) then
        actOffset (roundEven (l.1 + l.2 * secOf (s.now - first.1))) s
      else s.modTim fun b => { b with suspects := [] }

/-- The time base steps at the coming frame instant (R465, R466). -/
def State.stepDue (s : State) : Bool := s.tim.step.isSome && stepAllowed s.modeNext

/-- Module time steps forward by the last offset measured, which leaves none, and the frames stepped over run nothing (R466). -/
def stepTime (s : State) : State :=
  match s.tim.step with
  | none => s
  | some d =>
    let n := s.tim.frameAt + 20000000
    let t := n + d
    let next := t / 20000000 * 20000000 + 20000000
    let s := s.modTim fun b => { b with
      now := t, frameAt := next - 20000000, strobed := true, skipUntil := some next, step := none, bigSlew := false, measured := none
      steer := 0, applied := (d : Rat), offsetAt := some t, suspects := [], suspect := false
      state := if b.state == .free || b.state == .holdover then .slewing else b.state
      stepCount := satInc 32 b.stepCount, lastStep := t, lastStepSize := d
      tickAt := t / 1000000 * 1000000 + 500000 - 1000000, scAt := t }
    let s := s.raise 0x0913 0xFF (f32Bytes (secOf d) ++ leBytes 4 ((next - n) / 20000000))
    if s.refDomain then s else confirmTime true s

/-- TIME_DEGRADED sets or clears (R468). -/
def timeDegraded (s : State) : State :=
  match s.degradedCause with
  | some c =>
    if s.tim.degraded then s
    else (s.modTim fun b => { b with degraded := true, degradedCause := c }).raise 0x0914 0xFF [1, BitVec.ofNat 8 c]
  | none =>
    if s.tim.degraded then
      (s.modTim fun b => { b with degraded := false }).raise 0x0914 0xFF [0, BitVec.ofNat 8 s.tim.degradedCause]
    else s

/-! ### Learning (R470, R471, R473) -/

/-- y of a whole second, ppb: the mean clock drift of the valid solutions of the second that ends there (R470). -/
def TimState.meanDrift (b : TimState) (sec : Nat) : Option Rat :=
  let d := if b.drift.1 + 1 = sec then b.drift else b.driftLast
  if d.1 + 1 = sec && decide (0 < d.2.2) then some (d.2.1 / (d.2.2 : Nat)) else none

/-- A Carafe sample of a whole second from the mean clock drift over it, as binary32 (R470). -/
def carafeSample (ppb : F32) (s : State) : State :=
  let y := f32Val ppb
  let t := s.tcxoSensor.temp
  let sec := s.now / 1000000000
  match carafeBin t with
  | none => s
  | some i =>
    if !s.ownFix || (s.tim.meanDrift sec).map f32Of != some ppb || s.tcxoHot || s.tim.tcxoFault || sec == s.tim.sampledAt then s
    else s.modTim fun b =>
      let m := b.model
      let c := (m.bins.getD i (0, 0)).2
      let g : Rat := 1 / ((min (c + 1) 3600 : Nat) : Rat)
      let m' := { m with bins := updAt m.bins i fun e => (e.1 + g * (y - m.a - m.b * m.age s.now - e.1), min 65535 (e.2 + 1)) }
      { b with model := m', modelDirty := true, sampledAt := sec, daySum := b.daySum + (y - m'.freq t), dayCount := b.dayCount + 1 }

/-- The day's mean is stored and the aging refitted (R471). -/
def carafeDaily (s : State) : State :=
  let day := s.now / 86400000000000
  if day ≤ s.tim.dailyAt then s
  else s.modTim fun b =>
    if b.dayCount = 0 then { b with dailyAt := day }
    else
      let m := b.model
      let v := b.daySum / ((b.dayCount : Nat) : Rat)
      let daily := keepLast 90 (m.daily ++ [(m.age s.now, v)])
      let l := fitLine daily
      let m' := { m with daily := daily, days := min 65535 (m.days + 1)
                         a := if 7 ≤ daily.length then l.1 else m.a, b := if 7 ≤ daily.length then l.2 else m.b }
      { b with model := m', modelDirty := true, dailyAt := day, daySum := 0, dayCount := 0 }

/-- Key of the Carafe model in P2 (R483). -/
def carafeKey : StoreKey := { part := 2, kind := 2 }

/-- The model as its record holds it: binary32 values (R473). -/
def CarafeModel.record (m : CarafeModel) : CarafeModel :=
  let q := fun x => f32Val (f32Of x)
  { m with a := q m.a, b := q m.b, daily := m.daily.map fun e => (e.1, q e.2), bins := m.bins.map fun e => (q e.1, e.2) }

/-- A changed model is written to P2 (R473). -/
def storeCarafe (s : State) : State :=
  if s.tim.modelDirty then
    let r := submitWrite carafeKey 2 1040 15 (.carafe s.tim.model.record) s
    match r.2 with
    | .inr _ => r.1.modTim fun b => { b with modelDirty := false }
    | .inl _ => r.1
  else s

/-- Once per hour of module time (R473). -/
def carafeStore (s : State) : State :=
  let h := s.now / 3600000000000
  if h ≤ s.tim.hourAt then s else storeCarafe (s.modTim fun b => { b with hourAt := h })

/-- The write of a Carafe model commits (R473, R481). -/
def carafeStored (m : CarafeModel) (s : State) : State :=
  s.raise 0x091A 0xFF (leBytes 2 m.days ++ [BitVec.ofNat 8 (m.bins.filter fun e => decide (0 < e.2)).length])

/-! ### Pulses and the TCXO (R475, R479) -/

/-- PPS_OUT is emitted (R475). -/
def State.ppsOn (s : State) : Bool := s.tim.confirmed || s.scalars.ppsFree

/-- PPS_OUT rises at a whole second of module time; the time runs to that second if it lies in the frame (R475). -/
def ppsOut (s : State) : State :=
  let sec := (s.now + 999999999) / 1000000000 * 1000000000
  let t := if sec ≤ s.tim.ppsAt then s.tim.ppsAt / 1000000000 * 1000000000 + 1000000000 else sec
  if s.ppsOn && decide (t ≤ s.tim.frameAt + 20000000) then
    (s.advance t).modTim fun b => { b with ppsHigh := true, ppsAt := t, ppsCount := satInc 32 b.ppsCount }
  else s

/-- PPS_OUT at a module time: high for 100 ms from its edge (R475). -/
def State.ppsLevel (s : State) : Bool := s.tim.ppsHigh && decide (s.now - s.tim.ppsAt < 100000000)

/-- The TCXO stops or deviates: frames and module time run on the backup oscillator until restart, and GNSS stops (R100, R479). -/
def tcxoFault (deviation : Bool) (s : State) : State :=
  if s.tim.tcxoFault then s
  else
    let s := s.modTim fun b => { b with tcxoFault := true, steer := 0, step := none, suspects := [], suspect := false
                                        state := if b.state == .free then .free else .holdover, holdAt := s.now }
    let s := s.modGns fun b => { b with ants := b.ants.map fun a => { a with feOn := false, feSince := none } }
    s.raise 0x0917 0xFF [BitVec.ofNat 8 (b2n deviation)]

/-! ### Registers (R480) -/

/-- TIM_STATUS STATE (R462). -/
def SteerState.code : SteerState → Nat
  | .free => 0 | .slewing => 1 | .locked => 2 | .holdover => 3

/-- Value of a TIM register; none where none is defined. -/
def timRead (s : State) (off : Nat) : Option Word :=
  let b := s.tim
  let o := ofSigned 64 b.offset
  match off with
  | 0x10 => some (pack [(b.state.code, 0, 3), (b2n b.confirmed, 3, 1), (b2n s.holdover, 4, 1), (b2n s.degradedCause.isSome, 5, 1),
      (b2n s.stepDue, 6, 1), (b2n s.refDomain, 7, 1), (b2n b.tcxoFault, 8, 1), (b2n s.ppsOn, 9, 1), (b2n s.learned, 10, 1),
      (b2n b.suspect, 11, 1)])
  | 0x14 => some (loWord s.now)
  | 0x18 => some (hiWord s.now)
  | 0x1C => some (loWord o)
  | 0x20 => some (hiWord o)
  | 0x24 => some (f32Of b.steer)
  | 0x28 => some (f32Of b.yEst)
  | 0x2C => some (wordOf (match b.offsetAt with | some a => sat 32 ((s.now - a) / 1000000000) | none => 0))
  | 0x30 => some (wordOf (match s.holdEst with | some h => sat 32 (floorNat h) | none => 0xFFFFFFFF))
  | 0x34 => some (f32Of s.tcxoSensor.temp)
  | 0x38 => some (pack [(b.model.days, 0, 16), ((b.model.bins.filter fun e => decide (0 < e.2)).length, 16, 7)])
  | 0x3C => some (f32Of b.model.b)
  | 0x40 => some (wordOf b.stepCount)
  | 0x44 => some (loWord b.lastStep)
  | 0x48 => some (hiWord b.lastStep)
  | 0x4C => some (f32Of (secOf b.lastStepSize))
  | 0x50 => some (pack [(b2n s.scalars.ppsFree, 0, 1), (s.scalars.syncMode, 1, 2), (s.scalars.syncDiv, 3, 12)])
  | 0x54 => some (wordOf b.ppsCount)
  | 0x58 => some 0
  | 0x5C => some (pack [(b.cmdResult, 0, 4), (b.cmdSession, 4, 5)])
  | _ => none

/-- What a read clears (R22, R480). -/
def timClear (off : Nat) (s : State) : State :=
  match off with
  | 0x40 => s.modTim fun b => { b with stepCount := 0 }
  | 0x54 => s.modTim fun b => { b with ppsCount := 0 }
  | _ => s

/-- Writable TIM registers (R480). -/
def timWritable (off : Nat) : Bool := off == 0x58

/-- TIM_CMD_RESULT (R480). -/
def timResult (w : WCtx) (r : Nat) (s : State) : State := s.modTim fun b => { b with cmdResult := r, cmdSession := w.session }

/-- RESET_MODEL empties the working model (R474). -/
def resetCarafe (s : State) : State :=
  s.modTim fun b => { b with model := { serial := s.sup.serial % 2 ^ 32, started := s.now }, modelDirty := true, daySum := 0, dayCount := 0 }

/-- A write to a TIM register (R474, R480). -/
def timWrite (w : WCtx) (off : Nat) (v : Word) (s : State) : WriteOut :=
  match off with
  | 0x58 =>
    needRole w roleEngineer (timResult w 2 s) <|
      if s.sup.mode != .service then .refused (timResult w 1 s) 1
      else .done (timResult w 0 (if bit v 0 then resetCarafe s else s)) 0
  | _ => .refused s 1

/-! ### Meanings of the commands -/

/-- Meaning of REFERENCE_OFFSET (R464). -/
def execReferenceOffset (domain : Bool) (ns : Int) (s : State) : Host.Outcome State Fault Refusal :=
  .next (referenceOffset domain ns s)

/-- Meaning of TIME_UNLOCK (R462). -/
def execTimeUnlock (s : State) : Host.Outcome State Fault Refusal :=
  .next (timeUnlock s)

/-- Meaning of HOLDOVER_ENTER (R462). -/
def execHoldoverEnter (s : State) : Host.Outcome State Fault Refusal :=
  .next (holdoverEnter s)

/-- Meaning of TIME_JUMP_RESOLVE (R467). -/
def execTimeJumpResolve (s : State) : Host.Outcome State Fault Refusal :=
  .next (timeJumpResolve s)

/-- Meaning of TIME_DEGRADED (R468). -/
def execTimeDegraded (s : State) : Host.Outcome State Fault Refusal :=
  .next (timeDegraded s)

/-- Meaning of CARAFE_SAMPLE (R470). -/
def execCarafeSample (ppb : F32) (s : State) : Host.Outcome State Fault Refusal :=
  .next (carafeSample ppb s)

/-- Meaning of CARAFE_DAILY (R471). -/
def execCarafeDaily (s : State) : Host.Outcome State Fault Refusal :=
  .next (carafeDaily s)

/-- Meaning of CARAFE_STORE (R473). -/
def execCarafeStore (s : State) : Host.Outcome State Fault Refusal :=
  .next (carafeStore s)

/-- Meaning of PPS_OUT (R475). -/
def execPpsOut (s : State) : Host.Outcome State Fault Refusal :=
  .next (ppsOut s)

/-- Meaning of TCXO_FAULT (R479). -/
def execTcxoFault (deviation : Bool) (s : State) : Host.Outcome State Fault Refusal :=
  .next (tcxoFault deviation s)

end Sys2Proof.Machine
end

