-- ==== Sys2Proof/Machine/Gnss.lean ====
section
/-!
DEFINITION. The dual-antenna GNSS baseband, block GNS (chapter 03_gnss_baseband.md, R97 to R129).
-/
set_option autoImplicit false
namespace Sys2Proof.Machine

/-! ### Antennas, channels and the acquisition queue (R98 to R105) -/

/-- An antenna path by number (0 A, 1 B). -/
def GnsState.ant (b : GnsState) (a : Nat) : AntPath := b.ants.getD a {}

/-- A channel by number. -/
def GnsState.chan (b : GnsState) (i : Nat) : Channel := b.chans.getD i {}

/-- Antenna of a channel (R103). -/
def antOf (ch : Nat) : Nat := ch / 96

/-- Channels of an antenna (R103). -/
def antChans (a : Nat) : List Nat := (List.range 96).map (· + 96 * a)

/-- One antenna path changed. -/
def modAnt (a : Nat) (f : AntPath → AntPath) (s : State) : State := s.modGns fun b => { b with ants := updAt b.ants a f }

/-- One channel changed. -/
def modGnsChan (i : Nat) (f : Channel → Channel) (s : State) : State := s.modGns fun b => { b with chans := updAt b.chans i f }

/-- One solution changed. -/
def modSol (a : Nat) (f : Solution → Solution) (s : State) : State := s.modGns fun b => { b with sols := updAt b.sols a f }

/-- A solution by antenna. -/
def GnsState.sol (b : GnsState) (a : Nat) : Solution := b.sols.getD a {}

/-- Primary code of a signal: its chips and its period in ms (R97, R101). The chips of L1 C/A stand in R101; the others are the systems' own
(PRESUMED, assumption log 16). -/
def codeOf (signal : Nat) : Nat × Nat :=
  match signal with
  | 0 | 6 => (1023, 1)
  | 2 => (4092, 4)
  | 4 => (10230, 10)
  | _ => (10230, 1)

/-- Centre frequency of a signal's band, Hz (R97). -/
def carrierHz (signal : Nat) : Rat := if signal == 1 || signal == 3 || signal == 5 then 1176450000 else 1575420000

/-- TCXO uncertainty in ppm: ±2 without a drift model (R101). -/
def State.tcxoPpm (s : State) : Rat := if s.learned then absQ Config.tcxoUncertainty else 2

/-- Doppler bins of a span in Hz at the spacing 2/(3 × coherent time) (R101). -/
def dopplerBins (signal : Nat) (span : Rat) : Nat := (Rat.ceil (span * 3 * ((codeOf signal).2 : Rat) / 2000)).toNat

/-- Cells of a window by priority (R101): two a chip, by the Doppler bins; a coarse-time start searches full codes (R126). -/
def State.windowCells (s : State) (prio signal : Nat) (fullCode : Bool) : Nat :=
  let code := 2 * (codeOf signal).1
  if prio ≤ 2 then (if fullCode then code * 3 else 128 * 3)
  else if prio = 3 then 16
  else if prio = 4 then code * dopplerBins signal 2000
  else code * dopplerBins signal (2 * (5000 + s.tcxoPpm * carrierHz signal / 1000000))

/-- The supervisor grants PD3 (R102, R521): in DORMANT only in a wake, and never while shed. -/
def State.grantPd3 (s : State) : Bool :=
  (s.sup.mode != .dormant || s.gns.wakeAt.isSome) && !s.pwr.shed && s.thm.band != .crit && !s.pwr.domFault.getLsbD 3

/-- A search request joins the queue; PD3 is asked for when it is off (R101, R102). -/
def queueSearch (r : SearchReq) (s : State) : State :=
  s.modGns fun b => { b with queue := b.queue ++ [r], acqWanted := b.acqWanted || !s.domOn 3 }

/-- Requests leave the queue; the time it became empty counts from here (R102). -/
def dropRequests (p : SearchReq → Bool) (s : State) : State :=
  s.modGns fun b =>
    let q := b.queue.filter fun r => !p r
    { b with queue := q, queueEmptyAt := if q.isEmpty && !b.queue.isEmpty then s.now else b.queueEmptyAt }

/-- A channel returns to IDLE (R105). -/
def idleChannel (i : Nat) (s : State) : State :=
  dropRequests (fun r => r.chan == i) (modGnsChan i (fun _ => { since := s.now }) s)

/-- A coarse-time start that has not solved its time searches full codes (R126). -/
def GnsState.coarseSearch (b : GnsState) : Bool := b.starting && b.startKind == 1 && b.timeWait

/-- The window of a channel's search (R101, R126). -/
def State.searchWindow (s : State) (prio i : Nat) : Nat :=
  s.windowCells prio (s.gns.chan i).signal (prio == 2 && s.gns.coarseSearch)

/-- A channel searches, with a request of a priority (R101, R105). -/
def searchChannel (i prio : Nat) (s : State) : State :=
  queueSearch { prio := prio, chan := i, cells := s.searchWindow prio i, at_ := s.now } <|
    modGnsChan i (fun c => { c with phase := .search, prio := prio, since := s.now, prValid := false, cpValid := false, lockTime := 0, loops := {} }) s

/-- A heading that leaves FIXED is reported with the new state (R118, R129). -/
def leaveFixed (next : HdgPhase) (s : State) : State :=
  let was := s.gns.hdgPhase
  let code := match next with | .none => 0 | .float => 1 | .fixed => 2 | .unavailable => 3
  let s := s.modGns fun b => { b with hdgPhase := next, baseline := 0, yawValid := false, lengthFails := 0, hdgFixReady := false, ndd := 0 }
  s.raiseIf (was == .fixed) 0x0816 0xFF [BitVec.ofNat 8 code]

/-- The path has no measurements (R100). -/
def State.antDead (s : State) (a : Nat) : Bool :=
  let p := s.gns.ant a
  p.phase == .short || !p.feOn || !s.domOn (1 + a) || !s.domOn 4

/-- A path without measurements: its solution becomes NONE, the heading NONE and the yaw rate invalid (R100). -/
def pathLost (a : Nat) (s : State) : State :=
  let s := modSol a (fun x => { x with type := 0, valid := false, nsat := 0
                                       noneSince := if x.noneSince.isSome || x.lost then x.noneSince else some s.now }) s
  let s := s.modGns fun b => { b with velValid := if a = 0 then false else b.velValid, yawValid := false }
  if s.gns.hdgPhase == .float || s.gns.hdgPhase == .fixed then leaveFixed .none s else s

/-- Every channel of an antenna returns to IDLE (R99, R105). -/
def idleAntenna (a : Nat) (s : State) : State := (antChans a).foldl (fun s i => idleChannel i s) s

/-- The antenna supply is OFF by the image (R99). -/
def State.supplyMarkedOff (s : State) (a : Nat) : Bool := if a = 0 then s.scalars.antOffA else s.scalars.antOffB

/-- Current below 3 mA for 100 ms (R99). -/
def antOpen (a : Nat) (ma : F32) (ms : Nat) (s : State) : State :=
  let p := s.gns.ant a
  if s.supplyMarkedOff a || !p.supplyOn || p.phase == .open_ || !decide (f32Val ma < 3) || !decide (100 ≤ ms) then s
  else (modAnt a (fun p => { p with phase := .open_, current := f32Val ma }) s).raise 0x0810 a (leBytes 4 ma.toNat)

/-- Current above 120 mA: limited at once, switched off within 1 ms, channels idle (R99, R100). -/
def antShort (a : Nat) (ma : F32) (s : State) : State :=
  let p := s.gns.ant a
  if s.supplyMarkedOff a || !p.supplyOn || !decide (120 < f32Val ma) then s
  else
    let was := p.phase
    let s := modAnt a (fun p => { p with phase := .short, current := f32Val ma, supplyOn := false, retryAt := s.now }) s
    if was == .short then s
    else (pathLost a (idleAntenna a s)).raise 0x0811 a (leBytes 4 ma.toNat)

/-- The retry of a shorted supply: on for 10 ms every 5 s; it stays on when the current does not exceed 120 mA (R99). -/
def antSupplyRetry (a : Nat) (ma : F32) (s : State) : State :=
  let p := s.gns.ant a
  if p.phase != .short || p.supplyOn || decide (s.now - p.retryAt < 5000000000) then s
  else modAnt a (fun p => { p with current := f32Val ma, retryAt := s.now, supplyOn := decide (f32Val ma ≤ 120) }) s

/-- Current inside the OK window for 1 s: assignment resumes in the next frame (R99). -/
def antRestored (a : Nat) (ma : F32) (ms : Nat) (s : State) : State :=
  let p := s.gns.ant a
  if !(p.phase == .open_ || p.phase == .short) || !p.supplyOn || decide (f32Val ma < 3) || decide (120 < f32Val ma)
      || decide (ms < 1000) then s
  else
    let s := modAnt a (fun q => { q with phase := .ok, current := f32Val ma, assignAt := s.tim.frameAt + 20000000 }) s
    s.raise 0x0812 a [if p.phase == .open_ then 1 else 2]

/-- A front end gives valid samples after its domain came on (R98); the TTFF of a start runs from here (R125). -/
def frontEndReady (a : Nat) (s : State) : State :=
  let p := s.gns.ant a
  if p.feOn || p.feSince.isNone || !s.domOn (1 + a) || s.tim.tcxoFault then s
  else
    let s := modAnt a (fun q => { q with feOn := true, feSince := none, readyAt := some s.now }) s
    s.modGns fun b => { b with startAt := if b.starting && b.startAt.isNone then some s.now else b.startAt }

/-- A request is served before one already placed: it arrived with it, and the queue arbiter takes it first (R101). -/
def servedBefore (r x : SearchReq) : Bool := r.at_ == x.at_ && Config.acqArbiter x.chan r.chan

/-- A request takes its place among those that arrived before it. -/
def placeReq (r : SearchReq) : List SearchReq → List SearchReq
  | [] => [r]
  | x :: l => if (x :: l).all (servedBefore r) then r :: x :: l else x :: placeReq r l

/-- Requests in the order the bank serves them: by priority, then by arrival, those of one instant as the arbiter orders them (R101). -/
def serveOrder (q : List SearchReq) : List SearchReq :=
  (List.range 5).flatMap fun p => (q.filter fun r => r.prio == p + 1).foldl (fun l r => placeReq r l) []

/-- The requests one pass takes whole: from the front, up to `n` windows and 16,384 cells (R101). -/
def passWindows : Nat → Nat → List SearchReq → List SearchReq
  | 0, _, _ => []
  | _, _, [] => []
  | n + 1, room, r :: rs => if r.cells ≤ room then r :: passWindows n (room - r.cells) rs else []

/-- A confirmed detection: the channel pulls in with its FLL over the primary code period (R104, R105). -/
def detectChannel (i : Nat) (s : State) : State :=
  modGnsChan i (fun c => { c with
    phase := .pullIn, since := s.now
    loops := { order := 2, bandwidth := s.scalars.fllBw, dllOrder := 1, aided := true, dllBandwidth := s.scalars.dllBw, integrationMs := (codeOf c.signal).2 } }) s

/-- What the bank tests in a pass: whole windows up to 16,384 cells, or that much of a longer one; and what stays of each without a detection, a
whole window again at the end of the queue or the rest of the longer one at its front (R101). -/
def State.passWork (s : State) (n : Nat) (order : List SearchReq) : List SearchReq × List SearchReq × List SearchReq :=
  match passWindows (max n 1) 16384 order, order with
  | [], r :: rs => ([r], rs, [])
  | taken, _ => (taken, order.drop taken.length, taken.map fun r => { r with cells := s.searchWindow r.prio r.chan, at_ := s.now })

/-- An acquisition pass: windows of up to 16,384 cells are tested, and a confirmed detection moves its channel to PULL_IN; a
channel without one searches on until its time is up (R101, R105). -/
def acqPass (n : Nat) (found : List Nat) (s : State) : State :=
  if !s.domOn 3 || s.gns.queue.isEmpty then s
  else
    let w := s.passWork n (serveOrder s.gns.queue)
    let hit : SearchReq → Bool := fun r => found.contains r.chan && (s.gns.chan r.chan).phase == .search
    let on : SearchReq → Bool := fun r => !hit r && (s.gns.chan r.chan).phase == .search
    let rest := if w.2.2.isEmpty then w.1.map fun r => { r with cells := r.cells - 16384 } else []
    let q := rest.filter on ++ w.2.1 ++ w.2.2.filter on
    let s := (w.1.filter hit).foldl (fun s r => detectChannel r.chan s) s
    s.modGns fun b => { b with
      passes := b.passes.filter (fun t => decide (s.now - t < 1000000000)) ++ [s.now]
      queue := q, queueEmptyAt := if q.isEmpty then s.now else b.queueEmptyAt }

/-- With the queue empty for 10 s PD3 is switched off (R102). -/
def acqIdle (s : State) : State :=
  if !s.domOn 3 || !s.gns.queue.isEmpty || decide (s.now - s.gns.queueEmptyAt < 10000000000) || s.sup.mode == .start then s
  else (s.modPwr fun b => { b with domOn := setBit b.domOn 3 false }).modGns fun b => { b with acqWanted := false }

/-- PD3 is on again and the queue is served (R102). -/
def acqPowerOn (s : State) : State :=
  if s.domOn 3 || s.gns.queue.isEmpty || !s.grantPd3 then s
  else (s.modPwr fun b => { b with domOn := setBit b.domOn 3 true }).modGns fun b => { b with acqWanted := false }

/-- No detection within 10 s, or 30 s for priorities 4 and 5 (R105). -/
def channelSearchTimeout (i : Nat) (s : State) : State :=
  let c := s.gns.chan i
  if c.phase == .search && decide ((if c.prio ≤ 3 then 10000000000 else 30000000000) ≤ s.now - c.since) then idleChannel i s else s

/-- Lock for 200 ms with bit or secondary-code synchronisation (R105): the PLL takes over; synchronisation alone lengthens the integration to 20 ms
(R104). -/
def channelPullIn (i lockMs : Nat) (sync : Bool) (s : State) : State :=
  if (s.gns.chan i).phase != .pullIn || !sync then s
  else if lockMs < 200 then modGnsChan i (fun c => { c with loops := { c.loops with integrationMs := 20 } }) s
  else
    modGnsChan i (fun c => { c with
      phase := .track, since := s.now
      loops := { pll := true, order := 3, bandwidth := s.scalars.pllBw, dllOrder := 1, aided := true, dllBandwidth := s.scalars.dllBw, integrationMs := 20 } }) s

/-- No lock within 1 s (R105). -/
def channelPullInTimeout (i : Nat) (s : State) : State :=
  let c := s.gns.chan i
  if c.phase == .pullIn && decide (1000000000 ≤ s.now - c.since) then searchChannel i 1 s else s

/-- C/N0 below 22 dB-Hz for 500 ms, or lock indicator below 0.5 for 100 ms (R105). -/
def channelTrackLoss (i weakMs unlockMs : Nat) (s : State) : State :=
  if (s.gns.chan i).phase == .track && (decide (500 ≤ weakMs) || decide (100 ≤ unlockMs)) then searchChannel i 1 s else s

/-! ### Assignment (R103) -/

/-- A signal whose component tracked is a pilot (R97). -/
def pilotSignal (sig : Nat) : Bool := sig != 0 && sig != 6

/-- A signal of the lower band (R97). -/
def lowerBand (sig : Nat) : Bool := sig == 1 || sig == 3 || sig == 5

/-- The signal is one of the table of R97, of a satellite of its system (R97, R111). -/
def SkySig.received (x : SkySig) : Bool :=
  x.signal ≤ 6 && x.const == x.signal / 2 &&
    (let r := match x.const with | 0 => (1, 32) | 1 => (1, 36) | 2 => (1, 63) | _ => (120, 158)
     r.1 ≤ x.svid && x.svid ≤ r.2)

/-- The highest of the elevations at which a satellite is searched: a coarse-time start takes those of the 2 h after the flushed time as well
(R103, R126). -/
def GnsState.elevation (b : GnsState) (x : SkySig) : Rat := if b.coarseSearch then x.later.foldl maxQ x.elev else x.elev

/-- The channel of an antenna that carries a signal. -/
def GnsState.channelOf (b : GnsState) (a : Nat) (x : SkySig) : Option Nat :=
  (antChans a).find? fun i => let c := b.chan i
    c.phase != .idle && c.const == x.const && c.svid == x.svid && c.signal == x.signal

/-- The satellite's upper-band signal is tracked on the antenna, so its lower band can be acquired (R101). -/
def GnsState.upperTracked (b : GnsState) (a : Nat) (x : SkySig) : Bool :=
  (antChans a).any fun i => let c := b.chan i
    c.phase == .track && c.const == x.const && c.svid == x.svid && !lowerBand c.signal

/-- Predicted elevation of a channel's satellite, degrees; −90 when none is given. -/
def GnsState.elevOf (b : GnsState) (sky : List SkySig) (c : Channel) : Rat :=
  match sky.find? fun x => x.const == c.const && x.svid == c.svid with | some x => b.elevation x | none => -90

/-- A channel's hold on its place: less is displaced first (R103). -/
def weaker (sky : List SkySig) (b : GnsState) (i j : Nat) : Bool :=
  let x := b.chan i
  let y := b.chan j
  decide (b.elevOf sky x < b.elevOf sky y) || (b.elevOf sky x == b.elevOf sky y && !pilotSignal x.signal && pilotSignal y.signal)

/-- The channel a new signal takes: an idle one, or the weakest when the signal stands above it (R103). -/
def GnsState.placeFor (b : GnsState) (sky : List SkySig) (a : Nat) (x : SkySig) : Option Nat :=
  match (antChans a).find? fun i => (b.chan i).phase == .idle with
  | some i => some i
  | none =>
    let w := (antChans a).foldl (fun m i => if weaker sky b i m then i else m) (96 * a)
    let c := b.chan w
    if b.elevOf sky c < b.elevation x || (b.elevOf sky c == b.elevation x && !pilotSignal c.signal && pilotSignal x.signal) then some w
    else none

/-- Priority of the search of a newly assigned signal (R101). -/
def State.searchPrio (s : State) (x : SkySig) : Nat :=
  if lowerBand x.signal then 3
  else if s.gns.starting && s.gns.startKind ≤ 1 then 2
  else if s.gns.hot.almanac.contains (x.const, x.svid) then 4 else 5

/-- An antenna on which signals are assigned (R98, R99, R100). -/
def State.antTakes (s : State) (a : Nat) : Bool := !s.antDead a && decide ((s.gns.ant a).assignAt ≤ s.now)

/-- Assigns a signal on an antenna (R98, R99, R103). -/
def assignOn (sky : List SkySig) (x : SkySig) (a : Nat) (s : State) : State :=
  if !s.antTakes a || (s.gns.channelOf a x).isSome then s
  else match s.gns.placeFor sky a x with
    | none => s
    | some i =>
      let s := idleChannel i s
      let s := modGnsChan i (fun c => { c with
        const := x.const, svid := x.svid, signal := x.signal, halfCycle := x.signal == 0 || x.signal == 6 }) s
      searchChannel i (s.searchPrio x) s

/-- A signal may be assigned in this frame: one of the upper band at once; one of the lower band once the satellite's upper-band signal is tracked on
every antenna that takes signals, so that both antennas get it in the same frame (R101, R103). -/
def State.mayAssign (s : State) (x : SkySig) : Bool :=
  x.received && (!lowerBand x.signal || [0, 1].all fun a => !s.antTakes a || s.gns.upperTracked a x)

/-- Assignment and release of a frame (R103). -/
def assignChannels (sky : List SkySig) (s : State) : State :=
  let mask := s.scalars.elevMask
  let s := s.forN 192 fun s i =>
    let c := s.gns.chan i
    if c.phase != .idle && decide (s.gns.elevOf sky c ≤ mask - 2) then idleChannel i s else s
  (sky.filter fun x => decide (mask ≤ s.gns.elevation x)).foldl (fun s x =>
    if s.mayAssign x then assignOn sky x 1 (assignOn sky x 0 s) else s) s

/-! ### Measurement records (R106 to R111) -/

/-- Light-milliseconds and remainder of a pseudorange moved by some metres (R111). -/
def shiftRange (ms : Nat) (rem d : Rat) : Nat × Rat :=
  let x := (ms : Rat) * (299792458 / 1000) + rem + d
  let n := (floorNat (x / (299792458 / 1000)))
  (n, x - (n : Rat) * (299792458 / 1000))

/-- Whole cycles and fraction of a carrier phase moved by some cycles (R111). -/
def shiftPhase (int : Int) (frac d : Rat) : Int × Rat :=
  let x := (int : Rat) + frac + d
  (x.floor, x - (x.floor : Rat))

/-- The residual of the strobe at the frame instant, in s (R108, R461). -/
def edgeSec (ns : Rat) : Rat := strobeRes ns / 1000000000

/-- Cause of the slip that the latch finds on a channel: 0 the lock indicator has dropped below 0.8 within the integration, 1 the bit polarity has
flipped while HALF_CYCLE is set (R106). An integration lasts 20 ms, which is the time between two latches (R104). -/
def Channel.slipCause (c : Channel) (r : LatchRec) : Option Nat :=
  if c.cpValid && decide (r.lock < 4 / 5) then some 0 else if c.halfCycle && r.flipped then some 1 else none

/-- The strobe of one channel: flags, LOCK_TIME and values, at the sample edge and moved to the frame instant by the Doppler; the range grows by −λ
times the Doppler a second (R106 to R109, R111). A value whose flag is 0 keeps its last. -/
def Channel.strobe (i : Nat) (edge : Rat) (r : LatchRec) (c : Channel) : Channel :=
  let pr := decide (1000 ≤ r.convergedMs)
  let cp := decide (4 / 5 ≤ r.lock)
  let half := (c.signal == 0 || c.signal == 6) && !r.polarity
  let slip := (c.slipCause r).isSome
  let time := if slip || !cp then 0 else sat 16 (c.lockTime + 1)
  let h := c.held
  let p := if pr then shiftRange r.prMs r.prRem (299792458 / carrierHz c.signal * r.doppler * edge) else (h.prMs, h.prRem)
  let f := if cp then shiftPhase r.cpInt r.cpFrac (r.doppler * edge) else (h.cpInt, h.cpFrac)
  { c with
    prValid := pr, cpValid := cp, halfCycle := half, lockTime := time, slip := slip
    held := { const := c.const, svid := c.svid, signal := c.signal, ant := antOf i, prValid := pr, cpValid := cp, halfCycle := half, slip := slip
              prMs := p.1, lockTime := time, prRem := p.2, cpInt := f.1, cpFrac := f.2, doppler := r.doppler, cn0 := r.cn0, elev := r.elev
              channel := i } }

/-- What the strobe finds on a channel: none unless it is in TRACK (R106, R109). -/
def Channel.found (l : List LatchRec) (i : Nat) (c : Channel) : Option LatchRec :=
  if c.phase == .track then l.find? fun r => r.channel == i else none

/-- A channel after the strobe. -/
def Channel.latched (edge : Rat) (l : List LatchRec) (i : Nat) (c : Channel) : Channel :=
  match c.found l i with
  | some r => c.strobe i edge r
  | none => { c with prValid := false, cpValid := false, lockTime := 0, slip := false }

/-- MEASUREMENT_LATCH (R108): all channels are strobed at the frame instant, and what they hold waits for GT, through a margin switch too (R39).
A slip of a frame whose snapshot was not published is told with the next. -/
def strobeLatch (edge : Rat) (l : List LatchRec) (s : State) : State :=
  let e := edgeSec edge
  let chans := s.gns.chans.mapIdx (Channel.latched e l)
  let slips := (List.range 192).filterMap fun i =>
    match (s.gns.chan i).found l i with
    | some r => ((s.gns.chan i).slipCause r).map fun k => (((s.gns.chan i).strobe i e r).held, k)
    | none => none
  let before := match s.gns.latch with | some b => b.slips | none => []
  s.modGns fun b => { b with
    chans := chans
    latch := some { frame := s.frame, time := s.tim.frameAt, holdover := s.holdover, degraded := s.degradedCause.isSome
                    recs := (chans.filter fun c => c.prValid || c.cpValid).map fun c => c.held, slips := before ++ slips } }

/-- A cycle slip is counted and told (R106, R129). -/
def tellSlip (s : State) (x : ChanRec × Nat) : State :=
  (s.modGns fun b => { b with slipCount := satInc 32 b.slipCount }).raise 0x0818 x.1.channel
    [BitVec.ofNat 8 x.1.svid, BitVec.ofNat 8 x.1.signal, BitVec.ofNat 8 x.2]

/-- GT takes up what was latched (R108, R111): the batch of the frame, without a record when nothing was latched, and its slips. -/
def takeLatch (s : State) : State :=
  let l : Batch := match s.gns.latch with
    | some b => { b with recs := if b.frame == s.frame then b.recs else [] }
    | none => { holdover := s.holdover, degraded := s.degradedCause.isSome }
  let s := s.modGns fun b => { b with latch := none, batch := { l with frame := s.frame, time := s.tim.frameAt, slips := [] } }
  l.slips.foldl tellSlip s

/-- The records of an antenna in the batch. -/
def GnsState.recs (b : GnsState) (a : Nat) : List ChanRec := b.batch.recs.filter fun r => r.ant == a

/-- Carrier phase that heading, velocity and RTK may use (R107). -/
def ChanRec.phaseOk (r : ChanRec) : Bool := r.cpValid && !r.halfCycle

/-- The satellites of a list of records, each once. -/
def satsOf (l : List ChanRec) : List (Nat × Nat) := (l.map fun r => (r.const, r.svid)).eraseDups

/-- Records of antenna A whose signal antenna B also has, both satisfying p (R118). -/
def GnsState.common (b : GnsState) (p : ChanRec → Bool) : List ChanRec :=
  (b.recs 0).filter fun x => p x && (b.recs 1).any fun y => p y && y.const == x.const && y.svid == x.svid && y.signal == x.signal

/-- Double differences: one reference satellite for each signal (R118). -/
def GnsState.doubleDiffs (b : GnsState) : Nat :=
  let l := b.common fun r => r.phaseOk && !r.slip
  ((List.range 7).map fun g => (l.filter fun r => r.signal == g).length - 1).foldl (· + ·) 0

/-- Satellites on which the heading may be formed (R118). -/
def GnsState.hdgSats (b : GnsState) : Nat := (satsOf (b.common fun r => r.phaseOk && decide (50 ≤ r.lockTime))).length

/-- The 32 bytes of a record (R111). -/
def ChanRec.bytes (r : ChanRec) : Bytes :=
  [BitVec.ofNat 8 r.const, BitVec.ofNat 8 r.svid, BitVec.ofNat 8 r.signal,
    BitVec.ofNat 8 (bitsToNat [r.ant == 1, r.prValid, r.cpValid, r.halfCycle, r.slip])]
  ++ leBytes 2 r.prMs ++ leBytes 2 r.lockTime ++ f32Bytes r.prRem ++ leBytes 4 (ofSigned 32 r.cpInt) ++ f32Bytes r.cpFrac
  ++ f32Bytes r.doppler ++ f32Bytes r.cn0 ++ leBytes 2 (ofSigned 16 r.elev) ++ [BitVec.ofNat 8 r.channel, 0]

/-- The bytes of a measurement batch (R111). -/
def Batch.bytes (b : Batch) : Bytes :=
  leBytes 4 b.frame ++ leBytes 8 b.time ++ leBytes 2 b.recs.length ++ [BitVec.ofNat 8 (bitsToNat [b.holdover, b.degraded]), 0]
    ++ b.recs.flatMap ChanRec.bytes

/-- The measurement batch of the last snapshot (R111). -/
def State.gnssBatch (s : State) : Bytes := s.gns.batch.bytes

/-! ### Position solutions (R112 to R116) -/

/-- Limit of the correction age, ns (R115). -/
def State.corrLimit (s : State) : Nat := nsOf s.scalars.corrMaxAge

/-- Correction age of a source: frame instant minus base epoch; none without an epoch (R115). -/
def State.corrAge (s : State) (k : Nat) : Option Nat :=
  match (s.gns.corr.getD k {}).epoch with | some e => some (s.tim.frameAt - e) | none => none

/-- The source is within CORR_MAX_AGE (R115). -/
def State.corrFresh (s : State) (k : Nat) : Bool :=
  match s.corrAge k with | some a => decide (a ≤ s.corrLimit) | none => false

/-- Reference point of the base in use, while its corrections are within the limit (R115). -/
def State.baseInUse (s : State) : Option Vec3 :=
  if s.gns.corrActive = 0 || !s.corrFresh (s.gns.corrActive - 1) then none else (s.gns.corr.getD (s.gns.corrActive - 1) {}).base

/-- An observation carried forward to a time: by its phase-range rate, or by the difference to the same signal of the epoch before; none when neither
is held (R115). -/
def CorrSource.carry (c : CorrSource) (at_ : Nat) (x : BaseObs) : Option BaseObs :=
  match c.epoch with
  | none => none
  | some t =>
    let dt := secOf (at_ - t)
    match x.rate with
    | some v => some { x with pr := x.pr + v * dt, cp := x.cp + v * dt }
    | none =>
      match c.epochPrev, c.obsPrev.find? fun y => y.const == x.const && y.svid == x.svid && y.signal == x.signal with
      | some t0, some y =>
        let k := dt / secOf (t - t0)
        if t0 < t then some { x with pr := x.pr + (x.pr - y.pr) * k, cp := x.cp + (x.cp - y.cp) * k } else none
      | _, _ => none

/-- Base observations at the frame instant (R115). -/
def State.baseObs (s : State) : List BaseObs :=
  if s.baseInUse.isNone then []
  else
    let c := s.gns.corr.getD (s.gns.corrActive - 1) {}
    c.obs.filterMap (c.carry s.tim.frameAt)

/-- The satellites of a solution that count: those with a valid pseudorange of the antenna in the batch (R112, R113). -/
def GnsState.usedSats (b : GnsState) (a : Nat) (sats : List (Nat × Nat)) : List (Nat × Nat) :=
  sats.eraseDups.filter fun k => (b.recs a).any fun r => r.prValid && (r.const, r.svid) == k

/-- Satellites a position takes: three, and one for each constellation used (R113). -/
def satsNeeded (l : List (Nat × Nat)) : Nat := 3 + (l.map (·.1)).eraseDups.length

/-- The satellites that satisfy p suffice for a position. -/
def enoughSats (l : List (Nat × Nat)) (p : Nat × Nat → Bool) : Bool := decide (satsNeeded (l.filter p) ≤ (l.filter p).length)

/-- A satellite with valid pseudoranges of both bands on an antenna, free of the ionosphere together (R112). -/
def GnsState.dualBand (b : GnsState) (a : Nat) (k : Nat × Nat) : Bool :=
  let on := fun (low : Bool) => (b.recs a).any fun r => r.prValid && (r.const, r.svid) == k && lowerBand r.signal == low
  on true && on false

/-- Type of a solution of an antenna on the satellites l (R112); NONE when no type has what it needs. -/
def State.solType (s : State) (a : Nat) (l : List (Nat × Nat)) (x : FixSol) : Nat :=
  let plain := if s.gns.sbas then 2 else if enoughSats l (s.gns.dualBand a) then 1 else 0
  match s.baseInUse with
  | none => plain
  | some p =>
    let d := (ecef x.pos).sub p
    let dd := d.dot d
    let carrier := (s.gns.recs a).any ChanRec.phaseOk
    let obs := s.baseObs
    if 200000 * 200000 < dd || !enoughSats l (fun k => obs.any fun o => (o.const, o.svid) == k) then plain
    else if 40000 * 40000 < dd || !carrier then 3
    else if s.gns.rtkFixed.getD a false then 5 else 4

/-- The chi-square test of normalised residuals, at false-alarm probability 10⁻⁵; it has as many degrees of freedom as residuals beyond the
unknowns, and passes where there is none (R113). -/
def chiPasses (need : Nat) (res : List Rat) : Bool :=
  decide (res.length ≤ need) || decide (sumQ (res.map fun r => r * r) ≤ Config.chi2Limit (res.length - need))

/-- The satellite of the largest normalised residual (R113). -/
def worstSat (l : List ((Nat × Nat) × Rat)) : Option (Nat × Nat) :=
  (l.foldl (fun (m : Option ((Nat × Nat) × Rat)) x => match m with
    | some y => if absQ y.2 < absQ x.2 then some x else m
    | none => some x) none).map (·.1)

/-- A position computation passes: satellites and residual test (R113). Its satellites, when it does. -/
def State.fixPasses (s : State) (a : Nat) (x : FixSol) : Option (List (Nat × Nat)) :=
  let l := s.gns.usedSats a x.sats
  if enoughSats l (fun _ => true) && chiPasses (satsNeeded l) ((x.residuals.filter fun r => l.contains r.1).map (·.2)) then some l else none

/-- The computation that stands: the first, or its single repetition without the worst satellite (R113). -/
def State.fixOf (s : State) (a : Nat) (x : FixIn) : Option (List (Nat × Nat) × FixSol) :=
  match s.fixPasses a x.first with
  | some l => some (l, x.first)
  | none =>
    if !enoughSats (s.gns.usedSats a x.first.sats) (fun _ => true) then none
    else
      let again := { x.again with sats := x.first.sats.filter fun k => some k != worstSat x.first.residuals }
      (s.fixPasses a again).map fun l => (l, again)

/-- A position differs from the one carried forward by more than 5 m + 4σ (R116): the distance and whether it does. -/
def jumpOf (sol : Solution) (pos : Geo) (sigma : Vec3) : Rat × Bool :=
  match sol.carried with
  | none => (0, false)
  | some (g, _) =>
    let d := (toPlane g pos).norm
    (d, decide (5 + 4 * sigma.norm < d))

/-- The position carried forward by the ego-motion velocity to the frame instant (R116). R116 does not say how it is carried over frames without
a valid velocity: it is left, and the next valid velocity is taken for the whole gap (DESIGN CHOICE, assumption log 16). -/
def carryFix (now : Nat) (vel : Vec3) (c : Option (Geo × Nat)) : Option (Geo × Nat) :=
  match c with
  | none => none
  | some (g, t) => let dt := secOf (now - t); some (ofPlane g { x := vel.x * dt, y := vel.y * dt, z := vel.z * dt }, now)

/-- A valid solution: FIX_ACQUIRED after a loss or before the first fix, and START_KIND at the first fix of a start (R113, R125). -/
def fixAcquired (a : Nat) (s : State) : State :=
  let x := s.gns.sol a
  let was := x.lost
  let s := modSol a (fun x => { x with lost := false, noneSince := none, lastType := x.type }) s
  let s := s.raiseIf was 0x0813 a [BitVec.ofNat 8 x.type, BitVec.ofNat 8 x.nsat]
  let s := s.modGns fun b => { b with hot := { b.hot with lastPos := b.hot.lastPos.set a (some x.pos) }, wakeFix := b.wakeFix || b.wakeAt.isSome }
  if s.gns.starting then
    let ms := match s.gns.startAt with | some t => msOf (s.now - t) | none => 0
    let s := s.modGns fun b => { b with starting := false, startAt := none, ttff := if ms ≤ 65534 then ms else 0xFFFF }
    s.raise 0x081E 0xFF ([BitVec.ofNat 8 s.gns.startKind, 0, 0, 0] ++ leBytes 4 ms)
  else s

/-- No solution in the frame (R113). -/
def noFix (a : Nat) (s : State) : State :=
  modSol a (fun x => { x with type := 0, valid := false, nsat := 0
                              noneSince := if x.noneSince.isSome || x.lost then x.noneSince else some s.now }) s

/-- The solution of an antenna in a frame (R112, R113, R116): none while the start waits for its time (R126). -/
def solveAntenna (a : Nat) (fix : Option FixIn) (s : State) : State :=
  match (if s.antDead a || s.gns.timeWait then none else fix.bind (s.fixOf a)) with
  | none => noFix a s
  | some (l, x) =>
    let type := s.solType a l x
    if type = 0 then noFix a s
    else
      let ok := decide (x.pdop ≤ s.scalars.pdopMax)
      let sol := s.gns.sol a
      let held := match sol.jumpUntil with | some _ => true | none => false
      let j := jumpOf sol x.pos x.sigma
      let jump := ok && !held && j.2
      let valid := ok && !held && !j.2
      let s := modSol a (fun y => { y with
        type := type, valid := valid, nsat := l.length, pdop := x.pdop, pos := x.pos, sigma := x.sigma
        clockBias := x.clockBias, clockDrift := x.clockDrift, noneSince := if y.lost then y.noneSince else none
        jumpUntil := if jump then some (s.now + 10000000000) else y.jumpUntil
        carried := if valid then some (x.pos, s.tim.frameAt) else y.carried }) s
      if jump then s.raise 0x081D a (f32Bytes j.1) else if valid then fixAcquired a s else s

/-- A solution NONE for 1 s after being valid (R113). -/
def fixLost (a : Nat) (s : State) : State :=
  let x := s.gns.sol a
  match x.noneSince with
  | some t => if x.lost || decide (s.now - t < 1000000000) then s
              else (modSol a (fun x => { x with lost := true, noneSince := none }) s).raise 0x0814 a [BitVec.ofNat 8 x.lastType]
  | none => s

/-- After 10 s a jumped solution is tested again; it stays invalid for another 10 s when it fails (R116). -/
def solutionRevalidate (a : Nat) (s : State) : State :=
  let x := s.gns.sol a
  match x.jumpUntil with
  | none => s
  | some t =>
    if s.now < t || x.type = 0 then s
    else
      let j := jumpOf x x.pos x.sigma
      if j.2 then (modSol a (fun y => { y with jumpUntil := some (s.now + 10000000000) }) s).raise 0x081D a (f32Bytes j.1)
      else
        let ok := decide (x.pdop ≤ s.scalars.pdopMax)
        let s := modSol a (fun y => { y with jumpUntil := none, valid := ok
                                             carried := if ok then some (y.pos, s.tim.frameAt) else y.carried }) s
        if ok then fixAcquired a s else s

/-! ### Heading and ego-motion (R117 to R122) -/

/-- The configured baseline in the vessel frame (R117). -/
def State.baseVector (s : State) : Vec3 := (s.image.lever s.scalars.baselineB).sub (s.image.lever s.scalars.baselineA)

/-- The configured baseline length L, m (R117). -/
def State.baseLength (s : State) : Rat := s.baseVector.norm

/-- L lies outside 0.5 m to 30 m (R117); by its square, which takes no root. -/
def State.baseBad (s : State) : Bool :=
  let q := s.baseVector.dot s.baseVector
  decide (q < 1 / 4) || decide (900 < q)

/-- The check of L at start-up (R117). -/
def checkBaseline (s : State) : State :=
  if s.baseBad then
    let told := s.gns.baselineTold
    (s.modGns fun b => { b with hdgPhase := .unavailable, baselineTold := true }).raiseIf (!told) 0x0821 0xFF (f32Bytes s.baseLength)
  else s

/-- BL_TOL, m (R118). -/
def State.blTol (s : State) : Rat := 1 / 50 + s.baseLength / 1000

/-- A length lies within L ± BL_TOL (R118): 0.999 L − 0.02 m to 1.001 L + 0.02 m, by the square of L. -/
def State.lengthFits (s : State) (len : Rat) : Bool :=
  let q := s.baseVector.dot s.baseVector
  let lo := (len - 1 / 50) / (1001 / 1000)
  let hi := (len + 1 / 50) / (999 / 1000)
  (decide (lo ≤ 0) || decide (lo * lo ≤ q)) && decide (0 ≤ hi) && decide (q ≤ hi * hi)

/-- Roll and pitch in turns of values of the motion reference unit that are not older than 0.1 s at a time (R120, R135). -/
def mruAt (v : Option (Rat × Rat × Nat)) (at_ : Nat) : Option (Rat × Rat) :=
  match v with
  | some (phi, theta, t) => if at_ ≤ t + 100000000 then some (turnsOfRad phi, turnsOfRad theta) else none
  | none => none

/-- Roll and pitch of the motion reference unit in turns, while not older than 0.1 s at a time (R120, R135). R(φ, θ) of a value asks at the value's
stamp, FUS_STATUS MRU and the baseline heading at the TOV (assumption log 17). -/
def State.mruTurns (s : State) (at_ : Nat) : Option (Rat × Rat) := mruAt s.fus.mruVal at_

/-- The same of the values that the input cut froze, which FC uses (R135, R151). -/
def State.mruFrozen (s : State) (at_ : Nat) : Option (Rat × Rat) := mruAt s.fus.mruCut at_

/-- The image names a baseline, and its length can give a heading (R117). -/
def State.baseUsable (s : State) : Bool := s.scalars.baselineNamedA && s.scalars.baselineNamedB && !s.baseBad

/-- Azimuth of the vessel-frame baseline turned by roll and pitch in turns (R120). -/
def State.baseAzimuth (s : State) (phi theta : Rat) : Rat := let r := rollPitch phi theta s.baseVector; Config.atan2T r.y r.x

/-- Elevation of a measured baseline, turns. -/
def elevationOf (b : Vec3) : Rat := Config.atan2T (-b.z) (Config.sqrt (b.x * b.x + b.y * b.y))

/-- Vessel heading of a measured baseline, turns (R120). -/
def State.headingOf (s : State) (b : Vec3) : Rat :=
  Config.atan2T b.y b.x - (match s.mruTurns s.tim.frameAt with
    | some (phi, theta) => s.baseAzimuth phi theta
    | none => s.baseAzimuth 0 (elevationOf b))

/-- Heading 1σ, rad: without a motion reference unit it includes what a roll of 5° does to the heading through the baseline's y and z components
(R120). -/
def State.headingSigma (s : State) (e : EgoIn) : Rat :=
  if (s.mruTurns s.tim.frameAt).isSome then e.sigma
  else
    let th := elevationOf e.base
    let d := radOf (wrapTurn (s.baseAzimuth (5 / 360) th - s.baseAzimuth 0 th))
    Config.sqrt (e.sigma * e.sigma + d * d)

/-- Three failed length checks in a row: the fix is rejected (R119). -/
def hdgWrongFix (s : State) : State :=
  if s.gns.hdgPhase == .fixed && s.gns.lengthFails == 3 then
    let res := absQ (s.gns.baseline - s.baseLength)
    let s := s.modGns fun b => { b with excluded := some b.ints }
    leaveFixed .none (s.raise 0x0817 0xFF (zeros 4 ++ f32Bytes res))
  else s

/-- A baseline measured in FIXED gives heading, length and error; a length off by more than BL_TOL doubles σ and counts (R119, R120). -/
def useBaseline (e : EgoIn) (ndd : Nat) (s : State) : State :=
  let len := e.base.norm
  let bad := decide (s.blTol < absQ (len - s.baseLength))
  let sg := s.headingSigma e
  s.modGns fun b => { b with
    ndd := ndd, baseline := len, heading := bamOf (s.headingOf e.base), mruUsed := (s.mruTurns s.tim.frameAt).isSome
    hdgSigma := if bad then 2 * sg else sg, lengthFails := if bad then min 3 (b.lengthFails + 1) else 0 }

/-- Heading state machine and heading of a frame (R117 to R120). A fix found in a frame is used from the next one (R113); one already rejected by three
failed checks ends here if HDG_WRONG_FIX has not come. -/
def headingFrame (e : EgoIn) (s : State) : State :=
  let s := hdgWrongFix s
  let g := s.gns
  let ndd := g.doubleDiffs
  let dead := s.antDead 0 || s.antDead 1
  match g.hdgPhase with
  | .unavailable => s
  | .none => if s.baseUsable && !dead && decide (6 ≤ g.hdgSats) then s.modGns fun b => { b with hdgPhase := .float } else s
  | .float =>
    if dead || decide (g.hdgSats < 6) then s.modGns fun b => { b with hdgPhase := .none, hdgFixReady := false }
    else if g.hdgFixReady && g.hdgFoundAt != s.frame then
      let s := useBaseline e ndd (s.modGns fun b => { b with hdgPhase := .fixed, hdgFixReady := false, lengthFails := 0 })
      s.raise 0x0815 0xFF ([BitVec.ofNat 8 ndd, 0, 0, 0] ++ f32Bytes e.base.norm)
    else s.modGns fun b => { b with ndd := ndd }
  | .fixed =>
    if dead then leaveFixed .none s
    else if ndd < 5 then leaveFixed .float s
    else useBaseline e ndd s

/-- The heading is valid (R118, R119). -/
def State.hdgOk (s : State) : Bool := s.gns.hdgPhase == .fixed && decide (s.gns.lengthFails < 3)

/-- The records of antenna A that the ego-motion uses (R121). -/
def GnsState.egoRecs (b : GnsState) : List ChanRec := (b.recs 0).filter fun r => r.phaseOk && decide (2 ≤ r.lockTime) && !r.slip

/-- The ego-motion can be solved: five satellites, and the frame follows no step of time (R121). -/
def State.egoOk (s : State) : Bool := !s.antDead 0 && !s.gns.afterStep && decide (5 ≤ (satsOf s.gns.egoRecs).length)

/-- Signals whose residual exceeds 0.03 m an interval after the solution (R122). -/
def State.egoSlips (s : State) (res : List (Nat × Rat)) : List ChanRec :=
  if s.egoOk then s.gns.egoRecs.filter fun r => res.any fun x => x.1 == r.channel && decide (3 / 100 < absQ x.2) else []

/-- A signal removed as a slip: LOCK_TIME returns to 0, its record shows SLIP, and the slip is told (R106, R122). -/
def removeSlip (s : State) (r : ChanRec) : State :=
  let s := modGnsChan r.channel (fun c => { c with lockTime := 0, slip := true }) s
  tellSlip (s.modGns fun b => { b with batch := { b.batch with
    recs := b.batch.recs.map fun x => if x.channel == r.channel then { x with lockTime := 0, slip := true } else x } }) (r, 2)

/-- Velocity and yaw rate of a frame, on the signals that remain; the solution is the repeated one when a signal was removed (R121, R122). -/
def egoFrame (e : EgoIn) (repeated : Bool) (s : State) : State :=
  let n := (satsOf s.gns.egoRecs).length
  let ok := s.egoOk
  let vel := if repeated then e.velAgain else e.vel
  let rel := if repeated then e.relAgain else e.rel
  let hh := e.base.x * e.base.x + e.base.y * e.base.y
  let yaw := ok && s.gns.hdgPhase == .fixed && decide (0 < hh)
  s.modGns fun b => { b with
    velValid := ok, velNsat := if ok then n else 0, vel := if ok then vel else b.vel, yawValid := yaw, afterStep := false
    yawRate := if yaw then (e.base.x * rel.y - e.base.y * rel.x) / hh else b.yawRate }

/-- A background ambiguity search completes (R113, R118): `which` 0 heading, constrained to the length L ± BL_TOL, 1 and 2 the RTK of antennas A
and B. -/
def ambiguityDone (which : Nat) (ratio : F32) (ndd : Nat) (x : AmbFix) (s : State) : State :=
  let pass := decide (3 ≤ f32Val ratio)
  if which = 0 then
    let ok := pass && decide (5 ≤ ndd) && s.gns.hdgPhase == .float && s.gns.excluded != some x.ints
      && f32Finite x.len && s.lengthFits (f32Val x.len)
    s.modGns fun b => { b with excluded := none, hdgFixReady := ok, hdgFoundAt := s.frame, ints := if ok then x.ints else b.ints }
  else if pass then s.modGns fun b => { b with
    rtkReady := b.rtkReady.set (which - 1) true, rtkFoundAt := b.rtkFoundAt.set (which - 1) s.frame }
  else s

/-! ### Corrections (R114, R115) -/

/-- Big-endian number of a byte string. -/
def beNat (b : Bytes) : Nat := b.foldl (fun n x => n * 256 + x.toNat) 0

/-- Bits i … i + k − 1 of a byte string, most significant bit first (RTCM 10403.3). -/
def bitsAt (b : Bytes) (i k : Nat) : Nat := beNat b / 2 ^ (8 * b.length - i - k) % 2 ^ k

/-- The ambiguities of both antennas are reset (R115, R127). -/
def resetRtk (s : State) : State := s.modGns fun b => { b with rtkFixed := [false, false], rtkReady := [false, false] }

/-- A time of week in ms placed at the module time nearest to now (R115). -/
def weekTime (now ms : Nat) : Nat :=
  let w := 604800000000000
  let t := now / w * w + ms * 1000000
  if t + w / 2 ≤ now then t + w else if now + w / 2 < t then t - w else t

/-- One correction source changed. -/
def modCorr (k : Nat) (f : CorrSource → CorrSource) (s : State) : State := s.modGns fun b => { b with corr := updAt b.corr k f }

/-- A message of a station arrives: another base than the one held takes its place, and resets RTK when it is in use (R115). -/
def rtcmFrom (k station : Nat) (s : State) : State :=
  if (s.gns.corr.getD k {}).station = station then s
  else
    let s := if s.gns.corrActive == k + 1 then resetRtk s else s
    modCorr k (fun c => { station := station, freshSince := c.freshSince, epoch := c.epoch }) s

/-- A station's reference point arrives; a move of more than 0.10 m is reported and resets RTK (R115). -/
def rtcmStation (k station : Nat) (p : Vec3) (height : Option Rat) (s : State) : State :=
  let s := rtcmFrom k station s
  let old := (s.gns.corr.getD k {}).base
  let s := modCorr k (fun c => { c with base := some p, height := if height.isSome then height else c.height }) s
  match old with
  | some q => let d := p.sub q; if 1 / 100 < d.dot d then (resetRtk s).raise 0x081B k (f32Bytes d.norm) else s
  | none => s

/-- Positions of the ones in a mask of n bits at bit i, counted from 1. -/
def maskOnes (b : Bytes) (i n : Nat) : List Nat := ((List.range n).filter fun j => bitsAt b (i + j) 1 == 1).map (· + 1)

/-- The observations of an MSM message (R114), laid out as RTCM 10403.3 gives MSM4, MSM5 and MSM7 (PRESUMED, assumption log 16): masks of
satellites, signals and cells; for each satellite the rough range and rough rate; for each cell the fine range, phase range and rate. A satellite or
cell whose fields say 'invalid' gives none. -/
def msmObs (msg : Nat) (b : Bytes) : List BaseObs :=
  let kind := msg % 10
  let sats := maskOnes b 73 64
  let sigs := maskOnes b 137 32
  let cells := ((List.range (sats.length * sigs.length)).filter fun j => bitsAt b (169 + j) 1 == 1)
  let ns := sats.length
  let nc := cells.length
  let at0 := 169 + sats.length * sigs.length
  let ext := if kind = 4 then 0 else 4
  let sat0 := at0 + ns * (18 + ext + (if kind = 4 then 0 else 14))
  let w : Nat × Nat × Nat × Nat := if kind = 7 then (20, 24, 10, 10) else (15, 22, 4, 6)
  let light : Rat := 299792458 / 1000
  (List.range nc).filterMap fun j =>
    let x := cells.getD j 0
    let i := x / max 1 sigs.length
    let ms := bitsAt b (at0 + 8 * i) 8
    let rough := (ms : Rat) + (bitsAt b (at0 + ns * (8 + ext) + 10 * i) 10 : Rat) / 1024
    let slow := toSigned 14 (bitsAt b (at0 + ns * (18 + ext) + 14 * i) 14)
    let fine := toSigned w.1 (bitsAt b (sat0 + w.1 * j) w.1)
    let phase := toSigned w.2.1 (bitsAt b (sat0 + w.1 * nc + w.2.1 * j) w.2.1)
    let quick := toSigned 15 (bitsAt b (sat0 + (w.1 + w.2.1 + w.2.2.1 + 1 + w.2.2.2) * nc + 15 * j) 15)
    let bad := ms == 255 || fine == -(2 ^ (w.1 - 1) : Int) || phase == -(2 ^ (w.2.1 - 1) : Int)
    if bad then none
    else some {
      const := if msg < 1090 then 0 else if msg < 1120 then 1 else 2, svid := sats.getD i 0, signal := sigs.getD (x % max 1 sigs.length) 0
      pr := light * (rough + (fine : Rat) / (if kind = 7 then 2 ^ 29 else 2 ^ 24 : Nat))
      cp := light * (rough + (phase : Rat) / (if kind = 7 then 2 ^ 31 else 2 ^ 29 : Nat))
      rate := if kind = 4 || slow == -8192 || quick == -16384 then none else some ((slow : Rat) + (quick : Rat) / 10000) }

/-- A message of a base epoch arrives; with the last one the epoch is complete (R115). -/
def rtcmEpoch (k station t : Nat) (obs : List BaseObs) (last : Bool) (s : State) : State :=
  modCorr k (fun c =>
    let l := (match c.building with | some (u, l) => if u = t then l else [] | none => []) ++ obs
    if last then { c with building := none, complete := c.complete ++ [(t, s.now, l)] } else { c with building := some (t, l) })
    (rtcmFrom k station s)

/-- The frame that carries a message: preamble, length, message and CRC-24Q (RTCM 10403.3). -/
def rtcmOf (body : Bytes) : Bytes :=
  let h : Bytes := [0xD3, BitVec.ofNat 8 (body.length / 256), BitVec.ofNat 8 body.length] ++ body
  let c := crc24q h
  h ++ [BitVec.ofNat 8 (c / 65536), BitVec.ofNat 8 (c / 256), BitVec.ofNat 8 c]

/-- The image assigns a source: a serial port, or a UDP port of an Ethernet interface (R114). -/
def State.corrAssigned (s : State) (k : Nat) : Bool :=
  let c := s.scalars
  let kind := if k = 0 then c.corrPriKind else c.corrSecKind
  s.engineRuns 13 && match kind with
    | 0 => false
    | 1 => field (s.ser.ports.getD (if k = 0 then c.corrPriSer else c.corrSecSer) {}).cfg.cfg 1 0 == 2
    | _ => (s.eth.ports.getD (kind - 2) {}).link

/-- A valid frame of a source that is a serial port counts as its accepted input (R402, R410). -/
def heardSource (k : Nat) (s : State) : State :=
  let c := s.scalars
  let kind := if k = 0 then c.corrPriKind else c.corrSecKind
  if kind = 1 then heardInput (if k = 0 then c.corrPriSer else c.corrSecSer) s else s

/-- The datagram of a source that is a UDP port passes its interface's rate limit, or is dropped (R406). -/
def admitSource (k : Nat) (s : State) : State × Bool :=
  let c := s.scalars
  let kind := if k = 0 then c.corrPriKind else c.corrSecKind
  if 2 ≤ kind then ethAdmit (kind - 2) s else (s, true)

/-- An RTCM 3 frame of a source: preamble, length and CRC-24Q, then its message (R114, R115). A source that the image does not assign receives
none. -/
def rtcmFrame (k : Nat) (fr : Bytes) (s : State) : State :=
  let len := bitsAt fr 14 10
  let body := (fr.drop 3).take len
  let crc := beNat ((fr.drop (3 + len)).take 3)
  let r := admitSource k s
  if !s.corrAssigned k then s
  else if !r.2 then r.1
  else
    let s := r.1
    if fr.length < 6 + len || byteAt fr 0 != 0xD3 || crc24q (fr.take (3 + len)) != crc then
      s.modGns fun b => { b with crcFail := satInc 16 b.crcFail }
    else
      let s := heardSource k s
      let msg := bitsAt body 0 12
      let station := bitsAt body 12 12
      let coord := fun i => (toSigned 38 (bitsAt body i 38) : Rat) / 10000
      if msg = 1005 ∨ msg = 1006 then
        rtcmStation k station { x := coord 34, y := coord 74, z := coord 114 } (if msg = 1006 then some ((bitsAt body 152 16 : Rat) / 10000) else none) s
      else if msg = 1033 then modCorr k (fun c => { c with descriptor := body }) (rtcmFrom k station s)
      else if [1074, 1075, 1077, 1094, 1095, 1097, 1124, 1125, 1127].contains msg then
        let tow := bitsAt body 24 30 + (if 1124 ≤ msg then 14000 else 0)
        rtcmEpoch k station (weekTime s.now (tow % 604800000)) (msmObs msg body) (bitsAt body 54 1 == 0) s
      else s.modGns fun b => { b with unsupported := satInc 16 b.unsupported }

/-- The epochs complete before a frame instant come into use in their order (R115). -/
def CorrSource.take (instant : Nat) (c : CorrSource) : CorrSource :=
  let ready := fun (e : Nat × Nat × List BaseObs) => decide (e.2.1 ≤ instant)
  (c.complete.filter ready).foldl (fun c e => { c with
    epoch := some e.1, obs := e.2.2, obsPrev := c.obs, epochPrev := if c.obs.isEmpty then none else c.epoch })
    { c with complete := c.complete.filter fun e => !ready e }

/-- CORR_DIST: the distance of antenna A's position of the frame from the base in use (R127); with no base, or without a solution of antenna A,
it keeps its last value (DESIGN CHOICE, assumption log 16). -/
def corrDistance (s : State) : State :=
  s.modGns fun b => { b with
    corrDist := match s.baseInUse with | some p => (if (b.sol 0).type = 0 then b.corrDist else ((ecef (b.sol 0).pos).sub p).norm) | none => b.corrDist }

/-- At a frame: epochs complete before the instant come into use, and each source's time within the limit runs (R115). -/
def corrFrame (s : State) : State :=
  let s := (List.range 2).foldl (fun s k => modCorr k (CorrSource.take s.tim.frameAt) s) s
  let s := (List.range 2).foldl (fun s k => modCorr k (fun c => { c with
    freshSince := if s.corrFresh k then (if c.freshSince.isSome then c.freshSince else some s.tim.frameAt) else none }) s) s
  let usable := fun (b : GnsState) (a : Nat) => b.rtkReady.getD a false && b.rtkFoundAt.getD a 0 != s.frame
  s.modGns fun b => { b with
    rtkFixed := (List.range 2).map fun a => s.baseInUse.isSome && (b.rtkFixed.getD a false || usable b a)
    rtkReady := (List.range 2).map fun a => b.rtkReady.getD a false && !usable b a }

/-- The source the rules of R115 choose now: 0 none, 1 primary, 2 secondary. -/
def State.corrChoice (s : State) : Nat :=
  let back := match (s.gns.corr.getD 0 {}).freshSince with | some t => decide (10000000000 ≤ s.tim.frameAt - t) | none => false
  if s.corrFresh 0 && (s.gns.corrActive != 2 || back || !s.corrFresh 1) then 1 else if s.corrFresh 1 then 2 else 0

/-- No source within CORR_MAX_AGE (R115). Before any source has been in use there is none to lose: CORR_STALE and STALE occur only after one was
active (DESIGN CHOICE, assumption log 16). -/
def corrStale (s : State) : State :=
  if s.gns.corrActive != 0 && s.corrChoice == 0 then
    let age := match s.corrAge 0, s.corrAge 1 with
      | some a, some b => min a b | some a, none => a | none, some b => b | none, none => 0
    let s := resetRtk (s.modGns fun b => { b with corrActive := 0, corrStale := true })
    s.raise 0x0819 0xFF (f32Bytes (secOf age))
  else s

/-- The source changes (R115). -/
def corrSwitch (s : State) : State :=
  let c := s.corrChoice
  if c = 0 || c == s.gns.corrActive then s
  else
    let old := if s.gns.corrActive = 0 then none else some (s.gns.corr.getD (s.gns.corrActive - 1) {}).station
    let new := (s.gns.corr.getD (c - 1) {}).station
    let s := if old == some new then s else resetRtk s
    (s.modGns fun b => { b with corrActive := c, corrStale := false }).raise 0x081A (c - 1) (leBytes 2 new)

/-! ### The snapshot of a frame (R110) -/

/-- Key of the hot-start data in P2 (R483). -/
def hotKey : StoreKey := { part := 2, kind := 1 }

/-- GT writes P2 (R123). -/
def storeHotStart (s : State) : State :=
  let r := submitWrite hotKey 2 Config.hotStartBytes 12 (.hotStart s.gns.hot) s
  match r.2 with
  | .inr _ => r.1.modGns fun b => { b with ephemDirty := false, ephemStored := some s.now }
  | .inl _ => r.1

/-- The hot-start data as P2 holds it (R123). -/
def State.keptHot (s : State) : HotStart :=
  match s.aqf.objs.find? fun o => o.key == hotKey && o.crcOk with
  | some o => (match o.data with | .hotStart h => h | _ => {})
  | none => {}

/-- At the power-fail flush GT writes the last positions only (R123). -/
def storeLastPos (s : State) : State :=
  (submitWrite hotKey 2 Config.hotStartBytes 12 (.hotStart { s.keptHot with lastPos := s.gns.hot.lastPos }) s).1

/-- A coarse-time solution from at least six satellites is accepted by three tests, or turns the start into WARM, which goes on waiting for its time
(R126). -/
def coarseFrame (x : CoarseIn) (s : State) : State :=
  let sats := (s.gns.usedSats 0 x.sats ++ s.gns.usedSats 1 x.sats).eraseDups
  if !s.gns.coarseSearch || decide (sats.length < 6) then s
  else if decide (x.rms ≤ 10) && decide (0 ≤ x.offset) && decide (x.offset ≤ 7200000000000) && x.ephemOk then
    s.modGns fun b => { b with timeWait := false }
  else s.modGns fun b => { b with startKind := 2 }

/-- The time of week and the GPS week of a frame (R126): the week of L1 C/A alone is never taken; without another it is that of the kept time. -/
def weekFrame (n : NavIn) (s : State) : State :=
  s.modGns fun b => { b with
    timeWait := b.timeWait && !(n.tow && !b.coarseSearch)
    week := match n.weeks.find? fun w => w.1 != .l1 with | some w => some w | none => b.week }

/-- Navigation data of a frame: SBAS, ephemerides, almanacs and leap seconds (R112, R123, R129). -/
def navFrame (n : NavIn) (s : State) : State :=
  let s := s.modGns fun b => { b with
    sbas := n.sbas, ephemDirty := b.ephemDirty || !n.ephem.isEmpty
    hot := { b.hot with
      ephem := b.hot.ephem.filter (fun e => !n.ephem.any fun x => x.1 == e.1) ++ n.ephem
      almanac := (b.hot.almanac ++ n.almanac).eraseDups
      leap := n.leap.getD b.hot.leap }
    leapKept := b.leapKept && n.leap.isNone }
  let s := match n.leapNext with
    | some (c, t) =>
      if s.gns.hot.leapNext == some (c, t) || c == s.gns.hot.leap then s
      else (s.modGns fun b => { b with hot := { b.hot with leapNext := some (c, t) } }).raise 0x081F 0xFF
        ([BitVec.ofNat 8 s.gns.hot.leap, BitVec.ofNat 8 c, 0, 0] ++ leBytes 8 t)
    | none => s
  let s := match s.gns.hot.leapNext with
    | some (c, t) => if t ≤ s.now then s.modGns fun b => { b with hot := { b.hot with leap := c, leapNext := none } } else s
    | none => s
  let s := weekFrame n (match n.coarse with | some x => coarseFrame x s | none => s)
  let due := match s.gns.ephemStored with | some t => decide (600000000000 ≤ s.now - t) | none => true
  if s.gns.ephemDirty && due then storeHotStart s else s

/-- GNSS_INT and GNSS_BASELINE deliver with the snapshot, stamped with the frame instant (R130, R131, R148). -/
def deliverGnss (s : State) : State :=
  let one := fun (s : State) (a : Nat) =>
    let x := s.gns.sol a
    (s.slotsWhere fun r => r.type == 0 && r.srcKind == a).foldl (fun s i => deliverRef i
      (if x.valid then some { stamp := s.tim.frameAt, value := .geo x.pos x.sigma.x x.sigma.y } else none) s) s
  let s := one (one s 0) 1
  (s.slotsWhere fun r => r.type == 8).foldl (fun s i => deliverRef i
    (if s.hdgOk then some { stamp := s.tim.frameAt, value := .heading (turnsOf s.gns.heading) s.gns.hdgSigma } else none) s) s

/-- GT publishes the snapshot of the frame (R110). -/
def gtPublish (us : Nat) (ma : List F32) (sky : List SkySig) (residuals : List (Nat × Rat)) (fixes : List (Option FixIn)) (ego : EgoIn)
    (nav : NavIn) (s : State) : State :=
  if !s.stagesRun || !s.engineRuns 12 || s.gns.snapFrame == some s.frame || (s.sup.mode == .dormant && s.gns.wakeAt.isNone) then s
  else
    let s := passCut (s.atFrame us)
    let s := s.forN 2 fun s a => if (s.gns.ant a).supplyOn then modAnt a (fun p => { p with current := f32Val (ma.getD a 0) }) s else s
    let s := corrFrame (navFrame nav (takeLatch s))
    let slips := s.egoSlips residuals
    let s := slips.foldl removeSlip s
    let s := egoFrame ego (!slips.isEmpty) (headingFrame ego s)
    let s := s.forN 2 fun s a => modSol a (fun x => { x with carried := if s.gns.velValid then carryFix s.tim.frameAt s.gns.vel x.carried else x.carried }) s
    let s := measureGnss (corrDistance (s.forN 2 fun s a => solveAntenna a (fixes.getD a none) s))
    let s := assignChannels sky s
    let s := deliverGnss (s.modGns fun b => { b with
      snapFrame := some s.frame, recShown := b.batch.recs.find? fun r => r.channel == b.chanSel })
    closeStage 0 600 (cutHere s)

/-! ### Jamming (R128) -/

/-- The jamming indication sets after 1 s of both conditions and clears after 10 s without both (R128): the gain of either band has fallen, and C/N0 on
half of the signals tracked. The event names the upper band when its gain has fallen, and at clearing the band named before. -/
def jamDetect (a : Nat) (upper lower : F32) (weak ms : Nat) (s : State) : State :=
  let tracked := ((antChans a).filter fun i => (s.gns.chan i).phase == .track).length
  let c1 := decide (10 < f32Val upper) || decide (10 < f32Val lower)
  let c2 := decide (0 < tracked) && decide (tracked ≤ 2 * weak)
  let p := s.gns.ant a
  let set := !p.jam && c1 && c2 && decide (1000 ≤ ms)
  let clear := p.jam && !c1 && !c2 && decide (10000 ≤ ms)
  let band := if clear then p.jamBand else if 10 < f32Val upper then 0 else 1
  if set || clear then
    (modAnt a (fun p => { p with jam := set, jamBand := band }) s).raise 0x081C a [BitVec.ofNat 8 band, BitVec.ofNat 8 (b2n set)]
  else s

/-! ### Starts and sleep (R123 to R126) -/

/-- The time base has held module time since the data were kept: no power was lost, or the time has been confirmed since (R125). -/
def State.timeHeld (s : State) : Bool := decide (2 ≤ s.sup.resetCause) || s.tim.confirmed

/-- Start kind from the kept data and the time state (R125); `above` are the satellites predicted above the mask. -/
def State.startKindOf (s : State) (above : List (Nat × Nat)) (timeHeld : Bool) : Nat :=
  let h := s.gns.hot
  let eph := (above.filter fun k => h.ephem.any fun e => e.1 == k && decide (s.now ≤ e.2)).length
  if 6 ≤ eph then (if timeHeld then 0 else 1)
  else if !h.almanac.isEmpty && h.lastPos.any Option.isSome then 2 else 3

/-- A GNSS start begins (R125); TTFF runs from a time at which samples are valid, or from the first valid samples to come. -/
def beginStart (kind : Nat) (wake : Bool) (from_ : Option Nat) (s : State) : State :=
  s.modGns fun b => { b with
    startKind := kind, startWake := wake, ttff := 0xFFFF, starting := true, startAt := from_, timeWait := kind == 1, asleep := false }

/-- Module time from which the front ends have given valid samples (R98, R125). -/
def State.samplesFrom (s : State) : Option Nat :=
  (s.gns.ants.filterMap fun p => if p.feOn then p.readyAt else none).foldl (fun m t => some (match m with | some x => min x t | none => t)) none

/-- The time a start begun while samples are valid counts from. -/
def State.startNow (s : State) : Option Nat := if s.gns.ants.any fun p => p.feOn then some s.now else none

/-- The front-end supplies and front ends of domains PD1 and PD2 come on (R98, R99). -/
def antennasOn (s : State) : State :=
  s.forN 2 fun s a =>
    if s.domOn (1 + a) && !s.bst.failedMask.getLsbD 17 && !(s.gns.ant a).feOn && (s.gns.ant a).feSince.isNone && !s.tim.tcxoFault then
      modAnt a (fun p => { p with feSince := some s.now, supplyOn := !s.supplyMarkedOff a
                                  phase := if s.supplyMarkedOff a then .supplyOff else if p.phase == .supplyOff then .ok else p.phase }) s
    else s

/-- A front end whose domain goes off (R98, R100, R105). -/
def frontEndOff (a : Nat) (s : State) : State :=
  let s := modAnt a (fun p => { p with feOn := false, feSince := none, readyAt := none, supplyOn := false, current := 0 }) s
  pathLost a (idleAntenna a s)

/-- GT goes off with PD4: its channels, solutions and velocity end (R100, R521). -/
def gtOff (s : State) : State :=
  let s := pathLost 1 (pathLost 0 (idleAntenna 1 (idleAntenna 0 s)))
  s.modGns fun b => { b with starting := false, startAt := none, queue := [], queueEmptyAt := s.now, acqWanted := false }

/-- The GNSS domains PD1 to PD4 for a wake (R124). -/
def gnssDomainsOn (s : State) : State :=
  let on := fun (v : BitVec 13) (d : Nat) => if s.pwr.domFault.getLsbD d then v else setBit v d true
  let s := s.modPwr fun b => { b with domOn := [1, 2, 3, 4].foldl on b.domOn }
  antennasOn (s.modGns fun b => { b with queueEmptyAt := s.now })

/-- The GNSS domains go off at the end of a wake (R124). -/
def gnssDomainsOff (s : State) : State :=
  let s := gtOff (frontEndOff 1 (frontEndOff 0 s))
  s.modPwr fun b => { b with domOn := [1, 2, 3, 4].foldl (fun v d => setBit v d false) b.domOn }

/-- A wake at a frame instant that is a whole multiple of 15 min, in DORMANT (R124). -/
def gnssWake (above : List (Nat × Nat)) (s : State) : State :=
  if s.sup.mode != .dormant || s.gns.wakeAt.isSome || s.tim.frameAt % 900000000000 != 0 || s.now != s.tim.frameAt then s
  else
    let s := gnssDomainsOn s
    let s := beginStart (s.startKindOf above s.timeHeld) true s.startNow s
    s.modGns fun b => { b with wakeAt := some s.now, wakeFix := false, wakes := satInc 16 b.wakes }

/-- After 10 s the wake ends: P2 is written, the domains go off and WAKE is raised (R124). -/
def gnssWakeEnd (s : State) : State :=
  match s.gns.wakeAt with
  | none => s
  | some w =>
    if s.now < w + 10000000000 then s
    else
      let fix := s.gns.wakeFix
      let n := ((s.gns.chans.filter fun c => c.phase == .track).map fun c => (c.const, c.svid)).eraseDups.length
      let s := gnssDomainsOff (storeHotStart s)
      let s := s.modGns fun b => { b with wakeAt := none, asleep := true, wakesNoFix := if fix then b.wakesNoFix else satInc 16 b.wakesNoFix }
      s.raise 0x0820 0xFF [BitVec.ofNat 8 (b2n fix), BitVec.ofNat 8 (min n 255)]

/-- GNSS starts once its BIST slice has passed, from the kept data that phase 7 loads (R77, R125); TTFF runs from the valid samples. -/
def gnssStart (above : List (Nat × Nat)) (s : State) : State :=
  let pass := fun u => (s.bst.units.getD u {}).result == 1
  if s.sup.startPhase != 8 || s.pwr.supply != .normal || s.gns.starting || s.gns.ttff != 0xFFFF || !s.engineRuns 12 || !pass 12 || !pass 17 then s
  else beginStart (s.startKindOf above s.timeHeld) false s.samplesFrom s

/-- The GNSS data of P2 is discarded and GNSS restarts cold (R127). -/
def coldStart (s : State) : State :=
  let s := idleAntenna 1 (idleAntenna 0 s)
  let s := resetRtk (s.modGns fun b => { b with hot := {}, leapKept := true, ephemDirty := false, ephemStored := none })
  let s := noFix 1 (noFix 0 s)
  let s := if s.gns.hdgPhase == .unavailable then s else leaveFixed .none s
  let s := s.modAqf fun b => { b with objs := b.objs.filter fun o => o.key != hotKey }
  beginStart 3 false s.startNow s

/-- RTK and heading ambiguities are reset (R127). -/
def rtkReset (s : State) : State :=
  let s := resetRtk s
  if s.gns.hdgPhase == .fixed then leaveFixed .float s else s.modGns fun b => { b with hdgFixReady := false }

/-! ### Registers (R127) -/

/-- Codes of the channel states (R105). -/
def ChanPhase.code : ChanPhase → Nat
  | .idle => 0 | .search => 1 | .pullIn => 2 | .track => 3

/-- Codes of the antenna states (R127). -/
def AntPhase.code : AntPhase → Nat
  | .ok => 0 | .open_ => 1 | .short => 2 | .supplyOff => 3

/-- Codes of the heading states (R118). -/
def HdgPhase.code : HdgPhase → Nat
  | .none => 0 | .float => 1 | .fixed => 2 | .unavailable => 3

/-- SOL_A and SOL_B (R127). PDOP × 10 is truncated to an integer: R127 gives the saturation alone (DESIGN CHOICE, assumption log 16). -/
def Solution.word (x : Solution) : Word :=
  pack [(x.type, 0, 4), (b2n x.valid, 4, 1), (x.nsat, 8, 8), (sat 8 (floorNat (x.pdop * 10)), 16, 8)]

/-- Value of a GNS register; none where none is defined. While no source is active CORR_AGE reads 0.0 (DESIGN CHOICE, assumption log 16). -/
def gnsRead (s : State) (off : Nat) : Option Word :=
  let b := s.gns
  let cnt := fun (p : Nat → Channel → Bool) => ((List.range 192).filter fun i => p i (b.chan i)).length
  let c := b.chan b.chanSel
  if 0x70 ≤ off ∧ off ≤ 0x8C ∧ off % 4 = 0 then
    some (wordOf (match b.recShown with | some r => leAt r.bytes (off - 0x70) 4 | none => 0))
  else match off with
  | 0x10 => some (pack [(b2n ((b.ant 0).feOn && s.domOn 1), 0, 1), (b2n ((b.ant 1).feOn && s.domOn 2), 1, 1), (b2n (s.domOn 3), 2, 1),
      (b2n b.asleep, 3, 1), (b2n (b.ant 0).jam, 4, 1), (b2n (b.ant 1).jam, 5, 1), (b.hot.leap, 8, 8), (b2n b.leapKept, 16, 1)])
  | 0x14 => some (pack [((b.ant 0).phase.code, 0, 2), ((b.ant 1).phase.code, 2, 2)])
  | 0x18 => some (f32Of (b.ant 0).current)
  | 0x1C => some (f32Of (b.ant 1).current)
  | 0x20 => some (pack [(cnt fun i c => antOf i == 0 && c.phase == .track, 0, 8), (cnt fun i c => antOf i == 1 && c.phase == .track, 8, 8),
      (cnt fun _ c => c.phase == .search || c.phase == .pullIn, 16, 8)])
  | 0x24 => some (pack [(sat 16 b.queue.length, 0, 16), ((b.passes.filter fun t => decide (s.now - t < 1000000000)).length, 16, 16)])
  | 0x28 => some (b.sol 0).word
  | 0x2C => some (b.sol 1).word
  | 0x30 => some (pack [(b.hdgPhase.code, 0, 2), (b2n b.mruUsed, 2, 1), (b.ndd, 8, 8), (b.heading, 16, 16)])
  | 0x34 => some (f32Of b.hdgSigma)
  | 0x38 => some (f32Of b.baseline)
  | 0x3C => some (f32Of b.yawRate)
  | 0x40 => some (f32Of b.vel.x)
  | 0x44 => some (f32Of b.vel.y)
  | 0x48 => some (f32Of b.vel.z)
  | 0x4C => some (pack [(b2n b.velValid, 0, 1), (b2n b.yawValid, 1, 1), (b.velNsat, 8, 8)])
  | 0x50 => some (pack [(b.corrActive, 0, 2), (b2n b.corrStale, 2, 1),
      (if b.corrActive = 0 then 0 else (b.corr.getD (b.corrActive - 1) {}).station, 8, 12)])
  | 0x54 => some (f32Of (match (if b.corrActive = 0 then none else s.corrAge (b.corrActive - 1)) with | some a => secOf a | none => 0))
  | 0x58 => some (f32Of b.corrDist)
  | 0x5C => some (pack [(b.crcFail, 0, 16), (b.unsupported, 16, 16)])
  | 0x60 => some (pack [(b.startKind, 0, 2), (b2n b.startWake, 2, 1), (b.ttff, 16, 16)])
  | 0x64 => some (pack [(b.wakes, 0, 16), (b.wakesNoFix, 16, 16)])
  | 0x68 => some (wordOf b.slipCount)
  | 0x6C => some (wordOf b.chanSel)
  | 0x90 => some (pack [(c.phase.code, 0, 3), (antOf b.chanSel, 3, 1), (c.const, 4, 4), (c.svid, 8, 8), (c.signal, 16, 8)])
  | 0x94 => some 0
  | _ => none

/-- What a read clears (R22, R127). -/
def gnsClear (off : Nat) (s : State) : State :=
  match off with
  | 0x5C => s.modGns fun b => { b with crcFail := 0, unsupported := 0 }
  | 0x68 => s.modGns fun b => { b with slipCount := 0 }
  | _ => s

/-- Writable GNS registers (R127). -/
def gnsWritable (off : Nat) : Bool := off == 0x6C || off == 0x94

/-- A write to a GNS register (R127). A write with both COLD_START and RTK_RESET outside SERVICE is refused whole, so RTK_RESET is not done either; R127 does
not speak of the pair (DESIGN CHOICE, assumption log 16). -/
def gnsWrite (w : WCtx) (off : Nat) (v : Word) (s : State) : WriteOut :=
  match off with
  | 0x6C => if field v 7 0 ≤ 191 then .done (s.modGns fun b => { b with chanSel := field v 7 0 }) 0 else .range
  | 0x94 =>
    needRole w roleEngineer s <|
      if bit v 0 && s.sup.mode != .service then .refused s 1
      else
        let s := if bit v 0 then coldStart s else s
        .done (if bit v 1 then rtkReset s else s) 0
  | _ => .refused s 1

/-! ### Meanings of the commands -/

/-- Meaning of GNSS_START (R125). -/
def execGnssStart (above : List (Nat × Nat)) (s : State) : Host.Outcome State Fault Refusal :=
  .next (gnssStart above s)

/-- Meaning of ANT_OPEN (R99). -/
def execAntOpen (ant : Fin 2) (ma : F32) (ms : Nat) (s : State) : Host.Outcome State Fault Refusal :=
  .next (antOpen ant.val ma ms s)

/-- Meaning of ANT_SHORT (R99). -/
def execAntShort (ant : Fin 2) (ma : F32) (s : State) : Host.Outcome State Fault Refusal :=
  .next (antShort ant.val ma s)

/-- Meaning of ANT_SUPPLY_RETRY (R99). -/
def execAntSupplyRetry (ant : Fin 2) (ma : F32) (s : State) : Host.Outcome State Fault Refusal :=
  .next (antSupplyRetry ant.val ma s)

/-- Meaning of ANT_RESTORED (R99). -/
def execAntRestored (ant : Fin 2) (ma : F32) (ms : Nat) (s : State) : Host.Outcome State Fault Refusal :=
  .next (antRestored ant.val ma ms s)

/-- Meaning of FRONT_END_READY (R98). -/
def execFrontEndReady (ant : Fin 2) (s : State) : Host.Outcome State Fault Refusal :=
  .next (frontEndReady ant.val s)

/-- Meaning of ACQ_PASS (R101). -/
def execAcqPass (windows : Nat) (found : List Nat) (s : State) : Host.Outcome State Fault Refusal :=
  .next (acqPass windows found s)

/-- Meaning of ACQ_IDLE (R102). -/
def execAcqIdle (s : State) : Host.Outcome State Fault Refusal :=
  .next (acqIdle s)

/-- Meaning of ACQ_POWER_ON (R102). -/
def execAcqPowerOn (s : State) : Host.Outcome State Fault Refusal :=
  .next (acqPowerOn s)

/-- Meaning of CHANNEL_SEARCH_TIMEOUT (R105). -/
def execChannelSearchTimeout (ch : Fin 192) (s : State) : Host.Outcome State Fault Refusal :=
  .next (channelSearchTimeout ch.val s)

/-- Meaning of CHANNEL_PULL_IN (R105). -/
def execChannelPullIn (ch : Fin 192) (lockMs : Nat) (sync : Bool) (s : State) : Host.Outcome State Fault Refusal :=
  .next (channelPullIn ch.val lockMs sync s)

/-- Meaning of CHANNEL_PULL_IN_TIMEOUT (R105). -/
def execChannelPullInTimeout (ch : Fin 192) (s : State) : Host.Outcome State Fault Refusal :=
  .next (channelPullInTimeout ch.val s)

/-- Meaning of CHANNEL_TRACK_LOSS (R105). -/
def execChannelTrackLoss (ch : Fin 192) (weakMs unlockMs : Nat) (s : State) : Host.Outcome State Fault Refusal :=
  .next (channelTrackLoss ch.val weakMs unlockMs s)

/-- Meaning of GT_SNAPSHOT_PUBLISH (R110). -/
def execGtSnapshotPublish (us : Nat) (ma : List F32) (sky : List SkySig) (residuals : List (Nat × Rat)) (fixes : List (Option FixIn)) (ego : EgoIn) (nav : NavIn)
    (s : State) : Host.Outcome State Fault Refusal :=
  .next (gtPublish us ma sky residuals fixes ego nav s)

/-- Meaning of AMBIGUITY_SEARCH_DONE (R113). -/
def execAmbiguitySearchDone (search : Fin 3) (ratio : F32) (ndd : Nat) (fix : AmbFix) (s : State) :
    Host.Outcome State Fault Refusal :=
  .next (ambiguityDone search.val ratio ndd fix s)

/-- Meaning of HDG_WRONG_FIX (R119). -/
def execHdgWrongFix (s : State) : Host.Outcome State Fault Refusal :=
  .next (hdgWrongFix s)

/-- Meaning of FIX_LOST (R113). -/
def execFixLost (ant : Fin 2) (s : State) : Host.Outcome State Fault Refusal :=
  .next (fixLost ant.val s)

/-- Meaning of SOLUTION_REVALIDATE (R116). -/
def execSolutionRevalidate (ant : Fin 2) (s : State) : Host.Outcome State Fault Refusal :=
  .next (solutionRevalidate ant.val s)

/-- Meaning of RTCM_FRAME (R114). -/
def execRtcmFrame (source : Fin 2) (frame : Bytes) (s : State) : Host.Outcome State Fault Refusal :=
  .next (rtcmFrame source.val frame s)

/-- Meaning of CORR_STALE (R115). -/
def execCorrStale (s : State) : Host.Outcome State Fault Refusal :=
  .next (corrStale s)

/-- Meaning of CORR_SWITCH (R115). -/
def execCorrSwitch (s : State) : Host.Outcome State Fault Refusal :=
  .next (corrSwitch s)

/-- Meaning of JAM_DETECT (R128). -/
def execJamDetect (ant : Fin 2) (upper lower : F32) (weak ms : Nat) (s : State) : Host.Outcome State Fault Refusal :=
  .next (jamDetect ant.val upper lower weak ms s)

/-- Meaning of GNSS_WAKE (R124). -/
def execGnssWake (above : List (Nat × Nat)) (s : State) : Host.Outcome State Fault Refusal :=
  .next (gnssWake above s)

/-- Meaning of GNSS_WAKE_END (R124). -/
def execGnssWakeEnd (s : State) : Host.Outcome State Fault Refusal :=
  .next (gnssWakeEnd s)

end Sys2Proof.Machine
end

