-- ==== Sys2Proof/Machine/Grid.lean ====
section
/-!
DEFINITION. The Tarn grid: kernels, maps, sums over a window and the fitted peak (R140 to R147), and distances (R154).
A heading is treated on a ring by the same rules, in one dimension (R145).
-/
set_option autoImplicit false
namespace Sys2Proof.Machine

/-- A symmetric 2 × 2 matrix: first variance, covariance, second variance. -/
structure Cov2 where
  a : Rat := 0
  b : Rat := 0
  d : Rat := 0
deriving DecidableEq, Repr

/-- Sum of two matrices. -/
def Cov2.add (x y : Cov2) : Cov2 := { a := x.a + y.a, b := x.b + y.b, d := x.d + y.d }

/-- Determinant. -/
def Cov2.det (x : Cov2) : Rat := x.a * x.d - x.b * x.b

/-- vᵀ X⁻¹ v. -/
def Cov2.maha (x : Cov2) (u v : Rat) : Rat := (x.d * u * u - 2 * x.b * u * v + x.a * v * v) / x.det

/-- Square of the major semi-axis: the larger eigenvalue. -/
def Cov2.major (x : Cov2) : Rat :=
  let h := (x.a - x.d) / 2
  (x.a + x.d) / 2 + Config.sqrt (h * h + x.b * x.b)

/-- A reference's value as the grid sees it: position in m, or a heading as turns from the ring's zero with the second coordinate
0; the direction of its first principal axis; the variances along its axes; its SCALE and kernel (R143, R144). -/
structure MapPoint where
  slot : Nat := 0
  x : Rat := 0
  y : Rat := 0
  ax : Rat := 1
  ay : Rat := 0
  v1 : Rat := 0
  v2 : Rat := 0
  scale : Rat := 1
  kernel : List Rat := []
  ring : Bool := false
deriving DecidableEq, Repr

/-- FLOOR (R143). -/
def kernelFloor : Rat := -12

/-- Place of an offset in a kernel row or column: bin centres at −3.75, −3.25, … +3.75; edges hold beyond the last centre (R143). -/
def binPlace (u : Rat) : Nat × Nat × Rat :=
  let t := clampQ 0 15 ((u + 15 / 4) * 2)
  let i := floorNat t
  (i, min 15 (i + 1), t - (i : Rat))

/-- Kernel value at normalised offsets, interpolated bilinearly; FLOOR beyond ±4 on either axis (R143). -/
def kernelAt (k : List Rat) (u v : Rat) : Rat :=
  if 4 < absQ u ∨ 4 < absQ v then kernelFloor
  else
    let p := binPlace u
    let q := binPlace v
    let at_ := fun i j => k.getD (16 * i + j) 0
    let lo := at_ p.1 q.1 + q.2.2 * (at_ p.1 q.2.1 - at_ p.1 q.1)
    let hi := at_ p.2.1 q.1 + q.2.2 * (at_ p.2.1 q.2.1 - at_ p.2.1 q.1)
    lo + p.2.2 * (hi - lo)

/-- Kernel value of a heading: row 0 alone (R145). -/
def kernelRow (k : List Rat) (u : Rat) : Rat :=
  if 4 < absQ u then kernelFloor
  else let p := binPlace u; k.getD p.1 0 + p.2.2 * (k.getD p.2.1 0 - k.getD p.1 0)

/-- Map of a reference at a point, with a cell size c (R143, R144). -/
def MapPoint.map (p : MapPoint) (c x y : Rat) : Rat :=
  let dx := if p.ring then wrapTurn (x - p.x) else x - p.x
  let dy := y - p.y
  let s := fun v => maxQ (Config.sqrt v * p.scale) (c / 2)
  if p.ring then kernelRow p.kernel (dx / s p.v1)
  else kernelAt p.kernel ((dx * p.ax + dy * p.ay) / s p.v1) ((dy * p.ax - dx * p.ay) / s p.v2)

/-- Covariance with each principal σ floored at half a cell (R154). -/
def MapPoint.cov (p : MapPoint) (c : Rat) : Cov2 :=
  let f := fun v => maxQ v (c * c / 4)
  let v1 := f p.v1
  let v2 := f p.v2
  if p.ring then { a := v1, b := 0, d := 1 }
  else { a := p.ax * p.ax * v1 + p.ay * p.ay * v2, b := p.ax * p.ay * (v1 - v2), d := p.ay * p.ay * v1 + p.ax * p.ax * v2 }

/-- The window of a grid: cell size, and the centre of the cell that holds the predicted value (R140, R142). -/
structure Window where
  c : Rat := 1
  x : Rat := 0
  y : Rat := 0
  ring : Bool := false
deriving DecidableEq, Repr

/-- Centre of a window cell i, 0 to 63, on an axis whose middle cell is centred at x (R142). -/
def Window.at_ (w : Window) (x : Rat) (i : Nat) : Rat := x + ((i : Rat) - 32) * w.c

/-- The window about a predicted value on the grid centred at (cx, cy) (R140, R142). -/
def windowOf (c px py cx cy : Rat) (ring : Bool) : Window :=
  let cell := fun p q => q + (roundEven ((if ring then wrapTurn (p - q) else p - q) / c) : Rat) * c
  { c := c, x := cell px cx, y := if ring then 0 else cell py cy, ring := ring }

/-- Sum of the maps at a cell of the window (R146). -/
def Window.sum (w : Window) (ps : List MapPoint) (i j : Nat) : Rat :=
  sumQ (ps.map fun p => p.map w.c (w.at_ w.x i) (if w.ring then 0 else w.at_ w.y j))

/-- A fitted peak, or the cause for which it is refused: 0 EDGE, 1 FLAT, 2 offset (R147, R174). -/
inductive Peak where
  | ok (x y : Rat) (cov : Cov2)
  | refused (cause : Nat)
deriving DecidableEq, Repr

/-- The cell of largest sum among the cells allowed, the first of equal ones. -/
def Window.best (w : Window) (ps : List MapPoint) (allowed : Rat → Rat → Bool) : Option (Nat × Nat) :=
  let js := if w.ring then [0] else List.range 64
  let cells := (List.range 64).flatMap fun i => js.map fun j => (i, j)
  let open_ := cells.filter fun c => allowed (w.at_ w.x c.1) (if w.ring then 0 else w.at_ w.y c.2)
  (open_.foldl (fun (m : Option ((Nat × Nat) × Rat)) c =>
    let v := w.sum ps c.1 c.2
    match m with
    | some (_, b) => if b < v then some (c, v) else m
    | none => some (c, v)) none).map fun m => m.1

/-- The quadratic through three cells of a ring and its peak (R146, R147). -/
def Window.fitRing (w : Window) (ps : List MapPoint) (i : Nat) : Peak :=
  let f := fun k => w.sum ps k 0
  let b := (f (i + 1) - f (i - 1)) / 2
  let a := (f (i + 1) - 2 * f i + f (i - 1)) / 2
  if 0 ≤ a then .refused 1
  else
    let o := -b / (2 * a)
    if 1 < absQ o then .refused 2
    else .ok (w.at_ w.x i + o * w.c) 0 { a := w.c * w.c / (-(2 * a)), b := 0, d := 1 }

/-- The least-squares quadratic through the 3 × 3 cells about (i, j) and its peak (R146, R147). "More than one cell" is taken on each axis
(assumption log 17). -/
def Window.fitGrid (w : Window) (ps : List MapPoint) (i j : Nat) : Peak :=
  let pts := (List.range 3).flatMap fun (di : Nat) => (List.range 3).map fun (dj : Nat) => ((di : Rat) - 1, (dj : Rat) - 1, w.sum ps (i + di - 1) (j + dj - 1))
  let s := fun (g : Rat → Rat → Rat) => sumQ (pts.map fun p => g p.1 p.2.1 * p.2.2)
  let all := s fun _ _ => 1
  let bx := s (fun x _ => x) / 6
  let by_ := s (fun _ y => y) / 6
  let axx := s (fun x _ => x * x) / 2 - all / 3
  let ayy := s (fun _ y => y * y) / 2 - all / 3
  let axy := s (fun x y => x * y) / 4
  let det := 4 * axx * ayy - axy * axy
  if !(decide (axx < 0) && decide (0 < det)) then .refused 1
  else
    let ox := (axy * by_ - 2 * ayy * bx) / det
    let oy := (axy * bx - 2 * axx * by_) / det
    if 1 < absQ ox ∨ 1 < absQ oy then .refused 2
    else
      let cc := w.c * w.c / det
      .ok (w.at_ w.x i + ox * w.c) (w.at_ w.y j + oy * w.c) { a := -(2 * ayy) * cc, b := axy * cc, d := -(2 * axx) * cc }

/-- The peak of the sum of maps in a window (R146, R147); where no cell of the window is allowed, it is refused as EDGE (assumption log 17). -/
def Window.peak (w : Window) (ps : List MapPoint) (allowed : Rat → Rat → Bool) : Peak :=
  match w.best ps allowed with
  | none => .refused 0
  | some (i, j) =>
    if i = 0 ∨ i = 63 ∨ (!w.ring ∧ (j = 0 ∨ j = 63)) then .refused 0
    else if w.ring then w.fitRing ps i else w.fitGrid ps i j

/-- d² between a point and a value with its covariance, Σ floored at half a cell (R154, R157). -/
def distSq (c : Rat) (p : MapPoint) (x y : Rat) (cov : Cov2) : Rat × Rat × Rat :=
  let u := if p.ring then wrapTurn (p.x - x) else p.x - x
  let v := p.y - y
  (u, v, ((p.cov c).add cov).maha u v)

end Sys2Proof.Machine
end

