-- ==== Sys2Proof/Machine/Fusion.lean ====
section
/-!
DEFINITION. Reference fusion on the Tarn grid and the observer, block FUS (chapter 04_reference_fusion.md, R130 to R174).
-/
set_option autoImplicit false
namespace Sys2Proof.Machine

/-! ### Where a value lies at the TOV (R134 to R138, R149) -/

/-- Pose at a time, by linear interpolation between the poses before and after it; the nearest beyond the ends (R149). The list
is newest first. -/
def poseAt (t : Nat) : List (Nat × Rat × Rat × Rat) → Option (Rat × Rat × Rat)
  | [] => none
  | [p] => some p.2
  | p :: q :: l =>
    if p.1 ≤ t then some p.2
    else if q.1 ≤ t then
      let w : Rat := ((t - q.1 : Nat) : Rat) / ((p.1 - q.1 : Nat) : Rat)
      some (q.2.1 + w * (p.2.1 - q.2.1), q.2.2.1 + w * (p.2.2.1 - q.2.2.1), q.2.2.2 + w * wrapTurn (p.2.2.2 - q.2.2.2))
    else poseAt t (q :: l)

/-- The observer's nine states as a list (R161). -/
def ObsVec.toList (x : ObsVec) : List Rat := [x.n, x.e, x.psi, x.u, x.v, x.r, x.bN, x.bE, x.bYaw]

/-- The observer's nine states from a list. -/
def obsOfList (l : List Rat) : ObsVec :=
  let g := fun i => l.getD i 0
  { n := g 0, e := g 1, psi := g 2, u := g 3, v := g 4, r := g 5, bN := g 6, bE := g 7, bYaw := g 8 }

/-- Rate of change of the observer's states (R161): η̇ = R(ψ)ν, Mν̇ = −Dν + τ + R(ψ)ᵀb, and b, which only noise moves, stands still. ψ is in
turns. -/
def obsRate (mass damp : List Rat) (tau : Demand) (l : List Rat) : List Rat :=
  let x := obsOfList l
  let v := rotT x.psi x.u x.v
  let b := rotT (-x.psi) x.bN x.bE
  let drag := mul3 damp [x.u, x.v, x.r]
  let f := [tau.surge + b.1 - drag.getD 0 0, tau.sway + b.2 - drag.getD 1 0, tau.yaw + x.bYaw - drag.getD 2 0]
  [v.1, v.2, turnsOfRad x.r] ++ solve3 mass f ++ [0, 0, 0]

/-- Jacobian of the rates of change by the states, row by row (R161). -/
def obsJacobian (mass damp : List Rat) (l : List Rat) : List Rat :=
  let x := obsOfList l
  let cp := Config.cosT x.psi
  let sp := Config.sinT x.psi
  let acc := fun (f : List Rat) => solve3 mass f
  let byPsi := acc [twoPi * (cp * x.bE - sp * x.bN), -(twoPi * (cp * x.bN + sp * x.bE)), 0]
  let byNu := (List.range 3).map fun j => acc ((List.range 3).map fun i => -(damp.getD (3 * i + j) 0))
  let byBias := [acc [cp, -sp, 0], acc [sp, cp, 0], acc [0, 0, 1]]
  let nuRow := fun i => [0, 0, byPsi.getD i 0] ++ (byNu.map fun c => c.getD i 0) ++ byBias.map fun c => c.getD i 0
  [0, 0, -(twoPi * (sp * x.u + cp * x.v)), cp, -sp, 0, 0, 0, 0] ++ [0, 0, twoPi * (cp * x.u - sp * x.v), sp, cp, 0, 0, 0, 0] ++
    [0, 0, 0, 0, 0, turnsOfRad 1, 0, 0, 0] ++ nuRow 0 ++ nuRow 1 ++ nuRow 2 ++ List.replicate 27 0

/-- Process noise by state, variance per s (R161, R551), with that of ψ in turns. -/
def obsNoise (q : List Rat) : List Rat := (List.range 9).map fun i => if i = 2 then q.getD i 0 / (twoPi * twoPi) else q.getD i 0

/-- The states that the model moves: while ψ is invalid, ψ is the last valid one and r is 0, both held (R165; assumption log 17). -/
def Observer.moving (o : Observer) : ObsVec := if o.psiValid then o.x else { o.x with psi := o.lastPsi.getD 0, r := 0 }

/-- The observer predicted to a TOV by the model (R161, R164); a step of zero length changes nothing. -/
def State.predicted (s : State) (tov : Nat) : Observer :=
  let o := s.fus.obs
  if !o.started || tov ≤ o.at_ then o
  else
    let c := s.scalars
    let dt := secOf (tov - o.at_)
    let x := o.moving
    let y := obsOfList (Config.odeStep (obsRate c.massM c.dampD s.ctl.realised) x.toList dt)
    { o with x := if o.psiValid then y else { y with psi := x.psi, r := x.r }
             cov := Config.covStep (obsJacobian c.massM c.dampD x.toList) o.cov (obsNoise c.procQ) dt, at_ := tov }

/-- Heading that maps position values (R607), turns: the observer's, under R165 the last valid one; before observer start the
newest heading peak. -/
def headingFor (o : Observer) (peak : Option Rat) (path : List (Nat × Rat × Rat × Rat)) (t : Nat) : Option Rat :=
  if !o.started then peak
  else if o.psiValid then (match poseAt t path with | some p => some p.2.2 | none => some o.x.psi)
  else o.lastPsi

/-- Displacement from a value's stamp to the TOV; none before observer start (R149). -/
def carryBy (o : Observer) (path : List (Nat × Rat × Rat × Rat)) (t : Nat) : Rat × Rat × Rat :=
  if !o.started then (0, 0, 0)
  else match poseAt t path with
    | some p => (o.x.n - p.1, o.x.e - p.2.1, if o.psiValid then wrapTurn (o.x.psi - p.2.2) else 0)
    | none => (0, 0, 0)

/-- Tangent of an angle in turns. -/
def tanT (t : Rat) : Rat := Config.sinT t / Config.cosT t

/-- Vessel-frame vector from the reference point to the fixed point of a relative reference, the direction and the variances of
its error along the principal axes in vessel axes (R137, R138). -/
def State.relVector (s : State) (c : RefCfg) (x : Sample) (sigPsi : Rat) : Option (Rat × Rat × Rat × Rat × Rat) :=
  let l := s.image.lever c.transform
  match x.value with
  | .wire tx ty depth =>
    let m := s.mruFrozen x.stamp
    let phi := match m with | some p => p.1 | none => 0
    let theta := match m with | some p => p.2 | none => 0
    let v := depth * c.sigma
    some (l.x + depth * tanT (turnsOfRad tx + theta), l.y + depth * tanT (turnsOfRad ty - phi), 0, v * v, v * v)
  | .rangeBearing r b =>
    let beta := turnsOf b + s.image.mountYaw c.transform
    some (l.x + r * Config.cosT beta, l.y + r * Config.sinT beta, beta, c.sigma * c.sigma, r * r * (c.sigma2 * c.sigma2 + sigPsi * sigPsi))
  | _ => none

/-- The value of a position slot brought to the reference point at the TOV, as the grid sees it (R134, R137, R138, R149). σ_ψ of R138 is that of
the snapshot published last, since this frame's stands only after its update; 0 before the observer starts (assumption log 17). -/
def State.mapPosition (s : State) (i : Nat) (o : Observer) (peak : Option Rat) (path : List (Nat × Rat × Rat × Rat)) (tov : Nat) :
    Option MapPoint :=
  let r := s.fus.ref i
  match s.refCfg i, r.cut, s.fus.origin with
  | some c, some x, some org =>
    match headingFor o peak path x.stamp with
    | none => none
    | some psi =>
      let d := carryBy o path x.stamp
      let infl := secOf (tov - x.stamp) * s.scalars.carrySigmaPos
      let point := fun n e ax ay v1 v2 => some ({
        slot := i, x := n + d.1, y := e + d.2.1, ax := ax, ay := ay
        v1 := v1 + infl * infl, v2 := v2 + infl * infl, scale := r.model.scale, kernel := r.model.kernel } : MapPoint)
      match x.value with
      | .geo g sn se =>
        let p := toPlane org g
        let l := match s.mruFrozen x.stamp with
          | some m => rollPitch m.1 m.2 (s.image.lever c.transform)
          | none => s.image.lever c.transform
        let q := rotT psi l.x l.y
        point (p.x - q.1) (p.y - q.2) 1 0 (sn * sn) (se * se)
      | _ =>
        match r.anchor, s.relVector c x s.fus.snap.hdgSigma with
        | some a, some (vx, vy, dir, v1, v2) =>
          let p := toPlane org a
          let q := rotT psi vx vy
          point (p.x - q.1) (p.y - q.2) (Config.cosT (psi + dir)) (Config.sinT (psi + dir)) v1 v2
        | _, _ => none
  | _, _, _ => none

/-- The value of a heading slot at the TOV, in turns (R135, R149). -/
def State.mapHeading (s : State) (i : Nat) (o : Observer) (path : List (Nat × Rat × Rat × Rat)) (tov : Nat) : Option MapPoint :=
  let r := s.fus.ref i
  match s.refCfg i, r.cut with
  | some c, some x =>
    match x.value with
    | .heading h sg =>
      let yaw := if c.type = 8 then 0 else s.image.mountYaw c.transform
      let infl := secOf (tov - x.stamp) * s.scalars.carrySigmaHdg
      let v := (sg * sg + infl * infl) / (twoPi * twoPi)
      some { slot := i, x := h - yaw + (carryBy o path x.stamp).2.2, v1 := v, scale := r.model.scale, kernel := r.model.kernel, ring := true }
    | _ => none
  | _, _ => none

/-- Place of the slot that a word of REF_CMD names (R173). -/
def refPlace (v : Word) : Nat := if bit v 4 then 8 + field v 3 0 else field v 3 0

/-- A waiting write is REF_CMD ANCHOR, which is answered once its frame has been evaluated (R136). -/
def anchorWrite (w : Waiting) : Bool := w.addr == 0x000A0074 && bit w.value 5

/-! ### Masks (R150, R153, R606) -/

/-- A valid value within max_age is held at the TOV, at the input cut (R150, R151). -/
def State.freshValue (s : State) (i tov : Nat) : Bool :=
  match s.refCfg i, (s.fus.ref i).cut with
  | some c, some x => decide (tov - x.stamp ≤ nsOf c.maxAge)
  | _, _ => false

/-- The first reason of R606 that applies before OFF_GRID and VOTE. A slot whose only deliveries are held back for a later frame (R151) has no data
yet (assumption log 17). -/
def State.earlyReason (s : State) (i tov : Nat) : MaskReason :=
  let r := s.fus.ref i
  if !r.enabled then .disabled
  else if r.cutDelivery == .never || (r.cutDelivery == .valid && r.cut.isNone) then .noData
  else if !s.freshValue i tov then (if r.cutDelivery == .invalid then .sourceInvalid else .age)
  else match s.refCfg i with
    | some c => if relativeType c.type && r.anchor.isNone then .notAnchored else .none
    | none => .noData

/-- Codes of the mask reasons (R173). -/
def MaskReason.code : MaskReason → Nat
  | .none => 0 | .disabled => 1 | .age => 2 | .sourceInvalid => 3 | .vote => 4 | .notAnchored => 5 | .noData => 6 | .offGrid => 7

/-- d of REF_DIST and of the events, 0 where none is defined (R155, R173). -/
def distOf (dSq : Option Rat) : Rat := match dSq with | some d => Config.sqrt d | none => 0

/-- A slot's mask reason changes, which is told under R174; leaving the NO_DATA of start-up for contributing is no occurrence. -/
def setReason (i : Nat) (m : MaskReason) (s : State) : State :=
  let r := s.fus.ref i
  if r.mask == m then s
  else
    let s := modRef i (fun r => { r with mask := m, left := true }) s
    if m == .none then s.raiseIf (r.mask != .noData || r.left) 0x0A11 (slotId i) [BitVec.ofNat 8 r.mask.code, BitVec.ofNat 8 r.conf]
    else s.raise 0x0A10 (slotId i) ([BitVec.ofNat 8 m.code, 0, 0, 0] ++ f32Bytes (distOf r.dSq))

/-! ### Decisions by distance (R154 to R157) -/

/-- The watch over two references of a kind (R157). -/
def State.watch (s : State) (hdg : Bool) : PairWatch := if hdg then s.fus.hdgWatch else s.fus.posWatch

/-- One of the two watches changed. -/
def modWatch (hdg : Bool) (f : PairWatch → PairWatch) (s : State) : State :=
  s.modFus fun b => if hdg then { b with hdgWatch := f b.hdgWatch } else { b with posWatch := f b.posWatch }

/-- A reference is masked by vote: reason VOTE, confidence lowered by 64 (R154). -/
def applyMasked (i : Nat) (s : State) : State :=
  if (s.fus.ref i).voteDue == some true then
    let s := modRef i (fun r => { r with voteDue := none, vote := true, contrib := false, conf := r.conf - 64, farSince := none, nearSince := none }) s
    setReason i .vote s
  else s

/-- A reference masked by vote is readmitted (R155). -/
def applyRestored (i : Nat) (s : State) : State :=
  if (s.fus.ref i).voteDue == some false then
    let s := modRef i (fun r => { r with voteDue := none, vote := false, contrib := true, farSince := none, nearSince := none }) s
    setReason i .none s
  else s

/-- Consistency score (R158). -/
def RefState.score (r : RefState) : Nat :=
  if r.checks.length < 60 then 0 else (r.checks.filter id).length * 255 / r.checks.length

/-- DEGRADED sets for a pair (R157). -/
def applyDisagree (hdg : Bool) (s : State) : State :=
  match (s.watch hdg).setDue with
  | none => s
  | some (lead, other, d) =>
    let s := modWatch hdg (fun w => { w with setDue := none, degraded := true, leader := lead, farSince := none, nearSince := none }) s
    s.raise 0x0A12 (slotId lead) ([BitVec.ofNat 8 (slotId other), BitVec.ofNat 8 (s.fus.ref lead).score, 0, 0] ++ f32Bytes (Config.sqrt d))

/-- DEGRADED clears (R157). -/
def applyAgree (hdg : Bool) (s : State) : State :=
  match (s.watch hdg).clearDue with
  | none => s
  | some cause =>
    let s := modWatch hdg (fun w => { w with clearDue := none, degraded := false, leader := 0, farSince := none, nearSince := none }) s
    s.raise 0x0A13 0xFF [BitVec.ofNat 8 (b2n hdg), BitVec.ofNat 8 cause]

/-- DEGRADED as the running frame's decision leaves it. -/
def PairWatch.effective (w : PairWatch) : Option Nat :=
  if w.clearDue.isSome then none
  else match w.setDue with | some (l, _, _) => some l | none => if w.degraded then some w.leader else none

/-- Longer than t: the condition has held from `since` to a frame instant more than t later. -/
def persists (since : Option Nat) (tov t : Nat) : Bool := match since with | some a => decide (t < tov - a) | none => false

/-- At least t. -/
def holdsFor (since : Option Nat) (tov t : Nat) : Bool := match since with | some a => decide (t ≤ tov - a) | none => false

/-- A condition's first instant kept while it holds. -/
def since (old : Option Nat) (holds : Bool) (tov : Nat) : Option Nat := if holds then (if old.isSome then old else some tov) else none

/-- Distance of a reference from the consensus of the others on the frame's grid: offset and d²; with one other, between the two
values (R154, R155, R157); with none, not defined. -/
def consensus (w : Window) (p : MapPoint) (others : List MapPoint) : Option ((Rat × Rat × Rat) × Cov2) :=
  match others with
  | [] => none
  | [q] => some (distSq w.c p q.x q.y (q.cov w.c), q.cov w.c)
  | qs => match w.peak qs (fun _ _ => true) with
    | .ok x y cov => some (distSq w.c p x y cov, cov)
    | .refused _ => none

/-- The distances of every evaluated reference are kept in its slot (R154, R155, R173). -/
def setDistances (w : Window) (cand contrib : List MapPoint) (s : State) : State :=
  cand.foldl (fun s p =>
    match consensus w p (contrib.filter fun q => q.slot != p.slot) with
    | none => modRef p.slot (fun r => { r with dSq := none, innovA := 0, innovB := 0, sharp := false }) s
    | some (d, cov) =>
      let major := fun v1 v2 : Rat => maxQ v1 v2
      modRef p.slot (fun r => { r with
        dSq := some d.2.2, innovA := if p.ring then radOf d.1 else d.1, innovB := if p.ring then 0 else d.2.1
        offsetU := (d.1 * p.ax + d.2.1 * p.ay) / (Config.sqrt p.v1 * p.scale)
        offsetV := if p.ring then 0 else (d.2.1 * p.ax - d.1 * p.ay) / (Config.sqrt p.v2 * p.scale)
        sharp := decide (4 * (if p.ring then cov.a else cov.major) ≤ (if p.ring then p.v1 else major p.v1 p.v2)) }) s) s

/-- The persistence of d > 3 of the contributing slots of a kind, three or more of them (R154). -/
def farTimers (slots : List Nat) (contrib : List MapPoint) (tov : Nat) (s : State) : State :=
  slots.foldl (fun s i => modRef i (fun r =>
    let far := (contrib.any fun p => p.slot == i) && decide (3 ≤ contrib.length) && (match r.dSq with | some d => decide (9 < d) | none => false)
    { r with farSince := since r.farSince far tov }) s) s

/-- Timers of R154 and R155 of the slots of a kind, and the decisions that fall in this frame: at most one masked, the one whose
condition has persisted longest, then larger d, then the higher slot; every readmission that is due. -/
def decideVotes (slots : List Nat) (cand contrib : List MapPoint) (tov : Nat) (s : State) : State :=
  let in_ := fun (l : List MapPoint) i => l.any fun p => p.slot == i
  let s := farTimers slots contrib tov s
  let s := slots.foldl (fun s i => modRef i (fun r =>
    let near := in_ cand i && r.vote && (match r.dSq with | some d => decide (d ≤ 4) | none => false)
    { r with nearSince := since r.nearSince near tov }) s) s
  let due := (slots.filter fun i => persists (s.fus.ref i).farSince tov 2000000000)
  let better := fun i j =>
    let a := s.fus.ref i
    let b := s.fus.ref j
    decide (a.farSince.getD 0 < b.farSince.getD 0) ||
      (a.farSince == b.farSince && (decide (b.dSq.getD 0 < a.dSq.getD 0) || (a.dSq == b.dSq && decide (j < i))))
  let pick := match due with | [] => none | i :: is => some (is.foldl (fun m j => if better j m then j else m) i)
  let s := match pick with | some i => modRef i (fun r => { r with voteDue := some true }) s | none => s
  slots.foldl (fun s i =>
    let r := s.fus.ref i
    if r.vote && holdsFor r.nearSince tov 10000000000 then modRef i (fun r => { r with voteDue := some false }) s else s) s

/-- The pair rule of R157 in a frame. -/
def decidePair (hdg : Bool) (contrib : List MapPoint) (tov : Nat) (s : State) : State :=
  match contrib with
  | [p, q] =>
    let d := match (s.fus.ref p.slot).dSq with | some d => d | none => 0
    let w := s.watch hdg
    let far := since w.farSince (!w.degraded && decide (9 < d)) tov
    let near := since w.nearSince (w.degraded && decide (d ≤ 4)) tov
    let lead := if (s.fus.ref p.slot).score < (s.fus.ref q.slot).score then (q.slot, p.slot) else (p.slot, q.slot)
    modWatch hdg (fun w => { w with
      farSince := far, nearSince := near
      setDue := if persists far tov 2000000000 then some (lead.1, lead.2, d) else none
      clearDue := if persists near tov 2000000000 then some 0 else none }) s
  | _ => modWatch hdg (fun w => { w with
      farSince := none, nearSince := none, setDue := none, clearDue := if w.degraded then some 1 else none }) s

/-- Decisions of the frame that have not been carried out are carried out (R154 to R157). -/
def applyDecisions (s : State) : State :=
  let s := s.forN 12 fun s i => applyRestored i (applyMasked i s)
  [false, true].foldl (fun s h => applyDisagree h (applyAgree h s)) s

/-! ### Peaks (R141, R142, R145, R146) -/

/-- Fused-grid setting of a kind in a frame. -/
structure GridSet where
  coarse : Window := {}
  fine : Window := {}
  usable : Bool := false
  /-- Centre of the fine grid. -/
  fx : Rat := 0
  fy : Rat := 0
deriving DecidableEq, Repr

/-- The cells within 3σ of the leader's value while DEGRADED holds (R157). -/
def leaderCells (w : Window) (lead : Option MapPoint) (x y : Rat) : Bool :=
  match lead with
  | none => true
  | some p => decide ((distSq w.c p x y {}).2.2 ≤ 9)

/-- The frame's peak: coarse first, and a refused one leaves no measurement; a fine one that passes replaces it (R146, R147); with the grid it
came from: 1 fine, 2 coarse, 0 none. -/
def GridSet.peak (g : GridSet) (ps : List MapPoint) (lead : Option MapPoint) : Peak × Nat :=
  match g.coarse.peak ps (leaderCells g.coarse lead) with
  | .refused c => (.refused c, 0)
  | .ok x y cov => match (if g.usable then g.fine.peak ps (leaderCells g.fine lead) else .refused 0) with
    | .ok x y cov => (.ok x y cov, 1)
    | .refused _ => (.ok x y cov, 2)

/-- A value rounded to a whole multiple of c. -/
def roundTo (c q : Rat) : Rat := (roundEven (q / c) : Rat) * c

/-- Whole-circle ring cells in turns: 4 and 256 bam16 (R145). -/
def ringFine : Rat := 4 / 65536
def ringCoarse : Rat := 256 / 65536

/-- Position grids of a frame (R140 to R142); before observer start (`run` false) both are centred on the value given. -/
def State.posGrids (s : State) (run : Bool) (px py : Rat) : GridSet :=
  let centre : Rat × Rat :=
    if !run then (px, py)
    else match s.sup.mode, s.ctl.setpoint, s.fus.origin with
    | .autoPos, some sp, some o => let p := toPlane o sp.pos; (p.x, p.y)
    | .autoTrack, _, _ => (s.ctl.target.n, s.ctl.target.e)
    | _, _, _ => (px, py)
  let fx := roundTo (1 / 20) centre.1
  let fy := roundTo (1 / 20) centre.2
  { coarse := windowOf 1 px py (roundTo 1 px) (roundTo 1 py) false, fine := windowOf (1 / 20) px py fx fy false
    usable := decide (absQ (px - fx) ≤ 24 / 5) && decide (absQ (py - fy) ≤ 24 / 5), fx := fx, fy := fy }

/-- Heading rings of a frame (R145); before observer start (`run` false) both are centred on the value given, as the grids of R141 are. -/
def State.hdgRings (s : State) (run : Bool) (psi : Rat) : GridSet :=
  let centre : Rat :=
    if !run then psi
    else match s.sup.mode with
    | .autoPos => (match s.ctl.setpoint with | some sp => turnsOf sp.hdg | none => psi)
    | .autoTrack => s.ctl.tp.hdg
    | .joystick => if s.sup.hdgHold then s.ctl.holdHdg else psi
    | _ => psi
  let fx := roundTo ringFine centre
  { coarse := windowOf ringCoarse psi 0 (roundTo ringCoarse psi) 0 true, fine := windowOf ringFine psi 0 fx 0 true
    usable := decide (absQ (wrapTurn (psi - fx)) ≤ 384 / 65536), fx := fx }

/-- What a kind's fusion gives in a frame. -/
structure KindOut where
  peak : Option (Rat × Rat × Cov2) := none
  /-- 1 fine, 2 coarse, 0 none. -/
  grid : Nat := 0
  /-- Contributing slots. -/
  contrib : List Nat := []
  degraded : Bool := false
  refusal : Option Nat := none
deriving DecidableEq, Repr

/-- Every persistence of R154 and R155 of the slots of a kind starts anew (R157). -/
def endTimers (slots : List Nat) (s : State) : State :=
  slots.foldl (fun s i => modRef i (fun r => { r with farSince := none, nearSince := none }) s) s

/-- Evaluates the references of a kind on their grids: distances, decisions and the peak (R146, R147, R153 to R157). A reference
readmitted in this frame contributes in it, and R154 runs on all that do. -/
def fuseKind (hdg : Bool) (slots : List Nat) (points : List MapPoint) (g : GridSet) (tov : Nat) (s : State) : State × KindOut :=
  let cand := points.filter fun p => s.earlyReason p.slot tov == .none
  let cell := fun (a c : Rat) => decide (-128 ≤ roundEven (a - roundTo 1 c)) && decide (roundEven (a - roundTo 1 c) ≤ 127)
  let off := fun (p : MapPoint) => !hdg && !(cell p.x g.coarse.x && cell p.y g.coarse.y)
  let onGrid := cand.filter fun p => !off p
  let open_ := onGrid.filter fun p => !(s.fus.ref p.slot).vote
  let w := if g.usable then g.fine else g.coarse
  let s := slots.foldl (fun s i => if onGrid.any fun p => p.slot == i then s else
    modRef i (fun r => { r with dSq := none, innovA := 0, innovB := 0 }) s) s
  let s := setDistances w onGrid open_ s
  let broke := (s.watch hdg).degraded && open_.length != 2
  let s := if broke then endTimers slots s else s
  let s := decideVotes slots onGrid open_ tov s
  let contrib := onGrid.filter fun p => let r := s.fus.ref p.slot
    match r.voteDue with | some m => !m | none => !r.vote
  let joined := decide (open_.length < contrib.length) && decide (3 ≤ contrib.length)
  let s := if joined && (s.watch hdg).degraded && !broke then endTimers slots s else s
  let s := if joined then farTimers slots contrib tov (setDistances w onGrid contrib s)
    else if contrib.length = 2 && open_.length != 2 then setDistances w contrib contrib s else s
  let s := decidePair hdg contrib tov s
  let s := slots.foldl (fun s i =>
    let r := s.fus.ref i
    let m := match s.earlyReason i tov with
      | .none => if (cand.any fun p => p.slot == i && off p) then MaskReason.offGrid
                 else if r.vote && r.voteDue != some false then .vote
                 else if r.voteDue == some false then .vote else .none
      | e => e
    let s := modRef i (fun r => { r with contrib := contrib.any fun p => p.slot == i }) s
    if (s.refCfg i).isNone || (r.voteDue == some true) then s else setReason i m s) s
  let lead := match (s.watch hdg).effective with | some l => contrib.find? fun p => p.slot == l | none => none
  if contrib.isEmpty then (s, { degraded := (s.watch hdg).effective.isSome })
  else
    let r := g.peak contrib lead
    let out : KindOut := { contrib := contrib.map MapPoint.slot, degraded := (s.watch hdg).effective.isSome }
    match r.1 with
    | .ok x y cov => (s, { out with peak := some (x, y, cov), grid := r.2 })
    | .refused c => (s, { out with refusal := some c })

/-- FLAT_PEAK at the first refused coarse peak after a valid one (R147). -/
def tellFlat (hdg : Bool) (o : KindOut) (s : State) : State :=
  let flat := if hdg then s.fus.hdgFlat else s.fus.posFlat
  let set := fun (v : Bool) (s : State) => s.modFus fun b => if hdg then { b with hdgFlat := v } else { b with posFlat := v }
  match o.refusal, o.peak with
  | some c, _ => if flat then s else (set true s).raise 0x0A20 0xFF [BitVec.ofNat 8 (b2n hdg), BitVec.ofNat 8 c]
  | none, some _ => set false s
  | none, none => s

/-! ### Confidence and the observer (R159 to R165) -/

/-- C of a measurement: floor(255 × q_n × q_σ), at most 127 while DEGRADED (R159). -/
def confOf (n : Nat) (req major : Rat) (degraded : Bool) : Nat :=
  let qn : Rat := if n = 1 then 1 / 2 else if n = 2 then 3 / 4 else 1
  let c := floorNat (255 * qn * minQ 1 (req / Config.sqrt major))
  if degraded then min c 127 else c

/-- C in dead reckoning (R159). -/
def drConf (last : Nat) (at_ : Option Nat) (tov : Nat) (limit : Rat) : Nat :=
  match at_ with
  | none => 0
  | some t => if limit = 0 then 0 else floorNat ((last : Rat) * maxQ 0 (1 - secOf (tov - t) / limit))

/-- Entry (i, j) of the observer's covariance. -/
def covAt (p : List Rat) (i j : Nat) : Rat := p.getD (9 * i + j) 0

/-- States and covariance after a scalar measurement of state k with innovation z and variance v; the bias rows of the gain are
multiplied by `gb` (R161, R162). -/
def obsScalar (gb : Rat) (k : Nat) (z v : Rat) (o : Observer) : Observer :=
  let s := covAt o.cov k k + v
  let gain := fun i => (if 6 ≤ i then gb else 1) * covAt o.cov i k / s
  { o with
    x := obsOfList (o.x.toList.mapIdx fun i x => x + gain i * z)
    cov := (List.range 81).map fun m => covAt o.cov (m / 9) (m % 9) - gain (m / 9) * covAt o.cov k (m % 9) }

/-- States and covariance after a position measurement with innovation (zn, ze) and covariance r (R161, R162). -/
def obsPosition (gb zn ze : Rat) (r : Cov2) (o : Observer) : Observer :=
  let s : Cov2 := { a := covAt o.cov 0 0 + r.a, b := covAt o.cov 0 1 + r.b, d := covAt o.cov 1 1 + r.d }
  let g := fun i => (if 6 ≤ i then gb else 1) / s.det
  let k0 := fun i => g i * (covAt o.cov i 0 * s.d - covAt o.cov i 1 * s.b)
  let k1 := fun i => g i * (covAt o.cov i 1 * s.a - covAt o.cov i 0 * s.b)
  { o with
    x := obsOfList (o.x.toList.mapIdx fun i x => x + k0 i * zn + k1 i * ze)
    cov := (List.range 81).map fun m =>
      covAt o.cov (m / 9) (m % 9) - k0 (m / 9) * covAt o.cov 0 (m % 9) - k1 (m / 9) * covAt o.cov 1 (m % 9) }

/-- Normalised innovation squared of a position measurement (R163). -/
def nisPosition (zn ze : Rat) (r : Cov2) (o : Observer) : Rat :=
  ({ a := covAt o.cov 0 0 + r.a, b := covAt o.cov 0 1 + r.b, d := covAt o.cov 1 1 + r.d } : Cov2).maha zn ze

/-- Gain factor of the bias rows (R162). -/
def State.biasGain (s : State) : Rat := if s.fus.obs.settling then s.scalars.settleGain else 1

/-- A kind without a measurement in the frame ends the run of gated ones: what persists must hold at every frame instant (R163). -/
def Observer.ungated (noPos noHdg : Bool) (o : Observer) : Observer :=
  let o := if noPos then { o with posGateSince := none, posGate := none } else o
  if noHdg then { o with hdgGateSince := none, hdgGate := none } else o

/-- Lever arm of antenna A (R161): that of the transform entry of the GNSS_INT slot on antenna A, which R554 binds to the phase centre; without such
a slot, that of the baseline's entry (R117). -/
def State.leverA (s : State) : Vec3 :=
  match s.image.refs.find? fun r => r.type == 0 && r.srcKind == 0 with
  | some r => s.image.lever r.transform
  | none => s.image.lever s.scalars.baselineA

/-- GNSS velocity at the reference point in the vessel frame (R161): u and v. -/
def State.gnssBody (s : State) (psi r : Rat) : Rat × Rat :=
  let l := s.leverA
  let q := rotT (-psi) s.fus.motion.vel.x s.fus.motion.vel.y
  (q.1 + r * l.y, q.2 - r * l.x)

/-- The GNSS velocity and yaw rate as the input cut froze them: of the snapshot of this frame, or of the latest earlier one (R110, R151). -/
def useVelocity (s : State) (o : Observer) : Observer :=
  let g := s.fus.motion
  let o := if g.yawValid && o.psiValid then obsScalar s.biasGain 5 (g.yawRate - o.x.r) Config.yawVariance o else o
  if !g.velValid || !o.psiValid then o
  else
    let b := s.gnssBody o.x.psi (if g.yawValid then g.yawRate else o.x.r)
    let o := obsScalar s.biasGain 3 (b.1 - o.x.u) Config.velVariance o
    obsScalar s.biasGain 4 (b.2 - o.x.v) Config.velVariance o

/-- The observer starts (R162); its first position becomes the origin (R139). -/
def startObserver (tov : Nat) (x y : Rat) (cov : Cov2) (psi : Option Rat) (s : State) : State :=
  let p := psi.getD 0
  let r := if s.fus.motion.yawValid then s.fus.motion.yawRate else 0
  let b := if s.fus.motion.velValid then s.gnssBody (psi.getD ((s.fus.hdgPeak).getD 0)) r else (0, 0)
  let cause := s.fus.obs.cause
  let s := s.modFus fun f => { f with obs := { f.obs with
    started := true, at_ := tov, x := { n := x, e := y, psi := p, u := b.1, v := b.2, r := r }
    cov := Config.obsStartCov cov.a cov.b cov.d, psiValid := psi.isSome, lastPsi := if psi.isSome then psi else f.hdgPeak
    history := [(tov, x, y, p)], startAt := tov, settling := true, posGateSince := none, hdgGateSince := none } }
  let s := match s.fus.origin with
    | some o => s.modFus fun f => { f with originNext := some (ofPlane o { x := x, y := y, z := 0 }) }
    | none => s
  s.raise 0x0A18 0xFF [BitVec.ofNat 8 cause]

/-- The observer restarts: states, history and anchors go; the next valid fix starts it (R164). -/
def restartObserver (cause : Nat) (s : State) : State :=
  s.modFus fun b => { b with
    obs := { cause := cause }, obsSaved := none, hdgPeak := none, originWanted := true, posDr := 0, posConfLast := 0, hdgConfLast := 0
    posMeasAt := none, hdgMeasAt := none
    refs := b.refs.map fun r => { r with anchor := none } }

/-- A position measurement enters the observer or is gated (R163). -/
def measurePosition (tov : Nat) (x y : Rat) (cov : Cov2) (s : State) : State :=
  let o := s.fus.obs
  let zn := x - o.x.n
  let ze := y - o.x.e
  if 25 < nisPosition zn ze cov o then
    s.modFus fun b => { b with gateCount := satInc 32 b.gateCount
                               obs := { b.obs with posGateSince := since b.obs.posGateSince true tov, posGate := some (x, y) } }
  else s.modFus fun b => { b with obs := { obsPosition s.biasGain zn ze cov b.obs with posGateSince := none, posGate := none } }

/-- A heading measurement enters the observer, re-initialises ψ, or is gated (R162, R163, R165). -/
def measureHeading (tov : Nat) (h v : Rat) (s : State) : State :=
  let o := s.fus.obs
  if !o.psiValid then
    s.modFus fun b => { b with obs := { b.obs with
      x := { b.obs.x with psi := h, r := if s.fus.motion.yawValid then s.fus.motion.yawRate else 0 }, cov := Config.obsReinitCov b.obs.cov v
      psiValid := true, hdgGateSince := none, hdgGate := none } }
  else
    let z := wrapTurn (h - o.x.psi)
    if 25 < z * z / (covAt o.cov 2 2 + v) then
      s.modFus fun b => { b with gateCount := satInc 32 b.gateCount
                                 obs := { b.obs with hdgGateSince := since b.obs.hdgGateSince true tov, hdgGate := some h } }
    else s.modFus fun b => { b with obs := { obsScalar s.biasGain 2 z v b.obs with hdgGateSince := none, hdgGate := none } }

/-- The pose of a frame instant in the history, replaced (R149, R163). -/
def setPose (t : Nat) (f : Rat × Rat × Rat → Rat × Rat × Rat) (l : List (Nat × Rat × Rat × Rat)) : List (Nat × Rat × Rat × Rat) :=
  l.map fun q => if q.1 = t then (q.1, f q.2) else q

/-- Innovations gated for more than 1 s reset N and E, or ψ, to the measurement (R163). -/
def obsReset (hdg : Bool) (s : State) : State :=
  let o := s.fus.obs
  let tov := o.at_
  if hdg then
    match o.hdgGate with
    | some h =>
      if persists o.hdgGateSince tov 1000000000 then
        let s := s.modFus fun b => { b with
          obs := { b.obs with x := { b.obs.x with psi := h }, hdgGateSince := none, hdgGate := none
                              history := setPose tov (fun p => (p.1, p.2.1, h)) b.obs.history }
          formed := b.formed.map fun f => { f with heading := bamOf h } }
        s.raise 0x0A19 0xFF ([1, 0, 0, 0] ++ f32Bytes (radOf (wrapTurn (h - o.x.psi))))
      else s
    | none => s
  else
    match o.posGate with
    | some (x, y) =>
      if persists o.posGateSince tov 1000000000 then
        let s := s.modFus fun b => { b with
          obs := { b.obs with x := { b.obs.x with n := x, e := y }, posGateSince := none, posGate := none
                              history := setPose tov (fun p => (x, y, p.2.2)) b.obs.history }
          formed := b.formed.map fun f => { f with posN := x, posE := y } }
        let dn := x - o.x.n
        let de := y - o.x.e
        s.raise 0x0A19 0xFF ([0, 0, 0, 0] ++ f32Bytes (Config.sqrt (dn * dn + de * de)))
      else s
    | none => s

/-! ### The input cut (R151) -/

/-- The fused position of the frame: where a reset of N and E is due in it, the measurement that they are reset to (R163). -/
def Observer.placeAfterReset (tov : Nat) (o : Observer) : Rat × Rat :=
  match o.posGate with
  | some p => if persists o.posGateSince tov 1000000000 then p else (o.x.n, o.x.e)
  | none => (o.x.n, o.x.e)

/-- Anchors ordered before this frame, or due under AUTO_ANCHOR, are set at the TOV or refused (R136): at the point that makes the slot's value,
as the frame maps it with the predicted observer, equal to the fused position. AUTO_ANCHOR asks for an anchor in every frame in which
the reference holds a value and none is set, until a valid position gives one, after a loss of the anchor too (assumption log 17). -/
def setAnchors (tov : Nat) (valid : Bool) (pred : Observer) (peak : Option Rat) (path : List (Nat × Rat × Rat × Rat)) (s : State) : State :=
  s.forN 8 fun s i =>
    let r := s.fus.ref i
    match s.refCfg i with
    | none => s
    | some c =>
      let due := r.anchorCmds.filter fun q => decide (q.1 ≤ tov)
      let ordered := !due.isEmpty
      let auto := c.autoAnchor && r.anchor.isNone && r.cut.isSome && r.anchorCmds.isEmpty
      if !relativeType c.type || !(ordered || auto) then s
      else
        let at_ := s.fus.obs.placeAfterReset tov
        let place : Option (Rat × Rat) := match r.cut, (if valid then s.fus.origin else none) with
          | some x, some _ =>
            match headingFor pred peak path x.stamp, s.relVector c x s.fus.snap.hdgSigma with
            | some psi, some (vx, vy, _, _, _) =>
              let q := rotT psi vx vy
              let d := carryBy pred path x.stamp
              some (at_.1 + q.1 - d.1, at_.2 + q.2 - d.2.1)
            | _, _ => none
          | _, _ => none
        let asked := fun (w : Waiting) => due.any fun q => w.session == q.2.1 && (q.2.2 == 0 || w.reqId == q.2.2)
        let answers := fun (ok : Bool) (s : State) => if !ordered then s else
          answerAll (fun w => anchorWrite w && refPlace w.value == i && asked w) (if ok then 0 else 7) (if ok then 0 else 5) s
        let s := modRef i (fun r => { r with anchorCmds := r.anchorCmds.filter fun q => !decide (q.1 ≤ tov) }) s
        match place, s.fus.origin with
        | some (n, e), some org =>
          let s := modRef i (fun r => { r with anchor := some (ofPlane org { x := n, y := e, z := 0 }) }) s
          answers true (s.raise 0x0A1F (slotId i) (f32Bytes n ++ f32Bytes e))
        | _, _ => answers false s

/-- POS_LOST, POS_ACQUIRED, HDG_LOST and HDG_ACQUIRED (R160, R174). -/
def tellValidity (hdg was is_ : Bool) (last conf : Nat) (bad : Option Nat) (tov : Nat) (s : State) : State :=
  if was && !is_ then s.raise (if hdg then 0x0A16 else 0x0A14) 0xFF [BitVec.ofNat 8 last]
  else if !was && is_ then
    let ms := match bad with | some t => msOf (tov - t) | none => 0
    s.raise (if hdg then 0x0A17 else 0x0A15) 0xFF ([BitVec.ofNat 8 conf, 0, 0, 0] ++ leBytes 4 (sat 32 ms))
  else s

/-- An abandoned frame: no publication, FUS_SKIP counts, and the observer predicts across the gap (R166). -/
def fusSkip (s : State) : State :=
  match s.fus.formed with
  | some f =>
    if f.frame == s.frame then s
    else s.modFus fun b => { b with formed := none, skip := satInc 32 b.skip, obs := b.obsSaved.getD b.obs, obsSaved := none }
  | none => s

/-- Earliest stamp among the values that contributed to the published position or heading (R152). -/
def State.ageOfContent (s : State) (slots : List Nat) (tov : Nat) : Nat :=
  let st := slots.filterMap fun i => (s.fus.ref i).cut.map fun x => x.stamp
  (tov - st.foldl min tov) / 1000

/-- The snapshot of the frame (R167). -/
def State.snapshotOf (s : State) (tov : Nat) (pos hdg : KindOut) (cp ch : Nat) (pv hv : Bool) : FusedSnap :=
  let o := s.fus.obs
  let run := o.started
  let sn := Config.sqrt (covAt o.cov 0 0)
  let se := Config.sqrt (covAt o.cov 1 1)
  let z := fun (q : Rat) => if run then q else 0
  let state := fun (v : Bool) => if !run then 0 else if v then 1 else 2
  { frame := frameOf tov, tov := tov
    aoc := s.ageOfContent ((if pv then pos.contrib else []) ++ (if hv then hdg.contrib else [])) tov
    posN := z o.x.n, posE := z o.x.e, sigN := z sn, sigE := z se, rho := z (covAt o.cov 0 1 / (sn * se))
    heading := if !run then 0 else bamOf (if o.psiValid then o.x.psi else o.lastPsi.getD 0), posConf := cp, hdgConf := ch
    hdgSigma := z (radOf (Config.sqrt (covAt o.cov 2 2))), u := z o.x.u, v := z o.x.v, r := if o.psiValid then z o.x.r else 0
    biasN := z o.x.bN, biasE := z o.x.bE, biasYaw := z o.x.bYaw, posState := state pv, hdgState := state hv
    posValid := pv, hdgValid := hv, posDegraded := pos.degraded, hdgDegraded := hdg.degraded, settling := o.settling
    coarse := pos.grid == 2, holdover := s.holdover, timeDegraded := s.degradedCause.isSome
    contribPos := maskOf 8 fun i => pos.contrib.contains i, contribHdg := maskOf 4 fun i => hdg.contrib.contains (8 + i) }

/-- The FC work of a frame at its input cut (R151): maps, masks, peaks, the observer and the snapshot to be published. While ψ is held invalid
after observer start, the rings are centred on the lowest heading reference that may contribute (assumption log 17). -/
def fuseFrame (s : State) : State :=
  let tov := s.tim.frameAt
  let lim := s.scalars.drLimit
  let hdgSlots := [8, 9, 10, 11]
  let posSlots := List.range 8
  let was := s.fus.snap
  let pred := s.predicted tov
  let path := if pred.started then (tov, pred.x.n, pred.x.e, pred.x.psi) :: pred.history else []
  let s := s.modFus fun b => { b with obsSaved := some b.obs, obs := pred }
  -- headings first (R607)
  let hp := hdgSlots.filterMap fun i => s.mapHeading i pred path tov
  let psi0 := if pred.started && pred.psiValid then pred.x.psi
    else (match hp.find? fun p => s.earlyReason p.slot tov == .none && !(s.fus.ref p.slot).vote with | some p => p.x | none => 0)
  let rh := fuseKind true hdgSlots hp (s.hdgRings pred.started psi0) tov s
  let s := tellFlat true rh.2 rh.1
  let h := rh.2
  let s := match h.peak with | some (x, _, _) => s.modFus fun b => { b with hdgPeak := some (turnFrac x) } | none => s
  let peak := s.fus.hdgPeak
  -- positions
  let pp := posSlots.filterMap fun i => s.mapPosition i pred peak path tov
  let p0 : Rat × Rat := if pred.started then (pred.x.n, pred.x.e)
    else (match pp.find? fun p => s.earlyReason p.slot tov == .none && !(s.fus.ref p.slot).vote
            && (match s.refCfg p.slot with | some c => !relativeType c.type | none => false) with
          | some p => (p.x, p.y) | none => (0, 0))
  let g := s.posGrids pred.started p0.1 p0.2
  let rp := fuseKind false posSlots pp g tov s
  let s := tellFlat false rp.2 rp.1
  let p := rp.2
  let s := s.modFus fun b => { b with grid := p.grid, fineN := g.fx, fineE := g.fy, mru := (s.mruFrozen tov).isSome }
  -- confidence and validity
  let cMin := s.scalars.confMin
  let cpM := match p.peak with | some (_, _, c) => confOf p.contrib.length s.scalars.sigmaReq c.major p.degraded | none => 0
  let chM := match h.peak with | some (_, _, c) => confOf h.contrib.length (turnsOfDeg s.scalars.sigmaReqHdg) c.a h.degraded | none => 0
  let pv := p.peak.isSome && decide (cMin ≤ cpM)
  let hm := h.peak.isSome && decide (cMin ≤ chM)
  let s := match p.peak, s.fus.obs.started with
    | some (x, y, c), false =>
      if pv then startObserver tov x y c (if hm then h.peak.map fun (q : Rat × Rat × Cov2) => turnFrac q.1 else none) s else s
    | some (x, y, c), true =>
      let s := if hm then (match h.peak with | some (a, _, v) => measureHeading tov (turnFrac a) v.a s | none => s) else s
      let s := if pv then measurePosition tov x y c s else s
      s.modFus fun b => { b with obs := useVelocity s b.obs }
    | none, true =>
      let s := if hm then (match h.peak with | some (a, _, v) => measureHeading tov (turnFrac a) v.a s | none => s) else s
      s.modFus fun b => { b with obs := useVelocity s b.obs }
    | none, false => s
  let s := s.modFus fun b => { b with obs := b.obs.ungated (!pv) (!hm) }
  let hv := hm && s.fus.obs.started && s.fus.obs.psiValid
  let capped := fun (degraded : Bool) (c : Nat) => if degraded then min c 127 else c
  let cp := if pv || !s.fus.obs.started then cpM else capped p.degraded (drConf s.fus.posConfLast s.fus.posMeasAt tov lim)
  let ch := if hv || !s.fus.obs.started then chM else capped h.degraded (drConf s.fus.hdgConfLast s.fus.hdgMeasAt tov lim)
  let s := tellValidity false was.posValid pv was.posConf cp s.fus.posBad tov s
  let s := tellValidity true was.hdgValid hv was.hdgConf ch s.fus.hdgBad tov s
  let s := s.modFus fun b => { b with
    posBad := if pv then none else since b.posBad true tov, hdgBad := if hv then none else since b.hdgBad true tov
    posConfLast := if pv then cp else b.posConfLast, hdgConfLast := if hv then ch else b.hdgConfLast
    posMeasAt := if pv then some tov else b.posMeasAt, hdgMeasAt := if hv then some tov else b.hdgMeasAt }
  let s := s.modFus fun b => { b with
    posDr := if pv || !b.obs.started then 0 else msOf (tov - b.posBad.getD tov)
    hdgDr := if hv then 0 else msOf (tov - b.hdgBad.getD tov)
    obs := { b.obs with
      lastPsi := if hv then some b.obs.x.psi else b.obs.lastPsi
      psiValid := b.obs.psiValid && !persists b.hdgBad tov (nsOf lim)
      history := if b.obs.started then ((tov, b.obs.x.n, b.obs.x.e, b.obs.x.psi) :: b.obs.history.filter fun q => q.1 != tov && decide (tov - q.1 ≤ 10000000000))
                 else [] } }
  let s := setAnchors tov pv pred peak path s
  s.modFus fun b => { b with formed := some (s.snapshotOf tov p h cp ch pv hv) }

/-- The running frame's FC work has been done at its input cut. -/
def State.fused (s : State) : Bool := s.fus.cutAt.isSome && (match s.fus.formed with | some f => f.frame == s.frame | none => false)

/-- The FC work of a frame, which its input cut starts: the cut lies where the GT snapshot was received, or at frame time 1.0 ms (R151). -/
def inputCut (us : Nat) (s : State) : State :=
  if !s.fcRuns || s.fused || s.fus.published || !(s.fus.cutAt.isSome || decide (1000 ≤ us)) then s
  else fuseFrame (applyDecisions (fusSkip (passCut (s.atFrame us))))

/-! ### Publication (R164, R166, R167) -/

/-- The 72 bytes of a fused snapshot (R167). -/
def FusedSnap.bytes (f : FusedSnap) : Bytes :=
  let flags := f.posState + 4 * f.hdgState + 16 * bitsToNat [f.posValid, f.hdgValid, f.posDegraded, f.hdgDegraded, f.settling, f.coarse,
    f.holdover, f.timeDegraded]
  leBytes 4 f.frame ++ leBytes 8 f.tov ++ leBytes 4 f.aoc ++ f32Bytes f.posN ++ f32Bytes f.posE ++ f32Bytes f.sigN ++ f32Bytes f.sigE
    ++ f32Bytes f.rho ++ leBytes 2 f.heading ++ [BitVec.ofNat 8 f.posConf, BitVec.ofNat 8 f.hdgConf] ++ f32Bytes f.hdgSigma
    ++ f32Bytes f.u ++ f32Bytes f.v ++ f32Bytes f.r ++ f32Bytes f.biasN ++ f32Bytes f.biasE ++ f32Bytes f.biasYaw
    ++ leBytes 2 flags ++ leBytes 2 (f.contribPos.toNat + 256 * f.contribHdg.toNat)

/-- A fused snapshot from its 72 bytes, as the domain carries it (R167, R424). -/
def snapOfBytes (b : Bytes) : FusedSnap :=
  let fl := leAt b 68 2
  let t := fun i => fl.testBit i
  { frame := leAt b 0 4, tov := leAt b 4 8, aoc := leAt b 12 4, posN := ratAt b 16, posE := ratAt b 20, sigN := ratAt b 24, sigE := ratAt b 28
    rho := ratAt b 32, heading := leAt b 36 2, posConf := byteAt b 38, hdgConf := byteAt b 39, hdgSigma := ratAt b 40, u := ratAt b 44
    v := ratAt b 48, r := ratAt b 52, biasN := ratAt b 56, biasE := ratAt b 60, biasYaw := ratAt b 64, posState := fl % 4
    hdgState := fl / 4 % 4, posValid := t 4, hdgValid := t 5, posDegraded := t 6, hdgDegraded := t 7, settling := t 8, coarse := t 9
    holdover := t 10, timeDegraded := t 11, contribPos := BitVec.ofNat 8 (leAt b 70 1), contribHdg := BitVec.ofNat 4 (leAt b 71 1) }

/-- The snapshot that SU publishes in FC's place in DORMANT: both states NONE (R164, R522). -/
def State.dormantSnap (s : State) : FusedSnap :=
  { frame := frameOf s.tim.frameAt, tov := s.tim.frameAt, holdover := s.holdover, timeDegraded := s.degradedCause.isSome }

/-- What the selected record shows of a slot in the frame with this TOV (R173). -/
def RefState.show (tov : Nat) (r : RefState) : RefShown :=
  { enabled := r.enabled, late := r.late, contrib := r.contrib, mask := r.mask, anchored := r.anchor.isSome, learning := r.learning, isDefault := r.isDefault, conf := r.conf
    score := r.score, age := r.cut.map fun x => (tov - x.stamp) / 1000, innovA := r.innovA, innovB := r.innovB, dSq := r.dSq
    scale := r.model.scale, seconds := r.model.seconds, rejects := r.model.rejects }

/-- The records of all slots show the frame just published (R173). -/
def showRefs (s : State) : State :=
  s.modFus fun b => { b with refs := b.refs.map fun r => { r with shown := r.show b.snap.tov } }

/-- The fused snapshot of the frame is published, once (R167); beyond frame time 3 ms DL_STATUS FUSED is set (R166). In DORMANT FC publishes it
during a GNSS wake and SU otherwise (R164). The loss of validity by entry to DORMANT raises neither POS_LOST nor HDG_LOST, and the time invalid of
the next ACQUIRED event runs from the first frame formed after DORMANT (DESIGN CHOICE, assumption log 17). -/
def publishFused (us : Nat) (s : State) : State :=
  if s.fus.published || !s.stagesRun then s
  else if s.sup.mode == .dormant then
    let t := showRefs ((s.atFrame us).modFus fun b => { b with
      snap := s.dormantSnap, published := true, refs := b.refs.map fun r => { r with contrib := false, learning := false } })
    if s.gns.wakeAt.isNone then t else if s.engineRuns 8 then closeStage 1 3000 t else s
  else if !s.fcRuns then s
  else match s.fus.formed with
    | none => s
    | some f =>
      if f.frame != s.frame then s
      else
        let s := obsReset true (obsReset false (applyDecisions (s.atFrame us)))
        let s := s.modFus fun b => { b with snap := b.formed.getD f, snapOrigin := b.origin, formed := none, obsSaved := none, published := true }
        closeStage 1 3000 (showRefs s)

/-! ### Moves of the working origin (R139) -/

/-- The observer's covariance in another earth frame: T P Tᵀ, with the rotation of the horizontal axes in the rows of N, E and of b_N, b_E. -/
def moveCov (o n : Geo) (p : List Rat) : List Rat :=
  let c := moveVec o n 1 0
  let d := moveVec o n 0 1
  let row := fun (i : Nat) => match i with
    | 0 => [(0, c.1), (1, d.1)] | 1 => [(0, c.2), (1, d.2)] | 6 => [(6, c.1), (7, d.1)] | 7 => [(6, c.2), (7, d.2)] | i => [(i, (1 : Rat))]
  (List.range 81).map fun m => sumQ ((row (m / 9)).flatMap fun a => (row (m % 9)).map fun b => a.2 * b.2 * covAt p a.1 b.1)

/-- The observer with its history and gated measurements in another earth frame. -/
def Observer.moveTo (o n : Geo) (q : Observer) : Observer :=
  let place := movePlace o n
  let hdg := moveHeading o n
  let p := place q.x.n q.x.e
  let b := moveVec o n q.x.bN q.x.bE
  if !q.started then q
  else { q with
    x := { q.x with n := p.1, e := p.2, psi := hdg q.x.psi, bN := b.1, bE := b.2 }, cov := moveCov o n q.cov, lastPsi := q.lastPsi.map hdg
    history := q.history.map fun t => let p := place t.2.1 t.2.2.1; (t.1, p.1, p.2, hdg t.2.2.2)
    posGate := q.posGate.map fun g => place g.1 g.2, hdgGate := q.hdgGate.map hdg }

/-- The offsets of a slot from its consensus, in another earth frame; a heading's is a difference and stays. -/
def RefState.moveTo (o n : Geo) (i : Nat) (r : RefState) : RefState :=
  let p := moveVec o n r.innovA r.innovB
  if 8 ≤ i then r else { r with innovA := p.1, innovB := p.2 }

/-- Every earth-frame quantity of FC and the control cores in the earth frame of a new origin (R139). The snapshot published stays as it is
(R33); who works on with it takes it by `State.heldSnap`. -/
def moveOrigin (o n : Geo) (s : State) : State :=
  let place := movePlace o n
  let centre := place s.fus.fineN s.fus.fineE
  let s := s.modFus fun b => { b with
    origin := some n, originNext := none, obs := b.obs.moveTo o n, obsSaved := b.obsSaved.map (Observer.moveTo o n)
    hdgPeak := b.hdgPeak.map (moveHeading o n), refs := b.refs.mapIdx fun i r => r.moveTo o n i
    fineN := roundTo (1 / 20) centre.1, fineE := roundTo (1 / 20) centre.2 }
  let pose := fun (q : Pose) => let p := place q.n q.e; { q with n := p.1, e := p.2 }
  s.modCtl fun c => { c with
    target := pose c.target, outgoing := { c.outgoing with target := pose c.outgoing.target }
    plan := c.plan.map fun q => { q with stages := q.stages.map fun x => (x.1, pose x.2) } }

/-- The origin waiting takes effect: a move with ORIGIN_MOVED, or the first origin, which converts nothing (R139). -/
def originInstant (s : State) : State :=
  match s.fus.originNext, s.fus.origin with
  | some n, some o =>
    let shift := toPlane o n
    let s := moveOrigin o n s
    s.raise 0x0A21 0xFF (f32Bytes shift.x ++ f32Bytes shift.y)
  | some n, none => s.modFus fun b => { b with origin := some n, originNext := none }
  | none, _ => s

/-- What the frame instant does in FUS: enables, the end of a VOTE mask and kernels that wait take effect, values held back whose stamp it
reaches become the latest, and the origin moves (R132, R139, R151, R155, R169). -/
def fusInstant (s : State) : State :=
  let s := s.modFus fun b => { b with
    cutAt := none, published := false
    refs := b.refs.map fun r =>
      let keep := r.enableNext && !r.voteEnds
      { r with
        enabled := r.enableNext, vote := r.vote && keep, voteDue := if keep then r.voteDue else none, voteEnds := false
        model := r.working, isDefault := r.isDefault && r.modelNext.isNone, modelNext := none } }
  let s := releaseHeld s.tim.frameAt s
  originInstant s

/-- 60 s after the observer's start SETTLING falls (R162). -/
def settled (s : State) : State :=
  let o := s.fus.obs
  if o.started && o.settling && decide (60000000000 ≤ s.now - o.startAt) then
    (s.modFus fun b => { b with obs := { b.obs with settling := false } }).raise 0x0A1A 0xFF []
  else s

/-! ### Learned error models (R168 to R172) -/

/-- The slots of a slot's kind (R130). -/
def kindSlots (i : Nat) : List Nat := if i < 8 then List.range 8 else [8, 9, 10, 11]

/-- The whole second of module time whose frame is running, once its fusion has been formed or published. -/
def State.fusSecond (s : State) : Option Nat :=
  if s.tim.frameAt % 1000000000 = 0 && (s.fused || s.fus.published) then some (s.tim.frameAt / 1000000000) else none

/-- The learning conditions of R168. -/
def State.learns (s : State) (i : Nat) : Bool :=
  let r := s.fus.ref i
  let f := s.fus.formed.getD s.fus.snap
  !s.fus.obs.settling && r.contrib && r.sharp && decide (2 ≤ ((kindSlots i).filter fun j => j != i && (s.fus.ref j).contrib).length)
    && decide (192 ≤ (if i < 8 then f.posConf else f.hdgConf))

/-- Bin of a normalised offset; none beyond ±4σ (R143, R168). A heading uses row 0 (R145). -/
def histBin (hdg : Bool) (u v : Rat) : Option Nat :=
  let b := fun (q : Rat) => min 15 (floorNat ((q + 4) * 2))
  if 4 < absQ u ∨ (!hdg ∧ 4 < absQ v) then none else some (if hdg then b u else 16 * b u + b v)

/-- A sample of a whole second of a reference (R168). -/
def innovationSample (i : Nat) (s : State) : State :=
  match s.fusSecond with
  | none => s
  | some t =>
    let r := s.fus.ref i
    if (s.refCfg i).isNone || r.sampledAt == t then s
    else if !s.learns i then modRef i (fun r => { r with learning := false }) s
    else modRef i (fun r => { r with
      sampledAt := t, learning := true, samples := satInc 16 r.samples
      sumSq := r.sumSq + (if i < 8 then r.offsetU * r.offsetU + r.offsetV * r.offsetV else r.offsetU * r.offsetU)
      counts := match histBin (decide (8 ≤ i)) r.offsetU r.offsetV with
        | some b => updAt (if r.counts.length = 256 then r.counts else List.replicate 256 0) b (· + 1)
        | none => r.counts
      model := { r.model with seconds := r.model.seconds + 1 }, dirty := true }) s

/-- The check of a whole second, and the rise of the confidence (R156, R158). -/
def consistencyCheck (i : Nat) (s : State) : State :=
  match s.fusSecond with
  | none => s
  | some t =>
    let r := s.fus.ref i
    match r.dSq with
    | some d =>
      if !r.contrib || r.checkedAt == t then s
      else modRef i (fun r => { r with
        checkedAt := t, checks := (decide (d ≤ (49 / 20) * (49 / 20)) :: r.checks).take 600
        conf := if d ≤ 4 then min 255 (r.conf + 1) else r.conf }) s
    | none => s

/-- A number as the binary32 that holds it (R143, R171). -/
def round32 (q : Rat) : Rat := f32Val (f32Of q)

/-- The histogram of an update before it is held in binary32 (R169, step 1). -/
def histSums (r : RefState) : List Rat :=
  (List.range 256).map fun k => r.model.hist.getD k 0 * (99308 / 100000) + ((r.counts.getD k 0 : Nat) : Rat)

/-- The new histogram of an update (R169, step 1). -/
def newHist (r : RefState) : List Rat := (histSums r).map round32

/-- Every bin of the new kernel is a finite number (R170): no bin, nor their sum, lies beyond binary32, and the logarithm of each is defined. -/
def finiteUpdate (r : RefState) : Bool :=
  let h := histSums r
  h.all (fun x => f32Finite (f32Of x) && decide (0 < x + 1 / 2)) && f32Finite (f32Of (sumQ h)) && decide (0 < sumQ h + 128)

/-- SCALE of an update (R169, step 2). -/
def newScale (r : RefState) : Rat :=
  round32 <| clampQ (1 / 2) 4 (9 / 10 * r.model.scale + 1 / 10 * Config.sqrt (r.sumSq / ((r.samples : Nat) : Rat) / 2))

/-- Kernel of an update: ln((h + 0.5)/(Σh + 128)), shifted so that its largest bin is 0, not below FLOOR (R169, step 3). A heading's
kernel is its row 0 (R145). -/
def newKernel (hdg : Bool) (h : List Rat) : List Rat :=
  let total := sumQ h
  let l := h.map fun x => Config.ln ((x + 1 / 2) / (total + 128))
  let top := maxList (l.getD 0 0) (if hdg then l.take 16 else l)
  l.mapIdx fun i x => if hdg && decide (16 ≤ i) then 0 else round32 (maxQ kernelFloor (x - top))

/-- The largest bin of a histogram, which is that of its kernel; of equal ones the first decides (assumption log 17). -/
def largestBin (hdg : Bool) (h : List Rat) : Nat :=
  (List.range (if hdg then 16 else 256)).foldl (fun m k => if h.getD m 0 < h.getD k 0 then k else m) 0

/-- A bin lies in the central 8 × 8 (R170). -/
def centralBin (hdg : Bool) (k : Nat) : Bool :=
  let c := fun n => decide (4 ≤ n) && decide (n ≤ 11)
  if hdg then c k else c (k / 16) && c (k % 16)

/-- The update of a reference at a 10 min point of module time (R169, R170). With fewer than 300 samples the new counts and the running sum go
with the sample counter, and a rejected update keeps the old histogram and drops the new counts: R169 and R170 name the sample counter, the
kernel and SCALE only (DESIGN CHOICE, assumption log 17). -/
def kernelUpdate (i : Nat) (s : State) : State :=
  let p := s.now / 600000000000
  let r := s.fus.ref i
  if (s.refCfg i).isNone || p ≤ r.kernelAt || !s.engineRuns 8 then s
  else
    let reset := fun (r : RefState) => { r with kernelAt := p, samples := 0, sumSq := 0, counts := [] }
    if r.samples < 300 then modRef i reset s
    else
      let hdg := decide (8 ≤ i)
      let h := newHist r
      let reject := fun (cause : Byte) =>
        let s := modRef i (fun r => { reset r with model := { r.model with rejects := satInc 16 r.model.rejects }, dirty := true }) s
        s.raise 0x0A1D (slotId i) [cause]
      if !finiteUpdate r then reject 1
      else if centralBin hdg (largestBin hdg h) then
        let m := { r.model with hist := h, scale := newScale r, kernel := newKernel hdg h }
        let s := modRef i (fun r => { reset r with modelNext := some m, dirty := true }) s
        s.raise 0x0A1C (slotId i) (f32Bytes m.scale ++ leBytes 2 r.samples)
      else reject 0

/-- Key of a reference model in P3: working copy 0, commissioning copy 1, periodic copies 2 (R171, R483). -/
def modelKey (tag kind num : Nat) : StoreKey := { part := 3, kind := kind, tag := tag, num := num }

/-- The model of a slot as it is written: with an update that waits for the frame instant, and under the slot's tag, type and lever arm
(R169, R171). -/
def State.modelOf (s : State) (i : Nat) : RefModel :=
  let r := s.fus.ref i
  match s.refCfg i with
  | some c => { r.working with
      tag := c.tag, type := c.type, tfTag := ((lookupK s.image.transforms c.transform).getD {}).tag, lever := s.image.lever c.transform }
  | none => r.working

/-- A changed model is written to P3 (R171). -/
def storeModel (i : Nat) (s : State) : State :=
  let m := s.modelOf i
  if (s.refCfg i).isNone || !(s.fus.ref i).dirty then s
  else
    let w := submitWrite (modelKey m.tag 0 0) 2 2112 8 (.refModel m) s
    match w.2 with | .inr _ => modRef i (fun r => { r with dirty := false }) w.1 | .inl _ => w.1

/-- A write of a working model did not succeed: the model counts as changed, so that the next hour writes it again (R171). -/
def modelFailed (key : StoreKey) (s : State) : State :=
  if key.kind ≠ 0 then s
  else (s.slotsWhere fun c => c.tag == key.tag).foldl (fun s i => modRef i (fun r => { r with dirty := true }) s) s

/-- Number of a new periodic copy of a tag: the lowest free of 120, else that of the oldest, which it replaces (R171). -/
def State.periodicNumber (s : State) (tag : Nat) : Nat :=
  let own := fun (k : StoreKey) => k.part == 3 && k.kind == 2 && k.tag == tag
  let held := (s.aqf.writes.filterMap fun w => if own w.key then some (w.key.num, s.now) else none) ++
    s.aqf.objs.filterMap fun o => if own o.key then some (o.key.num, o.at_) else none
  match (List.range 120).find? fun k => !held.any fun e => e.1 == k with
  | some k => k
  | none => match held with
    | [] => 0
    | x :: l => (l.foldl (fun m e => if e.2 < m.2 then e else m) x).1

/-- Once per 30 days of module time every used slot's model is copied, changed or not (R171). A copy whose write is refused or fails is not tried
again (DESIGN CHOICE, assumption log 17). -/
def storePeriodic (s : State) : State :=
  let n := s.now / 2592000000000000
  if n ≤ s.fus.storedPeriod then s
  else (s.modFus fun b => { b with storedPeriod := n }).forN 12 fun s i =>
    if (s.refCfg i).isNone then s
    else let m := s.modelOf i; (submitWrite (modelKey m.tag 2 (s.periodicNumber m.tag)) 2 2112 8 (.refModel m) s).1

/-- Every changed model is written (R171): hourly and on entry to DORMANT. -/
def storeModels (s : State) : State := s.forN 12 fun s i => storeModel i s

/-- The models as at commissioning confirmation are written (R171), once: a write refused or failed is not tried again (DESIGN CHOICE, assumption
log 17). -/
def storeCommissionModels (s : State) : State :=
  s.forN 12 fun s i =>
    if (s.refCfg i).isNone then s else let m := s.modelOf i; (submitWrite (modelKey m.tag 1 0) 2 2112 8 (.refModel m) s).1

/-- The hourly write, and with it the periodic copies (R171). -/
def modelStore (s : State) : State :=
  let h := s.now / 3600000000000
  if h ≤ s.fus.storedHour || !s.engineRuns 8 then s else storePeriodic (storeModels (s.modFus fun b => { b with storedHour := h }))

/-- The Gaussian default of a slot (R143, R145, R172). -/
def defaultModel (i : Nat) : RefModel := if i < 8 then {} else { kernel := gaussRow }

/-- A slot's working model is the Gaussian default (R172). -/
def resetModel (i : Nat) (s : State) : State :=
  modRef i (fun r => { r with model := defaultModel i, modelNext := none, isDefault := true, counts := [], samples := 0, sumSq := 0
                              learning := false, dirty := true }) s

/-- A stored model is matched to its slot at start-up (R172): cause of its discard, if any. -/
def State.modelMismatch (s : State) (i : Nat) (m : RefModel) : Option Nat :=
  let w := s.modelOf i
  let far := fun (a b : Rat) => decide (1 / 20 < absQ (a - b))
  if m.type != w.type then some 0 else if m.tfTag != w.tfTag then some 1
  else if far m.lever.x w.lever.x || far m.lever.y w.lever.y || far m.lever.z w.lever.z then some 2 else none

/-- Start-up phase 7: the models of P3 are loaded (R172); one that the store cannot read is absent (R494). -/
def loadModels (s : State) : State :=
  showRefs <| s.forN 12 fun s i =>
    match s.refCfg i with
    | none => s
    | some c =>
      let s := modRef i (fun r => { r with model := defaultModel i, isDefault := true }) s
      match s.aqf.objs.find? fun o => o.key == modelKey c.tag 0 0 && o.crcOk with
      | none => s
      | some o =>
        match o.data with
        | .refModel m =>
          match s.modelMismatch i m with
          | none => modRef i (fun r => { r with model := m, isDefault := m.kernel == (defaultModel i).kernel }) s
          | some cause => (s.modSup fun b => { b with startFault := setBit b.startFault 9 true }).raise 0x0A1E (slotId i) [BitVec.ofNat 8 cause]
        | _ => s

/-- Start-up: REF_SELECT takes the image's value (R132). -/
def loadRefs (s : State) : State :=
  showRefs <| s.forN 12 fun s i => modRef i (fun r => match s.refCfg i with
    | some c => { r with enabled := c.enabledAtReset, enableNext := c.enabledAtReset }
    | none => { r with enabled := false, enableNext := false }) s

/-! ### Registers (R173) -/

/-- A transform entry's 24 bytes (R133). -/
def Transform.bytes (t : Transform) : Bytes :=
  f32Bytes t.x ++ f32Bytes t.y ++ f32Bytes t.z ++ leBytes 2 (ofSigned 16 t.yaw) ++ leBytes 2 (ofSigned 16 t.pitch)
    ++ leBytes 2 (ofSigned 16 t.roll) ++ leBytes 2 t.tag ++ [BitVec.ofNat 8 (b2n t.used), 0, 0, 0]

/-- 10⁻⁷ degree of an angle in degrees, as a register word (R173). -/
def degWord (d : Rat) : Word := wordOfInt (roundEven (d * 10000000))

/-- The slot that REF_SEL shows. -/
def FusState.selected (b : FusState) : Nat := if b.refSelHdg then 8 + b.refSel else b.refSel

/-- Value of a FUS register; none where none is defined. -/
def fusRead (s : State) (off : Nat) : Option Word :=
  let b := s.fus
  let f := b.snap
  let i := b.selected
  let r := b.ref i
  let w := r.shown
  if 0xAC ≤ off ∧ off ≤ 0xC0 ∧ off % 4 = 0 then
    some (wordOf (leAt ((lookupK s.image.transforms b.tfSel).getD {}).bytes (off - 0xAC) 4))
  else match off with
  | 0x10 => some (pack [(f.posState, 0, 2), (f.hdgState, 2, 2), (b2n f.posValid, 4, 1), (b2n f.hdgValid, 5, 1), (b.grid, 6, 2),
      (b2n f.settling, 8, 1), (b2n b.posWatch.degraded, 9, 1), (b2n b.hdgWatch.degraded, 10, 1), (b2n b.mru, 11, 1),
      (f.posConf, 16, 8), (f.hdgConf, 24, 8)])
  | 0x14 => some (loWord f.tov)
  | 0x18 => some (hiWord f.tov)
  | 0x1C => some (wordOf f.aoc)
  | 0x20 => some (f32Of f.posN)
  | 0x24 => some (f32Of f.posE)
  | 0x28 => some (f32Of f.sigN)
  | 0x2C => some (f32Of f.sigE)
  | 0x30 => some (f32Of f.rho)
  | 0x34 => some (wordOf f.heading)
  | 0x38 => some (f32Of f.hdgSigma)
  | 0x3C => some (f32Of f.u)
  | 0x40 => some (f32Of f.v)
  | 0x44 => some (f32Of f.r)
  | 0x48 => some (f32Of f.biasN)
  | 0x4C => some (f32Of f.biasE)
  | 0x50 => some (f32Of f.biasYaw)
  | 0x54 => some (wordOf (sat 32 b.posDr))
  | 0x58 => some (wordOf (sat 32 b.hdgDr))
  | 0x5C => some (match b.origin with | some o => degWord o.lat | none => 0)
  | 0x60 => some (match b.origin with | some o => degWord o.lon | none => 0)
  | 0x64 => some (match b.origin with | some o => f32Of o.h | none => 0)
  | 0x68 => some (f32Of b.fineN)
  | 0x6C => some (f32Of b.fineE)
  | 0x70 => some (wordOf (bitsToNat (b.refs.map fun r => r.enableNext)))
  | 0x74 => some 0
  | 0x78 => some (wordOf b.lateCount)
  | 0x7C => some (wordOf b.olderCount)
  | 0x80 => some (pack [(b2n b.posWatch.degraded, 0, 1), (b2n b.hdgWatch.degraded, 1, 1),
      (if b.posWatch.degraded then b.posWatch.leader else 0, 4, 3), (if b.hdgWatch.degraded then b.hdgWatch.leader - 8 else 0, 8, 2)])
  | 0x84 => some (pack [(b.refSel, 0, 4), (b2n b.refSelHdg, 4, 1)])
  | 0x88 => some (pack [((match s.refCfg i with | some c => c.type | none => 15), 0, 4), (b2n w.enabled, 4, 1), (b2n w.contrib, 5, 1),
      (w.mask.code, 6, 3), (b2n w.anchored, 9, 1), (b2n w.learning, 10, 1), (b2n w.isDefault, 11, 1), (w.conf, 16, 8), (w.score, 24, 8)])
  | 0x8C => some (match w.age with | some a => wordOf (sat 32 a) | none => 0xFFFFFFFF)
  | 0x90 => some (f32Of w.innovA)
  | 0x94 => some (f32Of w.innovB)
  | 0x98 => some (f32Of (distOf w.dSq))
  | 0x9C => some (f32Of w.scale)
  | 0xA0 => some (wordOf w.late)
  | 0xA4 => some (pack [(sat 16 (w.seconds / 3600), 0, 16), (w.rejects, 16, 16)])
  | 0xA8 => some (wordOf b.tfSel)
  | 0xC4 => some (wordOf b.skip)
  | 0xC8 => some (wordOf b.gateCount)
  | _ => none

/-- What a read clears (R22, R173). -/
def fusClear (off : Nat) (s : State) : State :=
  match off with
  | 0x78 => s.modFus fun b => { b with lateCount := 0 }
  | 0x7C => s.modFus fun b => { b with olderCount := 0 }
  | 0xA0 => modRef s.fus.selected (fun r => { r with late := r.late - r.shown.late, shown := { r.shown with late := 0 } }) s
  | 0xC4 => s.modFus fun b => { b with skip := 0 }
  | 0xC8 => s.modFus fun b => { b with gateCount := 0 }
  | _ => s

/-- Writable FUS registers (R173). -/
def fusWritable (off : Nat) : Bool := off == 0x70 || off == 0x74 || off == 0x84 || off == 0xA8

/-- REF_SELECT (R132). The enabled slots that a refusal asks for are used ones: an enabled slot that no record of the image uses counts for nothing
(DESIGN CHOICE, assumption log 17). -/
def selectRefs (v : Word) (s : State) : WriteOut :=
  let en := fun i => bit v i
  let usable := fun l => (l : List Nat).any fun i => (s.refCfg i).isSome && en i
  let strict := s.sup.mode == .autoPos || s.sup.mode == .autoTrack
  if strict && !(usable (List.range 8) && usable [8, 9, 10, 11]) then .refused s 1
  else .done (enableRefs v s) 0

/-- REF_CMD (R136, R172): the anchor is answered after the frame that follows. A write with neither bit set needs the lowest role that the register
asks for, OPERATOR, and is accepted without effect (DESIGN CHOICE, assumption log 17). -/
def refCommand (w : WCtx) (v : Word) (s : State) : WriteOut :=
  let hdg := bit v 4
  let n := field v 3 0
  let i := refPlace v
  let cfg := if (if hdg then n ≤ 3 else n ≤ 7) then s.refCfg i else none
  let need := if bit v 6 then roleEngineer else roleOperator
  needRole w need s <|
    let relative := match cfg with | some c => relativeType c.type | none => false
    if bit v 5 && !relative then .refused s 1
    else if bit v 6 && (cfg.isNone || !(s.sup.mode == .standby || s.sup.mode == .service)) then .refused s 1
    else
      let s := if bit v 6 then resetModel i s else s
      if bit v 5 then .later (modRef i (fun r => { r with anchor := none, anchorCmds := r.anchorCmds ++ [(s.now, w.session, w.reqId)] }) s)
      else .done s 0

/-- A write to a FUS register (R173). -/
def fusWrite (w : WCtx) (off : Nat) (v : Word) (s : State) : WriteOut :=
  match off with
  | 0x70 => needRole w roleOperator s (selectRefs v s)
  | 0x74 => refCommand w v s
  | 0x84 => if field v 3 0 ≤ (if bit v 4 then 3 else 7) then
      .done (s.modFus fun b => { b with refSel := field v 3 0, refSelHdg := bit v 4 }) 0 else .range
  | 0xA8 => .done (s.modFus fun b => { b with tfSel := field v 5 0 }) 0
  | _ => .refused s 1

/-! ### Meanings of the commands -/

/-- Meaning of FUSED_SNAPSHOT_PUBLISH (R167). -/
def execFusedSnapshotPublish (us : Nat) (s : State) : Host.Outcome State Fault Refusal :=
  .next (publishFused us s)

/-- Meaning of FUS_SKIP (R166). -/
def execFusSkip (s : State) : Host.Outcome State Fault Refusal :=
  .next (fusSkip s)

/-- Meaning of REF_MASKED (R154). -/
def execRefMasked (slot : Fin 12) (s : State) : Host.Outcome State Fault Refusal :=
  .next (applyMasked slot.val s)

/-- Meaning of REF_RESTORED (R155). -/
def execRefRestored (slot : Fin 12) (s : State) : Host.Outcome State Fault Refusal :=
  .next (applyRestored slot.val s)

/-- Meaning of REFERENCE_DISAGREE (R157). -/
def execReferenceDisagree (hdg : Bool) (s : State) : Host.Outcome State Fault Refusal :=
  .next (applyDisagree hdg s)

/-- Meaning of DISAGREE_CLEARED (R157). -/
def execDisagreeCleared (hdg : Bool) (s : State) : Host.Outcome State Fault Refusal :=
  .next (applyAgree hdg s)

/-- Meaning of OBS_POS_RESET (R163). -/
def execObsPosReset (hdg : Bool) (s : State) : Host.Outcome State Fault Refusal :=
  .next (obsReset hdg s)

/-- Meaning of SETTLED (R162). -/
def execSettled (s : State) : Host.Outcome State Fault Refusal :=
  .next (settled s)

/-- Meaning of INNOVATION_SAMPLE (R168). -/
def execInnovationSample (slot : Fin 12) (s : State) : Host.Outcome State Fault Refusal :=
  .next (innovationSample slot.val s)

/-- Meaning of CONSISTENCY_CHECK (R158). -/
def execConsistencyCheck (slot : Fin 12) (s : State) : Host.Outcome State Fault Refusal :=
  .next (consistencyCheck slot.val s)

/-- Meaning of KERNEL_UPDATE (R169). -/
def execKernelUpdate (slot : Fin 12) (s : State) : Host.Outcome State Fault Refusal :=
  .next (kernelUpdate slot.val s)

/-- Meaning of MODEL_STORE (R171). -/
def execModelStore (s : State) : Host.Outcome State Fault Refusal :=
  .next (modelStore s)

end Sys2Proof.Machine
end

