-- ==== Sys2Proof/Machine/SafetyChan.lean ====
section
/-!
DEFINITION. The safety channel, block SAF (chapter 10_safety_channel.md, R342 to R375): SAFE_STOP entries and resets, ramps,
torque removal, pairs, E-stop inputs, the alarm contact and the proof test.
-/
set_option autoImplicit false
namespace Sys2Proof.Machine

/-! ### Access -/

/-- A thruster by index. -/
def SafState.t (b : SafState) (i : Nat) : SafThr := b.thr.getD i {}

/-- A pair by index. -/
def SafState.p (b : SafState) (k : Nat) : Pair := b.pairs.getD k {}

/-- An E-stop input by index. -/
def SafState.e (b : SafState) (i : Nat) : EStop := b.estops.getD i {}

/-- One thruster changed. -/
def modSafThr (i : Nat) (f : SafThr → SafThr) (s : State) : State := s.modSaf fun b => { b with thr := updAt b.thr i f }

/-- One pair changed. -/
def modPair (k : Nat) (f : Pair → Pair) (s : State) : State := s.modSaf fun b => { b with pairs := updAt b.pairs k f }

/-- One E-stop input changed. -/
def modEstop (i : Nat) (f : EStop → EStop) (s : State) : State := s.modSaf fun b => { b with estops := updAt b.estops i f }

/-- A pair is energised: both switches closed (R344). -/
def Pair.on (p : Pair) : Bool := p.hs && p.ls

/-- Start-up is complete (R77). -/
def State.startDone (s : State) : Bool := s.sup.startPhase == 0

/-- Thrusters the image defines. -/
def SafState.defined (b : SafState) : BitVec 16 := maskOf 16 fun i => (b.t i).pair.isSome

/-- Mask of a scope number: every thruster for 0xFF and for an absent scope (R356). -/
def SafState.scopeMask (b : SafState) (n : Nat) : BitVec 16 :=
  let m := b.scopes.getD n 0
  if m = 0 then b.defined else m &&& b.defined

/-- Thrusters in RAMPING or REMOVED: SSTOP_SCOPE (R374). -/
def SafState.stopped (b : SafState) : BitVec 16 := maskOf 16 fun i => (b.t i).phase != .armed

/-- SC's next cycle finds an E-stop input ACTIVE that was not before (R342, R348). -/
def EStop.coming (e : EStop) : Bool := !e.scActive && e.samples.any fun x => x.1 || x.2

/-- Causes active now (R357). -/
def SafState.causes (b : SafState) : BitVec 6 :=
  maskOf 6 fun i => match i with
    | 0 => (b.e 0).active || (b.e 0).disc
    | 1 => (b.e 1).active || (b.e 1).disc
    | 3 => b.scInternal
    | 4 => b.supplyBad
    | _ => false

/-- SC runs: PD11 on, healthy and not declared lost (R342, R345). -/
def State.scRuns (s : State) : Bool := s.domOn 11 && s.saf.scOk && !s.saf.scLost

/-- Weir acts: PD11 on and not declared lost (R343, R345). -/
def State.weirRuns (s : State) : Bool := s.domOn 11 && s.saf.weirOk && !s.saf.weirLost

/-- The thruster has a valid feedback now: no older than 100 ms (R361). -/
def SafThr.valid (t : SafThr) (now : Nat) : Bool :=
  match t.fbAt with | some a => decide (now - a ≤ 100000000) | none => false

/-! ### Alarm (R368) -/

/-- ALARM_CAUSE (R368, R374). -/
def State.alarmCause (s : State) : BitVec 13 :=
  if !s.domOn 11 then 0
  else maskOf 13 fun i => match i with
    | 0 => s.saf.scLost
    | 1 => s.saf.weirLost
    | 2 => s.saf.pairs.any fun p => p.hsStuck || p.lsStuck || p.openFault || p.outFault
    | 3 => s.saf.pairs.any fun p => p.cfFault
    | 4 => s.saf.estops.any fun e => e.disc || e.tpfA || e.tpfB || e.alarmed
    | 5 => s.saf.mirrorStale
    | 6 => s.saf.pairs.any fun p => p.unprotected
    | 7 => s.saf.hold || s.saf.checkBad
    | 8 => s.ctl.lost
    | 9 => essentialFault s.fio
    | 10 => s.saf.ioFail
    | 11 => s.log.logFault
    | _ => s.saf.supplyBad

/-- The alarm contact is open (R368). -/
def State.alarmOn (s : State) : Bool := !s.domOn 11 || s.alarmCause != 0 || s.saf.alarmTest.isSome

/-- The contact follows its causes; a change raises ALARM (R368, R375). -/
def evalAlarm (s : State) : State :=
  let o := s.alarmOn
  if s.saf.alarmOpen == o then s
  else (s.modSaf fun b => { b with alarmOpen := o }).raise 0x1219 0xFF (leBytes 2 s.alarmCause.toNat ++ [BitVec.ofNat 8 (b2n o)])

/-! ### Removal (R346, R362) -/

/-- The switches of a pair open: a STUCK one stays closed, and without Weir nobody opens LS (R344, R346, R355). -/
def openPair (weirLost : Bool) (now : Nat) (p : Pair) : Pair :=
  { p with
    hs := p.hs && p.hsStuck
    ls := p.ls && (p.lsStuck || weirLost)
    trips := if p.on then satInc 32 p.trips else p.trips
    cfExpect := if p.on then some (true, now) else p.cfExpect
    weirAt := none
    testing := none }

/-- Once the entry, the removal and the release have been observed with both channels, the input has passed (R373). -/
def checkEsTest (s : State) : State :=
  match s.saf.esTest with
  | some t =>
    if t.entry && t.removal && t.both && t.released && s.saf.proof == .running then
      (s.modSaf fun b => { b with esTest := none, esPass := setBit b.esPass t.input true }).raise 0x121D 4 [BitVec.ofNat 8 t.input, 1]
    else s
  | none => s

/-- An ESTOP_TEST sees the removal once every thruster of the input's scope is REMOVED (R373). -/
def esTestRemoval (s : State) : State :=
  checkEsTest (s.modSaf fun b => { b with esTest := b.esTest.map fun t =>
    { t with removal := t.removal || (t.entry && (List.range 16).all fun j =>
        !(b.scopeMask (b.e t.input).scope).getLsbD j || (b.t j).phase == .removed) } })

/-- The removal of a pair: its switches open and every thruster mapped to it enters REMOVED (R362). `own` is the end cause of
each thruster; a thruster without one has PAIR_SHARED. -/
def removePair (k : Nat) (own : Nat → Nat) (s : State) : State :=
  let s := modPair k (openPair s.saf.weirLost s.now) s
  esTestRemoval <| s.forN 16 fun s i =>
    let t := s.saf.t i
    if t.pair == some k && t.phase != .removed then
      let c := if own i = 0 then 7 else own i
      let s := modSafThr i (fun t => { t with
        phase := .removed, endCause := c, due := 0, ramp := 0
        elapsed := if t.phase == .ramping then t.elapsed else 0 }) s
      s.raise 0x1212 i ([BitVec.ofNat 8 c, BitVec.ofNat 8 k] ++ zeros 2 ++ f32Bytes t.fb)
    else s

/-- Removal of every pair one of whose thrusters has a removal due (R362). -/
def removeDue (s : State) : State :=
  s.forN 8 fun s k =>
    let due := fun i => if (s.saf.t i).pair == some k then (s.saf.t i).due else 0
    if (List.range 16).any (fun i => decide (due i ≠ 0)) then removePair k due s else s

/-! ### Entries and reset (R65, R357 to R360) -/

/-- Weir's timer of a pair starts, unless it runs or the pair is open (R364). -/
def startWeirTimer (k : Nat) (s : State) : State :=
  if s.weirRuns then modPair k (fun p => if p.on && p.weirAt.isNone then { p with weirAt := some s.now } else p) s else s

/-- The pairs that carry a thruster of a mask. -/
def SafState.pairsOf (b : SafState) (m : BitVec 16) : List Nat :=
  (List.range 8).filter fun k => (List.range 16).any fun i => m.getLsbD i && (b.t i).pair == some k

/-- A SAFE_STOP entry during a proof test ends it with FAIL, unless it is the entry that ESTOP_TEST or the DISCREPANCY step of an
input provokes; the switch a pair test holds open closes again only under R351 (R373). -/
def proofEntry (cause : Nat) (s : State) : State :=
  let s := s.modSaf fun b => { b with pairs := b.pairs.map fun p => { p with testing := none } }
  if s.saf.proof == .running then
    let expected := match s.saf.esTest with
      | some t => cause == t.input || (decide (cause < 2) && s.saf.esPass.getLsbD cause)
      | none => decide (cause < 2) && s.saf.esPass.getLsbD cause
    if expected then
      s.modSaf fun b => { b with esTest := b.esTest.map fun t => if cause == t.input then { t with entry := true } else t }
    else
      let s := s.modSaf fun b => { b with proof := .fail, esTest := none }
      s.raise 0x121E 0xFF ([2, 0, 0, 0] ++ leBytes 4 (s.saf.hsPass.toNat + 256 * s.saf.lsPass.toNat + 65536 * s.saf.esPass.toNat
        + 262144 * s.saf.discPass.toNat + 4194304 * b2n s.saf.alarmPass))
  else s

/-- An entry to SAFE_STOP (R357 to R360, R435). SC_INTERNAL and SUPPLY remove the torque of a RAMPING thruster too (R357, R362). -/
def enterStop (e : StopEntry) (s : State) : State :=
  let mask := if e.cause = 3 ∨ e.cause = 4 then s.saf.defined else e.mask &&& s.saf.defined
  let added := mask &&& ~~~ s.saf.stopped
  let s := s.modSaf fun b => { b with
    entered := setBit b.entered e.cause true
    entryTime := if b.entered = 0 then s.now else b.entryTime }
  let s := s.raise 0x1210 e.cause (leBytes 2 added.toNat ++ [BitVec.ofNat 8 e.session])
  let s := proofEntry e.cause s
  let s := s.forN 16 fun s i =>
    if added.getLsbD i then modSafThr i (fun t => { t with
      phase := if e.immediate then t.phase else .ramping
      u0 := t.released
      ramp := t.released
      entryAt := s.now, elapsed := 0, outside := false, endCause := 0
      due := if e.immediate then 5 else 0
      zeroCycles := 0, outCycles := 0, staleCycles := 0 }) s
    else if (e.cause = 3 ∨ e.cause = 4) ∧ (s.saf.t i).phase = .ramping then
      modSafThr i (fun t => { t with due := if t.due = 0 then 5 else t.due }) s
    else s
  let s := if e.immediate then removeDue s else (s.saf.pairsOf added).foldl (fun s k => startWeirTimer k s) s
  if s.inDomain && decide (e.cause ≠ 5) then
    broadcastIcx 0x06 (leBytes 4 e.cause ++ leBytes 4 mask.toNat ++ leBytes 8 s.now) s
  else s

/-- R65's conditions hold in this module. -/
def SafState.resetOk (b : SafState) : Bool :=
  b.estops.all (fun e => !e.active && !e.disc) && b.causes == 0 && b.entries.isEmpty && b.thr.all fun t => t.phase != .ramping

/-- An accepted reset: REMOVED thrusters return to ARMED (R365); each is available again once its drive reports ready (R65, R241). -/
def acceptReset (session : Nat) (s : State) : State :=
  let since := if s.saf.entered = 0 then 0 else s.now - s.saf.entryTime
  let s := s.modSaf fun b => { b with
    entered := 0
    thr := b.thr.map fun t => if t.phase == .removed then { t with phase := .armed, endCause := 0, outside := false } else t }
  s.raise 0x1211 session (leBytes 4 (msOf since))

/-- The outcome of a reset is told: MODE_RESULT, in every member of a domain, MODE_REFUSED and the response (R65, R95, R96, R429). -/
def tellReset (session : Nat) (ok : Bool) (s : State) : State :=
  let s := setModeResult (if ok then 0 else 5) 7 session s
  let s := s.raiseIf (!ok) 0x0121 session [7, 5]
  let s := match s.icx.resetFrom with
    | some (m, tag) => resultIcx m tag (if ok then 0 else 7 + 256 * 5) (s.modIcx fun b => { b with resetFrom := none })
    | none => s
  answerAll (fun w => w.addr == 0x00010108) (if ok then 0 else 7) (if ok then 0 else 5) (tellResult s)

/-- A member's evaluation counts toward the LEAD's (R429). -/
def countReset (member : Nat) (ok : Bool) (s : State) : State :=
  match s.icx.resetWait with
  | none => s
  | some (session, left, all) =>
    let left := left.filter (· != member)
    if left.isEmpty then tellReset session (all && ok) (s.modIcx fun b => { b with resetWait := none })
    else s.modIcx fun b => { b with resetWait := some (session, left, all && ok) }

/-- SC evaluates a reset (R65, R358); in a domain each member for itself, where one applied from the LEAD enters the change log (R429, R457). -/
def evalReset (session : Nat) (s : State) : State :=
  let ok := s.saf.resetOk
  let s := s.modSaf fun b => { b with resetReq := none }
  let s := if ok then acceptReset session s else s
  match s.icx.resetOwed with
  | some (m, tag) =>
    let s := if ok then addChange 255 6 0x00010108 0 2 0 0 s else s
    resultIcx m tag (if ok then 0 else 7 + 256 * 5) (s.modIcx fun b => { b with resetOwed := none })
  | none => if s.icx.resetWait.isSome then countReset s.selfIndex ok s else tellReset session ok s

/-- SSTOP_REQ ENTER reaches SC, which makes no entry once it is lost (R63, R346, R357, R358). -/
def requestStop (session scope : Nat) (s : State) : State :=
  if !s.scRuns then s else s.modSaf fun b => { b with entries := b.entries ++ [{ cause := 2, mask := b.scopeMask scope, session := session }] }

/-- SSTOP_REQ RESET reaches the safety channel; without SC the state of Weir alone decides, at once (R65, R365). -/
def requestReset (session : Nat) (s : State) : State :=
  if !s.scRuns then evalReset session s else s.modSaf fun b => { b with resetReq := some session }

/-! ### Ramps (R360 to R362) -/

/-- Ramp fraction u at t seconds (R360); u0 before the entry (R361). -/
def SafThr.u (t : SafThr) (sec : Rat) : Rat :=
  let u0 := t.u0 / t.cfg.outFs
  if sec < 0 then u0 else signQ u0 * maxQ 0 (absQ u0 - t.cfg.rampRate * sec)

/-- The next strobe instant after a module time (R46, R360). -/
def State.nextStrobe (s : State) : Nat :=
  if s.now < s.tim.frameAt + 16000000 then s.tim.frameAt + 16000000 else s.tim.frameAt + 36000000

/-- One cycle of a RAMPING thruster (R360 to R362). `strobe` is the next strobe instant. -/
def rampCycle (now strobe : Nat) (t : SafThr) : SafThr :=
  let el := now - t.entryAt
  let sec := secOf el
  let u := t.u sec
  let f := absQ (t.fb / t.cfg.outFs)
  let v := t.valid now
  let bound := absQ (t.u (sec - t.cfg.lag)) + t.cfg.tol
  let out := !v || decide (bound < f)
  let zero := decide (u = 0) && v && decide (f ≤ t.cfg.zeroTol)
  let zc := if zero then min 255 (t.zeroCycles + 1) else 0
  let oc := if out && v then min 255 (t.outCycles + 1) else 0
  let sc := if v then 0 else min 255 (t.staleCycles + 1)
  let stop := absQ (t.u0 / t.cfg.outFs) / t.cfg.rampRate + t.cfg.lag + t.cfg.endGrace
  let due := if 101 ≤ zc then 1 else if stop ≤ sec then 2 else if 201 ≤ oc then 3 else if 201 ≤ sc then 4 else 0
  { t with
    elapsed := el, outside := out, zeroCycles := zc, outCycles := oc, staleCycles := sc
    due := if t.due = 0 then due else t.due
    ramp := t.u (secOf (strobe - t.entryAt)) * t.cfg.outFs }

/-! ### Pairs (R351 to R355) -/

/-- R351's conditions for energising a pair; after a full BIST none is energised until restart (R533). -/
def State.mayEnergise (s : State) (k : Nat) : Bool :=
  let p := s.saf.p k
  s.startDone && s.cfg.image.isSome && !s.saf.checkBad && !s.saf.hold && s.saf.latched && !s.bst.restartNeeded
    && s.saf.scOk && s.saf.weirOk && !s.saf.scLost && !s.saf.weirLost
    && decide (p.thrusters ≠ 0)
    && s.saf.thr.all (fun t => t.pair != some k || t.phase == .armed)
    && !s.saf.supplyBad && !p.openFault && !p.hsStuck && !p.lsStuck && !p.cfFault && p.testing.isNone

/-- The pairs whose conditions hold are energised (R351, R365). -/
def energisePairs (s : State) : State :=
  s.forN 8 fun s k =>
    if !(s.saf.p k).on && s.mayEnergise k then
      modPair k (fun p => { p with hs := true, ls := true, cfExpect := some (false, s.now), hsFails := 0, lsFails := 0 }) s
    else s

/-- UNPROTECTED is found and reported when both switches of a pair are STUCK (R355). -/
def checkUnprotected (k : Nat) (s : State) : State :=
  let p := s.saf.p k
  if p.hsStuck && p.lsStuck && !p.unprotected then (modPair k (fun p => { p with unprotected := true }) s).raise 0x1215 k [4] else s

/-- The pair's pins as SC and Weir sample them in a cycle: feedback, OUT_FAULT and OPEN (R352, R354, R355, R366). A pair found OPEN is no longer
held closed (R351). -/
def samplePair (k : Nat) (pinP pinN cf : Bool) (amps : Rat) (s : State) : State :=
  let p := s.saf.p k
  let outNow := if p.hs then p.fed else pinP && p.testing.isNone
  let openNow := p.on && p.testing.isNone && (!pinP || pinN)
  let s := modPair k (fun p => { p with
    pinP := pinP, pinN := pinN, cf := cf, current := amps
    cfExpect := match p.cfExpect with | some (l, at_) => if l == cf then none else some (l, at_) | none => none
    outFault := outNow, fed := p.fed && p.hs, openFault := p.openFault || openNow }) s
  let s := if openNow then modPair k (fun p => { openPair s.saf.weirLost s.now p with trips := p.trips }) s else s
  let s := s.raiseIf (outNow && !p.outFault) 0x1215 k [3]
  let s := s.raiseIf (!outNow && p.outFault) 0x121C k [3]
  s.raiseIf (openNow && !p.openFault) 0x1215 k [2]

/-- E-stop inputs ACTIVE at start-up completion put their thrusters into REMOVED (R351), those among them that an entry in the start phase (R63)
has left ramping. -/
def firstCycle (s : State) : State :=
  if s.startDone && !s.saf.started then
    let s := s.modSaf fun b => { b with started := true }
    s.forN 2 fun s i =>
      if (s.saf.e i).active then
        let m := s.saf.scopeMask (s.saf.e i).scope
        let s := s.modSaf fun b => { b with entries := b.entries.filter fun e => e.cause != i }
        let s := if s.saf.entered.getLsbD i then s else enterStop { cause := i, mask := m, immediate := true } s
        removeDue (s.modSaf fun b => { b with
          thr := b.thr.mapIdx fun j t => if m.getLsbD j && t.phase == .ramping then { t with due := 5 } else t })
      else s
  else s

/-! ### The SC cycle (R342) -/

/-- SC's entry for an E-stop input (R348, R357). -/
def SafState.estopEntry (b : SafState) (i : Nat) : StopEntry :=
  { cause := i, mask := b.scopeMask (b.e i).scope, immediate := !(b.e i).ramped }

/-- SC reads the E-stop samples buffered since its last cycle: an input newly ACTIVE gives an entry (R342, R348). -/
def takeEstops (s : State) : State :=
  s.forN 2 fun s i =>
    let e := s.saf.e i
    let s := if e.coming then s.modSaf fun b => { b with entries := b.entries ++ [b.estopEntry i] } else s
    modEstop i (fun x => { x with scActive := e.scActive || e.coming, samples := [] }) s

/-- Without SC Weir raises the cause of an ACTIVE E-stop input; no thruster ramps (R357, R363). -/
def weirEstops (s : State) : State :=
  if !s.weirRuns then s
  else s.forN 2 fun s i =>
    if (s.saf.e i).active && !s.saf.entered.getLsbD i then
      (s.modSaf fun b => { b with
        entered := setBit b.entered i true
        entryTime := if b.entered = 0 then s.now else b.entryTime }).raise 0x1210 i [0, 0, 0xFF]
    else s

/-- The pair supply as it reads: back in range it is a SUPPLY cause no longer (R357). -/
def sampleSupply (v : Rat) (s : State) : State :=
  s.modSaf fun b => { b with supply := v, supplyBad := b.supplyBad && !(decide (18 ≤ v) && decide (v ≤ 32)) }

/-- What SC had still to take when it was lost: its entries are not made, an E-stop input's cause is Weir's, and a reset is evaluated on Weir's
state (R346, R357, R363, R365). -/
def withoutSc (s : State) : State :=
  let s := weirEstops (s.modSaf fun b => { b with entries := [], estops := b.estops.map fun e => { e with samples := [] } })
  evalAlarm (match s.saf.resetReq with | some x => evalReset x s | none => s)

/-- Module time of the next SC cycle: the next whole millisecond, at most the coming frame instant. -/
def State.nextCycle (s : State) : Nat :=
  let c := (s.now + 999999) / 1000000 * 1000000
  let c := if c ≤ s.tim.scAt then s.tim.scAt + 1000000 else c
  min c (s.tim.frameAt + 20000000)

/-- One cycle of every thruster in RAMPING that `on` takes (R360 to R362). -/
def rampAll (on : Nat → Bool) (s : State) : State :=
  let strobe := s.nextStrobe
  s.modSaf fun b => { b with thr := b.thr.mapIdx fun i t => if t.phase == .ramping && on i then rampCycle s.now strobe t else t }

/-- The pairs' pins and feedback inputs, sampled (R342, R343). -/
def samplePairs (pinP pinN cf : BitVec 8) (currents : List F32) (s : State) : State :=
  s.forN 8 fun s k => samplePair k (pinP.getLsbD k) (pinN.getLsbD k) (cf.getLsbD k) (f32Val (currents.getD k 0)) s

/-- One cycle of SC (R342): samples, removals due, ramps, entries before the reset, the new ramps, energising and the alarm. Once SC is lost, what
Weir samples and takes (R343, R346). -/
def scCycle (us : Nat) (pinP pinN cf : BitVec 8) (currents : List F32) (supply : F32) (s : State) : State :=
  if !s.domOn 11 then s
  else if !s.scRuns then
    let s := sampleSupply (f32Val supply) s
    withoutSc (if s.weirRuns then samplePairs pinP pinN cf currents s else s)
  else
    let t := s.nextCycle
    let s := (s.advance t).modTim fun b => { b with scAt := t }
    let s := sampleSupply (f32Val supply) s
    let s := s.modSaf fun b => { b with
      cycleMax := max b.cycleMax (sat 32 us)
      mirrorStale := b.mirrorStale && (match b.mirrorAt with | some a => decide (100000000 < s.now - a) | none => true) }
    let s := removeDue (samplePairs pinP pinN cf currents s)
    let s := rampAll (fun _ => true) s
    let before := s.saf.thr
    let s := firstCycle (takeEstops s)
    let s := s.saf.entries.foldl (fun s e => enterStop e s) s
    let s := match s.saf.resetReq with | some x => evalReset x s | none => s
    let s := rampAll (fun i => (before.getD i {}).phase != .ramping) (s.modSaf fun b => { b with entries := [] })
    evalAlarm (energisePairs s)

/-- A removal that SC has decided is carried out (R362). -/
def torqueRemoved (i : Nat) (s : State) : State :=
  match (s.saf.t i).pair with
  | some k =>
    if s.scRuns && decide ((s.saf.t i).due ≠ 0) then
      removePair k (fun j => if (s.saf.t j).pair == some k then (s.saf.t j).due else 0) s
    else s
  | none => s

/-! ### E-stop inputs (R348 to R350) -/

/-- A channel is open once it has read low in 12 consecutive samples outside its own pulse window (R348). -/
def lowOpen (samples : Nat) : Bool := decide (12 ≤ samples)

/-- Consecutive low samples of both channels: once a channel is open the input is ACTIVE, Weir's timers start, and SC's own sampler has it for the
next SC cycle (R342, R348, R364). -/
def estopOpen (i lowA lowB : Nat) (s : State) : State :=
  let openA := lowOpen lowA
  let openB := lowOpen lowB
  if !s.domOn 11 || !(openA || openB) then s
  else
    let e := s.saf.e i
    let odd := openA != openB
    let s := modEstop i (fun e => { e with
      closedA := !openA, closedB := !openB, active := true
      samples := if s.scRuns then e.samples ++ [(openA, openB)] else []
      oddAt := if odd && (!e.active || (e.closedA == e.closedB)) then s.now else e.oddAt
      bothOpened := e.bothOpened || (openA && openB) }) s
    let s := s.modSaf fun b => { b with esTest := b.esTest.map fun t =>
      if t.input == i then { t with both := t.both || (openA && openB) } else t }
    if e.active then s
    else
      let m := s.saf.scopeMask e.scope
      let s := s.raise 0x1213 i [1, BitVec.ofNat 8 (b2n openA + 2 * b2n openB)]
      let s := (s.saf.pairsOf m).foldl (fun s k => startWeirTimer k s) s
      if s.scRuns then s else weirEstops s

/-- FAULT_CLEARED of an E-stop input (R375). -/
def estopCleared (i code : Nat) (s : State) : State := s.raise 0x121C (0x10 + i) [BitVec.ofNat 8 code]

/-- Both channels have been closed for `us`: a latched DISCREPANCY that has seen both open clears, and after 100 ms without one
the input is released (R349, R350). -/
def estopRelease (i us : Nat) (s : State) : State :=
  let e := s.saf.e i
  if !s.domOn 11 then s
  else if !e.active then modEstop i (fun e => { e with closedA := true, closedB := true }) s
  else
    let gone := e.disc && e.bothOpened
    let s := modEstop i (fun e => { e with closedA := true, closedB := true, disc := e.disc && !e.bothOpened }) s
    let s := if gone then estopCleared i 2 s else s
    if !(s.saf.e i).disc && decide (100000 ≤ us) then
      let s := (modEstop i (fun e => { e with active := false, scActive := false, samples := [] }) s).raise 0x1213 i [0, 0]
      checkEsTest (s.modSaf fun b => { b with esTest := b.esTest.map fun t =>
        { t with released := t.released || (t.input == i && t.entry) } })
    else s

/-- A channel has read wrongly during three pulses (R349). -/
def tpFault (i : Nat) (chB : Bool) (s : State) : State :=
  let e := s.saf.e i
  if !s.domOn 11 then s
  else
    let had := if chB then e.tpfB else e.tpfA
    let s := modEstop i (fun e => if chB then { e with tpfB := true, tpOkB := false, alarmed := true } else { e with tpfA := true, tpOkA := false, alarmed := true }) s
    evalAlarm (s.raiseIf (!had) 0x1214 i [BitVec.ofNat 8 (b2n chB)])

/-- A faulted channel's pulses have been right for `us`; after 10 s its TP_FAULT clears (R349). -/
def tpFaultCleared (i : Nat) (chB : Bool) (us : Nat) (s : State) : State :=
  let e := s.saf.e i
  if !s.domOn 11 || !(if chB then e.tpfB else e.tpfA) then s
  else if us < 10000000 then modEstop i (fun e => if chB then { e with tpOkB := true } else { e with tpOkA := true }) s
  else
    let s := modEstop i (fun e => if chB then { e with tpfB := false, tpOkB := true } else { e with tpfA := false, tpOkA := true }) s
    evalAlarm (estopCleared i (b2n chB) s)

/-- One channel has been open longer than ES_DISC while the other stays closed (R349). -/
def discrepancy (i : Nat) (s : State) : State :=
  let e := s.saf.e i
  if s.domOn 11 && e.active && e.closedA != e.closedB && !e.disc && decide (s.saf.esDisc * 1000000 < s.now - e.oddAt) then
    let s := modEstop i (fun e => { e with disc := true, discB := e.closedA, bothOpened := false, alarmed := true }) s
    let s := s.modSaf fun b => if b.proof == .running then { b with discPass := setBit b.discPass (2 * i + b2n e.closedA) true } else b
    evalAlarm (s.raise 0x1214 i [2])
  else s

/-! ### Test pulses and supervision (R345, R352 to R354) -/

/-- The next instant at or after now at an offset within the second, in ms. -/
def nextOffset (now off : Nat) : Nat :=
  let base := now / 1000000000 * 1000000000
  let t := base + off * 1000000
  if now ≤ t then t else t + 1000000000

/-- An entry removes the pair's torque at once (R357, R359). -/
def SafState.removes (b : SafState) (k : Nat) (e : StopEntry) : Bool :=
  e.immediate && (b.pairsOf (if e.cause = 3 ∨ e.cause = 4 then b.defined else e.mask)).contains k

/-- A removal of the pair falls in the SC cycle of a module time, so a pulse due there is abandoned (R354): one decided before, one by an end
condition of the cycle, an entry that takes the torque at once, Weir's timer or the supply. -/
def State.removalDue (s : State) (k at_ : Nat) : Bool :=
  let b := s.saf
  b.thr.any (fun t => t.pair == some k && (decide (t.due ≠ 0)
      || t.phase == .ramping && decide (s.tim.scAt < at_) && decide ((rampCycle at_ at_ t).due ≠ 0)))
    || b.entries.any (b.removes k)
    || (List.range 2).any (fun i => (b.e i).coming && b.removes k (b.estopEntry i))
    || (b.p k).weirAt.any (fun a => decide (a + (b.p k).tWeir * 1000000 < (at_ / 1000000 + 1) * 1000000))
    || decide (b.supply < 18) || decide (32 < b.supply)

/-- The instant of a switch's next pulse: one that has been given is not given again, so the next is a second later (R353). -/
def nextPulse (now off : Nat) (last : Option Nat) : Nat :=
  let t := nextOffset now off
  if last = some t then t + 1000000000 else t

/-- A test pulse of one switch of an energised pair, with the readback's verdict (R353, R354). Two failed HS pulses may come of an external feed
too, which is OUT_FAULT (R366). -/
def testPulse (hs : Bool) (k : Nat) (ok : Bool) (s : State) : State :=
  let p := s.saf.p k
  let due := nextPulse s.now (if hs then 125 * k else (500 + 125 * k) % 1000) (if hs then p.hsAt else p.lsAt)
  if !(if hs then s.scRuns else s.weirRuns) || !p.on || p.testing.isSome || s.removalDue k due
      || decide (s.tim.frameAt + 20000000 < due) then s
  else
    let s := s.advance due
    let n := if ok then 0 else (if hs then p.hsFails else p.lsFails) + 1
    let was := if hs then p.hsStuck else p.lsStuck
    let s := modPair k (fun p =>
      if hs then { p with hsAt := some due, fed := p.fed && !ok, hsFails := min 2 n, hsPulse := if ok then some s.now else p.hsPulse, hsStuck := p.hsStuck || decide (2 ≤ n) }
      else { p with lsAt := some due, lsFails := min 2 n, lsPulse := if ok then some s.now else p.lsPulse, lsStuck := p.lsStuck || decide (2 ≤ n) }) s
    let s := s.raiseIf (!was && decide (2 ≤ n)) 0x1215 k [BitVec.ofNat 8 (b2n (!hs))]
    let s := checkUnprotected k s
    let asks := hs && !was && decide (2 ≤ n)
    let s := if asks && Config.pairFed s.free then
        (modPair k (fun p => { p with fed := true, outFault := true }) s).raiseIf (!p.outFault) 0x1215 k [3]
      else s
    evalAlarm (if asks then s.draw else s)

/-- T_WEIR expires (R364): both switches open; SC's end cause is reported when its removal falls due at the same time. -/
def weirTimer (k : Nat) (s : State) : State :=
  let p := s.saf.p k
  match p.weirAt with
  | some a =>
    if s.weirRuns && decide (p.tWeir * 1000000 ≤ s.now - a) then
      if p.on then removePair k (fun i => if (s.saf.t i).due = 0 then 6 else (s.saf.t i).due) s
      else modPair k (fun p => { p with weirAt := none }) s
    else s
  | none => s

/-- CFk has not reached a level within T_CF after a change of the pair's state (R352). -/
def cfMissed (k : Nat) (level : Bool) (ms : Nat) (s : State) : State :=
  (modPair k (fun p => { p with cfFault := true, cfExpect := none }) s).raise 0x1216 k
    (BitVec.ofNat 8 (b2n level) :: zeros 3 ++ leBytes 4 ms)

/-- CFk has not followed within T_CF (R352). -/
def contactorFault (k : Nat) (s : State) : State :=
  let p := s.saf.p k
  match p.cfExpect with
  | some (lvl, a) =>
    if s.domOn 11 && decide (p.tCf * 1000000 ≤ s.now - a) then
      evalAlarm (cfMissed k lvl (msOf (s.now - a)) s)
    else s
  | none => s

/-- The start hold of a lost channel (R67, R346). -/
def safHold (s : State) : State := (s.modSaf fun b => { b with hold := true }).modSup fun b => { b with held := true }

/-- Weir finds `n` watchdog violations; three in a row are SC_LOST (R345, R346). -/
def scLost (n : Nat) (s : State) : State :=
  if !s.weirRuns || s.saf.scLost then s
  else
    let s := s.modSaf fun b => { b with wdViolations := satAdd 32 b.wdViolations n }
    if 3 ≤ n then
      let s := s.modSaf fun b => { b with scLost := true, scOk := false }
      evalAlarm ((safHold s).raise 0x1217 0xFF [BitVec.ofNat 8 n])
    else s

/-- SC declares WEIR_LOST: 0 heartbeat, 1 pulse, 2 E-stop disagreement (R345, R346). -/
def weirLost (cause : Nat) (s : State) : State :=
  if !s.scRuns || s.saf.weirLost then s
  else
    let s := s.modSaf fun b => { b with weirLost := true, weirOk := false }
    evalAlarm ((safHold s).raise 0x1218 0xFF [BitVec.ofNat 8 cause])

/-- The mirror port has been silent for 100 ms (R366). -/
def mirrorStale (s : State) : State :=
  let age := match s.saf.mirrorAt with | some a => s.now - a | none => s.now
  if s.scRuns && !s.saf.mirrorStale && decide (100000000 ≤ age) then
    evalAlarm ((s.modSaf fun b => { b with mirrorStale := true }).raise 0x121A 0xFF (leBytes 4 (msOf age)))
  else s

/-- The pair supply out of 18 V to 32 V for 1 ms: every LS opens, SAFE_STOP with cause SUPPLY (R347, R357). -/
def pairSupplyFault (volts : F32) (us : Nat) (s : State) : State :=
  let v := f32Val volts
  if s.weirRuns && !s.saf.supplyBad && (decide (v < 18) || decide (32 < v)) && decide (1000 ≤ us) then
    let s := s.modSaf fun b => { b with supplyBad := true, supply := v }
    evalAlarm (enterStop { cause := 4, mask := s.saf.defined, immediate := true } s)
  else s

/-! ### SAF_CMD (R372 to R374) -/

/-- SAF_CMD_RESULT (R374). -/
def safResult (w : WCtx) (action r : Nat) (s : State) : State :=
  s.modSaf fun b => { b with cmdResult := r, cmdAction := action, cmdSession := w.session }

/-- PROOF_RESULT word (R374). -/
def SafState.proofWord (b : SafState) : Nat :=
  b.hsPass.toNat + 256 * b.lsPass.toNat + 65536 * b.esPass.toNat + 262144 * b.discPass.toNat + 4194304 * b2n b.alarmPass

/-- Every defined pair, input and check has passed (R373). -/
def SafState.proofPassed (b : SafState) : Bool :=
  let m : BitVec 8 := maskOf 8 fun k => decide ((b.p k).thrusters ≠ 0)
  (b.hsPass &&& m) == m && (b.lsPass &&& m) == m && b.esPass == 3 && b.discPass == 15 && b.alarmPass

/-- PROOF_BEGIN (R373). -/
def proofBegin (s : State) : State :=
  s.modSaf fun b => { b with proof := .running, hsPass := 0, lsPass := 0, esPass := 0, discPass := 0, alarmPass := false, esTest := none }

/-- PROOF_END (R373). -/
def proofEnd (s : State) : State :=
  let ok := s.saf.proofPassed
  let s := s.modSaf fun b => { b with
    proof := if ok then .pass else .fail, esTest := none
    proofLast := if ok then s.now else b.proofLast
    overdue := b.overdue && !ok }
  let s := if ok then (commitEssential 0 Config.proofLastBytes s).1 else s
  s.raise 0x121E 0xFF ([if ok then 1 else 2, 0, 0, 0] ++ leBytes 4 s.saf.proofWord)

/-- A pair test may not run: a thruster of the pair has |f| > ZERO_TOL, or a servo test runs (R373). -/
def State.pairTestBarred (s : State) (k : Nat) : Bool :=
  s.srv.test.isSome || s.saf.thr.any fun t => t.pair == some k && decide (t.cfg.zeroTol < absQ (t.fb / t.cfg.outFs))

/-- A pair test opens its switch for 1 s, after which CFk must go high (R352, R373). -/
def pairTest (hs : Bool) (k : Nat) (s : State) : State :=
  modPair k (fun p =>
    let p := { p with cfExpect := some (true, s.now) }
    if hs then { p with testing := some (true, s.now), hs := p.hs && p.hsStuck }
    else { p with testing := some (false, s.now), ls := p.ls && p.lsStuck }) s

/-- A pair test ends: the switch closes, which needs both channels and no CF_FAULT, and the checks decide (R346, R352, R373). CFk not following
either change is a CONTACTOR_FAULT (R352, R366). -/
def pairTestEnd (k : Nat) (readback cfHigh cfLow : Bool) (s : State) : State :=
  match (s.saf.p k).testing with
  | some (hs, a) =>
    if decide (1000000000 ≤ s.now - a) then
      let ok := readback && cfHigh && cfLow
      let s := if !cfHigh && !(s.saf.p k).cfFault then cfMissed k true (s.saf.p k).tCf s else s
      let close := s.saf.scOk && s.saf.weirOk && !(s.saf.p k).cfFault
      let s := modPair k (fun p =>
        let p := { p with testing := none, cfExpect := none }
        if hs then { p with hs := p.hs || close } else { p with ls := p.ls || close }) s
      let s := if close && !cfLow then cfMissed k false (s.saf.p k).tCf s else s
      let s := s.modSaf fun b => if ok && b.proof == .running then
          (if hs then { b with hsPass := setBit b.hsPass k true } else { b with lsPass := setBit b.lsPass k true }) else b
      evalAlarm (s.raise 0x121D (if hs then 2 else 3) [BitVec.ofNat 8 k, BitVec.ofNat 8 (b2n ok)])
    else s
  | none => s

/-- FAULT_RESET of one pair: faults whose condition is absent clear (R352, R355, R368). -/
def resetPairFaults (k : Nat) (s : State) : State :=
  let p := s.saf.p k
  let hs := p.hsStuck && (decide (p.hsFails = 0) || (!p.on && !p.pinP))
  let ls := p.lsStuck && (decide (p.lsFails = 0) || (!p.on && p.pinN))
  let op := p.openFault && !(p.on && (!p.pinP || p.pinN))
  let cf := p.cfFault && (p.cf != p.on)
  let un := p.unprotected && (hs || ls)
  let s := modPair k (fun p => { p with
    hsStuck := p.hsStuck && !hs, lsStuck := p.lsStuck && !ls
    hsFails := if hs then 0 else p.hsFails, lsFails := if ls then 0 else p.lsFails
    hs := if hs && !p.on then false else p.hs, ls := if ls && !p.on then false else p.ls
    openFault := p.openFault && !op, cfFault := p.cfFault && !cf, unprotected := p.unprotected && !un }) s
  let s := s.raiseIf hs 0x121C k [0]
  let s := s.raiseIf ls 0x121C k [1]
  let s := s.raiseIf op 0x121C k [2]
  let s := s.raiseIf un 0x121C k [4]
  s.raiseIf cf 0x121C k [BitVec.ofNat 8 Config.cfClearedCode]

/-- FAULT_RESET of one E-stop input (R349); with no fault left its alarm cause clears (R368). -/
def resetEstopFaults (i : Nat) (s : State) : State :=
  let e := s.saf.e i
  let d := e.disc && e.closedA == e.closedB
  let a := e.tpfA && e.tpOkA
  let b := e.tpfB && e.tpOkB
  let s := modEstop i (fun e => { e with
    disc := e.disc && !d, tpfA := e.tpfA && !a, tpfB := e.tpfB && !b
    alarmed := (e.disc && !d) || (e.tpfA && !a) || (e.tpfB && !b) }) s
  let s := if a then estopCleared i 0 s else s
  let s := if b then estopCleared i 1 s else s
  if d then estopCleared i 2 s else s

/-- FAULT_RESET (R349, R352, R355, R374). -/
def faultReset (pair input : Nat) (all : Bool) (s : State) : State :=
  evalAlarm (if all then (s.forN 8 fun s k => resetPairFaults k s).forN 2 fun s i => resetEstopFaults i s
    else resetEstopFaults input (resetPairFaults pair s))

/-- A write to SAF_CMD (R373, R374); an undefined action needs the register's least role (R444). -/
def safCmd (w : WCtx) (v : Word) (s : State) : WriteOut :=
  let a := field v 3 0
  let k := field v 6 4
  let i := field v 8 8
  let no := fun r => WriteOut.refused (safResult w a r s) r
  let yes := fun t => WriteOut.done (safResult w a 0 t) 0
  let proof := s.sup.mode == .service && s.saf.proof == .running
  needRole w (if a = 0 ∨ a = 6 ∨ 7 < a then roleOperator else roleEngineer) (safResult w a 2 s) <|
    if a = 0 ∨ 7 < a then no 1
    else if s.saf.alarmTest.isSome || s.saf.pairs.any (fun p => p.testing.isSome) then no 3
      else match a with
        | 1 => if s.sup.mode == .service then yes (proofBegin s) else no 1
        | 2 => if proof && (s.saf.p k).on && !s.pairTestBarred k then yes (pairTest true k s) else no 1
        | 3 => if proof && (s.saf.p k).on && !s.pairTestBarred k then yes (pairTest false k s) else no 1
        | 4 => if proof then yes (s.modSaf fun b => { b with esTest := some { input := i } }) else no 1
        | 5 => if proof then yes (proofEnd s) else no 1
        | 6 => yes (faultReset k i (bit v 7) s)
        | _ =>
          if s.sup.mode == .standby || s.sup.mode == .service then
            yes (evalAlarm (s.modSaf fun b => { b with alarmTest := some (s.now + 2000000000) }))
          else no 1

/-- After 2 s the alarm test ends (R368, R373). -/
def alarmTestEnd (s : State) : State :=
  match s.saf.alarmTest with
  | some t =>
    if t ≤ s.now then
      let run := s.saf.proof == .running
      let s := s.modSaf fun b => { b with alarmTest := none, alarmPass := b.alarmPass || run }
      evalAlarm (s.raiseIf run 0x121D 7 [0, 1])
    else s
  | none => s

/-- Days since PROOF_LAST; 0xFFFF never (R374). -/
def State.proofDays (s : State) : Nat :=
  if s.saf.proofLast = 0 then 0xFFFF else sat 16 ((s.now - s.saf.proofLast) / 86400000000000)

/-- The proof test is overdue; reported once per day (R372). -/
def proofOverdue (s : State) : State :=
  let late := decide (s.saf.proofLast = 0) || decide (s.saf.proofInterval * 86400000000000 < s.now - s.saf.proofLast)
  let day := match s.saf.overdueAt with | some a => decide (86400000000000 ≤ s.now - a) | none => true
  if s.domOn 11 && late && day then
    (s.modSaf fun b => { b with overdue := true, overdueAt := some s.now }).raise 0x121F 0xFF (leBytes 2 s.proofDays)
  else s

/-! ### Configuration (R343, R370, R371) -/

/-- The safety records of the image are loaded (R343, R370); SAF_CHECK is what SC computes over them (R371). Weir's latches take them once, until
restart (R343); without an image there is nothing to latch. -/
def loadSafety (s : State) : State :=
  let im := s.image
  let r := im.safety
  if s.saf.latched then s
  else s.modSaf fun b => { b with
    latched := s.cfg.image.isSome
    check := r.computed, checkImg := r.crc, esDisc := r.esDisc, proofInterval := r.proofInterval
    scopes := (List.range 8).map fun i => BitVec.ofNat 16 (r.scopes.getD i 0)
    pairs := b.pairs.mapIdx fun k p => { p with
      thrusters := maskOf 16 fun i => (lookupK im.thrusters i).isSome && r.pairOf.getD i 255 == k
      tWeir := r.tWeir.getD k 60000, tCf := r.tCf.getD k 200 }
    thr := b.thr.mapIdx fun i t => { t with
      pair := if (lookupK im.thrusters i).isSome && decide (r.pairOf.getD i 255 < 8) then some (r.pairOf.getD i 255) else none
      cfg := r.thr.getD i {} }
    estops := b.estops.mapIdx fun i e => { e with scope := r.esScope.getD i 255, ramped := r.stopCat.getD i 0 == 1 } }

/-- SC compares SAF_CHECK and Weir's latches with the records; a difference is a failed SAF BIST (R80, R371). -/
def checkSafety (latchBad : Bool) (s : State) : State :=
  if s.saf.check ≠ s.saf.checkImg ∨ latchBad = true then
    let s := safHold (s.modSaf fun b => { b with checkBad := true })
    evalAlarm (s.raise 0x121B 0xFF (leBytes 4 s.saf.check ++ leBytes 4 s.saf.checkImg ++ [BitVec.ofNat 8 (b2n latchBad)]))
  else s

/-! ### Registers (R374) -/

/-- PAIR_STATE STATE (R355, R374). -/
def Pair.state (p : Pair) : Nat := if p.testing.isSome then 2 else if p.openFault then 3 else if p.on then 1 else 0

/-- THR_SAF_STATE STATE (R359). -/
def StopPhase.code : StopPhase → Nat
  | .armed => 0 | .ramping => 1 | .removed => 2

/-- Milliseconds since a passed pulse, 0xFFFF without one (R374). -/
def pulseAge (now : Nat) : Option Nat → Nat
  | some a => sat 16 (msOf (now - a))
  | none => 0xFFFF

/-- ESTOP_STATUS bits of one input (R374). -/
def EStop.bits (e : EStop) : Nat :=
  b2n e.closedA + 2 * b2n e.closedB + 4 * b2n e.active + 8 * b2n e.disc + 16 * b2n e.tpfA + 32 * b2n e.tpfB

/-- Value of a SAF register; none where none is defined. -/
def safRead (s : State) (off : Nat) : Option Word :=
  let b := s.saf
  let p := b.p b.pairSel
  let t := b.t b.thrSel
  match off with
  | 0x10 => some (pack [(b2n s.safeStop, 0, 1), (b2n (b.scOk && s.domOn 11), 1, 1), (b2n (b.weirOk && s.domOn 11), 2, 1),
      (b2n (b.scLost || b.weirLost), 3, 1), (b2n s.alarmOn, 4, 1), (b2n (b.pairs.any fun p => p.unprotected), 5, 1), (b2n b.overdue, 6, 1),
      ((maskOf 8 fun k => (b.p k).on).toNat, 16, 8)])
  | 0x14 => some (pack [(b.causes.toNat, 0, 6), (b.entered.toNat, 8, 6)])
  | 0x18 => some (wordOf b.stopped.toNat)
  | 0x1C => some (pack ((List.range 16).map fun i => ((b.t i).phase.code, 2 * i, 2)))
  | 0x20 => some (loWord b.entryTime)
  | 0x24 => some (hiWord b.entryTime)
  | 0x28 => some (pack [((b.e 0).bits, 0, 6), ((b.e 1).bits, 8, 6)])
  | 0x2C => some (wordOf s.alarmCause.toNat)
  | 0x30 => some (wordOf b.check)
  | 0x34 => some (wordOf b.checkImg)
  | 0x38 => some (wordOf b.pairSel)
  | 0x3C => some (pack [(p.state, 0, 2), (b2n p.hs, 2, 1), (b2n p.ls, 3, 1), (b2n p.pinP, 4, 1), (b2n p.pinN, 5, 1), (b2n p.cf, 6, 1),
      (b2n p.hsStuck, 7, 1), (b2n p.lsStuck, 8, 1), (b2n p.cfFault, 9, 1), (b2n p.outFault, 10, 1), (b2n p.openFault, 11, 1),
      (p.thrusters.toNat, 16, 16)])
  | 0x40 => some (f32Of p.current)
  | 0x44 => some (pack [(pulseAge s.now p.hsPulse, 0, 16), (pulseAge s.now p.lsPulse, 16, 16)])
  | 0x48 => some (wordOf p.trips)
  | 0x4C => some (wordOf b.thrSel)
  | 0x50 => some (pack [(t.phase.code, 0, 2), (b2n (t.phase != .armed), 2, 1), (t.pair.getD 0, 3, 3), (b2n (t.valid s.now), 6, 1),
      (b2n t.outside, 7, 1), (t.endCause, 8, 3)])
  | 0x54 => some (f32Of t.ramp)
  | 0x58 => some (f32Of t.fb)
  | 0x5C => some (f32Of t.u0)
  | 0x60 => some (wordOf (msOf t.elapsed))
  | 0x64 => some (wordOf b.cycleMax)
  | 0x68 => some (pack [(b.eccCorr, 0, 16), (b.eccUncorr, 16, 16)])
  | 0x6C => some (wordOf b.wdViolations)
  | 0x70 => some (loWord b.proofLast)
  | 0x74 => some (hiWord b.proofLast)
  | 0x78 => some (pack [(match b.proof with | .none_ => 0 | .pass => 1 | .fail => 2 | .running => 3, 0, 2), (b2n b.overdue, 2, 1),
      (s.proofDays, 16, 16)])
  | 0x7C => some 0
  | 0x80 => some (pack [(b.cmdResult, 0, 4), (b.cmdAction, 4, 4), (b.cmdSession, 8, 5)])
  | 0x84 => some (wordOf b.proofWord)
  | _ => none

/-- What a read clears (R22, R374). -/
def safClear (off : Nat) (s : State) : State :=
  match off with
  | 0x48 => modPair s.saf.pairSel (fun p => { p with trips := 0 }) s
  | 0x64 => s.modSaf fun b => { b with cycleMax := 0 }
  | 0x68 => s.modSaf fun b => { b with eccCorr := 0, eccUncorr := 0 }
  | 0x6C => s.modSaf fun b => { b with wdViolations := 0 }
  | _ => s

/-- Writable SAF registers (R374). -/
def safWritable (off : Nat) : Bool := [0x38, 0x4C, 0x7C].contains off

/-- A write to a SAF register (R374). -/
def safWrite (w : WCtx) (off : Nat) (v : Word) (s : State) : WriteOut :=
  match off with
  | 0x38 => selector v 2 7 s fun n => s.modSaf fun b => { b with pairSel := n }
  | 0x4C => selector v 3 15 s fun n => s.modSaf fun b => { b with thrSel := n }
  | 0x7C => safCmd w v s
  | _ => .refused s 1

/-! ### Meanings of the commands -/

/-- Meaning of ESTOP (R348). -/
def execEstop (input : Fin 2) (lowA lowB : Nat) (s : State) : Host.Outcome State Fault Refusal :=
  .next (estopOpen input.val lowA lowB s)

/-- Meaning of ESTOP_RELEASE (R350). -/
def execEstopRelease (input : Fin 2) (us : Nat) (s : State) : Host.Outcome State Fault Refusal :=
  .next (estopRelease input.val us s)

/-- Meaning of TP_FAULT (R349). -/
def execTpFault (input : Fin 2) (chB : Bool) (s : State) : Host.Outcome State Fault Refusal :=
  .next (tpFault input.val chB s)

/-- Meaning of TP_FAULT_CLEARED (R349). -/
def execTpFaultCleared (input : Fin 2) (chB : Bool) (us : Nat) (s : State) : Host.Outcome State Fault Refusal :=
  .next (tpFaultCleared input.val chB us s)

/-- Meaning of DISCREPANCY (R349). -/
def execDiscrepancy (input : Fin 2) (s : State) : Host.Outcome State Fault Refusal :=
  .next (discrepancy input.val s)

/-- Meaning of HS_TEST_PULSE (R353). -/
def execHsTestPulse (pair : Fin 8) (ok : Bool) (s : State) : Host.Outcome State Fault Refusal :=
  .next (testPulse true pair.val ok s)

/-- Meaning of LS_TEST_PULSE (R353). -/
def execLsTestPulse (pair : Fin 8) (ok : Bool) (s : State) : Host.Outcome State Fault Refusal :=
  .next (testPulse false pair.val ok s)

/-- Meaning of TORQUE_REMOVED (R362). -/
def execTorqueRemoved (thr : Fin 16) (s : State) : Host.Outcome State Fault Refusal :=
  .next (torqueRemoved thr.val s)

/-- Meaning of WEIR_TIMER (R364). -/
def execWeirTimer (pair : Fin 8) (s : State) : Host.Outcome State Fault Refusal :=
  .next (weirTimer pair.val s)

/-- Meaning of CONTACTOR_FAULT (R352). -/
def execContactorFault (pair : Fin 8) (s : State) : Host.Outcome State Fault Refusal :=
  .next (contactorFault pair.val s)

/-- Meaning of SC_LOST (R345). -/
def execScLost (violations : Nat) (s : State) : Host.Outcome State Fault Refusal :=
  .next (scLost violations s)

/-- Meaning of WEIR_LOST (R345). -/
def execWeirLost (cause : Fin 3) (s : State) : Host.Outcome State Fault Refusal :=
  .next (weirLost cause.val s)

/-- Meaning of MIRROR_STALE (R366). -/
def execMirrorStale (s : State) : Host.Outcome State Fault Refusal :=
  .next (mirrorStale s)

/-- Meaning of PAIR_SUPPLY_FAULT (R347). -/
def execPairSupplyFault (volts : F32) (us : Nat) (s : State) : Host.Outcome State Fault Refusal :=
  .next (pairSupplyFault volts us s)

/-- Meaning of PAIR_TEST_END (R373). -/
def execPairTestEnd (pair : Fin 8) (readbackOk cfHighOk cfLowOk : Bool) (s : State) : Host.Outcome State Fault Refusal
  :=
  .next (pairTestEnd pair.val readbackOk cfHighOk cfLowOk s)

/-- Meaning of ALARM_TEST_END (R368). -/
def execAlarmTestEnd (s : State) : Host.Outcome State Fault Refusal :=
  .next (alarmTestEnd s)

/-- Meaning of PROOF_OVERDUE (R372). -/
def execProofOverdue (s : State) : Host.Outcome State Fault Refusal :=
  .next (proofOverdue s)

end Sys2Proof.Machine
end

