-- ==== Sys2Proof/Machine/Icxon.lean ====
section
/-!
DEFINITION. The Icxon link and the redundant domain (chapter 12_icxon_domains.md, R413 to R439): ports, membership, the exchange
and vote windows, takeover and state transfer. Domain commands (R429) are in Domain.lean.
-/
set_option autoImplicit false
namespace Sys2Proof.Machine

/-! ### Members -/

/-- One member changed. -/
def modMember (i : Nat) (f : Member → Member) (s : State) : State := s.modIcx fun b => { b with members := updAt b.members i f }

/-- Codes of the roles (R438). -/
def IcxRole.code : IcxRole → Nat
  | .none_ => 0 | .lead => 1 | .follow => 2 | .spare => 3

/-- The role of a code. -/
def icxRoleOf (n : Nat) : IcxRole := match n % 4 with | 1 => .lead | 2 => .follow | 3 => .spare | _ => .none_

/-- Codes of the membership states (R419). -/
def MemberPhase.code : MemberPhase → Nat
  | .detached => 0 | .joining => 1 | .member => 2 | .isolated => 3 | .suspect => 4 | .refused => 5

/-- The role of a member as this module knows it. -/
def State.roleOf (s : State) (i : Nat) : IcxRole := if i = s.selfIndex then s.icx.role else (s.icx.m i).role

/-- The state of a member as this module knows it. -/
def State.phaseOf (s : State) (i : Nat) : MemberPhase := if i = s.selfIndex then s.icx.phase else (s.icx.m i).phase

/-- Member slots of the domain (R419). -/
def State.slots (s : State) : Nat := match s.icx.cfg with | some d => d.slots | none => 0

/-- This module is able to hold LEAD (R430); a LEAD counts as having adopted its own set (assumption log 26). -/
def State.selfAble (s : State) : Bool :=
  s.icx.phase == .member && !s.sup.held && !s.ctl.lost && s.thm.band != .crit && decide (s.icx.timeOffset.natAbs ≤ 2000) && !s.icx.skewed
    && (s.icx.adoptedLast || s.icx.role == .lead)

/-- A member is able as far as its last EXCHANGE and vote tell (R424, R430). -/
def State.able (s : State) (i : Nat) : Bool :=
  if i = s.selfIndex then s.selfAble
  else
    let m := s.icx.m i
    s.present i && m.phase == .member && !m.health.testBit 1 && !m.health.testBit 2 && !m.health.testBit 4
      && decide (m.offset.natAbs ≤ 2000) && m.adopted

/-- The member that a change of LEAD names: the FOLLOW when able, otherwise the able SPARE of lowest index (R430). -/
def State.successor (s : State) : Option Nat :=
  let cand := indices 8 fun i => i != s.icx.lead && s.able i
  match cand.find? (fun i => s.roleOf i == .follow) with
  | some i => some i
  | none => cand.find? fun i => s.roleOf i == .spare

/-- A member takes a role; ROLE_CHANGE when it differs. Of two members named FOLLOW the earlier one becomes SPARE (R423, R439). -/
def setRole (i : Nat) (r : IcxRole) (s : State) : State :=
  let old := s.roleOf i
  let s := modMember i (fun m => { m with role := r }) s
  let s := if i = s.selfIndex then s.modIcx fun b => { b with role := r } else s
  let s := s.raiseIf (old != r) 0x1811 i [BitVec.ofNat 8 old.code, BitVec.ofNat 8 r.code]
  s.modIcx fun b => { b with
    follow := if r == .follow then some i else if b.follow == some i then none else b.follow }

/-- A member takes FOLLOW, and a former FOLLOW becomes SPARE. -/
def setFollow (i : Nat) (s : State) : State :=
  let s := match s.icx.follow with
    | some j => if j = i then s else setRole j .spare s
    | none => s
  setRole i .follow s

/-- A member takes a state of membership. -/
def setPhase (i : Nat) (p : MemberPhase) (s : State) : State :=
  let s := modMember i (fun m => { m with phase := p }) s
  if i = s.selfIndex then s.modIcx fun b => { b with phase := p } else s

/-- A member is counted absent: MEMBER_LOST with its last role (R431, R433). -/
def loseMember (i : Nat) (s : State) : State :=
  let old := s.roleOf i
  let s := setRole i .none_ (setPhase i .isolated (modMember i (fun m => { m with transfer := none, xferTried := false, heal := 0, minority := 0 }) s))
  s.raise 0x1813 i [BitVec.ofNat 8 old.code]

/-- A member of the domain becomes SUSPECT (R427, R429). -/
def suspect (i : Nat) (s : State) : State :=
  let s := setRole i .none_ (setPhase i .suspect (modMember i (fun m => { m with transfer := none, xferTried := false, heal := 0, minority := 0 }) s))
  if i = s.selfIndex then s.modIcx fun b => { b with xfer := none, partsGot := 0, healRun := 0, adoptedLast := false } else s

/-! ### Ports (R413, R415, R416) -/

/-- A port of the three. -/
def IcxState.port (b : IcxState) (p : Nat) : IcxPort := b.ports.getD p {}

/-- One port changed. -/
def modIcxPort (p : Nat) (f : IcxPort → IcxPort) (s : State) : State := s.modIcx fun b => { b with ports := updAt b.ports p f }

/-- A port that has held lock and received idles for 10 ms reports UP (R413); none does after the image was refused for its ports (R3). -/
def portUp (p us : Nat) (s : State) : State :=
  if s.domOn 10 && s.linkAllowed && (s.icx.port p).phase == .down && decide (10000 ≤ us) then
    (modIcxPort p (fun x => { x with phase := .up }) s).raise 0x181E p []
  else s

/-- A port reports DOWN after 100 µs without signal (0) or lock (1), or after 16 code errors within 1 ms (2) (R413, R439). -/
def portDown (p cause n : Nat) (s : State) : State :=
  if s.domOn 10 && (s.icx.port p).phase == .up && decide ((if cause = 2 then 16 else 100) ≤ n) then
    (modIcxPort p (fun x => { x with phase := .down }) s).raise 0x181D p [BitVec.ofNat 8 cause]
  else s

/-- A DELAY measurement goes out on an UP port, once per second (R415). -/
def delayProbe (p : Nat) (s : State) : State :=
  let due := match (s.icx.port p).probeAt with | some t => decide (t + 1000000000 ≤ s.now) | none => true
  if s.domOn 10 && (s.icx.port p).phase == .up && due then
    let f := ({ s.icxFrame 0x09 0xFF 0 false [] with port := p, flags := b2n (p == 1) } : IcxFrame).withCrc
    (modIcxPort p (fun x => { x with probeAt := some s.now, out := x.out ++ [f] }) s).modIcx fun b => { b with sent := b.sent ++ [f] }
  else s

/-- The round trip of a hop has been measured: half of it is the delay of the cable (R415, R422). -/
def delayMeasured (p roundTripNs : Nat) (s : State) : State :=
  if s.domOn 10 && (s.icx.port p).phase == .up then modIcxPort p (fun x => { x with delay := roundTripNs / 2 }) s else s

/-! ### Transactions (R417) -/

/-- A COMMAND of the LEAD to all members: a transaction that every present member answers; with none present nothing is sent (R417, R429). -/
def sendOrder (o : DomainOrder) (s : State) : State × Bool :=
  if s.others.isEmpty then (s, true) else sendTxn 0x04 0xFF none (fun f => { f with cmd := some (.effect o) }) s

/-- The transaction waits for a RESULT of this member. -/
def IcxTxn.waitsFor (x : IcxTxn) (tag src : Nat) : Bool := x.tag == tag && (x.dst == src || x.left.contains src)

/-- A transaction is over. -/
def dropTxn (x : IcxTxn) (st : TagStatus) (s : State) : State :=
  completeTag (tagOf x.tag) st (s.modIcx fun b => { b with txns := b.txns.filter fun y => y.tag != x.tag })

/-! ### State transfer (R420, R434) -/

/-- The commands of this module as a VOTE and STATE carry them (R420, R426). -/
def State.voteThr (s : State) : List VoteThr :=
  (List.range 16).map fun i =>
    let t := s.ctl.thruster i
    { out := t.output, az := t.cmdAz, available := t.available, enable := t.available && !s.inhibited
      ramp := (s.saf.t i).phase == .ramping }

/-- The state that a LEAD transfers (R420). -/
def State.xferNow (s : State) : StateXfer :=
  let c := s.ctl
  { mode := s.sup.mode, hdgHold := s.sup.hdgHold, useSetpoint := s.sup.useSetpoint, setpoint := c.setpoint, target := c.target
    holdHdg := c.holdHdg, origin := s.fus.origin, track := c.track, tp := c.tp, tune := c.tune, thrEnable := c.thrEnable
    refSelect := s.fus.refs.map fun r => r.enabled
    tBlend := s.sup.tBlend, int := (c.intN, c.intE, c.intYaw), blend := s.sup.blend, outgoing := c.outgoing, thr := s.voteThr, root := c.root }

/-- The thrust commands of a set become this module's previous commands and outputs (R428). -/
def takeThr (l : List VoteThr) (s : State) : State :=
  showCtl <| s.forN 16 fun s i => match s.thrCfg i, l[i]? with
    | some c, some v => modThr i (fun t => { t with cmdT := c.thrustOf v.out, cmdAz := v.az, output := v.out, kept := (c.thrustOf v.out, v.az, v.out) }) s
    | _, _ => s

/-- The working origin transferred takes effect at this frame instant: what FC holds is converted to it (R139, R420). -/
def takeOrigin (g : Option Geo) (s : State) : State :=
  if g.isNone || g == s.fus.origin then s else originInstant (s.modFus fun b => { b with originNext := g })

/-- The state transferred takes effect, at a frame instant (R139, R420). -/
def applyXfer (x : StateXfer) (s : State) : State :=
  let s := takeOrigin x.origin s
  let s := s.modCtl fun b => { b with
    setpoint := x.setpoint, target := x.target, holdHdg := x.holdHdg, track := x.track, tp := x.tp, tune := x.tune
    thrEnable := x.thrEnable, intN := x.int.1, intE := x.int.2.1, intYaw := x.int.2.2, intInit := false, entry := false
    outgoing := x.outgoing, root := x.root }
  let s := s.modSup fun b => { b with tBlend := x.tBlend, blend := x.blend, hdgHold := x.hdgHold, useSetpoint := x.useSetpoint }
  let s := s.modFus fun b => { b with
    refs := b.refs.mapIdx fun i r => { r with enableNext := x.refSelect.getD i r.enableNext } }
  takeThr x.thr s

/-- Parts of STATE (R420). -/
def statePartCount : Nat := Config.stateParts + 1

/-- A part of STATE goes to a member (R420). -/
def sendPart (i k : Nat) (s : State) : State :=
  (sendTxn 0x08 i none (fun f => { f with part := some (k, statePartCount, s.xferNow) }) s).1

/-- The LEAD starts to send STATE to a member (R420, R434). -/
def startTransfer (i : Nat) (s : State) : State :=
  sendPart i 0 (modMember i (fun m => { m with transfer := some (0, statePartCount), xferTried := true, heal := 0 }) s)

/-- A part of STATE has been acknowledged (R420). -/
def partAcked (i : Nat) (s : State) : State :=
  match (s.icx.m i).transfer with
  | some (k, n) =>
    let s := modMember i (fun m => { m with transfer := some (k + 1, n) }) s
    if k + 1 < n then sendPart i (k + 1) s else s
  | none => s

/-- A part of STATE arrives (R420): acknowledged, and after the last one the state is held. A member that is ISOLATED or SUSPECT
takes it at the next frame instant; a JOINING one with its role. -/
def takePart (f : IcxFrame) (s : State) : State :=
  match f.part with
  | none => s
  | some (k, n, x) =>
    if s.icx.phase == .joining || s.icx.phase == .isolated || s.icx.phase == .suspect then
      let s := resultIcx f.src f.tag 0 s
      let last := decide (k + 1 = n)
      let s := s.modIcx fun b => { b with partsGot := k + 1, xfer := if last then some x else b.xfer }
      if last && s.icx.phase != .joining then s.modIcx fun b => { b with healRun := 0, xferDue := true } else s
    else s

/-! ### Joining (R420, R421) -/

/-- Payload of JOIN: member index and image check value (R415). -/
def State.joinPayload (s : State) : Bytes := leBytes 1 s.selfIndex ++ leBytes 4 s.cfg.check

/-- JOIN goes to the LEAD (R420). -/
def sendJoin (s : State) : State :=
  let r := sendTxn 0x07 s.icx.lead none (fun f => { f with payload := s.joinPayload }) s
  r.1.modIcx fun b => { b with joinTried := b.joinTried || r.2 }

/-- A JOINING module may ask its LEAD now. -/
def State.mayJoin (s : State) : Bool :=
  s.domOn 10 && s.icx.phase == .joining && s.icx.leadKnown && !s.icx.joinOk && !(s.icx.txns.any fun x => x.type == 0x07)

/-- JOIN_RETRY: 1 s after a TIME refusal (R420). -/
def joinRetry (s : State) : State :=
  match s.icx.joinRetryAt with
  | some t => if s.mayJoin && decide (t ≤ s.now) then sendJoin (s.modIcx fun b => { b with joinRetryAt := none }) else s
  | none => s

/-- Status of a refusal with its cause: STATUS REFUSED and the cause (assumption log 26). -/
def refusedStatus (cause : Nat) : Nat := 7 + 256 * cause

/-- Another present member holds an index: this module, or one that is a MEMBER, ISOLATED or SUSPECT and present (R420). -/
def State.indexHeld (s : State) (i : Nat) : Bool :=
  i = s.selfIndex || (s.present i && (s.icx.m i).phase != .joining && (s.icx.m i).phase != .detached)

/-- A module is known to be JOINING; STATE goes to it once its JOIN is accepted (R420). -/
def markJoining (i : Nat) (s : State) : State :=
  modMember i (fun m => { m with transfer := none }) (setRole i .none_ (setPhase i .joining s))

/-- The LEAD evaluates a JOIN (R420): IMAGE 0, DUPLICATE 1, TIME 2 are its refusals. A JOIN broadcast without ACK_REQ tells that its sender is
JOINING (R421). -/
def takeJoin (f : IcxFrame) (s : State) : State :=
  let i := byteAt f.payload 0 % 8
  let check := leAt f.payload 1 4
  if s.icx.role != .lead then
    modMember f.src (fun m => { m with phase := .joining, role := .none_, heard := some f.frame }) s
  else if f.tag = 0 then (if s.indexHeld i then s else markJoining i s)
  else if check ≠ s.cfg.check then resultIcx f.src f.tag (refusedStatus 0) (s.raise 0x1819 i (leBytes 4 check))
  else if s.indexHeld i then resultIcx f.src f.tag (refusedStatus 1) (s.raise 0x181A i [1])
  else if 2000 < (s.icx.m i).offset.natAbs then resultIcx f.src f.tag (refusedStatus 2) ((markJoining i s).raise 0x181A i [2])
  else
    let s := setRole i .none_ (setPhase i .joining s)
    startTransfer i (resultIcx f.src f.tag 0 (modMember i (fun m => { m with check := check, minority := 0 }) s))

/-- A LEAD that lost its role becomes JOINING (R432): it joins the other LEAD, or where the evidence was on CAN listens for it. -/
def startJoining (s : State) : State :=
  let other := s.icx.rejoinTo
  let s := setRole s.selfIndex .none_ (setPhase s.selfIndex .joining s)
  let s := s.modIcx fun b => { b with
    joinOk := false, joinTried := false, joinRetryAt := none, partsGot := 0, xfer := none, rejoin := false, rejoinTo := none, adoptedLast := false
    adopted := none, named := none, handCause := none, followDue := false, ownState := false, leadKnown := other.isSome
    joinSince := if other.isSome then none else some s.now, cmds := [] }
  match other with
  | some (i, e) => setRole i .lead (s.modIcx fun b => { b with lead := i, epoch := e })
  | none => s

/-- A lower index was heard JOINING in the 100 frames (R421). -/
def State.lowerJoins (s : State) : Bool :=
  (List.range s.selfIndex).any fun i => (s.icx.m i).phase == .joining
    && (match (s.icx.m i).heard with | some f => decide (serialDiff s.frame f ≤ 100) | none => false)

/-- DOMAIN_FORMATION: 100 frames without a LEAD (R421). A module that has heard a lower index JOINING leaves LEAD to it, and listens for it
(assumption log 26). -/
def domainFormation (s : State) : State :=
  match s.icx.joinSince with
  | some t =>
    if s.domOn 10 && s.icx.phase == .joining && !s.icx.leadKnown && decide (t + 2000000000 ≤ s.now) then
      if s.lowerJoins then s.modIcx fun b => { b with joinSince := some s.now }
      else
        let s := s.modIcx fun b => { b with
          joinSince := none, epoch := 1, lead := s.selfIndex, leadKnown := true, leadBySilence := false, timeOffset := 0 }
        setRole s.selfIndex .lead (setPhase s.selfIndex .member s)
    else s
  | none => s

/-! ### Domain time (R422) -/

/-- SYNC gives the offset to domain time: the LEAD's stamp with residence and cable delays, less this module's time of arrival
(assumption log 26). REFERENCE_OFFSET acts on it (R463). -/
def takeSync (r : IcxRx) (s : State) : State :=
  let f := r.frame
  if f.src ≠ s.icx.lead || s.icx.role == .lead || f.payload.length ≠ 12 then s
  else
    let dom := leAt f.payload 0 8 + leAt f.payload 8 4 + (s.icx.port f.port).delay
    let o : Int := (dom : Int) - ((s.now - r.backNs : Nat) : Int)
    let o32 := max (-2147483648) (min 2147483647 o)
    let s := s.modIcx fun b => { b with
      timeOffset := o32
      skewRun := if 20000 < o.natAbs then min 15 (b.skewRun + 1) else 0
      skewed := b.skewed && decide (2000 ≤ o.natAbs) }
    measureDomain o s

/-- The LEAD's module time is domain time: its offset is 0 (R422). -/
def ownTime (s : State) : State := s.modIcx fun b => { b with timeOffset := 0, skewRun := 0, skewed := false }

/-- TIME_SKEW: |offset| above 20 µs for 10 frames (R422). -/
def timeSkew (s : State) : State :=
  if s.inDomain && decide (10 ≤ s.icx.skewRun) && !s.icx.skewed then
    (s.modIcx fun b => { b with skewed := true }).raise 0x181B 0xFF (nsBytes s.icx.timeOffset)
  else s

/-! ### The exchange window (R424, R425, R437) -/

/-- The witness port receives: its CAN port is on the bus (R431, R438). -/
def State.witnessOk (s : State) : Bool :=
  match s.icx.cfg with | some d => decide (d.witness < 4) && (s.can.port d.witness).onBus | none => false

/-- HEALTH (R424). -/
def State.healthWord (s : State) : Nat :=
  bitsToNat [s.sup.dpReady, s.sup.held, s.ctl.lost, s.thm.band == .hot, s.thm.band == .crit, s.safeStop, s.sup.locked, s.ctl.deadline]
    + 256 * s.slv.availCount + 4096 * b2n s.witnessOk

/-- The EXCHANGE of this module (R424). -/
def State.exchange (s : State) : Bytes :=
  s.fus.snap.bytes ++ [BitVec.ofNat 8 s.icx.role.code, BitVec.ofNat 8 (modeCode s.sup.mode)] ++ leBytes 2 s.healthWord
    ++ leBytes 4 s.cfg.check ++ leBytes 4 (wordOfInt s.icx.timeOffset).toNat ++ zeros 4

/-- EXT_CAP of a subordinate domain in the parent domain: facets of its root and SAT (R436, R437). -/
def sendExtCap (s : State) : State :=
  match s.icx.cfg with
  | some d =>
    if s.subordinate && s.icx.role == .lead then
      let p := (s.groupFacets (((lookupK s.image.groups 0)).getD {}) 0).flatMap f32Bytes ++ [BitVec.ofNat 8 (b2n (s.ctl.group 0).sat)]
      postIcx { s.icxFrame 0x0A 0xFF 0 false p with domain := d.parent, src := d.parentSlot } s
    else s
  | none => s

/-- EXCHANGE_SEND: at the later of 3 ms and the publication of the fused snapshot, once a frame (R424). A JOINING module sends it
too, without a role, so that the LEAD knows its offset (assumption log 26). The own entry of the members tells of it (R438). -/
def exchangeSend (us : Nat) (s : State) : State :=
  if s.domOn 10 && (s.inDomain || s.icx.phase == .joining) && s.stagesRun && s.fus.published && s.icx.exchSent != some s.frame then
    let s := s.atFrame (max us 3000)
    let s := s.modIcx fun b => { b with
      exchSent := some s.frame
      members := updAt b.members s.selfIndex fun m => { m with
        exchAt := some s.now, mode := modeCode s.sup.mode, health := s.healthWord, check := s.cfg.check, offset := b.timeOffset } }
    closeStage 2 6000 (sendExtCap (broadcastIcx 0x02 s.exchange s))
  else s

/-- Every binary32 field of a snapshot is finite (R391). -/
def snapFinite (p : Bytes) : Bool := [16, 20, 24, 28, 32, 40, 44, 48, 52, 56, 60, 64].all fun i => f32Finite (f32At p i)

/-- Squared Mahalanobis distance of two positions with their covariances summed (R425). -/
def snapDist2 (a b : FusedSnap) : Rat :=
  let nn := a.sigN * a.sigN + b.sigN * b.sigN
  let ee := a.sigE * a.sigE + b.sigE * b.sigE
  let ne := a.rho * a.sigN * a.sigE + b.rho * b.sigN * b.sigE
  let det := nn * ee - ne * ne
  let x := a.posN - b.posN
  let y := a.posE - b.posE
  if det = 0 then 0 else (ee * x * x - 2 * ne * x * y + nn * y * y) / det

/-- Distance of two headings, rad, over their summed deviation (R167, R425). -/
def snapHdg (a b : FusedSnap) : Rat :=
  let v := a.hdgSigma * a.hdgSigma + b.hdgSigma * b.hdgSigma
  if v = 0 then 0 else absQ (radOf (wrapTurn (turnsOf a.heading - turnsOf b.heading))) / Config.sqrt v

/-- The own fused state is compared with the LEAD's (R425). -/
def compareSnap (l : FusedSnap) (s : State) : State :=
  let o := s.fus.snap
  let d := Config.sqrt (snapDist2 o l)
  let h := snapHdg o l
  let far := [decide (3 < d) && o.posValid && l.posValid, decide (3 < h) && o.hdgValid && l.hdgValid]
  s.modIcx fun b => { b with
    disagreeDist := [d, h]
    disagreeSince := far.zipWith (fun x t => if x then (if t.isSome then t else some s.now) else none) b.disagreeSince
    disagreeTold := far.zipWith (fun x t => x && t) b.disagreeTold }

/-- FUS_DISAGREE: the difference has lasted more than 2 s (R425). -/
def fusDisagree (which : Nat) (s : State) : State :=
  match (s.icx.disagreeSince.getD which none) with
  | some t =>
    if s.follows && decide (t + 2000000000 < s.now) && !(s.icx.disagreeTold.getD which false) then
      (s.modIcx fun b => { b with disagreeTold := updAt b.disagreeTold which fun _ => true }).raise 0x181C 0xFF
        ([BitVec.ofNat 8 which, 0, 0, 0] ++ f32Bytes (s.icx.disagreeDist.getD which 0))
    else s
  | none => s

/-- Two members hold LEAD: this one keeps it with the higher epoch, or with an equal one and the lower index, and the other becomes JOINING;
otherwise it steps down at the next frame instant (R432). -/
def dualLead (other epoch : Nat) (s : State) : State :=
  if decide (epoch < s.icx.epoch) || (s.icx.epoch == epoch && decide (s.selfIndex < other)) then
    modMember other (fun m => { m with phase := .joining, transfer := none }) s
  else stepDown other epoch false s

/-- A member that reports LEAD is learned: one with the higher epoch takes the place of the known one (R430 to R432). A change that no VOTE
announced is one by silence (R430, R431; assumption log 26). -/
def learnLead (i epoch : Nat) (s : State) : State :=
  let new := !s.icx.leadKnown || serialLater epoch s.icx.epoch || (s.icx.epoch == epoch && decide (i < s.icx.lead))
  if new || i = s.icx.lead then
    let change := s.icx.leadKnown && i != s.icx.lead
    let s := if change && s.roleOf s.icx.lead == .lead then setRole s.icx.lead .none_ s else s
    let s := s.modIcx fun b => { b with
      lead := i, leadKnown := true, epoch := if new then epoch else b.epoch, joinSince := none
      takeovers := if change then satInc 32 b.takeovers else b.takeovers
      leadBySilence := if change then true else b.leadBySilence
      joinTried := b.joinTried && !new }
    setRole i .lead s
  else s

/-- The mode follows the LEAD's with cause DOMAIN (R62, R71). -/
def followMode (mode : Nat) (hdg : Bool) (s : State) : State :=
  match modeOf mode with
  | some m =>
    if m != s.sup.mode && s.sup.mode != .start && s.sup.pendMode.isNone then
      s.modSup fun b => { b with pendMode := some { target := m, hdgHold := m == .joystick && hdg, useSetpoint := false, cause := 6 } }
    else s
  | none => s

/-- An EXCHANGE of the domain arrives (R424, R425, R432 to R434). A member without a role is ISOLATED or SUSPECT, which the LEAD counts as
lost; the LEAD sends STATE to one that it has heard in a frame before, and that is not known to be JOINING (assumption log 26). -/
def takeExchange (r : IcxRx) (s : State) : State :=
  let f := r.frame
  let p := f.payload
  if p.length ≠ 88 || !snapFinite p then s
  else
    let snap := snapOfBytes p
    let role := icxRoleOf (byteAt p 72)
    let late := decide (s.tim.frameAt + 6000000 < s.now - r.backNs) || serialLater s.frame f.frame
    let lately := s.heardLately f.src
    let s := modMember f.src (fun m => { m with heard := some f.frame, xferTried := m.xferTried && lately }) s
    if late then s.modIcx fun b => { b with exchLate := satInc 32 b.exchLate }
    else
      let s := modMember f.src (fun m => { m with
        exchAt := some s.now, mode := byteAt p 73, health := leAt p 74 2, check := leAt p 76 4
        offset := toSigned 32 (leAt p 80 4), snap := some (snap, f.frame) }) s
      let s := if role == .lead then
          (if s.icx.role == .lead then dualLead f.src f.epoch (modMember f.src (fun m => { m with role := .lead }) s)
          else learnLead f.src f.epoch s)
        else s
      let s := if role == .follow && s.icx.role != .lead && s.icx.follow != some f.src then setFollow f.src s else s
      let s := if role == .spare && s.icx.role != .lead then setRole f.src .spare s else s
      let p0 := (s.icx.m f.src).phase
      let s := if s.icx.role != .lead && s.roleOf f.src == role && role != .none_ && (p0 == .detached || p0 == .joining || p0 == .isolated)
        then setPhase f.src .member s else s
      let s := if role == .none_ && p0 == .member then
          (if s.icx.role == .lead then loseMember f.src s else setRole f.src .none_ (setPhase f.src .isolated s))
        else if role == .none_ && p0 == .joining then modMember f.src (fun m => { m with role := .none_ }) s
        else s
      let m := s.icx.m f.src
      let s := if s.icx.role == .lead && lately && !m.xferTried && m.transfer.isNone && (m.phase == .isolated || m.phase == .suspect)
        then startTransfer f.src s else s
      if f.src = s.icx.lead && s.follows then
        compareSnap snap (followMode (byteAt p 73) snap.hdgValid s)
      else s

/-! ### The vote window (R426 to R428) -/

/-- Bytes of a VOTE: 168, or 40 without thruster entries (R426). -/
def VoteMsg.bytes (v : VoteMsg) : Bytes :=
  let role := match v.newRole with | some (m, r) => m % 8 + 8 + 16 * (r % 4) | none => 0
  f32Bytes v.root.surge ++ f32Bytes v.root.sway ++ f32Bytes v.root.yaw ++ f32Bytes v.intN ++ f32Bytes v.intE ++ f32Bytes v.intYaw
    ++ [BitVec.ofNat 8 v.law, BitVec.ofNat 8 v.tune, BitVec.ofNat 8 v.path, BitVec.ofNat 8 v.flags] ++ leBytes 4 v.planTag
    ++ [BitVec.ofNat 8 role] ++ zeros 7
    ++ (if v.flags % 2 = 1 then [] else (v.thr.flatMap fun t =>
      f32Bytes t.out ++ leBytes 2 t.az ++ [BitVec.ofNat 8 (bitsToNat [t.available, t.enable, t.ramp]), 0]))

/-- A VOTE from its bytes (R426). -/
def voteOf (frame : Nat) (p : Bytes) : VoteMsg :=
  let nr := byteAt p 32
  { frame := frame, root := { surge := ratAt p 0, sway := ratAt p 4, yaw := ratAt p 8 }, intN := ratAt p 12, intE := ratAt p 16
    intYaw := ratAt p 20, law := byteAt p 24, tune := byteAt p 25, path := byteAt p 26, flags := byteAt p 27, planTag := leAt p 28 4
    newRole := if nr.testBit 3 then some (nr % 8, nr / 16 % 4) else none
    thr := if p.length < 168 then [] else (List.range 16).map fun i =>
      let k := 40 + 8 * i
      let fl := byteAt p (k + 6)
      { out := ratAt p k, az := leAt p (k + 4) 2, available := fl.testBit 0, enable := fl.testBit 1, ramp := fl.testBit 2 }
    nonFinite := !((List.range 6).all fun i => f32Finite (f32At p (4 * i)))
      || (decide (168 ≤ p.length) && !((List.range 16).all fun i => f32Finite (f32At p (40 + 8 * i)))) }

/-- DEADLINE of a VOTE: its sender abstains (R426). -/
def VoteMsg.abstains (v : VoteMsg) : Bool := v.flags % 2 == 1

/-- Cause of a handover that the LEAD has to announce (R430). -/
def State.handoverCause (s : State) : Option Nat :=
  if s.icx.handCause.isSome then s.icx.handCause
  else if s.ctl.lost then some 1
  else if s.thm.band == .crit then some 2
  else if s.sup.held then some 4
  else none

/-- A member that the LEAD may name now: its state transfer is acknowledged, and one that was ISOLATED or SUSPECT has agreed for 50
frames (R420, R434). -/
def State.toName (s : State) : Option Nat :=
  (List.range 8).find? fun i =>
    let m := s.icx.m i
    i != s.selfIndex && (match m.transfer with | some (k, n) => decide (n ≤ k) | none => false)
      && (m.phase == .joining || ((m.phase == .isolated || m.phase == .suspect) && decide (50 ≤ m.heal)))

/-- The FOLLOW is able. -/
def State.followAble (s : State) : Bool := match s.icx.follow with | some j => s.able j | none => false

/-- What the LEAD's VOTE names (R420, R430): a handover first, then a member that joins, then a FOLLOW where there is none, or after a change of
LEAD where the one that stands is not able. -/
def State.naming (s : State) : Option (Nat × IcxRole × Bool) :=
  let hand := match s.handoverCause, s.successor with | some _, some i => some (i, IcxRole.lead, true) | _, _ => none
  if hand.isSome then hand
  else match s.toName with
    | some i => some (i, if s.followAble then .spare else .follow, false)
    | none =>
      if s.followAble || (s.icx.follow.isSome && !s.icx.followDue) then none
      else match (List.range 8).find? (fun i => i != s.selfIndex && s.able i && s.roleOf i == .spare) with
        | some i => some (i, .follow, false)
        | none => none

/-- The VOTE of this module (R426). -/
def State.ownVote (s : State) (n : Option (Nat × IcxRole × Bool)) : VoteMsg :=
  let missed := s.ctl.deadline
  let hand := match n with | some x => x.2.2 | none => false
  { frame := s.frame, root := s.ctl.root, intN := s.ctl.intN, intE := s.ctl.intE, intYaw := s.ctl.intYaw, law := s.ctl.law.code
    tune := s.ctl.tune, path := match s.ctl.planUsed with | some p => p.path | none => 0
    flags := bitsToNat [missed, (s.ctl.group 0).sat, s.ctl.frozen.any id, hand]
    planTag := match s.ctl.planUsed with | some p => p.tag.word | none => 0
    newRole := n.map fun x => (x.1, x.2.1.code), thr := if missed then [] else s.voteThr
    blend := some (s.sup.blend, s.ctl.outgoing) }

/-- A module takes part in the vote window: a MEMBER, or one that is ISOLATED or SUSPECT once its state is transferred (R426, R433,
R434). -/
def State.votes (s : State) : Bool :=
  s.icx.phase == .member || ((s.icx.phase == .isolated || s.icx.phase == .suspect) && s.icx.xfer.isSome)

/-- VOTE_SEND: at frame time 12 ms (R426). -/
def voteSend (s : State) : State :=
  if s.domOn 10 && s.votes && s.stagesRun && s.icx.voteSent != some s.frame && s.sup.mode != .start then
    let s := s.atFrame 12000
    let n := if s.icx.role == .lead then s.naming else none
    let cause := s.handoverCause.getD 0
    let v := s.ownVote n
    let s := modMember s.selfIndex (fun m => { m with vote := some v }) s
    let s := s.modIcx fun b => { b with
      voteSent := some s.frame
      named := if b.role == .lead then n else b.named
      namedCause := if b.role == .lead then cause else b.namedCause
      followDue := b.followDue && !s.followAble && (match n with | some (_, .follow, false) => false | _ => true)
      handCause := none }
    postIcx { s.icxFrame 0x03 0xFF 0 false v.bytes with blend := v.blend } s
  else s

/-- A VOTE of the domain arrives (R426, R432): kept when it arrived by 15 ms; the LEAD's names roles, and one that names a role is a LEAD's. -/
def takeVote (r : IcxRx) (s : State) : State :=
  let f := r.frame
  let v := { voteOf f.frame f.payload with blend := f.blend }
  if f.payload.length ≠ 168 && !(f.payload.length == 40 && v.abstains) then s
  else
    let s := modMember f.src (fun m => { m with heard := some f.frame }) s
    if s.tim.frameAt + 15000000 < s.now - r.backNs then s
    else
      let s := modMember f.src (fun m => { m with vote := some v }) s
      let isLead := s.roleOf f.src == .lead || v.newRole.isSome || v.flags.testBit 3
      let s := if isLead && s.icx.role == .lead then dualLead f.src f.epoch s else s
      if isLead && f.src = s.icx.lead && s.icx.role != .lead then
        s.modIcx fun b => { b with named := v.newRole.map fun x => (x.1, icxRoleOf x.2, v.flags.testBit 3) }
      else s

/-- Absolute difference of two azimuths, bam16. -/
def azDiff (a b : Nat) : Nat := (bamDiff a b).natAbs

/-- First field in which two VOTEs differ beyond tolerance (R426, R439): field and thruster; none when they agree. -/
def State.voteDiff (s : State) (a b : VoteMsg) : Option (Nat × Nat) :=
  let d := s.icx.cfg.getD {}
  let at_ := fun (v : VoteMsg) (i : Nat) => v.thr.getD i {}
  let fs := fun (i : Nat) => (s.image.safety.thr.getD i {}).outFs
  let first := fun (k : Nat) (p : Nat → Bool) => ((List.range 16).find? p).map fun i => (k, i)
  let root := decide (d.tolF < absQ (a.root.surge - b.root.surge)) || decide (d.tolF < absQ (a.root.sway - b.root.sway))
    || decide (d.tolM < absQ (a.root.yaw - b.root.yaw))
  (first 0 fun i => (at_ a i).available != (at_ b i).available).orElse fun _ =>
  (first 1 fun i => decide (d.tolOut * fs i < absQ ((at_ a i).out - (at_ b i).out))).orElse fun _ =>
  (first 2 fun i => decide (d.tolAz < azDiff (at_ a i).az (at_ b i).az)).orElse fun _ =>
  if root || a.nonFinite || b.nonFinite then some (3, 0) else none

/-- Two VOTEs agree (R426). -/
def State.agree (s : State) (a b : VoteMsg) : Bool := !a.nonFinite && !b.nonFinite && (s.voteDiff a b).isNone

/-- The VOTE of a member for the running frame. -/
def State.voteNow (s : State) (i : Nat) : Option VoteMsg :=
  match (s.icx.m i).vote with | some v => if v.frame = s.frame then some v else none | none => none

/-- The voters: MEMBERs whose VOTE of the frame is here without DEADLINE (R427). -/
def State.voterList (s : State) : List (Nat × VoteMsg) :=
  (List.range 8).filterMap fun i =>
    if s.phaseOf i == .member then
      (match s.voteNow i with | some v => if v.abstains then none else some (i, v) | none => none)
    else none

/-- A voter agrees with more than half of the voters, itself included (R427). -/
def State.inMajority (s : State) (l : List (Nat × VoteMsg)) (v : Nat × VoteMsg) : Bool :=
  decide (l.length < 2 * (l.filter fun w => w.1 == v.1 || s.agree v.2 w.2).length)

/-- Pairs of voters whose VOTEs do not agree (R427). -/
def State.disagreements (s : State) (l : List (Nat × VoteMsg)) : Nat :=
  (l.flatMap fun a => l.filter fun b => decide (a.1 < b.1) && !s.agree a.2 b.2).length

/-- This module adopts a set (R428): its commands become the previous ones, its integrator, root demand and the blend state held by its source
its own. -/
def adoptVote (v : VoteMsg) (lead : Bool) (s : State) : State :=
  let s := takeThr v.thr s
  let s := if lead then s else s.modCtl fun b => { b with intN := v.intN, intE := v.intE, intYaw := v.intYaw, root := v.root }
  let s := match lead, v.blend with
    | false, some (x, o) => (s.modSup fun b => { b with blend := x }).modCtl fun b => { b with outgoing := o }
    | _, _ => s
  busUse (s.modIcx fun b => { b with adopted := some v, adoptedLast := true })

/-- The set adopted in the last frame is adopted again (R427); no source tells of a blend state then. -/
def adoptAgain (s : State) : State :=
  match s.icx.adopted with | some v => adoptVote { v with blend := none } false s | none => s

/-- A member becomes SUSPECT, and the LEAD sends it STATE (R427, R429, R434). -/
def suspectMember (i : Nat) (s : State) : State :=
  let s := suspect i s
  if s.icx.role == .lead then startTransfer i s else s

/-- A member's run of minority frames (R427): the third makes a non-LEAD member SUSPECT and makes the LEAD hand over. -/
def countMinority (mine : Option VoteMsg) (i : Nat) (s : State) : State :=
  let n := min 3 ((s.icx.m i).minority + 1)
  let s := modMember i (fun m => { m with minority := n }) s
  if n < 3 then s
  else
    let d := match mine, s.voteNow i with | some a, some b => (s.voteDiff a b).getD (3, 0) | _, _ => (3, 0)
    let s := s.raiseIf (i = s.selfIndex) 0x1817 i [BitVec.ofNat 8 d.1, BitVec.ofNat 8 d.2]
    if i = s.icx.lead then
      (if i = s.selfIndex then s.modIcx fun b => { b with handCause := some 3 } else s)
    else suspectMember i s

/-- A silence of the LEAD is confirmed (R431). -/
def State.silenceConfirmed (s : State) : Bool :=
  match s.icx.cfg with
  | some d =>
    if d.witness < 4 then s.icx.witnessFrame != some ((s.frame + 2 ^ 32 - 1) % 2 ^ 32)
    else d.topology == 2 && s.icx.leadPorts == 0
  | none => false

/-- This module becomes LEAD by silence (R431). -/
def takeover (s : State) : State :=
  let old := s.icx.lead
  let s := s.modIcx fun b => { b with
    lead := s.selfIndex, leadKnown := true, leadBySilence := true, epoch := (b.epoch + 1) % 2 ^ 32, takeovers := satInc 32 b.takeovers
    leadMissed := 0, named := none, foreignLead := 0, followDue := true }
  let s := (ownTime s).raise 0x1810 s.selfIndex ([5, BitVec.ofNat 8 old, 0, 0] ++ leBytes 4 s.icx.epoch)
  setRole s.selfIndex .lead (loseMember old s)

/-- Whether the LEAD of the running frame is silent, present without a vote, or voting (R427). -/
inductive LeadVote where
  | silent | abstains | votes
deriving DecidableEq, Repr

/-- The LEAD in this frame's vote (R427). -/
def State.leadVote (s : State) (l : List (Nat × VoteMsg)) : LeadVote :=
  if l.any fun v => v.1 == s.icx.lead then .votes
  else if s.icx.lead = s.selfIndex || (s.icx.m s.icx.lead).heard == some s.frame then .abstains
  else .silent

/-- The released set and its source, with the LEAD voting (R427). -/
def State.released (s : State) (l : List (Nat × VoteMsg)) : Option (Nat × VoteMsg) :=
  let lead := l.find? fun v => v.1 == s.icx.lead
  match lead with
  | some v => if l.length < 3 || s.inMajority l v then some v else (match l.find? (s.inMajority l) with | some w => some w | none => some v)
  | none => none

/-- VOTE_EVALUATION: at 15 ms (R427, R428, R431, R433, R434). With the LEAD in the minority of a vote only the LEAD counts a minority frame. -/
def voteEvaluation (s : State) : State :=
  if !(s.domOn 10 && s.inDomain && s.stagesRun && s.icx.voteDone != some s.frame && s.sup.mode != .start) then s
  else
    let s := s.atFrame 15000
    let l := s.voterList
    let maj := fun v => s.inMajority l v
    let anyMaj := l.any maj
    let how := s.leadVote l
    let rel := if how == .votes then s.released l else none
    let two := decide (l.length = 2)
    let bad := s.disagreements l
    let disagree := (two && decide (0 < bad)) || (decide (3 ≤ l.length) && !anyMaj)
    let counts := decide (3 ≤ l.length) && (anyMaj || how != .votes)
    let minor := if counts then (l.filter fun v => !maj v).map Prod.fst else []
    let counted := if how == .votes && minor.contains s.icx.lead then [s.icx.lead] else minor
    let me := s.selfIndex
    let mine := s.voteNow me
    let relVote := rel.map Prod.snd
    let s := s.modIcx fun b => { b with
      voteDone := some s.frame, voters := l.length
      agree := maskOf 8 fun i => l.any fun v => v.1 == i && (if two then bad == 0 else maj v)
      minority := maskOf 8 fun i => minor.contains i
      source := match rel with | some v => v.1 | none => b.lead
      miscompares := satAdd 32 b.miscompares bad
      agreeRun := if bad = 0 ∧ 2 ≤ l.length then min 50 (b.agreeRun + 1) else if bad = 0 then b.agreeRun else 0
      leadMissed := if how == .silent then min 3 (b.leadMissed + 1) else 0
      leadHeardAt := if how == .silent then b.leadHeardAt else s.now
      ringClosed := decide (2 ≤ popcount b.leadPorts)
      healRun := match mine, relVote with
        | some a, some v => if s.agree a v then min 50 (b.healRun + 1) else 0
        | _, _ => 0
      members := b.members.mapIdx fun i m => { m with
        minority := if minor.contains i then m.minority else 0
        adopted := l.any fun v => v.1 == i
        heal := match s.voteNow i, relVote with
          | some a, some v => if s.agree a v then min 50 (m.heal + 1) else 0
          | _, _ => 0 } }
    let s := s.modIcx fun b => { b with disagree := (two && decide (0 < bad)) || (b.disagree && decide (b.agreeRun < 50)) }
    let s := s.raiseIf disagree 0x1818 0xFF [BitVec.ofNat 8 l.length]
    let s := counted.foldl (fun s i => countMinority relVote i s) s
    let s := s.forN 8 fun s i =>
      if s.icx.role == .lead && i != me && s.phaseOf i == .member && (s.icx.m i).heard.isSome && !s.present i then loseMember i s else s
    let s := match how with
      | .votes => (match rel with
        | some v => if s.icx.phase == .member && v.1 != me then adoptVote v.2 (s.icx.role == .lead) s
          else s.modIcx fun b => { b with adoptedLast := b.phase == .member, adopted := some v.2 }
        | none => s)
      | .silent =>
        if s.icx.phase == .member && s.silenceConfirmed && s.successor == some me then takeover s
        else if s.icx.phase == .member then adoptAgain s
        else s
      | .abstains => if s.icx.phase == .member && s.icx.role != .lead then adoptAgain s else s
    closeStage 4 15000 s

/-- PARTITION: the LEAD is missing on Icxon for 3 frames while the witness shows it alive (R433). -/
def partition (s : State) : State :=
  let alive := match s.icx.witnessAt with | some t => decide (s.now ≤ t + 40000000) | none => false
  if s.icx.phase == .member && s.icx.role != .lead && decide (3 ≤ s.icx.leadMissed) && alive then
    let s := setRole s.selfIndex .none_ (setPhase s.selfIndex .isolated s)
    let s := s.modIcx fun b => { b with isolatedAt := s.now, xfer := none, partsGot := 0, healRun := 0, adoptedLast := false }
    s.raise 0x1814 s.selfIndex (zeros 4 ++ leBytes 4 (sat 32 (msOf (s.now - s.icx.leadHeardAt))))
  else s

/-! ### Nested domains (R436, R437) -/

/-- A value of an EXT_CAP or EXT_DEMAND on Icxon that no consumer can use is refused as a Luquel frame is, and counted in LUQ_REJECT CHECK: of the
port that carries class ALLOC, port 0 without one (R391). -/
def icxValueReject (s : State) : State :=
  let p := (s.can.cls 4).primary
  (modPort (if p < 4 then p else 0) (fun b => { b with luqCheck := satInc 16 b.luqCheck }) s).raise 0x1415 0xFF [0, 0, 4]

/-- EXT_CAP of a subordinate domain arrives in the parent domain (R251, R437). -/
def takeExtCap (f : IcxFrame) (s : State) : State :=
  let g := Config.extGroupOfSlot f.src
  let k := s.image.dirCount
  let used := match s.groupCfg g with | some c => c.external && c.extIcxon | none => false
  if !used || f.payload.length ≠ 4 * k + 1 then s
  else
    let h := (List.range k).map fun i => f32At f.payload (4 * i)
    if h.all fun w => f32Finite w && decide (0 ≤ f32Val w) then
      modGroup g (fun x => { x with extFacets := h.map f32Val, extAt := some s.now, extSat := byteAt f.payload (4 * k) % 2 == 1 }) s
    else icxValueReject s

/-- EXT_DEMAND of the parent's LEAD arrives in the subordinate domain (R437). -/
def takeExtDemand (f : IcxFrame) (s : State) : State :=
  let p := f.payload
  if p.length ≠ 13 then s
  else if [0, 4, 8].all fun i => f32Finite (f32At p i) then
    let valid := byteAt p 12 % 2 == 1
    s.modIcx fun b => { b with
      extDemand := some ({ surge := ratAt p 0, sway := ratAt p 4, yaw := ratAt p 8 }, valid, s.frame)
      extStale := b.extStale && !valid }
  else icxValueReject s

/-- EXT_DEMAND_STALE: the parent's demand is older than 2 frames or not valid (R437). -/
def extDemandStale (s : State) : State :=
  match s.icx.extDemand with
  | some (_, v, n) =>
    let age := (serialDiff s.frame n).toNat
    if s.subordinate && !s.icx.extStale && (!v || decide (2 < age)) then
      (s.modIcx fun b => { b with extStale := true }).raise 0x1820 0xFF [BitVec.ofNat 8 (sat 8 age)]
    else s
  | none => s

/-- A frame of the parent domain: its LEAD's mode and the demand for this domain's slot (R436, R437). -/
def takeParent (d : DomainCfg) (f : IcxFrame) (s : State) : State :=
  if f.type = 0x0B ∧ (f.dst = d.parentSlot ∨ f.dst = 0xFF) then takeExtDemand f s
  else if f.type = 0x02 ∧ f.payload.length = 88 ∧ byteAt f.payload 72 = 1 then
    let s := s.modIcx fun b => { b with parentMode := some (byteAt f.payload 73) }
    if s.icx.role == .lead then followMode (byteAt f.payload 73) ((byteAt f.payload 68).testBit 5) s else s
  else s

/-- EXT_DEMAND to the subordinate domains, at the strobe (R437). -/
def sendExtDemand (s : State) : State :=
  if s.inDomain && s.icx.role == .lead then
    (List.range 8).foldl (fun s i =>
      let g := Config.extGroupOfSlot i
      match s.groupCfg g with
      | some c =>
        if c.external && c.extIcxon then
          let d := (s.ctl.group g).demand
          postIcx (s.icxFrame 0x0B i 0 false (f32Bytes d.surge ++ f32Bytes d.sway ++ f32Bytes d.yaw
            ++ [BitVec.ofNat 8 (b2n (releasesThrust s.sup.mode))])) s
        else s
      | none => s) s
  else s

/-! ### CONTROL_LOST (R254, R255) -/

/-- A frame whose fused snapshot has not come by frame time 12 ms: availability, evaluated in every frame, is evaluated then (R241). -/
def lateAvailability (s : State) : State :=
  if s.sup.mode == .start || !s.stagesRun || s.ctl.allocFrame == some s.frame || !s.engineRuns 9 then s
  else
    let t := evalThrusters (s.atFrame 12000)
    if s.allocOwed then t else showCtl (t.modCtl fun b => { b with allocFrame := some s.frame, allocDone := true })

/-- DEADLINE: the allocation owed is not complete at frame time 12 ms; the tenth miss in a row is CONTROL_LOST, handed over in a domain
whose LEAD has an able successor (R254, R255, R430). -/
def deadlineMiss (s : State) : State :=
  let s := lateAvailability s
  if !s.allocOwed || !s.engineRuns 9 then s
  else
    let s := missedDeadline (s.atFrame 12000)
    if s.ctl.dlRun = 10 && !s.ctl.lost then
      let handing := s.inDomain && s.icx.role == .lead && s.successor.isSome
      let s := s.modCtl fun b => { b with lost := true, handed := handing, lostFrame := s.frame, holdLast := !handing }
      (showCtl (restage s)).raise 0x0D11 0xFF [BitVec.ofNat 8 (b2n handing)]
    else s

/-! ### Results and timeouts (R417, R429) -/

/-- A reset distributed to a member is answered (R429). -/
def State.isReset (s : State) (x : IcxTxn) : Bool := x.type == 0x04 && x.origin.isNone && x.dst != 0xFF && s.icx.resetWait.isSome

/-- A RESULT arrives (R417): OK, or REFUSED with a status. One of a member that an outstanding transaction does not wait for is discarded; one of
no outstanding transaction is a TAG_ORPHAN (R55). -/
def takeResult (f : IcxFrame) (s : State) : State :=
  let tag := leAt f.payload 0 4
  let st := leAt f.payload 4 4
  match s.icx.txns.find? fun x => x.waitsFor tag f.src with
  | none => if s.icx.txns.any fun x => x.tag == tag then s else completeTag (tagOf tag) .done s
  | some x =>
    let reset := s.isReset x
    let left := x.left.filter (· != f.src)
    let s := if left.isEmpty then dropTxn x .done s
      else s.modIcx fun b => { b with txns := b.txns.map fun y => if y.tag == x.tag then { y with left := left } else y }
    match x.type with
    | 0x04 => (match x.origin with
      | some w =>
        let s := if w.addr = 0x00010104 ∨ w.addr = 0x00010108 then
            setModeResult (if st = 0 then 0 else if st % 256 = 4 then 4 else st / 256) (if w.addr = 0x00010108 then 7 else field w.value 2 0)
              w.session s
          else s
        if st = 0 && anchorWrite w then s else answer w (st % 256) (st / 256) s
      | none => if reset then countReset f.src (st = 0) s else if x.dst = 0xFF ∧ st ≠ 0 ∧ x.told = false then suspectMember f.src s else s)
    | 0x07 =>
      if st = 0 then s.modIcx fun b => { b with joinOk := true }
      else if st / 256 = 2 then s.modIcx fun b => { b with joinRetryAt := some (s.now + 1000000000) }
      else setPhase s.selfIndex .refused s
    | _ => if st = 0 then partAcked x.dst s else modMember x.dst (fun m => { m with transfer := none }) s

/-- TXN_TIMEOUT: no RESULT 40 ms after sending; the transaction is not sent again (R417). -/
def txnTimeout (tag : Nat) (s : State) : State :=
  match s.icx.txns.find? fun x => x.tag == tag with
  | none => s
  | some x =>
    if s.now < x.sentAt + 40000000 then s
    else
      let reset := s.isReset x
      let s := dropTxn x .abandoned s
      let s := s.modIcx fun b => { b with txnTimeouts := satInc 16 b.txnTimeouts }
      let s := s.raise 0x181F x.dst ([BitVec.ofNat 8 x.type, 0, 0, 0] ++ leBytes 4 x.tag)
      match x.type with
      | 0x04 => (match x.origin with
        | some w => answer w 16 0 s
        | none => if reset then countReset x.dst false s else if x.told then s else x.left.foldl (fun s i => suspectMember i s) s)
      | 0x07 => s
      | _ => modMember x.dst (fun m => { m with transfer := none }) s

/-- An SSTOP arrives: SC enters SAFE_STOP with cause DOMAIN for its scope (R357, R435). -/
def takeSstop (f : IcxFrame) (s : State) : State :=
  s.modSaf fun b => { b with entries := b.entries ++ [{ cause := 5, mask := BitVec.ofNat 16 (leAt f.payload 4 4) }] }

/-! ### The frame instant (R420 to R422, R430, R432) -/

/-- An announced handover takes effect (R430, R432, R439). -/
def changeLead (i : Nat) (s : State) : State :=
  let old := s.icx.lead
  let ableOld := s.able old
  let own := decide (old = s.selfIndex)
  let s := s.modIcx fun b => { b with
    lead := i, leadKnown := true, leadBySilence := false, epoch := (b.epoch + 1) % 2 ^ 32, takeovers := satInc 32 b.takeovers
    followDue := i == s.selfIndex }
  let s := if i = s.selfIndex then ownTime s else s
  let s := s.raiseIf own 0x1810 i ([BitVec.ofNat 8 s.icx.namedCause, BitVec.ofNat 8 old, 0, 0] ++ leBytes 4 s.icx.epoch)
  let s := setRole i .lead s
  if ableOld then setFollow old s else setRole old .spare s

/-- A member takes the role the LEAD named (R420, R434, R439). -/
def takeRole (i : Nat) (r : IcxRole) (s : State) : State :=
  let was := s.phaseOf i
  let me := decide (i = s.selfIndex)
  let heals := was == .isolated || was == .suspect
  if me && ((heals && decide (s.icx.healRun < 50)) || (was == .joining && s.icx.xfer.isNone)) then s
  else
    let s := setPhase i .member (modMember i (fun m => { m with transfer := none, heal := 0, minority := 0 }) s)
    let s := if r == .follow then setFollow i s else setRole i r s
    let s := s.raiseIf (was == .joining || was == .detached) 0x1812 i [BitVec.ofNat 8 r.code]
    let s := s.raiseIf (me && was == .isolated) 0x1815 i (zeros 4 ++ leBytes 4 (sat 32 (msOf (s.now - s.icx.isolatedAt))))
    if me && was == .joining then
      match s.icx.xfer with
      | some x =>
        (s.modIcx fun b => { b with xferDue := true }).modSup fun b => { b with
          pendMode := if x.mode == b.mode then b.pendMode
            else some { target := x.mode, hdgHold := x.hdgHold, useSetpoint := x.useSetpoint, cause := 6 } }
      | none => s
    else s

/-- What the Icxon link does at a frame instant: the roles named take effect, a LEAD that lost its role rejoins, the LEAD sends SYNC,
and a JOINING module sends JOIN. -/
def icxInstant (s : State) : State :=
  if !s.domOn 10 || s.icx.phase == .detached || s.icx.phase == .refused then s
  else
    let n := s.icx.named
    let s := s.modIcx fun b => { b with named := none, leadPorts := 0 }
    let s := match n with
      | some (i, r, hand) => if hand then changeLead i s else takeRole i r s
      | none => s
    let s := if s.icx.rejoin then startJoining s else s
    let s := if s.inDomain && s.icx.role == .lead then broadcastIcx 0x01 (leBytes 8 s.now ++ leBytes 4 0) s else s
    if s.icx.phase == .joining then
      if s.icx.leadKnown then (if s.mayJoin && !s.icx.joinTried then sendJoin s else s)
      else
        let s := if s.icx.joinSince.isNone then s.modIcx fun b => { b with joinSince := some s.now } else s
        broadcastIcx 0x07 s.joinPayload s
    else s

/-- The state transferred takes effect after the mode change of its frame instant (R420). -/
def xferInstant (s : State) : State :=
  match s.icx.xferDue, s.icx.xfer with
  | true, some x => applyXfer x (s.modIcx fun b => { b with xferDue := false })
  | _, _ => s

/-! ### Reception (R414 to R416) -/

/-- Reserved bits of the payloads that R167, R424 and R426 lay out are 0. -/
def payloadReserved (f : IcxFrame) : Bool :=
  let p := f.payload
  if f.type = 0x02 ∧ p.length = 88 then byteAt p 69 / 16 == 0 && byteAt p 71 / 16 == 0 && byteAt p 75 / 32 == 0 && leAt p 84 4 == 0
  else if f.type = 0x03 ∧ 40 ≤ p.length then
    byteAt p 27 / 16 == 0 && byteAt p 32 / 64 == 0 && leAt p 33 7 == 0 && (List.range 16).all fun i =>
      p.length < 168 || (byteAt p (46 + 8 * i) / 8 == 0 && byteAt p (47 + 8 * i) == 0)
  else true

/-- A frame is right: type, CRC, reserved bits and length (R414, R415). -/
def IcxFrame.good (f : IcxFrame) : Bool :=
  decide (1 ≤ f.type) && decide (f.type ≤ 0x0B) && f.crc == f.crcNow && f.res5 == 0 && f.res10 == 0 && decide (f.flags < 4) && decide (f.src < 8)
    && decide (f.payload.length ≤ 1024) && payloadReserved f

/-- The frame as it leaves again: TTL less one, for SYNC the residence and the delay of the cable it came by added, and the CRC formed anew
(R414, R416, R422). -/
def IcxFrame.onward (f : IcxFrame) (extra : Nat) : IcxFrame :=
  ({ f with
    ttl := f.ttl - 1
    payload := if f.type = 0x01 ∧ f.payload.length = 12 then f.payload.take 8 ++ leBytes 4 (leAt f.payload 8 4 + extra) else f.payload } : IcxFrame).withCrc

/-- A frame is forwarded to every other UP port (R416). -/
def forwardFrame (r : IcxRx) (s : State) : State :=
  let f := r.frame
  if f.ttl ≤ 1 || f.type = 0x09 then s
  else
    let g := f.onward (r.hopNs + (s.icx.port f.port).delay)
    s.modIcx fun b => { b with ports := b.ports.mapIdx fun i p =>
      if i != f.port && p.phase == .up then { p with out := p.out ++ [{ g with port := i }] } else p }

/-- A frame reaches the module (R414 to R416): forwarded, and the first copy addressed to it handed on; `command` takes COMMANDs. -/
def icxReceive (command : IcxFrame → State → State) (r : IcxRx) (s : State) : State :=
  let f := r.frame
  if !(s.domOn 10 && (s.icx.port f.port).phase == .up) then s
  else if !f.good then s.modIcx fun b => { b with crcErrors := satInc 32 b.crcErrors }
  else match s.icx.cfg with
    | none => forwardFrame r s
    | some d =>
      let own := f.domain == d.domain
      let s := if own && f.src = s.icx.lead && s.icx.leadKnown then
          s.modIcx fun b => { b with leadPorts := setBit b.leadPorts f.port true } else s
      if (own && f.src = s.selfIndex) || (f.domain == d.parent && s.subordinate && f.src = d.parentSlot && s.icx.role == .lead) then s
      else
        let s := forwardFrame r s
        if !own then (if s.subordinate && f.domain == d.parent then takeParent d f s else s)
        else
          let key := (f.src, f.type, f.frame, f.tag)
          if !(f.dst = s.selfIndex || f.dst = 0xFF) || s.icx.seen.contains key then s
          else
            let s := s.modIcx fun b => { b with seen := key :: b.seen }
            let s := modMember f.src (fun m => { m with hops := Config.icxTtl + 1 - f.ttl }) s
            if s.icx.phase == .detached || s.icx.phase == .refused then s
            else match f.type with
              | 0x01 => takeSync r s
              | 0x02 => takeExchange r s
              | 0x03 => takeVote r s
              | 0x04 => command f s
              | 0x05 => takeResult f s
              | 0x06 => takeSstop f s
              | 0x07 => takeJoin f s
              | 0x08 => takePart f s
              | 0x0A => takeExtCap f s
              | _ => s

/-! ### Orders and configuration (R419, R430, R438) -/

/-- Result of ICX_CMD. -/
def icxResult (w : WCtx) (r : Nat) (s : State) : State := s.modIcx fun b => { b with cmdResult := r, cmdSession := w.session }

/-- ICX_CMD HANDOVER (R430, R438). -/
def orderHandover (w : WCtx) (s : State) : WriteOut :=
  needRole w roleOperator (icxResult w 2 s) <|
    if s.inDomain && s.icx.role == .lead && s.successor.isSome then
      .done (icxResult w 0 (s.modIcx fun b => { b with handCause := some 0 })) 0
    else .refused (icxResult w 1 s) 1

/-- ICX_CMD SET_MEMBER writes the index into P0 (R419). -/
def setMemberIndex (w : WCtx) (i : Nat) (s : State) : WriteOut :=
  needRole w roleCommissioner (icxResult w 2 s) <|
    if s.sup.mode != .service then .refused (icxResult w 1 s) 1
    else match commitEssential 0 Config.memberIdBytes s with
      | (s, true) => .done (icxResult w 0 (s.modIcx fun b => { b with memberId := some i })) 0
      | (s, false) => .refused (icxResult w 3 s) 3

/-- The domain record of the image in force (R419): the ports it uses, and JOINING; without one, or without an index, DETACHED. -/
def loadIcx (s : State) : State :=
  let set := fun (k : Nat) (x : IcxPortPhase) => if s.portFitted k then x else .notFitted
  match s.image.domain, s.icx.memberId with
  | some d, some i =>
    let mask := d.portMask.getD i 0
    let s := s.modIcx fun b => { b with
      index := i, cfg := some d, phase := .joining, role := .none_, joinSince := some s.now, leadKnown := false
      members := updAt b.members i fun m => { m with phase := .joining }
      ports := b.ports.mapIdx fun k p => { p with phase := set k (if mask.testBit k then .down else .unused) } }
    s
  | _, _ => s.modIcx fun b => { b with
      cfg := s.image.domain, phase := .detached
      ports := b.ports.mapIdx fun k p => { p with phase := set k (if s.image.domain.isSome then .unused else .down) } }

/-- PD10 goes off: the transactions are abandoned (R31, R32), and every port that is UP loses its signal and reports DOWN (R413). The state of the
member stays as it is: R419 has no transition for it. -/
def icxOff (s : State) : State :=
  let s := (s.icx.txns.foldl (fun s x => dropTxn x .abandoned s) s).modIcx fun b => { b with
    cmds := [], resetWait := none, resetFrom := none, resetOwed := none }
  s.forN 3 fun s p =>
    if (s.icx.port p).phase == .up then (modIcxPort p (fun x => { x with phase := .down }) s).raise 0x181D p [0] else s

/-! ### Registers (R438) -/

/-- Codes of PORT_STATUS. -/
def IcxPortPhase.code : IcxPortPhase → Nat
  | .notFitted => 0 | .unused => 1 | .down => 2 | .up => 3

/-- Longest path in hops of a window (R418) of n messages with the given largest payload. -/
def hopLimit (n payload : Nat) : Nat := (1150000 - n * ((payload + 30) * 8)) / 2500

/-- H_MAX (R418): the smaller of the two windows. -/
def State.hMax (s : State) : Nat :=
  match s.icx.cfg with
  | none => 0
  | some d =>
    let nested := d.parent != 0 || s.image.groups.any fun g => g.2.external && g.2.extIcxon
    let n := d.slots + (if nested then Config.otherMessages else 0)
    min (hopLimit n (if nested then max 88 (4 * s.image.dirCount + 1) else 88)) (hopLimit n 168)

/-- ICX registers. -/
def icxRead (s : State) (off : Nat) : Option Word :=
  let b := s.icx
  let i := b.sel
  let m := b.m i
  match off with
  | 0x10 => some (pack [(b.role.code, 0, 2), (b.phase.code, 2, 3), (b.memberId.getD 0, 5, 3),
      ((indices 8 s.present).length, 8, 4), (b.voters, 12, 4), (if b.phase == .detached then 0 else (b.cfg.getD {}).domain, 16, 8),
      (b2n s.witnessOk, 24, 1), (b2n b.disagree, 25, 1), (b2n b.ownState, 26, 1), (b2n ((b.cfg.getD {}).parent != 0), 27, 1)])
  | 0x14 => some (wordOf b.epoch)
  | 0x18 => some (pack [(b.lead, 0, 3), (b2n b.leadBySilence, 3, 1), (b.follow.getD 0, 4, 3), (b2n b.follow.isSome, 7, 1)])
  | 0x1C => some (pack [((b.port 0).phase.code, 0, 2), ((b.port 1).phase.code, 2, 2), ((b.port 2).phase.code, 4, 2)])
  | 0x20 => some (pack [(match b.cfg with | some d => d.topology | none => 0, 0, 2), (b2n b.ringClosed, 2, 1), (s.hMax, 16, 16)])
  | 0x24 => some (wordOfInt b.timeOffset)
  | 0x28 => some (wordOf b.exchLate)
  | 0x2C => some (pack [(b.agree.toNat, 0, 8), (b.minority.toNat, 8, 8), (b.source, 16, 3)])
  | 0x30 => some (wordOf b.miscompares)
  | 0x34 => some (wordOf b.takeovers)
  | 0x38 => some (pack [(b.txns.length, 0, 9), (b.txnTimeouts, 16, 16)])
  | 0x3C => some (wordOf b.crcErrors)
  | 0x40 => some (wordOf b.sel)
  | 0x44 =>
    let age := match m.exchAt with | some t => (if 65534 < msOf (s.now - t) then 0xFFFF else msOf (s.now - t)) | none => 0xFFFF
    some (pack [((s.roleOf i).code, 0, 2), (if s.present i then (s.phaseOf i).code else 0, 2, 3), (b2n (s.present i), 5, 1),
      (b2n (s.able i), 6, 1), (b2n ((s.inDomain && i == s.selfIndex) || (m.exchAt.isSome && m.check == s.cfg.check)), 7, 1), (age, 16, 16)])
  | 0x48 => some (wordOf m.check)
  | 0x4C => some (wordOf m.health)
  | 0x54 => some (pack [(b.cmdResult, 0, 4), (b.cmdSession, 4, 5)])
  | 0x58 => some (wordOf (sat 16 m.hops))
  | 0x50 => some 0
  | _ => none

/-- Read-clear registers of ICX (R22). -/
def icxClear (off : Nat) (s : State) : State :=
  match off with
  | 0x28 => s.modIcx fun b => { b with exchLate := 0 }
  | 0x30 => s.modIcx fun b => { b with miscompares := 0 }
  | 0x34 => s.modIcx fun b => { b with takeovers := 0 }
  | 0x38 => s.modIcx fun b => { b with txnTimeouts := 0 }
  | 0x3C => s.modIcx fun b => { b with crcErrors := 0 }
  | _ => s

/-- Writable ICX registers. -/
def icxWritable (off : Nat) : Bool := off == 0x40 || off == 0x50

/-- A write to an ICX register (R438). -/
def icxWrite (w : WCtx) (off : Nat) (v : Word) (s : State) : WriteOut :=
  if off = 0x40 then .done (s.modIcx fun b => { b with sel := field v 2 0 }) 0
  else if bit v 0 then orderHandover w s
  else if bit v 1 then setMemberIndex w (field v 4 2) s
  else needRole w roleOperator (icxResult w 2 s) (.done (icxResult w 0 s) 0)

/-! ### Meanings of the commands -/

/-- Meaning of DEADLINE (R254). -/
def execDeadline (s : State) : Host.Outcome State Fault Refusal :=
  .next (deadlineMiss s)

/-- Meaning of PORT_UP (R413). -/
def execPortUp (port : Fin 3) (us : Nat) (s : State) : Host.Outcome State Fault Refusal :=
  .next (portUp port.val us s)

/-- Meaning of PORT_DOWN (R413). -/
def execPortDown (port : Fin 3) (cause : Fin 3) (count : Nat) (s : State) : Host.Outcome State Fault Refusal :=
  .next (portDown port.val cause.val count s)

/-- Meaning of EXCHANGE_SEND (R424). -/
def execExchangeSend (us : Nat) (s : State) : Host.Outcome State Fault Refusal :=
  .next (exchangeSend us s)

/-- Meaning of VOTE_SEND (R426). -/
def execVoteSend (s : State) : Host.Outcome State Fault Refusal :=
  .next (voteSend s)

/-- Meaning of VOTE_EVALUATION (R427). -/
def execVoteEvaluation (s : State) : Host.Outcome State Fault Refusal :=
  .next (voteEvaluation s)

/-- Meaning of TXN_TIMEOUT (R417). -/
def execTxnTimeout (tag : Word) (s : State) : Host.Outcome State Fault Refusal :=
  .next (txnTimeout tag.toNat s)

/-- Meaning of JOIN_RETRY (R420). -/
def execJoinRetry (s : State) : Host.Outcome State Fault Refusal :=
  .next (joinRetry s)

/-- Meaning of DELAY (R415). -/
def execDelay (port : Fin 3) (roundTripNs : Nat) (s : State) : Host.Outcome State Fault Refusal :=
  .next (delayMeasured port.val roundTripNs s)

/-- Meaning of ICX_DELAY_PROBE (R415). -/
def execIcxDelayProbe (port : Fin 3) (s : State) : Host.Outcome State Fault Refusal :=
  .next (delayProbe port.val s)

/-- Meaning of EXT_DEMAND_STALE (R437). -/
def execExtDemandStale (s : State) : Host.Outcome State Fault Refusal :=
  .next (extDemandStale s)

/-- Meaning of DOMAIN_FORMATION (R421). -/
def execDomainFormation (s : State) : Host.Outcome State Fault Refusal :=
  .next (domainFormation s)

/-- Meaning of PARTITION (R433). -/
def execPartition (s : State) : Host.Outcome State Fault Refusal :=
  .next (partition s)

/-- Meaning of TIME_SKEW (R422). -/
def execTimeSkew (s : State) : Host.Outcome State Fault Refusal :=
  .next (timeSkew s)

/-- Meaning of FUS_DISAGREE (R425). -/
def execFusDisagree (heading : Bool) (s : State) : Host.Outcome State Fault Refusal :=
  .next (fusDisagree (b2n heading) s)

end Sys2Proof.Machine
end

