-- ==== Sys2Proof/Machine/Serial.lean ====
section
/-!
DEFINITION. Serial ports and the sentences they carry, block SER, and Ethernet with IEC 61162-450, block ETH (chapter
11_buses_and_serial.md, R399 to R412).
-/
set_option autoImplicit false
namespace Sys2Proof.Machine

/-! ### Text -/

/-- ASCII bytes of a string literal. -/
def ascii (t : String) : Bytes := t.toList.map fun c => BitVec.ofNat 8 c.toNat

/-- Fields separated by a byte. -/
def splitOn (sep : Nat) : Bytes → List Bytes
  | [] => [[]]
  | b :: bs =>
    match splitOn sep bs with
    | f :: fs => if b.toNat = sep then [] :: f :: fs else (b :: f) :: fs
    | [] => [[b]]

/-- Value of a digit. -/
def digitOf (b : Byte) : Option Nat := if 48 ≤ b.toNat ∧ b.toNat ≤ 57 then some (b.toNat - 48) else none

/-- Value of a hexadecimal digit. -/
def hexOf (b : Byte) : Option Nat :=
  let n := b.toNat
  if 48 ≤ n ∧ n ≤ 57 then some (n - 48) else if 65 ≤ n ∧ n ≤ 70 then some (n - 55) else if 97 ≤ n ∧ n ≤ 102 then some (n - 87) else none

/-- A string of digits as a number; none when empty or not digits. -/
def digits? (b : Bytes) : Option Nat :=
  if b.isEmpty then none else b.foldl (fun n x => match n, digitOf x with | some n, some d => some (10 * n + d) | _, _ => none) (some 0)

/-- A decimal number with an optional sign and fraction. -/
def decimal? (b : Bytes) : Option Rat :=
  let neg := byteAt b 0 == 45
  let b := if neg then b.drop 1 else b
  let q : Option Rat := match splitOn 46 b with
    | [w] => (digits? w).map fun n => (n : Rat)
    | [w, f] => match digits? w, digits? f with
      | some n, some k => some ((n : Rat) + (k : Rat) / ((10 ^ f.length : Nat) : Rat))
      | _, _ => none
    | _ => none
  q.map fun x => if neg then -x else x

/-- Decimal digits of n, k of them. -/
def decDigits : Nat → Nat → Bytes
  | 0, _ => []
  | k + 1, n => decDigits k (n / 10) ++ [BitVec.ofNat 8 (48 + n % 10)]

/-- Decimal digits of n below 1,000, without leading zeros. -/
def decShort (n : Nat) : Bytes := decDigits (if n < 10 then 1 else if n < 100 then 2 else 3) n

/-- A hexadecimal digit. -/
def hexDigit (n : Nat) : Byte := BitVec.ofNat 8 (if n % 16 < 10 then 48 + n % 16 else 55 + n % 16)

/-- Exclusive or of bytes, the checksum of a sentence. -/
def xorSum (b : Bytes) : Nat := (b.foldl (fun a x => a ^^^ x) (0 : Byte)).toNat

/-- Body between $ and *hh of a sentence that is whole: it begins with $, ends with CR LF and its checksum is right (R400). -/
def sentenceOf (l : Bytes) : Option Bytes :=
  let n := l.length
  let body := (l.drop 1).take (n - 6)
  if 6 ≤ n && byteAt l 0 == 36 && byteAt l (n - 5) == 42 && byteAt l (n - 2) == 13 && byteAt l (n - 1) == 10
      && (match hexOf (l.getD (n - 4) 0), hexOf (l.getD (n - 3) 0) with | some a, some b => 16 * a + b == xorSum body | _, _ => false)
  then some body else none

/-- A sentence with $, checksum, CR and LF around its body. -/
def frameSentence (body : Bytes) : Bytes :=
  let c := xorSum body
  [36] ++ body ++ [42, hexDigit (c / 16), hexDigit c, 13, 10]

/-! ### UTC (R13, R478) -/

/-- GPS–UTC leap-second count at a module time: an announced change counts from its instant (R13, R478). -/
def State.leapAt (s : State) (t : Nat) : Nat :=
  match s.gns.hot.leapNext with
  | some (c, e) => if e ≤ t then c else s.gns.hot.leap
  | none => s.gns.hot.leap

/-- UTC time of day in ns of a module time; during an inserted second it runs on from 24:00:00 (R13, R478). -/
def State.utcOf (s : State) (t : Nat) : Nat :=
  let u := (t + dayNs - s.leapAt t * 1000000000) % dayNs
  match s.gns.hot.leapNext with
  | some (c, e) => if t < e && e ≤ t + 1000000000 && s.gns.hot.leap < c then u + dayNs else u
  | none => u

/-- UTC day of a module time; an inserted second belongs to the day it ends (R13, R478). -/
def State.utcDay (s : State) (t : Nat) : Nat :=
  (t - s.leapAt t * 1000000000) / dayNs - (if dayNs ≤ s.utcOf t then 1 else 0)

/-- hhmmss.ss of a UTC time of day; the inserted second shows as second 60 (R478). -/
def timeText (u : Nat) : Bytes :=
  let cs := u / 10000000
  if 8640000 ≤ cs then ascii "235960." ++ decDigits 2 (cs % 100)
  else decDigits 2 (cs / 360000) ++ decDigits 2 (cs / 6000 % 60) ++ decDigits 2 (cs / 100 % 60) ++ [46] ++ decDigits 2 (cs % 100)

/-- UTC time field hhmmss.ss in ns of the day; none when empty or malformed. -/
def timeField (f : Bytes) : Option Nat :=
  match digits? (f.take 2), digits? ((f.drop 2).take 2), decimal? (f.drop 4) with
  | some h, some m, some sec => if h < 24 && m < 60 && decide (0 ≤ sec) && decide (sec < 61) then some ((h * 60 + m) * 60000000000 + nsOf sec) else none
  | _, _, _ => none

/-- Module time nearest to `t` whose UTC time of day is u (R148). -/
def State.timeOfUtc (s : State) (t u : Nat) : Nat :=
  let a := (t + dayNs - s.leapAt t * 1000000000) % dayNs
  let d := (u + dayNs - a) % dayNs
  if d < dayNs / 2 then t + d else t - (dayNs - d)

/-! ### Input (R400, R401, R148) -/

/-- A sentence in its fields: talker, formatter and the data fields. -/
structure Sentence where
  talker : Nat := 0
  fmt : Bytes := []
  fields : List Bytes := []
deriving DecidableEq, Repr

/-- Fields of a sentence body (R401). -/
def parseSentence (body : Bytes) : Sentence :=
  match splitOn 44 body with
  | a :: fs => { talker := leNat (a.take 2), fmt := a.drop 2, fields := fs }
  | [] => {}

/-- A data field by number, empty beyond the end. -/
def Sentence.fld (x : Sentence) (i : Nat) : Bytes := x.fields.getD i []

/-- The sentence's formatter is the one named. -/
def Sentence.is (x : Sentence) (f : String) : Bool := x.fmt == ascii f

/-- Latitude or longitude in degrees from ddmm.mm with its hemisphere. -/
def degField (f hemi : Bytes) (neg pos : Nat) : Option Rat :=
  match decimal? f with
  | some q =>
    let d := ((q / 100).floor : Rat)
    let deg := d + (q - 100 * d) / 60
    if byteAt hemi 0 = pos then some deg else if byteAt hemi 0 = neg then some (-deg) else none
  | none => none

/-- Image σ of a GGA quality; a quality outside the table counts as invalid (R131). -/
def State.ggaSigma (s : State) (q : Option Nat) : Option Rat :=
  match q with
  | some 1 => some s.scalars.ggaQ1 | some 2 => some s.scalars.ggaQ2
  | some 4 => some s.scalars.ggaQ4 | some 5 => some s.scalars.ggaQ5
  | _ => none

/-- σ of a GST that arrived first and waits for this GGA (R401). -/
def State.gstFor (s : State) (slot utc : Nat) : Option (Rat × Rat) :=
  match s.ser.gst.find? fun h => h.slot == slot && h.utc == utc && h.sigma.isSome && decide (s.now ≤ h.at_ + 200000000) with
  | some h => h.sigma
  | none => none

/-- A formatter that a slot of this type takes (R401). -/
def takesFormat (type : Nat) (x : Sentence) : Bool :=
  match type with
  | 1 => x.is "GGA" || x.is "GST"
  | 2 => x.is "TTM"
  | 9 => x.is "HDT" || x.is "THS"
  | 10 => x.is "HDT" || x.is "THS"
  | _ => false

/-- Metres of a TTM distance unit: kilometres, nautical or statute miles (R401). -/
def unitMetres (f : Bytes) : Option Rat :=
  match byteAt f 0 with
  | 75 => some 1000 | 78 => some 1852 | 83 => some (1609344 / 1000) | _ => none

/-- Value of a sentence for a slot, none when declared invalid or without a field it needs (R131, R400, R401). -/
def valueOf (r : RefCfg) (i : Nat) (x : Sentence) (s : State) : Option RefValue :=
  if x.is "GGA" then
    match degField (x.fld 1) (x.fld 2) 83 78, degField (x.fld 3) (x.fld 4) 87 69, s.ggaSigma (digits? (x.fld 5)), decimal? (x.fld 8) with
    | some lat, some lon, some sg, some h =>
      let sg := match timeField (x.fld 0) with | some u => (s.gstFor i u).getD (sg, sg) | none => (sg, sg)
      some (.geo { lat := lat, lon := lon, h := h } sg.1 sg.2)
    | _, _, _, _ => none
  else if x.is "TTM" then
    match decimal? (x.fld 1), decimal? (x.fld 2), unitMetres (x.fld 9) with
    | some d, some b, some m =>
      if byteAt (x.fld 3) 0 = 82 ∧ byteAt (x.fld 11) 0 = 84 then some (.rangeBearing (d * m) (bamOf (turnsOfDeg b))) else none
    | _, _, _ => none
  else
    match decimal? (x.fld 0) with
    | some d =>
      if byteAt (x.fld 1) 0 = (if x.is "THS" then 65 else 84) then some (.heading (turnFrac (turnsOfDeg d)) r.sigma) else none
    | none => none

/-- UTC time field of a sentence (R401): GGA and TTM carry one. -/
def Sentence.utc (x : Sentence) : Option Nat :=
  if x.is "GGA" then timeField (x.fld 0) else if x.is "TTM" then timeField (x.fld 13) else none

/-- Time stamp of a sentence's value (R148); the flag says that TSTAMP_BAD is raised, with sentence time minus arrival in ms. -/
def State.stampOf (s : State) (r : RefCfg) (arrival : Nat) (x : Sentence) : Nat × Option Int :=
  let byArrival := arrival - nsOf r.latency
  if r.sentenceStamp then
    match x.utc with
    | some u =>
      let t := s.timeOfUtc arrival u
      let d := (t : Int) - (arrival : Int)
      if d.natAbs ≤ 1000000000 then (t, none) else (byArrival, some (d / 1000000))
    | none => (byArrival, some 0)
  else (byArrival, none)

/-- Values whose stamp a GST names take its σ (R401). -/
def setSigma (i stamp : Nat) (sg : Rat × Rat) (s : State) : State :=
  let f : Sample → Sample := fun y =>
    if y.stamp = stamp then (match y.value with | .geo g _ _ => { y with value := .geo g sg.1 sg.2 } | _ => y) else y
  modRef i (fun r => { r with latest := r.latest.map f, held := r.held.map f }) s

/-- Holds of GST and GGA sentences that 200 ms have not passed (R401). -/
def freshHolds (s : State) : State :=
  s.modSer fun b => { b with gst := b.gst.filter fun h => decide (s.now ≤ h.at_ + 200000000) }

/-- A GST reaches its binding: it sets σ of the GGA held, or waits for it (R401). -/
def takeGst (i : Nat) (x : Sentence) (s : State) : State :=
  match timeField (x.fld 0), decimal? (x.fld 5), decimal? (x.fld 6) with
  | some u, some a, some b =>
    match s.ser.gst.find? fun h => h.slot == i && h.utc == u && h.sigma.isNone && decide (s.now ≤ h.at_ + 200000000) with
    | some h => setSigma i h.stamp (a, b) s
    | none => (freshHolds s).modSer fun y => { y with gst := y.gst ++ [{ slot := i, utc := u, sigma := some (a, b), at_ := s.now }] }
  | _, _, _ => s

/-- A sentence reaches a bound slot (R131, R148, R401). -/
def takeSentence (arrival : Nat) (x : Sentence) (s : State) (i : Nat) : State :=
  match s.refCfg i with
  | none => s
  | some r =>
    if x.is "GST" then takeGst i x s
    else if x.is "TTM" && digits? (x.fld 0) != some r.ttmTarget then s
    else
      let st := s.stampOf r arrival x
      let v := valueOf r i x s
      let s := match st.2 with
        | some d => s.raise 0x0A22 (slotId i) (zeros 4 ++ leBytes 4 (ofSigned 32 d))
        | none => s
      let s := match timeField (x.fld 0) with
        | some u => if x.is "GGA" && v.isSome then
            (freshHolds s).modSer fun y => { y with gst := y.gst ++ [{ slot := i, utc := u, stamp := st.1, at_ := s.now }] } else s
        | none => s
      deliverRef i (v.map fun v => { stamp := st.1, value := v }) s

/-- XDR of the motion reference unit: quadruplets of type A and unit D with the image's names (R135, R401). -/
def xdrAngle (x : Sentence) (name : Bytes) : Option Rat :=
  (List.range (x.fields.length / 4)).foldl (fun a k =>
    if x.fld (4 * k) == [65] && x.fld (4 * k + 2) == [68] && x.fld (4 * k + 3) == name then decimal? (x.fld (4 * k + 1)) else a) none

/-- A name field without its NUL padding, or its default. -/
def nameOf (b : Bytes) (d : String) : Bytes := let n := b.takeWhile (fun x => x != 0); if n.isEmpty then ascii d else n

/-- Roll and pitch of an XDR, both present, are the motion reference unit's value (R9, R135, R401). -/
def takeXdr (c : SerPortCfg) (arrival : Nat) (x : Sentence) (s : State) : State :=
  match xdrAngle x (nameOf c.rollName "ROLL"), xdrAngle x (nameOf c.pitchName "PITCH") with
  | some r, some p =>
    (passCut s).modFus fun b => { b with
      mruVal := some (radOf (turnsOfDeg (if c.negRoll then -r else r)), radOf (turnsOfDeg (if c.negPitch then -p else p)), arrival) }
  | _, _ => s

/-- Mode of a serial port: 0 OFF, 1 IEC 61162, 2 RTCM (R399, R410). -/
def SerPort.mode (p : SerPort) : Nat := field p.cfg.cfg 1 0

/-- The port takes input (R399): not a 2-wire output. -/
def SerPort.listens (p : SerPort) : Bool := p.mode != 0 && !(bit p.cfg.cfg 2 && bit p.cfg.cfg 3)

/-- Rate of the port in baud (R410). -/
def SerPort.baud (p : SerPort) : Nat :=
  match field p.cfg.cfg 6 4 with
  | 0 => 4800 | 1 => 9600 | 2 => 19200 | 3 => 38400 | 4 => 57600 | _ => 115200

/-- Port of the list. -/
def SerState.port (b : SerState) (p : Nat) : SerPort := b.ports.getD p {}

/-- One port changed. -/
def modSerPort (p : Nat) (f : SerPort → SerPort) (s : State) : State := s.modSer fun b => { b with ports := updAt b.ports p f }

/-- Slots bound to this sentence on a serial port (R400, R554). -/
def State.boundSlots (s : State) (p : Nat) (x : Sentence) : List Nat :=
  s.slotsWhere fun r => r.srcKind == 2 && r.srcIndex == p && takesFormat r.type x && (r.talker == 0 || r.talker == x.talker)

/-- A rejected sentence is counted by cause (R400, R410): 0 framing, 1 checksum, 2 overlong, 3 unbound. -/
def rejectSentence (p cause : Nat) (s : State) : State :=
  (modSerPort p (fun b => { b with rxErrors := updAt b.rxErrors cause (satInc 8) }) s).raise 0x1512 p [BitVec.ofNat 8 cause]

/-- A sentence arrives on a port in mode IEC 61162 (R400 to R402): the line as received, how long ago its $ was stamped, and
whether a character had a framing error. -/
def sentenceReceived (p : Nat) (line : Bytes) (backUs : Nat) (framing : Bool) (s : State) : State :=
  let b := s.ser.port p
  if !s.engineRuns 13 || b.mode != 1 || !b.listens then s
  else if framing then rejectSentence p 0 s
  else if 82 < line.length then rejectSentence p 2 s
  else match sentenceOf line with
    | none => rejectSentence p 1 s
    | some body =>
      let x := parseSentence body
      let arrival := s.now - backUs * 1000
      let slots := s.boundSlots p x
      let mru := b.cfg.mru && x.is "XDR"
      if slots.isEmpty && !mru then rejectSentence p 3 s
      else
        let s := heardInput p s
        let s := if mru then takeXdr b.cfg arrival x s else s
        slots.foldl (takeSentence arrival x) s

/-- Time since which the port has heard nothing (R402, R412). -/
def SerPort.quietSince (b : SerPort) : Nat := if b.heard then b.lastRx else b.openAt

/-- PORT_SILENT (R402): of any port in mode IEC 61162 or RTCM. -/
def portSilent (p : Nat) (s : State) : State :=
  let b := s.ser.port p
  if s.engineRuns 13 && b.mode != 0 && !b.silent && decide (b.quietSince + b.cfg.silence * 1000000000 ≤ s.now) then
    (modSerPort p (fun b => { b with silent := true, silentAt := s.now }) s).raise 0x1510 p (zeros 4 ++ leBytes 4 (sat 32 (msOf (s.now - b.quietSince))))
  else s

/-! ### Output (R403, R404, R408) -/

/-- Status bits of PSKVS (R404). -/
def State.skvBits (s : State) : Nat :=
  let f := s.fus.snap
  bitsToNat [s.safeStop, s.sup.locked, s.ctl.lost, s.ctl.deadline, f.posValid, f.hdgValid, f.posDegraded, f.hdgDegraded, f.holdover,
    f.timeDegraded, s.icx.role == .lead, s.saf.alarmOpen]

/-- Largest U_g as PSKVS shows it: two decimals, null while not ready or suspended (R404). -/
def State.utilText (s : State) : Bytes :=
  if s.ctl.conseq == .notReady || s.ctl.conseq == .suspended then []
  else
    let c := (roundEven (100 * (s.ctl.fail.getD s.ctl.worstFg {}).util)).toNat
    (if c / 100 < 1000 then decShort (c / 100) else decDigits 9 (c / 100)) ++ [46] ++ decDigits 2 (c % 100)

/-- Body of $PSKVS (R404). -/
def State.skvBody (s : State) : Bytes :=
  let f := s.fus.snap
  let k := s.skvBits
  let u := s.utilText
  let c := match s.ctl.conseq with | .notReady => "N" | .ok => "O" | .alarm => "A" | .suspended => "S"
  ascii "PSKVS," ++ timeText (s.utcOf f.tov) ++ [44] ++ decShort (modeCode s.sup.mode) ++ [44]
    ++ ascii (if s.sup.dpReady then "RDY" else "NRDY") ++ [44]
    ++ [hexDigit (k / 4096), hexDigit (k / 256), hexDigit (k / 16), hexDigit k, 44]
    ++ decShort f.posConf ++ [44] ++ decShort f.hdgConf ++ [44] ++ ascii c ++ [44] ++ u ++ [44]
    ++ (if u.isEmpty then [] else decShort s.ctl.worstFg)

/-- Fused position of the vessel reference point in WGS 84 (R403). -/
def State.fusedGeo (s : State) : Geo := ofPlane (s.fus.snapOrigin.getD {}) { x := s.fus.snap.posN, y := s.fus.snap.posE, z := 0 }

/-- A number of at least 0 with `int` digits before its point and `dec` after it. -/
def decText (int dec : Nat) (x : Rat) : Bytes :=
  let n := (roundEven (x * (10 ^ dec : Nat))).toNat
  decDigits int (n / 10 ^ dec) ++ (if dec = 0 then [] else 46 :: decDigits dec (n % 10 ^ dec))

/-- Degrees and minutes of an angle in degrees, `int` digits of degrees, and its hemisphere (IEC 61162-1). -/
def angleText (int : Nat) (pos neg : String) (x : Rat) : Bytes :=
  let a := absQ x
  let d := a.floor.toNat
  decDigits int d ++ decText 2 (Config.sentenceDecimals 0) ((a - (d : Rat)) * 60) ++ [44] ++ ascii (if x < 0 then neg else pos)

/-- Year, month and day of a day counted from 6 January 1980 (R12). -/
def civilDay (n : Nat) : Nat × Nat × Nat :=
  let z := n + 723125
  let era := z / 146097
  let doe := z % 146097
  let yoe := (doe - doe / 1460 + doe / 36524 - doe / 146096) / 365
  let doy := doe - (365 * yoe + yoe / 4 - yoe / 100)
  let mp := (5 * doy + 2) / 153
  let m := if mp < 10 then mp + 3 else mp - 9
  (yoe + era * 400 + (if m ≤ 2 then 1 else 0), m, doy - (153 * mp + 2) / 5 + 1)

/-- Body of GGA (R403): the fused position, null in NONE, quality 1, 6 or 0, the satellites of SOL_A, and a null HDOP. -/
def State.ggaBody (s : State) : Bytes :=
  let f := s.fus.snap
  let g := s.fusedGeo
  let q := if f.posState = 1 then 1 else if f.posState = 2 then 6 else 0
  let place := if f.posState = 0 then [44, 44, 44] else angleText 2 "N" "S" g.lat ++ [44] ++ angleText 3 "E" "W" g.lon
  ascii "GGA," ++ timeText (s.utcOf f.tov) ++ [44] ++ place ++ [44] ++ decShort q ++ [44] ++ decDigits 2 (s.gns.sols.getD 0 {}).nsat ++ [44, 44]
    ++ Config.ggaTail g.h

/-- Body of a due sentence (R403). -/
def State.bodyOf (s : State) (kind : Nat) (talker : Bytes) : Bytes :=
  let f := s.fus.snap
  match kind with
  | 0 => talker ++ s.ggaBody
  | 1 => talker ++ ascii "HDT," ++ (if f.hdgValid then decText 3 (Config.sentenceDecimals 1) (turnsOf f.heading * 360) else []) ++ ascii ",T"
  | 2 =>
    let r := f.r / twoPi * 360 * 60
    talker ++ ascii "ROT," ++ (if r < 0 then [45] else []) ++ decText 1 (Config.sentenceDecimals 2) (absQ r)
      ++ ascii (if f.hdgValid then ",A" else ",V")
  | 3 =>
    let d := civilDay (s.utcDay f.tov)
    talker ++ ascii "ZDA," ++ timeText (s.utcOf f.tov) ++ [44] ++ decDigits 2 d.2.2 ++ [44] ++ decDigits 2 d.2.1 ++ [44] ++ decDigits 4 d.1
      ++ Config.zdaTail
  | _ => s.skvBody

/-- The port sends sentences (R399, R403). -/
def SerPort.talks (p : SerPort) : Bool :=
  p.mode == 1 && (!bit p.cfg.cfg 2 || bit p.cfg.cfg 3) && p.cfg.rates.any (· != 0)

/-- Period of a sentence in ns; ZDA at 1 Hz only (R403). -/
def sentencePeriod (kind rate : Nat) : Nat := if kind = 3 then 1000000000 else 1000000000 / rate

/-- A sentence of the frame whose snapshot is published is due; in a domain only the LEAD sends (R403, R423). -/
def State.sentenceDue (s : State) (kind rate : Nat) (last : Option Nat) : Bool :=
  decide (0 < rate) && !s.standsBack && s.fus.published && s.fus.snap.tov % sentencePeriod kind rate == 0 && last != some s.fus.snap.tov

/-- Sentences of the last second. -/
def lastSecond (now : Nat) (l : List (Nat × Bytes)) : List (Nat × Bytes) := l.filter fun e => decide (now < e.1 + 1000000000)

/-- TX_LOAD (R410): characters of the last second over the line's capacity, in percent. -/
def SerPort.load (p : SerPort) (now : Nat) : Nat :=
  min 100 ((((lastSecond now p.sent).map fun e => e.2.length).foldl (· + ·) 0) * 1000 / p.baud)

/-- A due sentence goes out on a serial port, or is dropped when it cannot start before the next of its kind is due (R403). -/
def serialTransmit (p kind : Nat) (s : State) : State :=
  let b := s.ser.port p
  let rate := b.cfg.rates.getD kind 0
  if !s.engineRuns 13 || !b.talks || !s.sentenceDue kind rate (b.formedAt.getD kind none) then s
  else
    let tov := s.fus.snap.tov
    let line := frameSentence (s.bodyOf kind (leBytes 2 b.cfg.talker))
    let start := max s.now b.busyUntil
    let s := modSerPort p (fun b => { b with formedAt := updAt b.formedAt kind fun _ => some tov, sent := lastSecond s.now b.sent }) s
    if tov + sentencePeriod kind rate ≤ start then
      let s := modSerPort p (fun b => { b with txDropped := satInc 32 b.txDropped }) s
      s.raise 0x1513 p (leBytes 4 ((s.ser.port p).load s.now) ++ leBytes 4 (s.ser.port p).txDropped)
    else
      modSerPort p (fun b => { b with
        tx := satInc 32 b.tx, sent := b.sent ++ [(start, line)], busyUntil := start + line.length * 10000000000 / b.baud }) s

/-- A due sentence goes out on an Ethernet interface as an IEC 61162-450 datagram (R408). -/
def ethTransmit (p kind : Nat) (s : State) : State :=
  let b := s.eth.ports.getD p {}
  let rate := b.cfg.rates.getD kind 0
  if !s.engineRuns 13 || !b.link || !s.sentenceDue kind rate (b.formedAt.getD kind none) then s
  else
    let tov := s.fus.snap.tov
    let tag := ascii "s:" ++ b.cfg.sysId ++ ascii ",n:" ++ decShort b.line
    let c := xorSum tag
    let d := ascii "UdPbC" ++ [0, 92] ++ tag ++ [42, hexDigit (c / 16), hexDigit c, 92] ++ frameSentence (s.bodyOf kind (ascii "II"))
    modEthPort p (fun b => { b with
      formedAt := updAt b.formedAt kind fun _ => some tov, out := some (b.cfg.outGroup, b.cfg.ttl, d), line := (b.line + 1) % 1000
      s450Tx := satInc 32 b.s450Tx, txFrames := satInc 32 b.txFrames }) s

/-- SENTENCE_TRANSMIT: interfaces 0 to 3 are SER0 to SER3, 4 and 5 ETH1 and ETH2. -/
def sentenceTransmit (i kind : Nat) (s : State) : State := if i < 4 then serialTransmit i kind s else ethTransmit (i - 4) kind s

/-! ### Ethernet (R405 to R407) -/

/-- LINK_DOWN (R405). -/
def linkDown (p : Nat) (s : State) : State :=
  if s.domOn 10 && (s.eth.ports.getD p {}).link then (modEthPort p (fun b => { b with link := false, speed := 0, lost := true, joined := [] }) s).raise 0x1610 p [] else s

/-- Transmission groups that the image binds on an interface (R406, R407). -/
def EthState.boundGroups (b : EthState) (p : Nat) : List Nat := ((b.binds.filter fun e => e.2.iface == p).map fun e => e.2.group).eraseDups

/-- LINK_UP at 100 or 1,000 Mbit/s (R405): the interface joins its groups, a membership report each (R406). -/
def linkUp (p : Nat) (gigabit : Bool) (s : State) : State :=
  if s.domOn 10 && !(s.eth.ports.getD p {}).link then
    let v := if gigabit then 2 else 1
    let l := s.eth.boundGroups p
    (modEthPort p (fun b => { b with
      link := true, speed := v, lost := false, joined := l, txFrames := satAdd 32 b.txFrames l.length }) s).raise 0x1611 p [BitVec.ofNat 8 v]
  else s

/-- The interface receives: IO runs and the link is up (R405). -/
def State.ethUp (s : State) (p : Nat) : Bool := s.engineRuns 13 && (s.eth.ports.getD p {}).link

/-- ETH_RX_FRAME (R406): ARP is answered, ICMP echo at most ten times a second; a datagram to another port is discarded; one that finds no
buffer is dropped (R411). -/
def ethRxFrame (p : Nat) (k : EthRx) (s : State) : State :=
  if !s.ethUp p then s
  else if k == .fcsError then modEthPort p (fun b => { b with rxFcs := satInc 32 b.rxFcs }) s
  else
    let r := ethAdmit p s
    if !r.2 then r.1
    else match k with
      | .arp => modEthPort p (fun b => { b with txFrames := satInc 32 b.txFrames }) r.1
      | .echo =>
        if (r.1.eth.ports.getD p {}).echoes < 10 then modEthPort p (fun b => { b with txFrames := satInc 32 b.txFrames, echoes := b.echoes + 1 }) r.1
        else r.1
      | .overrun => modEthPort p (fun b => { b with rxDropped := satInc 32 b.rxDropped }) r.1
      | _ => r.1

/-- TCP_CONNECT (R406, R441): port 4816 accepts while fewer than 40 connections await HELLO; every other port is reset. -/
def tcpConnect (p tcpPort addr id : Nat) (s : State) : State :=
  if !s.ethUp p then s
  else
    let r := ethAdmit p s
    let s := r.1
    let waiting := (s.ses.conns.filter fun c => c.session.isNone).length
    if !r.2 || s.ses.conns.any (fun c => c.id == id) then s
    else if tcpPort = 4816 ∧ waiting < 40 ∧ s.saf.ioFail = false ∧ s.fullBist = false then
      s.modSes fun b => { b with conns := b.conns ++ [{ id := id, addr := addr, port := p, accepted := s.now }] }
    else modEthPort p (fun b => { b with tcpRefused := satInc 32 b.tcpRefused, txFrames := satInc 32 b.txFrames }) s

/-- S450_REJECT (R407, R411, R412): 0 header, 1 no s:, 2 d: mismatch, 3 sentence. -/
def s450Reject (p cause : Nat) (s : State) : State :=
  (modEthPort p (fun b => if cause = 3 then { b with s450Sentence := satInc 16 b.s450Sentence }
    else { b with s450Header := satInc 16 b.s450Header }) s).raise 0x1612 p [BitVec.ofNat 8 cause]

/-- Parameters of a tag block, between its backslashes, without its checksum: a letter and its text. -/
def tagParams (b : Bytes) : List (Byte × Bytes) :=
  ((splitOn 44 (b.takeWhile (fun x => x != 42))).filter fun f => byteAt f 1 == 58).map fun f => (f.getD 0 0, f.drop 2)

/-- Lines of a datagram after its header: tag block and sentence, each sentence with its CR LF. -/
def s450Lines : Nat → Bytes → List (Bytes × Bytes)
  | 0, _ => []
  | k + 1, b =>
    if b.isEmpty then []
    else
      let tag := if byteAt b 0 = 92 then (b.drop 1).takeWhile (fun x => x != 92) else []
      let rest := if byteAt b 0 = 92 then b.drop (tag.length + 2) else b
      let body := rest.takeWhile (fun x => x != 10)
      (tag, rest.take (body.length + 1)) :: s450Lines k (rest.drop (body.length + 1))

/-- Bindings of an interface and group that a source and sentence meet (R407, R560). -/
def State.s450Slots (s : State) (p group : Nat) (src : Bytes) (x : Sentence) : List Nat :=
  let hits := (s.eth.binds.filter fun e =>
    e.2.iface == p && e.2.group == group && e.2.srcId == src && e.2.formatter == x.fmt && (e.2.talker == 0 || e.2.talker == x.talker)).map (·.1)
  s.slotsWhere fun r => r.srcKind == 3 && hits.contains r.srcIndex && takesFormat r.type x && (r.talker == 0 || r.talker == x.talker)

/-- The source a tag block names in its s: parameter (R407). -/
def tagSource (tag : Bytes) : Option Bytes := ((tagParams tag).find? fun e => e.1 == 0x73).map (·.2)

/-- A d: parameter of the tag block names another system function identifier than `own` (R407). -/
def tagForeign (own tag : Bytes) : Bool := (tagParams tag).any fun e => e.1 == 0x64 && e.2 != own

/-- One sentence of an accepted datagram (R400, R401, R407). -/
def s450Sentence (p group arrival : Nat) (s : State) (l : Bytes × Bytes) : State :=
  if 82 < l.2.length then s450Reject p 3 s
  else match sentenceOf l.2 with
    | none => s450Reject p 3 s
    | some body =>
      let x := parseSentence body
      let slots := s.s450Slots p group ((tagSource l.1).getD []) x
      if slots.isEmpty then s450Reject p 3 s
      else
        let s := modEthPort p (fun b => { b with s450Rx := satInc 32 b.s450Rx }) s
        slots.foldl (takeSentence arrival x) s

/-- S450_DATAGRAM on a transmission group, with how long ago it was stamped (R407): one of a group that is not joined is discarded (R406); the
header and every tag block decide on the datagram. -/
def s450Datagram (p group : Nat) (payload : Bytes) (backUs : Nat) (s : State) : State :=
  if !s.ethUp p then s
  else
    let r := ethAdmit p s
    if !r.2 || !(s.eth.ports.getD p {}).joined.contains group then r.1
    else if payload.take 6 != ascii "UdPbC" ++ [0] then s450Reject p 0 r.1
    else
      let l := s450Lines payload.length (payload.drop 6)
      if l.any (fun e => (tagSource e.1).isNone) then s450Reject p 1 r.1
      else if l.any (fun e => tagForeign (r.1.eth.ports.getD p {}).cfg.sysId e.1) then s450Reject p 2 r.1
      else l.foldl (s450Sentence p group (r.1.now - backUs * 1000)) r.1

/-! ### Registers (R410, R411) -/

/-- SER registers (R410). -/
def serRead (s : State) (off : Nat) : Option Word :=
  let b := s.ser
  let p := b.port b.sel
  let act := fun i => let q := b.port i; q.listens && q.heard && decide (s.now < q.lastRx + q.cfg.silence * 1000000000)
  match off with
  | 0x10 => some (pack [(bitsToNat ((List.range 4).map act), 0, 4), (bitsToNat ((List.range 4).map fun i => (b.port i).silent), 4, 4),
      (bitsToNat ((List.range 4).map fun i => (b.port i).talks), 8, 4)])
  | 0x14 => some (wordOf b.sel)
  | 0x18 => some (pack [(p.cfg.cfg.toNat, 0, 8)])
  | 0x1C => some (wordOf p.rx)
  | 0x20 => some (pack [(p.rxErrors.getD 0 0, 0, 8), (p.rxErrors.getD 1 0, 8, 8), (p.rxErrors.getD 2 0, 16, 8), (p.rxErrors.getD 3 0, 24, 8)])
  | 0x24 => some (wordOf p.tx)
  | 0x28 => some (wordOf p.txDropped)
  | 0x2C => some (loWord p.lastRx)
  | 0x30 => some (hiWord p.lastRx)
  | 0x34 => some (wordOf (p.load s.now))
  | _ => none

/-- Read-clear registers of SER (R410). -/
def serClear (off : Nat) (s : State) : State :=
  let p := s.ser.sel
  match off with
  | 0x1C => modSerPort p (fun b => { b with rx := 0 }) s
  | 0x20 => modSerPort p (fun b => { b with rxErrors := [0, 0, 0, 0] }) s
  | 0x24 => modSerPort p (fun b => { b with tx := 0 }) s
  | 0x28 => modSerPort p (fun b => { b with txDropped := 0 }) s
  | _ => s

/-- Writable registers of SER and of ETH (R410, R411). -/
def serWritable (off : Nat) : Bool := off == 0x14
def ethWritable (off : Nat) : Bool := off == 0x14

/-- Writes to SER (R410). -/
def serWrite (v : Word) (s : State) : WriteOut := .done (s.modSer fun b => { b with sel := field v 1 0 }) 0

/-- Writes to ETH (R411). -/
def ethWrite (v : Word) (s : State) : WriteOut := .done (s.modEth fun b => { b with sel := field v 0 0 }) 0

/-- ETH registers (R411). -/
def ethRead (s : State) (off : Nat) : Option Word :=
  let b := s.eth
  let q := fun i => b.ports.getD i ({} : EthPort)
  let p := q b.sel
  match off with
  | 0x10 => some (pack [(b2n (q 0).link, 0, 1), (b2n (q 1).link, 1, 1), ((q 0).speed, 2, 2), ((q 1).speed, 4, 2)])
  | 0x14 => some (wordOf b.sel)
  | 0x18 => some (wordOf p.cfg.addr)
  | 0x1C => some (wordOf p.cfg.mask)
  | 0x20 => some (wordOf p.cfg.gateway)
  | 0x24 => some (wordOf p.mac)
  | 0x28 => some (pack [(p.mac / 2 ^ 32, 0, 16)])
  | 0x2C => some (wordOf p.rxFrames)
  | 0x30 => some (wordOf p.txFrames)
  | 0x34 => some (wordOf p.rxDropped)
  | 0x38 => some (wordOf p.rxFcs)
  | 0x3C => some (wordOf p.s450Rx)
  | 0x40 => some (pack [(p.s450Header, 0, 16), (p.s450Sentence, 16, 16)])
  | 0x44 => some (wordOf p.s450Tx)
  | 0x48 => some (wordOf p.tcpRefused)
  | _ => none

/-- Read-clear registers of ETH (R411). -/
def ethClear (off : Nat) (s : State) : State :=
  let p := s.eth.sel
  match off with
  | 0x2C => modEthPort p (fun b => { b with rxFrames := 0 }) s
  | 0x30 => modEthPort p (fun b => { b with txFrames := 0 }) s
  | 0x34 => modEthPort p (fun b => { b with rxDropped := 0 }) s
  | 0x38 => modEthPort p (fun b => { b with rxFcs := 0 }) s
  | 0x3C => modEthPort p (fun b => { b with s450Rx := 0 }) s
  | 0x40 => modEthPort p (fun b => { b with s450Header := 0, s450Sentence := 0 }) s
  | 0x44 => modEthPort p (fun b => { b with s450Tx := 0 }) s
  | 0x48 => modEthPort p (fun b => { b with tcpRefused := 0 }) s
  | _ => s

/-! ### Configuration -/

/-- The ports take the image's records when PD10 comes on (R399, R405, R77). -/
def loadSerial (s : State) : State :=
  let im := s.image
  let s := s.modSer fun b => { b with
    ports := b.ports.mapIdx fun i p => { p with
      cfg := (lookupK im.serPorts i).getD {}, silent := false, heard := false, openAt := s.now, sent := [], busyUntil := 0 }
    gst := [] }
  s.modEth fun b => { b with
    ports := b.ports.mapIdx fun i p => { p with cfg := (lookupK im.ethIfs i).getD {}, joined := [] }, binds := im.s450 }

/-! ### Meanings of the commands -/

/-- Meaning of SENTENCE_RECEIVED (R400). -/
def execSentenceReceived (port : Fin 4) (line : Bytes) (backUs : Nat) (framing : Bool) (s : State) : Host.Outcome
  State Fault Refusal :=
  .next (sentenceReceived port.val line backUs framing s)

/-- Meaning of PORT_SILENT (R402). -/
def execPortSilent (port : Fin 4) (s : State) : Host.Outcome State Fault Refusal :=
  .next (portSilent port.val s)

/-- Meaning of SENTENCE_TRANSMIT (R403). -/
def execSentenceTransmit (iface : Fin 6) (kind : Fin 5) (s : State) : Host.Outcome State Fault Refusal :=
  .next (sentenceTransmit iface.val kind.val s)

/-- Meaning of LINK_DOWN (R405). -/
def execLinkDown (port : Fin 2) (s : State) : Host.Outcome State Fault Refusal :=
  .next (linkDown port.val s)

/-- Meaning of LINK_UP (R405). -/
def execLinkUp (port : Fin 2) (gigabit : Bool) (s : State) : Host.Outcome State Fault Refusal :=
  .next (linkUp port.val gigabit s)

/-- Meaning of ETH_RX_FRAME (R406). -/
def execEthRxFrame (port : Fin 2) (frame : EthRx) (s : State) : Host.Outcome State Fault Refusal :=
  .next (ethRxFrame port.val frame s)

/-- Meaning of TCP_CONNECT (R406). -/
def execTcpConnect (port : Fin 2) (tcpPort addr id : Nat) (s : State) : Host.Outcome State Fault Refusal :=
  .next (tcpConnect port.val tcpPort addr id s)

/-- Meaning of S450_DATAGRAM (R407). -/
def execS450Datagram (port : Fin 2) (group : Fin 16) (payload : Bytes) (backUs : Nat) (s : State) : Host.Outcome State
  Fault Refusal :=
  .next (s450Datagram port.val group.val payload backUs s)

end Sys2Proof.Machine
end

