-- ==== Sys2Proof/Machine/Mpc.lean ====
section
/-!
DEFINITION. Model-predictive control (R236 to R239): the problem CC1 submits every 100 ms and the plan its solution gives. The order of
the variables is x_0, u_0, x_1, u_1, …, x_H with H from the structure in force (assumption log 22).
-/
set_option autoImplicit false
namespace Sys2Proof.Machine

/-- Horizon in stages (R217, R236). -/
def State.horizon (s : State) : Nat := if s.thm.enforced then 20 else 40

/-- Structure of the MPC in force (R217, R528). -/
def State.mpcStructNow (s : State) : Nat := if s.thm.enforced then s.scalars.mpcStructHot else s.scalars.mpcStruct

/-- The MPC slot: the one the map gives CC1 with class MPC_FULL (R239). -/
def State.mpcSlot (s : State) : Option Nat := (List.range 512).find? fun i => (s.slv.slot i).owner == .cc1 && (s.slv.slot i).cls == 1

/-- Configured thrusters with their records, in index order. -/
def State.thrList (s : State) : List (Nat × ThrCfg) := s.thrusters.filterMap fun i => (s.thrCfg i).map fun c => (i, c)

/-- States and inputs per stage (R236). -/
def State.nState (s : State) : Nat := 6 + 2 * s.thrusters.length
def State.nInput (s : State) : Nat := 2 * s.thrusters.length

/-- Entry of a matrix held by rows. -/
def entry (m : List (List Rat)) (i j : Nat) : Rat := (m.getD i []).getD j 0

/-- Angle in rad congruent to one in turns and nearest to another in rad (R236, R238). -/
def nearRad (ref turns : Rat) : Rat := ref + radOf (wrapTurn (turns - turnsOfRad ref))

/-- Bounds of a thruster's thrust (R238). -/
def State.thrustBounds (s : State) (i : Nat) (c : ThrCfg) : Rat × Rat :=
  let t := s.ctl.thruster i
  if !t.available then (0, 0) else (if c.type = 0 then 0 else -c.tRev, t.tCap)

/-- Allowed arc about an azimuth in turns: the azimuth clamped to the nearest zone edge, and its bounds in turns (R238). -/
def ThrCfg.arcAbout (c : ThrCfg) (a : Rat) : Rat × Option (Rat × Rat) :=
  let a := match c.zoneOf a with
    | some z => if cwWay z.1 a ≤ cwWay a z.2 then a - cwWay z.1 a else a + cwWay a z.2
    | none => a
  if c.zones.isEmpty then (a, none)
  else let r := c.room a; (a, some (a - r.2, a + r.1))

/-- The previous solution at stage k, shifted by 100 ms (R237); the last stage is held beyond the end. -/
def shiftedAt (ns nu : Nat) (x : List Rat) (k : Nat) : List Rat :=
  let h := (x.length - ns) / (ns + nu)
  let at_ := fun q => (x.drop (min q h * (ns + nu))).take ns
  ((at_ k).zip (at_ (k + 1))).map fun p => p.1 * (4 / 5) + p.2 * (1 / 5)

/-- Initial state of the MPC from the snapshot and the feedback (R237, R238), about a reference state for unwrapping. -/
def State.mpcInit (s : State) (f : FusedSnap) (ref : List Rat) : List Rat :=
  [f.posN, f.posE, nearRad (ref.getD 2 (radOf (turnsOf f.heading))) (turnsOf f.heading), f.u, f.v, f.r] ++
    s.thrList.zipIdx.flatMap fun e =>
      let b := s.thrustBounds e.1.1 e.1.2
      let a := (e.1.2.arcAbout (s.azFb e.1.1 e.1.2)).1
      [clampQ b.1 b.2 (s.thrustFb e.1.1 e.1.2), nearRad (ref.getD (7 + 2 * e.2) (radOf a)) a]

/-- Rate of change of the state and its Jacobian at a state (R237). -/
def State.mpcLinear (s : State) (f : FusedSnap) (z : List Rat) : List Rat × List (List Rat) :=
  let sc := s.scalars
  let g := fun i => z.getD i 0
  let psi := turnsOfRad (g 2)
  let sp := Config.sinT psi
  let cp := Config.cosT psi
  let nu := [g 3, g 4, g 5]
  let thr := s.thrList.zipIdx.map fun e =>
    let t := g (6 + 2 * e.2)
    let a := turnsOfRad (g (7 + 2 * e.2))
    let dT := s.momentOf e.1.2 (forceOf 1 a)
    let dA := s.momentOf e.1.2 (-(t * Config.sinT a), t * Config.cosT a)
    (dT.scale t, dT, dA)
  let tau := thr.foldl (fun d x => d.add x.1) ({} : Demand)
  let b := toVessel psi f.biasN f.biasE f.biasYaw
  let dragged := mul3 sc.dampD nu
  let force := (List.range 3).map fun i => tau.toList.getD i 0 + b.toList.getD i 0 - dragged.getD i 0
  let acc := solve3 sc.massM force
  let rate := [cp * g 3 - sp * g 4, sp * g 3 + cp * g 4, g 5] ++ acc ++ List.replicate (2 * thr.length) 0
  let cols := fun (v : List Rat) => solve3 sc.massM v
  let dPsi := cols [-(sp * f.biasN) + cp * f.biasE, -(cp * f.biasN) - sp * f.biasE, 0]
  let dNu := (List.range 3).map fun j => cols ((List.range 3).map fun i => -(sc.dampD.getD (3 * i + j) 0))
  let dThr := thr.flatMap fun x => [cols x.2.1.toList, cols x.2.2.toList]
  let rest := List.replicate (2 * thr.length) (0 : Rat)
  let jac := [[0, 0, -(sp * g 3) - cp * g 4, cp, -sp, 0] ++ rest, [0, 0, cp * g 3 - sp * g 4, sp, cp, 0] ++ rest, [0, 0, 0, 0, 0, 1] ++ rest] ++
    ((List.range 3).map fun i => [0, 0, dPsi.getD i 0] ++ (dNu.map fun c => c.getD i 0) ++ (dThr.map fun c => c.getD i 0)) ++
    List.replicate (2 * thr.length) (List.replicate (6 + 2 * thr.length) 0)
  (rate, jac)

/-- Discrete dynamics of a stage by zero-order hold at 0.5 s: the exponential of the augmented matrix [J B c; 0] (R237). -/
def State.mpcStage (s : State) (f : FusedSnap) (z : List Rat) : List (List Rat) :=
  let l := s.mpcLinear f z
  let ns := s.nState
  let nu := s.nInput
  let rows := (List.range ns).map fun i =>
    let j := l.2.getD i []
    j ++ ((List.range nu).map fun k => if i = 6 + k then 1 else 0) ++ [l.1.getD i 0 - dotQ j z]
  Config.expm ((rows ++ List.replicate (nu + 1) (List.replicate (ns + nu + 1) 0)).map fun (r : List Rat) => r.map (· / 2))

/-- Reference poses r_1 … r_H with headings in turns (R236, R239). -/
def State.mpcRefs (s : State) (f : FusedSnap) (h : Nat) : List Pose :=
  let t := s.image.tune s.ctl.tune
  let slow := { t with spSpeed := t.spSpeed * 25, spRot := t.spRot * 25 }
  match s.sup.mode, s.ctl.setpoint with
  | .autoPos, some p =>
    let goal := s.spPose p
    ((List.range h).foldl (fun (a : List Pose × Pose) _ => let q := moveTarget slow goal a.2; (a.1 ++ [q], q)) ([], s.ctl.target)).1
  | .autoTrack, _ =>
    ((List.range h).foldl (fun (a : List Pose × State) _ =>
      let n := (List.range 25).foldl (fun y _ => (trackStep (1 / 50) false f y).1) a.2
      (a.1 ++ [n.trackPose], n)) ([], s)).1
  | .joystick, _ => List.replicate h (if s.sup.hdgHold then { f.pose with psi := s.ctl.holdHdg } else f.pose)
  | _, _ => List.replicate h f.pose

/-- The MPC problem (R236 to R238) of horizon h with previous states z_0 … z_h. -/
def State.mpcQp (s : State) (f : FusedSnap) (h : Nat) (prev : List (List Rat)) : Qp :=
  let t := s.image.tune s.ctl.tune
  let ns := s.nState
  let nu := s.nInput
  let w := ns + nu
  let thr := s.thrList
  let buses := indices 8 fun b => (lookupK s.image.buses b).isSome
  let init := s.mpcInit f (prev.getD 0 [])
  let dyn := (List.range h).map fun k => s.mpcStage f (prev.getD k [])
  let refs := (s.mpcRefs f h).zipIdx.map fun e => [e.1.n, e.1.e, nearRad ((prev.getD (e.2 + 1) []).getD 2 0) e.1.psi]
  let term := fun k => if k = h then t.term else 1
  let thrOf := fun j => thr[j / 2]?
  let sign := fun k j => if (prev.getD k []).getD (6 + 2 * j) 0 < 0 then (-1 : Rat) else 1
  let arcs := thr.zipIdx.map fun e =>
    let a := init.getD (7 + 2 * e.2) 0
    if e.1.2.type != 0 then (-absent, absent)
    else match (e.1.2.arcAbout (turnsOfRad a)).2 with
      | none => (-absent, absent)
      | some r => (a - radOf (turnsOfRad a - r.1), a + radOf (r.2 - turnsOfRad a))
  let bound := fun (i : Nat) =>
    let j := i % w
    if j < 6 then (-absent, absent)
    else if j < ns then
      (match thrOf (j - 6) with
      | some x => if (j - 6) % 2 = 0 then s.thrustBounds x.1 x.2 else arcs.getD ((j - 6) / 2) (-absent, absent)
      | none => (-absent, absent))
    else (match thrOf (j - ns) with
      | some x => if (j - ns) % 2 = 0 then (-x.2.tRate, x.2.tRate) else if x.2.type = 0 then (-x.2.aRate, x.2.aRate) else (0, 0)
      | none => (0, 0))
  { h := fun i i' =>
      let k := i / w
      let j := i % w
      if i != i' then 0
      else if ns ≤ j then (match thrOf (j - ns) with | some x => 2 * t.rU.getD (2 * x.1 + (j - ns) % 2) 0 | none => 0)
      else if k = 0 then 0
      else if j < 3 then 2 * t.q.getD j 0 * term k
      else if j < 6 then 2 * t.qNu.getD (j - 3) 0
      else if (j - 6) % 2 = 0 then 2 * t.rhoP else 0
    q := fun i => if 3 ≤ i % w ∨ i / w = 0 then 0 else -(2 * t.q.getD (i % w) 0 * term (i / w) * (refs.getD (i / w - 1) []).getD (i % w) 0)
    a := fun r i =>
      let k := r / ns
      let j := r % ns
      let ki := i / w
      let ji := i % w
      if k = ki ∧ ji = j then 1
      else if ki + 1 = k then -(entry (dyn.getD ki []) j ji)
      else 0
    b := fun r => if r / ns = 0 then init.getD (r % ns) 0 else entry (dyn.getD (r / ns - 1) []) (r % ns) w
    c := fun r i =>
      let k := r / buses.length + 1
      let j := i % w
      if i / w = k ∧ 6 ≤ j ∧ j < ns ∧ (j - 6) % 2 = 0 then
        (match thrOf (j - 6) with
        | some x => if some x.2.bus == buses[r % buses.length]? && (s.ctl.thruster x.1).available then
            x.2.kPow * Config.sqrt x.2.tMax * sign k ((j - 6) / 2) else 0
        | none => 0)
      else 0
    l := fun _ => -absent
    u := fun r => (s.ctl.buses.getD (buses.getD (r % buses.length) 0) {}).avail
    xl := fun i => (bound i).1
    xu := fun i => (bound i).2 }

/-- The plan a solution gives (R239). -/
def State.planOf (s : State) (t0 : Nat) (tag : Tag) (path : Nat) (x : List Rat) : Plan :=
  let ns := s.nState
  let w := ns + s.nInput
  let h := (x.length - ns) / w
  { t0 := t0, tag := tag, done := s.now, path := path
    stages := (List.range (h + 1)).map fun k =>
      let g := fun j => x.getD (k * w + j) 0
      (s.thrList.zipIdx.foldl (fun d e => d.add (s.momentOf e.1.2 (forceOf (g (6 + 2 * e.2)) (turnsOfRad (g (7 + 2 * e.2)))))) ({} : Demand),
        { n := g 0, e := g 1, psi := turnFrac (turnsOfRad (g 2)) }) }

/-- CC1 solves the MPC in this mode (R239). -/
def mpcMode : Mode → Bool
  | .standby | .joystick | .autoPos | .autoTrack => true | _ => false

/-- Data vector of the MPC problem of the frame, for its slot; a solution published before gives the linearisation (R236 to R239). -/
def State.mpcData (s : State) (i : Nat) : List F64 :=
  let f := s.ctlSnap
  let t := (s.structAt s.mpcStructNow).getD {}
  let h := s.horizon
  let cold := List.replicate (h + 1) (s.mpcInit f [])
  let prev := match (s.slv.slot i).readSolution with
    | .ok (some p) => if 0 < p.vecs.x.length then (List.range (h + 1)).map (shiftedAt s.nState s.nInput (p.vecs.x.map fVal)) else cold
    | _ => cold
  (s.mpcQp f h prev).data t

/-- MPC_START (R49, R239): at frame time 3 ms of frames at whole multiples of 100 ms. -/
def mpcStart (s : State) : State :=
  if !s.stagesRun || s.tim.frameAt % 100000000 != 0 || s.ctl.mpcAt == some s.tim.frameAt || !mpcMode s.sup.mode || s.mpcSuspended
      || !s.engineRuns 10 then s
  else
    let s := (s.atFrame 3000).modCtl fun b => { b with mpcAt := some s.tim.frameAt }
    let f := s.ctlSnap
    if !s.fus.published || !f.posValid || !f.hdgValid then s
    else match s.mpcSlot with
      | none => s
      | some i =>
        let k := s.slv.slot i
        if k.phase == .queued || k.phase == .running then
          missStage 6 (match s.ctl.mpcStart with | some m => s.now - (m.2 + 80000000) | none => 0) s
        else
          let s := ensureBound .cc1 i s.mpcStructNow s
          let s := submitData .cc1 { slot := i, frame := s.frame, latestStart := s.now + 10000000 } (s.mpcData i) s
          if s.slv.mailbox = 0 then s.modCtl fun b => { b with mpcStart := some (f.tov, s.now), mpcLate := false } else s

/-- The 80 ms deadline of an MPC solve has passed: counted once (R49, R50). -/
def mpcDeadline (s : State) : State :=
  match s.ctl.mpcStart with
  | some m =>
    if s.ctl.mpcLate || decide (s.now ≤ m.2 + 80000000) then s
    else missStage 6 (s.now - (m.2 + 80000000)) (s.modCtl fun b => { b with mpcLate := true })
  | none => s

/-- An MPC completion (R50, R86, R239). -/
def mpcResult (r : Completion) (s : State) : State :=
  match s.ctl.mpcStart with
  | none => s
  | some m =>
    let inTime := decide (s.now ≤ m.2 + 80000000)
    let s := (mpcDeadline s).modCtl fun b => { b with mpcStart := none, planStatus := r.status.code }
    let s := match r.status, (s.slv.slot r.slot).readSolution with
      | .ok, .ok (some p) | .suboptimal, .ok (some p) =>
        s.modCtl fun b => { b with plan := some (s.planOf m.1 r.tag (if r.schedulePath then 2 else 1) (p.vecs.x.map fVal)), planSinceEntry := true }
      | _, _ => s.modCtl fun b => { b with mpcFail := satInc 32 b.mpcFail }
    s.modSup fun b => { b with
      mpcWarm := if r.status == .ok && inTime then true else if r.status == .numericFail then false else b.mpcWarm }

/-! ### Meanings of the commands -/

/-- Meaning of MPC_START (R239). -/
def execMpcStart (s : State) : Host.Outcome State Fault Refusal :=
  .next (mpcStart s)

end Sys2Proof.Machine
end

