-- ==== Sys2Proof/Machine/Conseq.lean ====
section
/-!
DEFINITION. Consequence analysis (R256 to R260): the scenario problems of every failure group, the cycle over the 36 headings, the
envelopes and the alarm.
-/
set_option autoImplicit false
namespace Sys2Proof.Machine

/-- Failure groups of the image (R256). -/
def State.failGroups (s : State) : List Nat := indices 64 fun g => (lookupK s.image.failGroups g).isSome

/-- A failure group as CC1 holds it. -/
def CtlState.failGroup (b : CtlState) (g : Nat) : FailState := b.fail.getD g {}

/-- One failure group changed. -/
def modFail (g : Nat) (f : FailState → FailState) (s : State) : State := s.modCtl fun b => { b with fail := updAt b.fail g f }

/-- A thruster is lost in a failure group, by itself or with its bus (R256). -/
def State.lostIn (s : State) (c : FailCfg) (i : Nat) : Bool :=
  c.thrMask / 2 ^ i % 2 == 1 || (match s.thrCfg i with | some t => c.busMask / 2 ^ t.bus % 2 == 1 | none => true)

/-- Capability of a thruster in a scenario (R257): its arc about the heading without rate limits, its cap with the lost thrusters removed. -/
def State.scenarioPoly (s : State) (c : FailCfg) (theta : Rat) (i : Nat) (t : ThrCfg) : List (Rat × Rat) :=
  if !(s.ctl.thruster i).available then [(0, 0)]
  else
    let cap := s.capOf (fun j => (s.ctl.thruster j).available && !s.lostIn c j) t
    if t.type = 0 then
      let a := (t.arcAbout theta).1
      let r := t.room a
      (0, 0) :: arcPoints (a - minQ (1 / 4) r.2) (a + minQ (1 / 4) r.1) cap
    else [forceOf (-(minQ t.tRev cap)) (s.fixedAz t), forceOf cap (s.fixedAz t)]

/-- A variable of a scenario (R257). -/
inductive ScenVar where
  | force (thr : Nat) (comp : Nat)
  | ext (grp : Nat) (comp : Nat)
  | lam
deriving DecidableEq, Repr

/-- Thrusters and EXTERNAL groups that a failure group does not lose (R257). -/
def State.scenThr (s : State) (c : FailCfg) : List Nat := s.thrusters.filter fun i => !s.lostIn c i
def State.scenExt (s : State) (c : FailCfg) : List Nat :=
  indices 64 fun g => (match s.groupCfg g with | some x => x.external | none => false) && c.extMask / 2 ^ g % 2 == 0

/-- Variables of a scenario in order: forces, group demands, λ (R257; assumption log 23). -/
def State.scenVars (s : State) (c : FailCfg) : List ScenVar :=
  ((s.scenThr c).flatMap fun i => [.force i 0, .force i 1]) ++ ((s.scenExt c).flatMap fun g => [.ext g 0, .ext g 1, .ext g 2]) ++ [.lam]

/-- The problem of a failure group at heading index k (R257). -/
def State.scenQp (s : State) (c : FailCfg) (k : Nat) : Qp :=
  let theta : Rat := (k : Rat) / 36
  let vs := s.scenVars c
  let var := fun i => vs.getD i .lam
  let rows := ((s.scenThr c).flatMap fun i => (List.range 10).map fun r => (false, i, r)) ++
    ((s.scenExt c).flatMap fun g => (List.range 32).map fun r => (true, g, r))
  let poly := fun i => match s.thrCfg i with | some t => polyRows (s.scenarioPoly c theta i t) | none => polyRows []
  let bound := fun (r : Nat) => match rows[r]? with
    | none => (-absent, absent)
    | some (true, g, q) => (-absent, if q < s.image.dirs.length then (s.ctl.group g).facets.getD q 0 else absent)
    | some (false, i, q) => match (poly i)[q]? with | some x => (x.2.1, x.2.2) | none => (-absent, absent)
  { h := fun i j => if i != j then 0 else match var i with | .force _ _ => 2 / 1000000 | _ => 0
    q := fun i => match var i with | .lam => -1 | _ => 0
    a := fun r i => match var i with
      | .force t comp => (match s.thrCfg t with | some x => (s.momentOf x (if comp = 0 then (1, 0) else (0, 1))).toList.getD r 0 | none => 0)
      | .ext _ comp => if comp = r then s.scaleOf r else 0
      | .lam => if r = 0 then -(Config.cosT theta) else if r = 1 then -(Config.sinT theta) else 0
    b := fun r => if r = 2 then -s.ctl.cycleSnap.biasYaw else 0
    c := fun r i => match rows[r]?, var i with
      | some (false, t, q), .force x comp => if t != x then 0
        else (match (poly x)[q]? with | some y => (if comp = 0 then y.1.1 else y.1.2) | none => 0)
      | some (true, g, q), .ext x comp => if g != x then 0
        else (match s.image.dirs[q]? with | some n => [n.1, n.2.1, n.2.2].getD comp 0 | none => 0)
      | _, _ => 0
    l := fun r => (bound r).1
    u := fun r => (bound r).2
    xl := fun i => match var i with | .lam => 0 | _ => -absent
    xu := fun i => match var i with | .lam => 10000 | _ => absent }

/-- The next scenario of a failure group is submitted while its slot is free (R258). -/
def submitScenario (g : Nat) (s : State) : State :=
  match lookupK s.image.failGroups g with
  | none => s
  | some c =>
    let f := s.ctl.failGroup g
    let k := f.work.length
    let ph := (s.slv.slot c.slot).phase
    if f.tag.isSome || 36 ≤ k || s.ctl.cycleBad.isSome || ph == .queued || ph == .running then s
    else
      let s := ensureBound .cc1 c.slot c.struct s
      let t := (s.structAt c.struct).getD {}
      let s := submitData .cc1 { slot := c.slot, frame := s.frame } ((s.scenQp c k).data t) s
      if s.slv.mailbox = 0 then modFail g (fun x => { x with tag := some ((s.slv.slot c.slot).tag, k) }) s
      else s.modCtl fun b => { b with cycleBad := some 1 }

/-- The run count of valid cycles is set (R84, R260, R261). -/
def setRun (n : Nat) (s : State) : State :=
  (s.modCtl fun b => { b with conseqRun := sat 8 n }).modSup fun b => { b with conseqRun := min n 10 }

/-- Alarms and counts of consecutive cycles forgotten (R259). -/
def forgetAlarms (s : State) : State :=
  s.modCtl fun b => { b with clearRun := 0, fail := b.fail.map fun f => { f with alarm := false, overRun := 0 } }

/-- An invalid cycle (R86, R258). -/
def invalidCycle (cause : Nat) (s : State) : State :=
  let s := forgetAlarms (setRun 0 s)
  let s := s.modCtl fun b => { b with
    conseq := .notReady, cycleAt := none, cycleBad := none
    fail := b.fail.map fun f => { f with stale := f.stale || !f.env.isEmpty, work := [], tag := none } }
  s.raise 0x0D1D 0xFF [BitVec.ofNat 8 cause]

/-- Interpolated envelope value at an angle in turns (R259). -/
def envAt (e : List Rat) (theta : Rat) : Rat :=
  let x := turnFrac theta * 36
  let k := floorNat x
  let w := x - (k : Rat)
  e.getD (k % 36) 0 * (1 - w) + e.getD ((k + 1) % 36) 0 * w

/-- Utilisation of an envelope (R259). -/
def utilOf (need e : Rat) : Rat := if e ≤ 0 then 99 else minQ 99 (need / e)

/-- A valid cycle ends: from the tenth on its envelopes are published, and the alarm is decided (R84, R259). -/
def validCycle (s : State) : State :=
  let f := s.ctl.cycleSnap
  let b := toVessel (turnsOf f.heading) (-f.biasN) (-f.biasE) 0
  let need := Config.sqrt (b.surge * b.surge + b.sway * b.sway)
  let theta := turnFrac (Config.atan2T b.sway b.surge)
  let idx := (roundEven (theta * 36)).toNat % 36
  let n := s.ctl.conseqRun + 1
  let gs := s.failGroups
  let s := setRun n s
  let s := s.modCtl fun c => { c with
    cycleMs := sat 16 (msOf (s.now - (c.cycleAt.getD s.now))), cycleAt := none
    fail := c.fail.mapIdx fun i x => if !gs.contains i then x else
      let u := utilOf need (envAt x.work theta)
      { x with overRun := if 1 < u then min 3 (x.overRun + 1) else 0, util := if 10 ≤ n then u else x.util
               env := if 10 ≤ n then x.work else x.env, stale := if 10 ≤ n then false else x.stale, work := [], tag := none } }
  let utils := gs.map fun g => utilOf need (envAt (s.ctl.failGroup g).env theta)
  let low := utils.all fun u => decide (u ≤ 19 / 20)
  let s := s.modCtl fun c => { c with clearRun := if low then min 3 (c.clearRun + 1) else 0 }
  if n < 10 then s
  else
    let worst := (gs.zip utils).foldl (fun (a : Nat × Rat) x => if a.2 < x.2 then x else a) (gs.getD 0 0, -1)
    let s := s.modCtl fun c => { c with worstFg := worst.1 }
    let s := if s.ctl.conseq == .alarm && decide (2 ≤ s.ctl.clearRun) then
        (s.modCtl fun c => { c with conseq := .ok, fail := c.fail.map fun x => { x with alarm := false } }).raise 0x0D1C 0xFF (f32Bytes (maxQ 0 worst.2))
      else s
    let s := (gs.filter fun g => decide (2 ≤ (s.ctl.failGroup g).overRun) && !(s.ctl.failGroup g).alarm).foldl (fun s g =>
      (modFail g (fun x => { x with alarm := true }) s).raise 0x0D1B g (f32Bytes (s.ctl.failGroup g).util ++ [BitVec.ofNat 8 idx])) s
    s.modCtl fun c => { c with conseq := if c.fail.any (·.alarm) then .alarm else .ok }

/-- No scenario of the running cycle is outstanding and none is left to submit. -/
def State.cycleOver (s : State) : Bool :=
  s.failGroups.all fun g =>
    let f := s.ctl.failGroup g
    f.tag.isNone && (s.ctl.cycleBad.isSome || decide (36 ≤ f.work.length))

/-- The running cycle ends once nothing of it is outstanding (R258, R259). -/
def tryEndCycle (s : State) : State :=
  if s.ctl.cycleAt.isNone || !s.cycleOver then s
  else match s.ctl.cycleBad with | some c => invalidCycle c s | none => validCycle s

/-- Scenarios still queued are cancelled (R258, R260). -/
def cancelScenarios (s : State) : State :=
  s.failGroups.foldl (fun s g => match lookupK s.image.failGroups g, (s.ctl.failGroup g).tag with
    | some c, some t =>
      let k := s.slv.slot c.slot
      modFail g (fun x => { x with tag := none }) (if k.phase == .queued && k.tag == t.1 then endSolve c.slot .cancelled s else s)
    | _, _ => s) s

/-- A cycle is abandoned: nothing is published and the run count returns to 0 (R260). -/
def abandonCycle (to_ : ConseqPhase) (s : State) : State :=
  let s := forgetAlarms (setRun 0 (cancelScenarios s))
  s.modCtl fun b => { b with
    conseq := to_, cycleAt := none, cycleBad := none, fail := b.fail.map fun f => { f with work := [], tag := none } }

/-- Consequence analysis follows the mode and the capacity (R216, R260, R529). -/
def conseqCheck (s : State) : State :=
  if !mpcMode s.sup.mode then (if s.ctl.conseq == .notReady && s.ctl.cycleAt.isNone && s.ctl.conseqRun == 0 then s else abandonCycle .notReady s)
  else if s.mpcSuspended then (if s.ctl.conseq == .suspended then s else abandonCycle .suspended s)
  else if s.ctl.conseq == .suspended then s.modCtl fun b => { b with conseq := .notReady } else s

/-- Period of the cycles, ns (R49, R216, R217). -/
def State.conseqPeriod (s : State) : Nat := if s.conseqReduced then 5000000000 else 1000000000

/-- The cycle that runs ends as unfinished (R258). -/
def endUnfinished (s : State) : State :=
  if s.ctl.cycleAt.isNone then s else invalidCycle (s.ctl.cycleBad.getD 1) (missStage 7 0 (cancelScenarios s))

/-- CONSEQ_CYCLE_START (R49, R258): at frame time 3 ms of frames at whole seconds. -/
def conseqStart (s : State) : State :=
  if !s.stagesRun || s.tim.frameAt % s.conseqPeriod != 0 || s.ctl.conseqAt == some s.tim.frameAt || !mpcMode s.sup.mode
      || s.mpcSuspended || !s.engineRuns 10 then s
  else
    let s := (s.atFrame 3000).modCtl fun b => { b with conseqAt := some s.tim.frameAt }
    let s := endUnfinished s
    let f := s.ctlSnap
    if !s.fus.obs.started then s
    else if !s.fus.published || !f.posValid || !f.hdgValid then invalidCycle 0 s
    else
      let s := s.modCtl fun b => { b with
        cycleAt := some s.now, cycleSnap := f, cycleBad := none, fail := b.fail.map fun x => { x with work := [], tag := none } }
      tryEndCycle (s.failGroups.foldl (fun s g => submitScenario g s) s)

/-- A scenario completion (R257, R258). -/
def conseqResult (r : Completion) (s : State) : State :=
  match s.failGroups.find? fun g => (lookupK s.image.failGroups g).any fun c => c.slot == r.slot with
  | none => s
  | some g =>
    if s.ctl.cycleAt.isNone then s
    else match (s.ctl.failGroup g).tag with
      | some t =>
        if t.1 != r.tag then s
        else
          let lam := fun (p : Published) => maxQ 0 (fVal (p.vecs.x.getLastD 0))
          let out : Option Rat := match r.status, (s.slv.slot r.slot).readSolution with
            | .ok, .ok (some p) => some (lam p)
            | .suboptimal, .ok (some p) => some (lam p)
            | .infeasible, _ => some 0
            | _, _ => none
          let s := modFail g (fun x => { x with tag := none }) s
          let s := match out with
            | some l => modFail g (fun x => { x with work := x.work ++ [l] }) s
            | none => s.modCtl fun b => { b with cycleBad := b.cycleBad.orElse fun _ => some 1 }
          tryEndCycle (submitScenario g s)
      | none => tryEndCycle (submitScenario g s)

/-- A failure group's structure has been rebound during a cycle (R258). -/
def reboundScenario (slot : Nat) (s : State) : State :=
  if s.ctl.cycleAt.isSome && s.failGroups.any fun g => (lookupK s.image.failGroups g).any fun c => c.slot == slot then
    s.modCtl fun b => { b with cycleBad := b.cycleBad.orElse fun _ => some 2 }
  else s

/-! ### Meanings of the commands -/

/-- Meaning of CONSEQ_CYCLE_START (R258). -/
def execConseqCycleStart (s : State) : Host.Outcome State Fault Refusal :=
  .next (conseqStart s)

end Sys2Proof.Machine
end

