-- ==== Sys2Proof/Machine/Solve.lean ====
section
/-!
DEFINITION. The commands of the Percolator and what the consumers do with its completion records (R185 to R199, R212, R219, R239, R248,
R258).
-/
set_option autoImplicit false
namespace Sys2Proof.Machine

/-- The consumer of a record acts on it: CC0 on nodes, CC1 on the MPC and the scenarios, SU on the self-test; a record for an engine
that does not run is lost with it (R32, R197). -/
def consumeRecord (r : Completion) (s : State) : State :=
  let k := s.slv.slot r.slot
  if !s.engineRuns k.owner.engine then s
  else match k.owner with
    | .cc0 => allocResult r s
    | .cc1 => if k.cls = 1 then (if s.mpcSlot == some r.slot then mpcResult r s else s) else conseqResult r s
    | .su => if s.slv.testResult = 3 && s.testSlot == some r.slot then finishTest r s else s
    | .unassigned => s

/-- The records in the submitters' queues are taken, oldest first (R197). -/
def drainFuel : Nat → State → State
  | 0, s => s
  | n + 1, s => match s.slv.queue with
    | [] => s
    | r :: rest => drainFuel n (consumeRecord r (s.modSlv fun b => { b with queue := rest }))

/-- The records in the submitters' queues are taken; a record can end others, at most one for each slot. -/
def drainSolves (s : State) : State := drainFuel (s.slv.queue.length + 1024) s

/-- Owner of a mailbox command: 0 CC0, 1 CC1, 2 SU (R183). -/
def slotOwnerOf (n : Nat) : SlotOwner := ownerOf n

/-- A mailbox command of an engine that does not run is not given (R31). -/
def byOwner (n : Nat) (f : SlotOwner → State → State) (s : State) : State :=
  if s.engineRuns (slotOwnerOf n).engine then drainSolves (f (slotOwnerOf n) s) else s

/-- BIND as a command (R186, R258). -/
def bindCommand (i st : Nat) (o : SlotOwner) (s : State) : State :=
  let s := bindSlot o i st s
  if s.slv.mailbox = 0 && o == .cc1 then reboundScenario i s else s

/-! ### Meanings of the commands -/

/-- Meaning of SOLVE_SUBMIT (R191). -/
def execSolveSubmit (owner : Fin 3) (desc packet : Bytes) (s : State) : Host.Outcome State Fault Refusal :=
  .next (byOwner owner.val (fun o => submitBytes o desc packet) s)

/-- Meaning of BIND (R186). -/
def execBind (owner : Fin 3) (slot : Fin 512) (struct : Fin 256) (s : State) : Host.Outcome State Fault Refusal :=
  .next (byOwner owner.val (bindCommand slot.val struct.val) s)

/-- Meaning of RELEASE (R185). -/
def execRelease (owner : Fin 3) (slot : Fin 512) (s : State) : Host.Outcome State Fault Refusal :=
  .next (byOwner owner.val (fun o => releaseSlot o slot.val) s)

/-- Meaning of CANCEL (R196). -/
def execCancel (owner : Fin 3) (slot : Fin 512) (s : State) : Host.Outcome State Fault Refusal :=
  .next (byOwner owner.val (fun o => cancelSlot o slot.val) s)

/-- Meaning of SOLVE_DISPATCH (R193). -/
def execSolveDispatch (engine : Fin 8) (s : State) : Host.Outcome State Fault Refusal :=
  .next (dispatch engine.val s)

/-- Meaning of SOLVE_RESUME (R194). -/
def execSolveResume (engine : Fin 8) (s : State) : Host.Outcome State Fault Refusal :=
  .next (resumeSolve engine.val s)

/-- Meaning of SUBJOB_COMPLETE (R212). -/
def execSubjobComplete (engine : Fin 8) (s : State) : Host.Outcome State Fault Refusal :=
  .next (drainSolves (subjobComplete engine.val s))

/-- Meaning of SOLVE_COMPLETE (R197). -/
def execSolveComplete (slot : Fin 512) (s : State) : Host.Outcome State Fault Refusal :=
  .next (drainSolves (finishRun slot.val s))

/-- Meaning of EXPIRED (R195). -/
def execExpired (slot : Fin 512) (s : State) : Host.Outcome State Fault Refusal :=
  .next (drainSolves (expireSolve slot.val s))

end Sys2Proof.Machine
end

