-- ==== Sys2Proof/Machine/Servo.lean ====
section
/-!
DEFINITION. The thruster servo loops and the angle-indexed learner, block SRV (chapter 07_thruster_servo_loops.md, R263 to R294):
servos, learner, profiles and the servo commands. Azimuths are in turns, rates of azimuth in rad/s.
-/
set_option autoImplicit false
namespace Sys2Proof.Machine

/-! ### Access -/

/-- A thruster of the servo core. -/
def SrvState.t (b : SrvState) (i : Nat) : ServoThr := b.thr.getD i {}

/-- One thruster changed. -/
def modServo (i : Nat) (f : ServoThr → ServoThr) (s : State) : State := s.modSrv fun b => { b with thr := updAt b.thr i f }

/-- One axis of a thruster. -/
def ServoThr.axis (t : ServoThr) (pitch : Bool) : Axis := if pitch then t.pitch else t.az

/-- One axis changed. -/
def modAxis (i : Nat) (pitch : Bool) (f : Axis → Axis) (s : State) : State :=
  modServo i (fun t => if pitch then { t with pitch := f t.pitch } else { t with az := f t.az }) s

/-- The axis has a hysteretic servo (R263). -/
def ThrCfg.hasServo (c : ThrCfg) (pitch : Bool) : Bool := if pitch then c.thrustKind == 0 else c.azKind == 1

/-- Nominal rate of an axis: ARATE in rad/s or PRATE in P/D per s. -/
def ThrCfg.nomRate (c : ThrCfg) (pitch : Bool) : Rat := if pitch then c.pRate else c.aRate

/-- SV runs its ticks (R266, R522). -/
def State.svRuns (s : State) : Bool := s.engineRuns 11 && s.stagesRun

/-- The latest sample of an axis's source (R265). -/
def State.servoSample (s : State) (i : Nat) (c : ThrCfg) (pitch : Bool) : Option FbSample :=
  if pitch then s.outSample i c else s.azSample i c

/-- The latency of a switching decision, s (R266). -/
def tOut : Rat := 1 / 1000

/-! ### Feedback (R265, R274) -/

/-- Difference of two feedback values of an axis: turns wrapped, or P/D. -/
def fbDiff (pitch : Bool) (a b : Rat) : Rat := if pitch then a - b else wrapTurn (a - b)

/-- A sample enters the history of an axis: stamps rising, back to the first one at least 20 ms old. -/
def pastWith (x : FbSample) (l : List (Nat × Rat)) : List (Nat × Rat) :=
  match l.head? with
  | some h => if x.at_ ≤ h.1 then l else
      let l := (x.at_, x.value) :: l
      l.take (1 + (l.takeWhile fun e => decide (x.at_ < e.1 + 20000000)).length)
  | none => [(x.at_, x.value)]

/-- The measured rate over the last 20 ms: rad/s, or P/D per s (R274). -/
def rateOf (pitch : Bool) (l : List (Nat × Rat)) : Rat :=
  match l.head?, l.getLast? with
  | some a, some b => if a.1 ≤ b.1 then 0 else
      let d := fbDiff pitch a.2 b.2 / secOf (a.1 - b.1)
      if pitch then d else radOf d
  | _, _ => 0

/-- The axis reads its feedback at a tick (R265): the latest sample, the rate and the extrapolated value. -/
def readAxis (s : State) (i : Nat) (c : ThrCfg) (pitch : Bool) (at_ : Nat) (a : Axis) : Axis :=
  let x := match s.servoSample i c pitch with
    | some x => if x.at_ ≤ at_ then some x else a.sample
    | none => a.sample
  match x with
  | none => a
  | some x =>
    let past := pastWith x a.past
    let w := rateOf pitch past
    let age := at_ - x.at_
    let go := if pitch then w else turnsOfRad w
    let v := if age ≤ nsOf c.fbMaxAge then x.value + go * secOf age else x.value
    { a with sample := some x, past := past, rate := w, fb := if pitch then v else turnFrac v }

/-! ### Direction and travel (R270, R275) -/

/-- The travel clockwise crosses a forbidden zone's inside. -/
def ThrCfg.crossesCw (c : ThrCfg) (fb len : Rat) : Bool := c.zonesT.any fun z => decide (cwWay fb z.1 < len)

/-- The travel counter-clockwise crosses a forbidden zone's inside. -/
def ThrCfg.crossesCcw (c : ThrCfg) (fb len : Rat) : Bool := c.zonesT.any fun z => decide (cwWay z.2 fb < len)

/-- What R270 chooses: direction +1, −1 or 0, travel in turns, target in use and whether it was replaced. -/
structure Course where
  dir : Int := 0
  trav : Rat := 0
  target : Rat := 0
  clamped : Bool := false
deriving DecidableEq, Repr

/-- The choice of direction for a feedback and a target (R270). -/
def ThrCfg.course (c : ThrCfg) (fb target : Rat) : Course :=
  match c.zoneOf fb with
  | some z =>
    if cwWay fb z.2 ≤ cwWay z.1 fb then { dir := 1, trav := cwWay fb target, target := target }
    else { dir := -1, trav := cwWay target fb, target := target }
  | none =>
    let cw := cwWay fb target
    let ccw := cwWay target fb
    let e := wrapTurn (target - fb)
    let badCw := c.crossesCw fb cw
    let badCcw := c.crossesCcw fb ccw
    if e = 0 then { target := target, clamped := false }
    else if badCw && badCcw then
      let r := c.room fb
      let up := turnFrac (fb + r.1)
      let dn := turnFrac (fb - r.2)
      if absQ (wrapTurn (target - up)) ≤ absQ (wrapTurn (target - dn)) then
        { dir := if r.1 = 0 then 0 else 1, trav := r.1, target := up, clamped := true }
      else { dir := if r.2 = 0 then 0 else -1, trav := r.2, target := dn, clamped := true }
    else if (0 < e && !badCw) || badCcw then { dir := 1, trav := cw, target := target }
    else { dir := -1, trav := ccw, target := target }

/-- The pitch servo's course (R275). -/
def ThrCfg.pitchCourse (c : ThrCfg) (fb target : Rat) : Course :=
  let t := clampQ c.outMin c.outMax target
  { dir := if fb < t then 1 else if t < fb then -1 else 0, trav := absQ (t - fb), target := t, clamped := decide (t ≠ target) }

/-! ### The profile (R279, R282 to R284) -/

/-- Bin of an angle (R279). -/
def binOf (t : Rat) : Nat := (floorNat (turnFrac t * 1024)) % 1024

/-- Bin of a profile in a direction. -/
def Profile.bin (p : Profile) (cw : Bool) (b : Nat) : LearnBin := (if cw then p.cw else p.ccw).getD b {}

/-- One bin of a profile changed; an empty direction is filled first. -/
def Profile.setBin (p : Profile) (cw : Bool) (b : Nat) (f : LearnBin → LearnBin) : Profile :=
  let full := fun (l : List LearnBin) => updAt (if l.isEmpty then List.replicate 1024 {} else l) b f
  if cw then { p with cw := full p.cw } else { p with ccw := full p.ccw }

/-- A bin is learnable (R279): outside every zone and more than 5° from every edge. -/
def ThrCfg.learnable (c : ThrCfg) (b : Nat) : Bool :=
  let lo : Rat := (b : Rat) / 1024
  let m : Rat := 5 / 360
  c.zonesT.all fun z =>
    let w := cwWay z.1 z.2
    decide (w + m < cwWay z.1 lo) && decide (cwWay z.1 lo + 1 / 1024 + m < 1)

/-- The learnable bins of the allowed arc that contains an angle (R282). -/
def ThrCfg.arcBins (c : ThrCfg) (fb : Rat) : List Nat :=
  let r := c.room fb
  indices 1024 fun b => c.learnable b && (c.zones.isEmpty || decide (cwWay fb ((b : Rat) / 1024) < r.1)
    || decide (cwWay ((b : Rat) / 1024) fb < r.2))

/-- Passes of a bin in both directions. -/
def Profile.passes (p : Profile) (b : Nat) : Nat := (p.bin true b).pass + (p.bin false b).pass

/-- Smallest of a list of numbers, none when it is empty. -/
def minNat : List Nat → Option Nat
  | [] => none
  | x :: l => some (l.foldl min x)

/-- LEARNED_TURNS over the allowed arc that contains the feedback (R282). -/
def learnedTurns (c : ThrCfg) (p : Profile) (fb : Rat) : Nat :=
  sat 16 ((minNat ((c.arcBins fb).map p.passes)).getD Config.turnsNoBins)

/-- Distances at which the nearest bin is looked for, in the order taken. -/
def nearOrder : List Int :=
  (List.range 512).flatMap fun (k : Nat) =>
    let d : Int := (k : Int) + 1
    if Config.nearBinClockwise then [d, -d] else [-d, d]

/-- The learned rate of a bin in a direction with the substitutions of R283; none when no bin supplies it. -/
def Profile.rate (p : Profile) (cw : Bool) (b : Nat) : Option Rat :=
  let own := p.bin cw b
  if 5 ≤ own.pass then some own.v
  else
    let at_ := fun (d : Int) => p.bin cw (((b : Int) + d) % 1024).toNat
    match nearOrder.find? fun d => decide (5 ≤ (at_ d).pass) with
    | some d => some (at_ d).v
    | none => let o := p.bin (!cw) b; if 5 ≤ o.pass then some o.v else none

/-- The anticipated coast in rad (R283) for a state's direction, feedback, target and rate. -/
def anticipatedCoast (c : ThrCfg) (p : Profile) (cw : Bool) (fb target w : Rat) : Rat :=
  match p.rate cw (binOf target), p.rate cw (binOf fb) with
  | some vr, some vn =>
    let wp := absQ w * vr / vn
    let kb := p.bin cw (binOf target)
    let k := if kb.kn = 0 then 1 / (2 * c.decel) else kb.k
    wp * (tOut + c.drvDelay) + k * wp * wp
  | _, _ => 0

/-- The image coast of an axis: rad or P/D (R274, R275). -/
def ThrCfg.imageCoast (c : ThrCfg) (pitch : Bool) (w : Rat) : Rat :=
  let w := absQ w
  if pitch then w * (tOut + c.pDrvDelay) + w * w / (2 * c.pDecel) else w * (tOut + c.drvDelay) + w * w / (2 * c.decel)

/-! ### Faults (R277, R278) -/

/-- The output of an axis's path reports a fault (R277, code 5). -/
def State.pathFault (s : State) (i : Nat) (c : ThrCfg) (pitch : Bool) : Bool :=
  match c.outPath with
  | 0 => s.fio.chans.any fun x =>
      x.cfg.dir == .output && x.cfg.src == .servo && x.cfg.thr == i && x.cfg.pitch == pitch && fioFault x != 0
  | 1 => s.servoOutFault i pitch
  | _ => s.can.classFault 0

/-- The feedback is stale or invalid at an instant: fault code 1, 2 or 0 (R277). -/
def State.fbFault (s : State) (i : Nat) (c : ThrCfg) (pitch : Bool) (at_ : Nat) : Nat :=
  match (s.srv.t i).axis pitch |>.sample with
  | none => 1
  | some x => if nsOf c.fbMaxAge < at_ - x.at_ then 1 else if x.valid then 0 else 2

/-- The times since which the stall and wrong-direction conditions hold (R277). -/
def watchAxis (c : ThrCfg) (pitch : Bool) (at_ : Nat) (a : Axis) : Axis :=
  let lim := c.nomRate pitch / 10
  let slow := a.state != .stop && decide (absQ a.rate < lim)
  let wrong := (a.state == .first && decide (a.rate < -lim)) || (a.state == .second && decide (lim < a.rate))
  { a with
    stallSince := if slow then some (a.stallSince.getD at_) else none
    wrongSince := if wrong then some (a.wrongSince.getD at_) else none }

/-- The condition of STALL holds. -/
def Axis.stalled (a : Axis) (at_ : Nat) : Bool :=
  a.state != .stop && decide (a.since + 1000000000 ≤ at_) && (match a.stallSince with | some t => decide (t + 500000000 ≤ at_) | none => false)

/-- The condition of DIRECTION holds. -/
def Axis.reversed (a : Axis) (at_ : Nat) : Bool :=
  a.state != .stop && decide (a.since + 300000000 ≤ at_) && (match a.wrongSince with | some t => decide (t + 200000000 ≤ at_) | none => false)

/-- Lowest fault code whose condition holds on an axis, 0 for none (R277). -/
def State.faultNow (s : State) (i : Nat) (c : ThrCfg) (pitch : Bool) (at_ : Nat) : Nat :=
  let a := (s.srv.t i).axis pitch
  let f := s.fbFault i c pitch at_
  if f ≠ 0 then f else if a.stalled at_ then 3 else if a.reversed at_ then 4 else if s.pathFault i c pitch then 5 else 0

/-- A fault of an axis is detected (R277). -/
def detectFault (i : Nat) (pitch : Bool) (at_ : Nat) (s : State) : State :=
  match s.thrCfg i with
  | none => s
  | some c =>
    let n := s.faultNow i c pitch at_
    if !c.hasServo pitch || ((s.srv.t i).axis pitch).fault != 0 || n = 0 then s
    else (modAxis i pitch (fun a => { a with fault := n, clearSince := none }) s).raise 0x0E10 i [BitVec.ofNat 8 (b2n pitch), BitVec.ofNat 8 n]

/-- The condition of the fault an axis reports is absent (R277, R278). -/
def State.faultGone (s : State) (i : Nat) (c : ThrCfg) (pitch : Bool) (at_ : Nat) : Bool :=
  let a := (s.srv.t i).axis pitch
  match a.fault with
  | 3 => !a.stalled at_
  | 4 => !a.reversed at_
  | 5 => !s.pathFault i c pitch
  | _ => s.fbFault i c pitch at_ == 0

/-- A fault is cleared: the servo starts in STOP with its dwell satisfied (R278). -/
def clearServo (i : Nat) (pitch byCommand : Bool) (s : State) : State :=
  let n := ((s.srv.t i).axis pitch).fault
  (modAxis i pitch (fun a => { a with
    fault := 0, clearSince := none, state := .stop, dwellFree := true, stallSince := none, wrongSince := none }) s).raise 0x0E11 i
    [BitVec.ofNat 8 (b2n pitch), BitVec.ofNat 8 n, BitVec.ofNat 8 (b2n byCommand)]

/-- An automatically clearing fault clears after 1 s without its condition (R277). -/
def autoClear (i : Nat) (pitch : Bool) (at_ : Nat) (s : State) : State :=
  match s.thrCfg i with
  | none => s
  | some c =>
    let a := (s.srv.t i).axis pitch
    if a.fault = 0 ∨ a.fault = 3 ∨ a.fault = 4 then s
    else if !s.faultGone i c pitch at_ then modAxis i pitch (fun a => { a with clearSince := none }) s
    else match a.clearSince with
      | none => modAxis i pitch (fun a => { a with clearSince := some at_ }) s
      | some t => if t + 1000000000 ≤ at_ then clearServo i pitch false s else s

/-! ### The servo (R271 to R276) -/

/-- A test command holds on a thruster (R293). -/
def State.underTest (s : State) (i : Nat) : Bool := match s.srv.test with | some t => t.1 == i | none => false

/-- The mode inhibits the servos, apart from a test in SERVICE (R274). -/
def State.modeForces (s : State) (i : Nat) : Bool :=
  match s.sup.mode with
  | .dormant => true | .standby => true | .start => true
  | .service => !s.underTest i
  | _ => false

/-- A thruster is in the scope of an active SAFE_STOP. -/
def State.inStop (s : State) (i : Nat) : Bool := (s.saf.thr.getD i {}).phase != .armed

/-- Sign of the current direction: the state's, or in STOP that of the rate. -/
def Axis.heading (a : Axis) : Rat := match a.state with | .first => 1 | .second => -1 | .stop => signQ a.rate

/-- The predicted rest point lies inside a forbidden zone, or beyond the pitch range (R274, R275). -/
def badRest (c : ThrCfg) (pitch : Bool) (a : Axis) (cAnt : Rat) : Bool :=
  let d := maxQ cAnt (c.imageCoast pitch a.rate)
  if pitch then
    let r := a.fb + a.heading * d
    decide (r < c.outMin) || decide (c.outMax < r)
  else (c.zoneOf a.fb).isNone && (c.zoneOf (turnFrac (a.fb + a.heading * turnsOfRad d))).isSome

/-- Forced stop of an axis (R274 to R277). -/
def State.forcedStop (s : State) (i : Nat) (c : ThrCfg) (pitch : Bool) (cAnt : Rat) : Bool :=
  let a := (s.srv.t i).axis pitch
  if a.fault ≠ 0 then true
  else if s.inStop i then !pitch
  else !(s.ctl.thruster i).available || s.modeForces i || badRest c pitch a cAnt

/-- State for a direction. -/
def slewOf (dir : Int) : Slew := if dir = 1 then .first else if dir = -1 then .second else .stop

/-- An axis goes to a state (R271, R272). -/
def Axis.goto (at_ : Nat) (x : Slew) (a : Axis) : Axis := if a.state == x then a else { a with state := x, since := at_, dwellFree := false }

/-- The dwell of the state is over (R272). -/
def Axis.dwellOver (a : Axis) (at_ : Nat) : Bool := a.dwellFree || decide (a.since + 100000000 ≤ at_)

/-- The switching logic of one tick (R271); `bOn`, `bOff`, travel and coast in one unit. -/
def switchAxis (at_ : Nat) (forced : Bool) (k : Course) (bOn bOff cAnt : Rat) (a : Axis) : Axis :=
  if forced then a.goto at_ .stop
  else if !a.dwellOver at_ then a
  else match a.state with
    | .stop => if decide (bOn < k.trav) && k.dir != 0 then a.goto at_ (slewOf k.dir) else a
    | x => if x != slewOf k.dir then a.goto at_ .stop
           else if k.trav ≤ bOff ∨ k.trav ≤ cAnt then a.goto at_ .stop else a

/-- Points 5° inside the edges of the allowed arc that contains the feedback: clockwise and counter-clockwise end (R294). -/
def ThrCfg.sweepEnds (c : ThrCfg) (fb : Rat) : Rat × Rat :=
  let r := c.room fb
  (turnFrac (fb + r.1 - 5 / 360), turnFrac (fb - r.2 + 5 / 360))

/-- The azimuth course of a thruster in a tick: that of its target, of a test move, or of a learning run (R270, R293, R294). -/
def State.azCourse (s : State) (i : Nat) (c : ThrCfg) : Course :=
  let fb := (s.srv.t i).az.fb
  match s.srv.test with
  | some (j, .testMove b) => if j = i then c.course fb (turnsOf b) else c.course fb (s.srv.t i).az.target
  | some (j, .learnRun _ ccw) =>
    if j ≠ i then c.course fb (s.srv.t i).az.target
    else if c.zones.isEmpty then { dir := if ccw then -1 else 1, trav := 1, target := fb }
    else
      let e := c.sweepEnds fb
      c.course fb (if s.srv.runCcw then e.2 else e.1)
  | none => c.course fb (s.srv.t i).az.target

/-- Anticipated coast of the azimuth servo in the tick (R271, R283). -/
def State.azCoast (s : State) (i : Nat) (c : ThrCfg) (k : Course) : Rat :=
  let t := s.srv.t i
  if !t.ff then 0
  else match t.az.state with
    | .stop => 0
    | .first => anticipatedCoast c t.work true t.az.fb k.target t.az.rate
    | .second => anticipatedCoast c t.work false t.az.fb k.target t.az.rate

/-- ZONE_CLAMP, once per target: a target told of is told again only after another has been in use (R270). -/
def tellClamp (i : Nat) (k : Course) (want : Rat) (s : State) : State :=
  if k.clamped then
    (modAxis i false (fun a => { a with clampTold := some want }) s).raiseIf (decide ((s.srv.t i).az.clampTold ≠ some want)) 0x0E1B i
      (leBytes 2 (bamOf want) ++ leBytes 2 (bamOf k.target))
  else modAxis i false (fun a => { a with clampTold := if a.clampTold = some want then a.clampTold else none }) s

/-- The azimuth servo's part of a tick (R265, R270 to R274, R277). -/
def tickAz (i : Nat) (c : ThrCfg) (at_ : Nat) (s : State) : State :=
  let s := modAxis i false (fun a => watchAxis c false at_ (readAxis s i c false at_ a)) s
  let s := detectFault i false at_ (autoClear i false at_ s)
  let k := s.azCourse i c
  let cAnt := s.azCoast i c k
  let forced := s.forcedStop i c false cAnt
  let want := match s.srv.test with
    | some (j, .testMove b) => if j = i then turnsOf b else (s.srv.t i).az.target
    | _ => (s.srv.t i).az.target
  let s := tellClamp i k want s
  modAxis i false (fun a =>
    let a := switchAxis at_ forced k (turnsOf c.bandOn) (turnsOf c.bandOff) (turnsOfRad cAnt) a
    { a with
      forced := forced, cAnt := cAnt, clamped := k.clamped, targetUsed := k.target
      ffUsed := (s.srv.t i).ff && (s.srv.t i).az.state != .stop, staged := a.state }) s

/-- The pitch servo's part of a tick (R275 to R277). -/
def tickPitch (i : Nat) (c : ThrCfg) (at_ : Nat) (s : State) : State :=
  let s := modAxis i true (fun a => watchAxis c true at_ (readAxis s i c true at_ a)) s
  let s := detectFault i true at_ (autoClear i true at_ s)
  let s := modServo i (fun t => { t with ramp := (s.saf.thr.getD i {}).phase == .ramping }) s
  let a := (s.srv.t i).pitch
  let k := c.pitchCourse a.fb a.target
  let cAnt := c.imageCoast true a.rate
  let forced := s.forcedStop i c true cAnt
  modAxis i true (fun a =>
    let a := switchAxis at_ forced k c.pbOn c.pbOff cAnt a
    { a with forced := forced, cAnt := cAnt, clamped := k.clamped, targetUsed := k.target, staged := a.state }) s

/-! ### The learner (R280 to R285) -/

/-- The slewing state the learner goes by (R280, R423). -/
def State.learnerState (s : State) (i : Nat) (c : ThrCfg) : Slew :=
  if s.standsBack then
    (if c.outPath = 2 then (match s.can.leadSlew.getD i 0 % 4 with | 1 => .first | 2 => .second | _ => .stop) else .stop)
  else (s.srv.t i).az.state

/-- Learning may run on a thruster (R285, R423). -/
def State.mayLearn (s : State) (i : Nat) (c : ThrCfg) : Bool :=
  !s.srv.shed && !s.inStop i && (!s.standsBack || decide (c.outPath = 2))

/-- The conditions of R280 hold in a tick. -/
def State.learnCond (s : State) (i : Nat) (c : ThrCfg) (at_ : Nat) : Bool :=
  let t := s.srv.t i
  s.mayLearn i c && t.seen != .stop && decide (t.seenAt + 300000000 ≤ at_) && t.az.fault == 0
    && decide (c.aRate / 5 ≤ (if t.seen == .first then t.az.rate else -t.az.rate))

/-- The rule by which a measurement enters a learned value (R280, R281). -/
def blendIn (n : Nat) (gain old m : Rat) : Rat := if n = 0 then m else old + gain * (m - old)

/-- Edges crossed from one angle to another, in order: bin left and share of the way (R280). -/
def edgesCrossed (a0 a1 : Rat) : List (Nat × Rat) :=
  let d := wrapTurn (a1 - a0) * 1024
  let x := turnFrac a0 * 1024
  let y := x + d
  if 0 < d then
    (List.range (y.floor - x.floor).toNat).map fun (j : Nat) =>
      let e : Rat := (x.floor : Rat) + (j : Rat) + 1
      (((x.floor + (j : Int)) % 1024).toNat, (e - x) / d)
  else if d < 0 then
    (List.range (x.floor - y.floor).toNat).map fun (j : Nat) =>
      let e : Rat := (x.floor : Rat) - (j : Rat)
      (((x.floor - (j : Int)) % 1024).toNat, (e - x) / d)
  else []

/-- The working profile of a thruster is cleared (R284, R293). -/
def invalidateProfile (i cause : Nat) (s : State) : State :=
  (modServo i (fun t => { t with
    work := { thruster := i, tag := t.work.tag, struct := t.work.struct }, ff := false, ffPending := none, turns := 0, loaded := false
    traverse := none, coast := none, coastDue := none, restSince := none, shape := [], mismatch := 0, dirty := true }) s).raise 0x0E16 i
    [BitVec.ofNat 8 cause]

/-- The comparison of shapes (R284). -/
def checkShape (i : Nat) (m v : Rat) (pass : Nat) (s : State) : State :=
  let t := s.srv.t i
  if !t.ff then s
  else
    let l := ((m, v) :: t.shape).take 64
    let s := modServo i (fun t => { t with shape := l }) s
    if l.length < 64 ∨ pass < 5 then s
    else
      let nm := m * 64 / sumQ (l.map (·.1))
      let nv := v * 64 / sumQ (l.map (·.2))
      let n := if 1 / 4 < absQ (nm - nv) then t.mismatch + 1 else 0
      if 64 ≤ n then invalidateProfile i 1 s else modServo i (fun t => { t with mismatch := n }) s

/-- Whole service hours of a profile (R286). -/
def Profile.hours (p : Profile) : Nat := p.service / 3600000000000

/-- A rate measurement of a bin (R280, R284). -/
def measureBin (i : Nat) (c : ThrCfg) (b : Nat) (cw : Bool) (m : Rat) (s : State) : State :=
  let old := (s.srv.t i).work.bin cw b
  let s := checkShape i m old.v old.pass s
  if (s.srv.t i).work.cw.isEmpty && (s.srv.t i).work.ccw.isEmpty && old.pass ≠ 0 then s
  else modServo i (fun t => { t with
    dirty := true
    work := t.work.setBin cw b fun x => { x with
      v := blendIn x.pass c.learnGain x.v m, pass := satInc 16 x.pass, lastH := t.work.hours } }) s

/-- An edge is crossed at an instant in ns: the bin left is measured if it was entered at its other edge, and the next is entered. -/
def crossEdge (i : Nat) (c : ThrCfg) (cw : Bool) (left : Nat) (at_ : Rat) (s : State) : State :=
  let s := match (s.srv.t i).traverse with
    | some r => if r.bin = left ∧ r.cw = cw ∧ r.entered < at_ then
        measureBin i c left cw (twoPi / 1024 * 1000000000 / (at_ - r.entered)) s
      else s
    | none => s
  modServo i (fun t => { t with traverse := some { bin := (if cw then left + 1 else left + 1023) % 1024, cw := cw, entered := at_ } }) s

/-- The rate learner's part of a tick (R280): crossings lie between the stamps of the last two samples. -/
def learnRate (i : Nat) (c : ThrCfg) (prev : Option FbSample) (at_ : Nat) (s : State) : State :=
  let ok := s.learnCond i c at_
  let s := modServo i (fun t => { t with learning := ok, traverse := if ok then t.traverse else none }) s
  match ok, prev, (s.srv.t i).az.sample with
  | true, some p, some x =>
    if x.at_ ≤ p.at_ then s
    else
      let cw := (s.srv.t i).seen == .first
      let d := wrapTurn (x.value - p.value)
      if d = 0 then s
      else if decide (0 < d) != cw then modServo i (fun t => { t with traverse := none }) s
      else (edgesCrossed p.value x.value).foldl (fun s e =>
        crossEdge i c cw e.1 ((p.at_ : Rat) + e.2 * ((x.at_ - p.at_ : Nat) : Rat)) s) s
  | _, _, _ => s

/-- A coast sample is taken at rest (R281). -/
def coastSample (i : Nat) (c : ThrCfg) (rel w : Rat) (cw : Bool) (s : State) : State :=
  let rest := (s.srv.t i).az.fb
  let way := radOf (absQ (wrapTurn (rest - rel)))
  let k := (way - absQ w * (tOut + c.drvDelay)) / (w * w)
  if k ≤ 0 ∨ 10 / c.decel < k then s
  else modServo i (fun t => { t with
    dirty := true
    work := t.work.setBin cw (binOf rest) fun x => { x with k := blendIn x.kn c.learnGain x.k k, kn := satInc 8 x.kn } }) s

/-- The coast learner's part of a tick (R281). -/
def learnCoast (i : Nat) (c : ThrCfg) (old : Slew) (oldAt at_ : Nat) (s : State) : State :=
  let t := s.srv.t i
  if !s.mayLearn i c || t.seen != .stop then modServo i (fun t => { t with coast := none, coastDue := none, restSince := none }) s
  else if old != .stop then
    let ok := t.az.fault == 0 && decide (oldAt + 300000000 ≤ at_)
    modServo i (fun t => { t with coastDue := if ok then some (old == .first) else none, coast := none, restSince := none }) s
  else match t.coastDue with
    | some cw =>
      let fast := decide (c.aRate / 5 ≤ absQ t.az.rate)
      modServo i (fun t => { t with coastDue := none, coast := if fast then some (t.az.fb, t.az.rate, cw) else none }) s
    | none => match t.coast with
      | none => s
      | some r =>
        if absQ t.az.rate < c.aRate / 100 then
          match t.restSince with
          | none => modServo i (fun t => { t with restSince := some at_ }) s
          | some b =>
            if b + 100000000 ≤ at_ then modServo i (fun t => { t with coast := none, restSince := none }) (coastSample i c r.1 r.2.1 r.2.2 s)
            else s
        else modServo i (fun t => { t with restSince := none }) s

/-- Feed-forward becomes active (R282, R290). -/
def activateFf (i : Nat) (s : State) : State :=
  (modServo i (fun t => { t with ff := true, shape := [], mismatch := 0 }) s).raise 0x0E13 i (leBytes 2 (s.srv.t i).turns)

/-- LEARNED_TURNS and the start of feed-forward (R282, R290): of a loaded profile at its first valid feedback when the TURNS of its header and
those of its bins are both at least 20, otherwise when LEARNED_TURNS rises and is then at least 20 (assumption log 22). -/
def learnTurns (i : Nat) (c : ThrCfg) (s : State) : State :=
  let t := s.srv.t i
  let ready := match t.az.sample with | some x => x.valid && (c.zoneOf t.az.fb).isNone | none => false
  if !ready then s
  else
    let n := learnedTurns c t.work t.az.fb
    let s := modServo i (fun t => { t with turns := n, ffPending := none }) s
    match t.ffPending with
    | some header => if header && decide (20 ≤ n) then activateFf i s else s
    | none => if !t.ff && decide (t.turns < n) && decide (20 ≤ n) then activateFf i s else s

/-- The learner's part of a tick (R280 to R285). -/
def tickLearner (i : Nat) (c : ThrCfg) (prev : Option FbSample) (at_ : Nat) (s : State) : State :=
  let t := s.srv.t i
  let now := s.learnerState i c
  let s := modServo i (fun t => { t with seen := now, seenAt := if now == t.seen then t.seenAt else at_ }) s
  let s := learnTurns i c (learnCoast i c t.seen t.seenAt at_ (learnRate i c prev at_ s))
  let counts := match s.sup.mode with | .dormant => false | .start => false | _ => true
  modServo i (fun t => if counts then { t with work := { t.work with service := t.work.service + 1000000 } } else t) s

/-! ### Learning runs (R294) -/

/-- A test ends; a learning run raises LEARN_RUN_END with its cause (R293, R294). -/
def endTest (cause : Nat) (s : State) : State :=
  match s.srv.test with
  | none => s
  | some (i, k) =>
    let s := s.modSrv fun b => { b with test := none, testThr := i, runBase := [] }
    match k with
    | .learnRun _ _ => s.raise 0x0E1C i (BitVec.ofNat 8 cause :: zeros 3 ++ leBytes 2 s.srv.progress)
    | .testMove _ => s

/-- PASS counts of a thruster, clockwise then counter-clockwise. -/
def Profile.passList (p : Profile) : List Nat :=
  (List.range 1024).map (fun b => (p.bin true b).pass) ++ (List.range 1024).map fun b => (p.bin false b).pass

/-- Least passes gained by a learnable bin since the run began (R294). -/
def State.runProgress (s : State) (i : Nat) (c : ThrCfg) (ccw : Bool) : Nat :=
  let t := s.srv.t i
  let gain := fun (cw : Bool) (b : Nat) => (t.work.bin cw b).pass - s.srv.runBase.getD (if cw then b else b + 1024) 0
  let bins := c.arcBins t.az.fb
  let g := bins.map fun b => if c.zones.isEmpty then gain (!ccw) b else gain true b + gain false b
  min 32767 ((minNat g).getD 0)

/-- The sweep of a learning run turns round at its end (R294). -/
def turnSweep (i : Nat) (c : ThrCfg) (s : State) : State :=
  let a := (s.srv.t i).az
  let k := s.azCourse i c
  let near := k.trav ≤ maxQ (turnsOf c.bandOff) (turnsOfRad a.cAnt) ∨ (a.state = .stop ∧ k.trav ≤ turnsOf c.bandOn)
  if !c.zones.isEmpty && decide near then s.modSrv fun b => { b with runCcw := !b.runCcw } else s

/-- What a tick does with the test in progress (R293, R294). -/
def tickTest (s : State) : State :=
  match s.srv.test with
  | none => s
  | some (i, k) =>
    match s.thrCfg i with
    | none => endTest 1 s
    | some c =>
      if s.sup.mode != .service then endTest 1 s
      else match k with
        | .testMove _ => s
        | .learnRun n ccw =>
          if (s.srv.t i).az.fault ≠ 0 ∨ (s.srv.t i).pitch.fault ≠ 0 then endTest 2 s
          else if s.safeStop then endTest 3 s
          else
            let p := s.runProgress i c ccw
            let s := s.modSrv fun b => { b with progress := p }
            if n ≤ p then endTest 0 s else turnSweep i c s

/-! ### Profiles in the store (R286 to R292) -/

/-- Key of a profile object (R287). -/
def profileKey (tag kind num : Nat) : StoreKey := { part := 1, kind := kind, tag := tag, num := num }

/-- Structure code of a thruster's servo (R288). -/
def State.servoStruct (s : State) (i : Nat) (c : ThrCfg) : Nat :=
  let chan := match c.fbSource with
    | 0 => [BitVec.ofNat 8 c.fbChanA, BitVec.ofNat 8 c.fbChanB]
    | 1 => [BitVec.ofNat 8 c.fbChanA]
    | _ => leBytes 4 ((s.can.port (s.can.cls 1).primary).luqId (0x20 + i))
  crc32c ([BitVec.ofNat 8 c.azKind, BitVec.ofNat 8 c.fbSource] ++ chan ++ leBytes 2 c.zeroOffset
    ++ [BitVec.ofNat 8 (b2n c.reversed), BitVec.ofNat 8 c.outPath] ++ leBytes 2 1024)

/-- The record that a store of the working profile writes (R286). -/
def State.profileRecord (s : State) (i : Nat) (c : ThrCfg) (kind : Nat) : Profile :=
  let t := s.srv.t i
  { t.work with thruster := i, kind := kind, tag := c.tag, struct := s.servoStruct i c, stored := s.now, turns := t.turns, ff := t.ff
                aRate := c.aRate }

/-- Deviations of rates that both records hold (R292): percent, bin and direction CCW. -/
def wearDevs (base work : Profile) : List (Rat × Nat × Nat) :=
  ([true, false].flatMap fun cw => (List.range 1024).map fun b => (cw, b)).filterMap fun e =>
    let x := base.bin e.1 e.2
    let y := work.bin e.1 e.2
    if 5 ≤ x.pass ∧ 5 ≤ y.pass then some (100 * (x.v - y.v) / x.v, e.2, b2n (!e.1)) else none

/-- The wear figures at a store (R292). -/
def wearTrend (i : Nat) (c : ThrCfg) (s : State) : State :=
  match (s.srv.t i).base with
  | none => s
  | some base =>
    let l := wearDevs base (s.srv.t i).work
    if l.length < 64 then modServo i (fun t => { t with wearMean := 0, wearPeak := 0, peakBin := 0, peakDir := 0, alert := false }) s
    else
      let mean := sumQ (l.map (·.1)) / (l.length : Rat)
      let peak := l.foldl (fun (m : Rat × Nat × Nat) e => if m.1 < absQ (e.1 - mean) then (absQ (e.1 - mean), e.2.1, e.2.2) else m) (0, 0, 0)
      let was := (s.srv.t i).alert
      let high := decide (c.wearLimit < mean) || decide (c.peakLimit < peak.1)
      let low := decide (mean < c.wearLimit * 4 / 5) && decide (peak.1 < c.peakLimit * 4 / 5)
      let s := modServo i (fun t => { t with
        wearMean := mean, wearPeak := peak.1, peakBin := peak.2.1, peakDir := peak.2.2, alert := high || (was && !low) }) s
      s.raiseIf (high && !was) 0x0E1A i (f32Bytes mean ++ f32Bytes peak.1 ++ leBytes 2 peak.2.1)

/-- Number and time of a snapshot object of a thruster. -/
def snapOf (tag : Nat) (key : StoreKey) (data : StoreData) : Option (Nat × Nat) :=
  match data with
  | .profile p => if key.part == 1 && key.kind == 2 && key.tag == tag then some (key.num, p.stored) else none
  | _ => none

/-- Snapshots of a thruster that the store holds or is being given, with their numbers (R287). -/
def State.snapsHeld (s : State) (tag : Nat) : List (Nat × Nat) :=
  (s.aqf.writes.filterMap fun w => snapOf tag w.key w.data) ++ s.aqf.objs.filterMap fun o => snapOf tag o.key o.data

/-- Number of a snapshot (R287, R289): the one it already has, else the lowest free of eight, else the oldest's, which it replaces. Numbers from 0
to 7 are the model's (assumption log 22). -/
def snapNumber (held : List (Nat × Nat)) (stored : Nat) : Nat :=
  match held.find? (fun e => e.2 == stored) with
  | some e => e.1
  | none => match (List.range 8).find? (fun k => !held.any fun e => e.1 == k) with
    | some k => k
    | none => match held with
      | [] => 0
      | x :: l => (l.foldl (fun m e => if e.2 < m.2 then e else m) x).1

/-- Number under which a record is stored (R483). -/
def State.profileNumber (s : State) (p : Profile) : Nat := if p.kind = 2 then snapNumber (s.snapsHeld p.tag) p.stored else 0

/-- A record whose write was refused: a working profile counts as changed, another record is owed (R289). -/
def oweProfile (i : Nat) (p : Profile) (s : State) : State :=
  modServo i (fun t => if p.kind = 0 then { t with dirty := true } else { t with owed := t.owed ++ [p] }) s

/-- A profile record is submitted; a refusal raises PROFILE_STORE_FAIL, and it is tried again at the next 10 min point (R289). -/
def submitProfile (i : Nat) (p : Profile) (s : State) : State × Option Tag :=
  let r := submitWrite (profileKey p.tag p.kind (s.profileNumber p)) 2 24640 11 (.profile p) s
  match r.2 with
  | .inl e => (oweProfile i p (r.1.raise 0x0E18 i [BitVec.ofNat 8 e.code]), none)
  | .inr t => (r.1, some t)

/-- The queued working profiles are written in index order, one at a time (R289). -/
def pumpProfiles (s : State) : State :=
  s.forN 16 fun s i =>
    if s.srv.thr.any (fun t => t.storing.isSome) then s
    else match s.thrCfg i with
      | none => s
      | some c =>
        if !(s.srv.t i).storeQueued then s
        else
          let s := wearTrend i c (modServo i (fun t => { t with storeQueued := false }) s)
          let r := submitProfile i (s.profileRecord i c 0) s
          match r.2 with
          | some t => modServo i (fun x => { x with storing := some t.word, dirty := false }) r.1
          | none => r.1

/-- Every working profile that has learned since its last store is queued (R289). -/
def queueProfiles (s : State) : State :=
  pumpProfiles (s.modSrv fun b => { b with thr := b.thr.map fun t => { t with storeQueued := t.storeQueued || t.dirty } })

/-- The baselines and snapshots owed to the store are submitted again (R289). -/
def payOwed (s : State) : State :=
  s.forN 16 fun s i =>
    let l := (s.srv.t i).owed
    l.foldl (fun s p => (submitProfile i p s).1) (if l.isEmpty then s else modServo i (fun t => { t with owed := [] }) s)

/-- The 10 min point (R289). -/
def profileStore (s : State) : State :=
  let n := s.now / 600000000000
  if n ≤ s.srv.storeAt || !s.svRuns then s else payOwed (queueProfiles (s.modSrv fun b => { b with storeAt := n }))

/-- The 90-day point (R287, R289): a snapshot of every profile; a ninth replaces the oldest. -/
def profileSnapshot (s : State) : State :=
  let n := s.now / 7776000000000000
  if n ≤ s.srv.snapAt || !s.svRuns then s
  else s.thrusters.foldl (fun s i => match s.thrCfg i with
    | some c =>
      if c.azKind ≠ 1 then s
      else
        let p := s.profileRecord i c 2
        let s := modServo i (fun t => { t with snaps := keepLast 8 (t.snaps ++ [p]) }) s
        (submitProfile i p s).1
    | none => s) (s.modSrv fun b => { b with snapAt := n })

/-- A profile write completes (R289). -/
def profileDone (key : StoreKey) (tag : Tag) (r : StoreResult) (p : Profile) (s : State) : State :=
  match s.thrusters.find? fun i => match s.thrCfg i with | some c => c.tag == key.tag | none => false with
  | none => s
  | some i =>
    let mine := key.kind == 0 && (s.srv.t i).storing == some tag.word
    let s := if mine then modServo i (fun t => { t with
        storing := none, dirty := t.dirty || r != .ok, storedAt := if r == .ok then some s.now else t.storedAt }) s else s
    let s := if r == .ok then s.raise 0x0E17 i (BitVec.ofNat 8 key.kind :: zeros 3 ++ leBytes 2 p.turns)
      else (oweProfile i p s).raise 0x0E18 i [BitVec.ofNat 8 r.code]
    pumpProfiles s

/-- The working profile becomes the baseline (R291): by command, or at LOCK_CLEARED. -/
def setBaseline (i : Nat) (atLock : Bool) (s : State) : State :=
  match s.thrCfg i with
  | none => s
  | some c =>
    let p := s.profileRecord i c 1
    let s := (modServo i (fun t => { t with base := some p }) s).raise 0x0E19 i [BitVec.ofNat 8 (b2n atLock)]
    (submitProfile i p s).1

/-- At LOCK_CLEARED (R291). -/
def baselinesAtLock (s : State) : State :=
  s.thrusters.foldl (fun s i => if (s.srv.t i).ff && (s.srv.t i).base.isNone then setBaseline i true s else s) s

/-- Cause of the discard of a stored record, if any (R290). -/
def State.profileBad (s : State) (o : StoreObj) (p : Profile) : Option Nat :=
  match s.thrusters.find? fun i => match s.thrCfg i with | some c => c.tag == o.key.tag | none => false with
  | none => if o.crcOk && p.crcOk then some 0 else some 2
  | some i => match s.thrCfg i with
    | none => none
    | some c => if !o.crcOk || !p.crcOk then some 2 else if c.azKind ≠ 1 ∨ p.struct ≠ s.servoStruct i c then some 1 else none

/-- A stored record is loaded or discarded (R290). -/
def loadProfile (o : StoreObj) (p : Profile) (s : State) : State :=
  let who := s.thrusters.find? fun i => match s.thrCfg i with | some c => c.tag == o.key.tag | none => false
  match s.profileBad o p, who with
  | some cause, _ =>
    let s := s.modSup fun b => { b with startFault := setBit b.startFault 9 true }
    s.raise 0x0E15 (who.getD 0xFF) ([BitVec.ofNat 8 cause, BitVec.ofNat 8 o.key.kind] ++ zeros 2 ++ leBytes 4 o.key.tag)
  | none, some i =>
    match o.key.kind with
    | 0 =>
      (modServo i (fun t => { t with
        work := p, loaded := true, ff := false, ffPending := some (decide (20 ≤ p.turns)), turns := 0, dirty := false
        storedAt := some p.stored }) s).raise 0x0E14 i (leBytes 2 p.turns ++ zeros 2 ++ leBytes 4 p.hours)
    | 1 => modServo i (fun t => { t with base := some p }) s
    | _ => modServo i (fun t => { t with snaps := keepLast 8 (t.snaps ++ [p]) }) s
  | none, none => s

/-- Start-up phase 7, and leaving DORMANT with PD6 switched off: the profiles of P1 are loaded (R290). -/
def loadProfiles (s : State) : State :=
  let s := s.modSrv fun b => { b with thr := b.thr.mapIdx fun i t => { t with
    work := { thruster := i }, ff := false, ffPending := none, owed := [], loaded := false, base := none, snaps := [], turns := 0, storing := none
    storeQueued := false, dirty := false, shape := [], mismatch := 0, traverse := none, coast := none, coastDue := none } }
  let objs := s.aqf.objs.filter fun o => o.key.part == 1
  let sorted := objs.mergeSort fun a b => decide (a.at_ ≤ b.at_)
  sorted.foldl (fun s o => match o.data with | .profile p => loadProfile o p s | _ => s) s

/-- Leaving DORMANT with PD6 switched off (R290): the profiles are loaded, and START_FAULT 9 is raised when one is discarded. -/
def reloadProfiles (s : State) : State :=
  let had := s.sup.startFault.getLsbD 9
  let s := loadProfiles (s.modSup fun b => { b with startFault := setBit b.startFault 9 false })
  let s := s.raiseIf (s.sup.startFault.getLsbD 9) 0x0127 9 [7]
  s.modSup fun b => { b with startFault := setBit b.startFault 9 (had || b.startFault.getLsbD 9) }

/-- SERVO_FF_MASK (R84, R95): feed-forward active, or no azimuth servo, an index without a thruster included; 0 in the start phase. -/
def State.ffMask (s : State) : BitVec 16 :=
  if s.sup.mode == .start then 0
  else maskOf 16 fun i => match s.thrCfg i with
    | some c => c.azKind != 1 || (s.srv.t i).ff
    | none => true

/-! ### Meanings of the commands -/

/-- Meaning of PROFILE_STORE (R289). -/
def execProfileStore (s : State) : Host.Outcome State Fault Refusal :=
  .next (profileStore s)

/-- Meaning of PROFILE_SNAPSHOT (R289). -/
def execProfileSnapshot (s : State) : Host.Outcome State Fault Refusal :=
  .next (profileSnapshot s)

end Sys2Proof.Machine
end

