-- ==== Sys2Proof/Machine/Tick.lean ====
section
/-!
DEFINITION. The tick of the servo core, its release and guard (R266 to R269), the trace (R295, R296), the commands and the registers
of block SRV (R293, R297).
-/
set_option autoImplicit false
namespace Sys2Proof.Machine

/-! ### The trace (R295, R296) -/

/-- The trace changed. -/
def modTrace (f : Trace → Trace) (s : State) : State := s.modSrv fun b => { b with trace := f b.trace }

/-- +1, −1 or 0 for a slewing state (R295). -/
def slewSign : Slew → Rat
  | .stop => 0 | .first => 1 | .second => -1

/-- Value of a trace node of a thruster; `us` is the time of the tick (R295). -/
def State.traceNode (s : State) (thr node us : Nat) : Rat :=
  let t := s.srv.t thr
  match node with
  | 0 => radOf t.az.fb
  | 1 => radOf t.az.targetUsed
  | 2 => radOf (wrapTurn (t.az.targetUsed - t.az.fb))
  | 3 => slewSign t.az.state
  | 4 => t.az.rate
  | 5 => t.az.cAnt
  | 6 =>
    let b := binOf t.az.fb
    match t.az.state with
    | .first => (t.work.bin true b).v
    | .second => (t.work.bin false b).v
    | .stop => Config.traceStopRate (t.work.bin true b).v (t.work.bin false b).v
  | 7 => t.pitch.fb
  | 8 => t.pitch.targetUsed
  | 9 => slewSign t.pitch.state
  | 10 => (s.ctl.thruster thr).cmdT
  | _ => (us : Rat)

/-- The trace ends: by STOP, the power-fail warning or the throttle (R296). -/
def traceStop (shed throttled : Bool) (s : State) : State :=
  let r := s.srv.trace.phase
  if r == .armed || r == .triggered then
    modTrace (fun t => { t with phase := .done, shed := t.shed || shed, throttled := t.throttled || throttled }) s
  else s

/-- ARM: earlier data are discarded (R296). -/
def traceArm (s : State) : State :=
  let r := s.srv.trace.phase
  if r == .idle || r == .done then
    modTrace (fun t => { t with
      phase := .armed, shed := false, throttled := false, len := 0, left := 0, phaseTick := 0, trigSeen := false, trigAt := 0
      chans := t.chans.map fun c => { c with data := [] } }) s
  else s

/-- The trigger (R296). -/
def traceTrigger (at_ : Nat) (s : State) : State :=
  if s.srv.trace.phase == .armed then
    let n := 65536 * (100 - s.srv.trace.prePct) / 100
    (modTrace (fun t => { t with phase := if n = 0 then .done else .triggered, left := n, trigAt := at_ }) s).raise 0x0E1D 0xFF
      [BitVec.ofNat 8 s.srv.trace.trigSrc, BitVec.ofNat 8 s.srv.trace.trigThr]
  else s

/-- One sample of every enabled channel (R295). -/
def traceSample (us : Nat) (s : State) : State :=
  let s := modTrace (fun t => { t with
    len := min 65536 (t.len + 1)
    chans := t.chans.map fun c => if c.en then { c with data := (s.traceNode c.thr c.node us :: c.data).take 65536 } else c }) s
  if s.srv.trace.phase == .triggered then
    modTrace (fun t => { t with left := t.left - 1, phase := if t.left ≤ 1 then .done else .triggered }) s
  else s

/-- The trigger condition of the tick (R296); `old` is the servo state before it. -/
def State.traceCond (s : State) (old : SrvState) : Bool :=
  let r := s.srv.trace
  let a := s.srv.t r.trigThr
  let b := old.t r.trigThr
  match r.trigSrc with
  | 1 => a.az.state != b.az.state
  | 2 => decide (r.level < absQ (radOf (wrapTurn (a.az.targetUsed - a.az.fb))))
  | 3 => s.srv.thr.any fun t => t.az.fault != 0 || t.pitch.fault != 0
  | 4 => a.pitch.state != b.pitch.state
  | 5 => decide (r.seenStops < (s.saf.thr.filter fun t => t.phase != .armed).length)
  | 6 => s.sup.modeEntry != r.seenMode
  | _ => false

/-- The trace's part of a tick (R295, R296): one sample in every 2^DECIM ticks. -/
def tickTrace (at_ us : Nat) (old : SrvState) (s : State) : State :=
  let hit := s.traceCond old
  let s := modTrace (fun t => { t with
    trigSeen := t.trigSeen || hit, seenMode := s.sup.modeEntry, seenStops := (s.saf.thr.filter fun t => t.phase != .armed).length }) s
  let r := s.srv.trace
  if r.phase == .idle || r.phase == .done then modTrace (fun t => { t with trigSeen := false }) s
  else if r.phaseTick + 1 < 2 ^ r.decim then modTrace (fun t => { t with phaseTick := t.phaseTick + 1 }) s
  else
    let fire := r.trigSeen && r.phase == .armed
    let level := r.trigSrc == 2 || r.trigSrc == 3
    let s := traceSample us (modTrace (fun t => { t with phaseTick := 0, trigSeen := false }) s)
    if (if level then hit && r.phase == .armed else fire) then traceTrigger at_ s else s

/-! ### Release and guard (R264, R266, R269) -/

/-- The slewing state on an output path of a thruster, 0 FIELD and 1 ANALOG: STOP on a path that is not the thruster's, under the guard, and in
a member that is not LEAD (R264, R269, R323, R423). -/
def State.slewOut (s : State) (path i : Nat) (pitch : Bool) : Slew :=
  match s.thrCfg i with
  | none => .stop
  | some c => if c.outPath ≠ path || s.standsBack || s.srv.guard || !c.hasServo pitch then .stop else ((s.srv.t i).axis pitch).out

/-- Code of a slewing state (R264). -/
def Slew.code : Slew → Nat
  | .stop => 0 | .first => 1 | .second => 2

/-- Slew fields of AZPITCH_CMD from two states (R393). -/
def slewFields (az pitch : Slew) : Nat := az.code + 4 * pitch.code

/-- The field and analog outputs take the servos' states (R264, R314, R323). -/
def driveServos (s : State) : State :=
  let on := fun (t : Nat) (p second : Bool) => match s.slewOut 0 t p with | .stop => false | .first => !second | .second => second
  releaseAnalogServo (fun t p => s.slewOut 1 t p) (releaseFieldServo on s)

/-- The guard forces STOP on every hysteretic output (R269). -/
def forceGuard (ticks : Nat) (s : State) : State :=
  (driveServos (s.modSrv fun b => { b with guard := true, guards := satInc 32 b.guards })).raise 0x0E12 0xFF (leBytes 2 ticks)

/-- The release of a tick instant: the staged states reach the outputs; a third instant in a row without one is the guard's. -/
def releaseTick (s : State) : State :=
  if s.srv.staged then
    driveServos (s.modSrv fun b => { b with
      staged := false, noRelease := 0, guard := false
      thr := b.thr.map fun t => { t with az := { t.az with out := t.az.staged }, pitch := { t.pitch with out := t.pitch.staged } } })
  else
    let n := min 3 (s.srv.noRelease + 1)
    let s := s.modSrv fun b => { b with noRelease := n }
    if n = 3 && !s.srv.guard then forceGuard 3 s else s

/-- The next tick instant (R49, R266). -/
def State.tickInstant (s : State) : Nat := (max (s.tim.tickAt + 1) s.now + 499999) / 1000000 * 1000000 + 500000

/-- The tick instant is reached within the running frame. -/
def State.tickDue (s : State) : Bool := s.svRuns && decide (s.tickInstant ≤ s.tim.frameAt + 19500000)

/-- The tick instant: module time is there, its strobe reports the residual of its 52 MHz edge (R461), and the release takes place. -/
def beginTick (s : State) : State :=
  let t := s.tickInstant
  releaseTick ((s.advance t).modTim fun b => { b with tickAt := t, tickEdge := strobeRes (Config.strobeEdge t) })

/-- An abandoned tick (R268). -/
def abandonTick (lateNs : Nat) (s : State) : State :=
  missStage 8 lateNs (s.modSrv fun b => { b with overruns := satInc 32 b.overruns })

/-- The slew fields that are released at a gate: those staged once the next tick release precedes it, until then those released; 0 but on path CAN,
and in a member that is not LEAD or under the guard (R264, R266, R269, R393). -/
def State.slewAt (s : State) (i : Nat) (c : ThrCfg) (gate : TxGate) : Nat :=
  let t := s.srv.t i
  let of := fun (a : Axis) => if s.nextTick ≤ s.gateTime gate then a.staged else a.out
  if c.outPath = 2 && !s.standsBack && !s.srv.guard then
    slewFields (if c.hasServo false then of t.az else .stop) (if c.hasServo true then of t.pitch else .stop)
  else 0

/-- The azimuth target that is released at the next tick release: the one staged where the strobe comes before, otherwise the one last released
(R46, R51, R393). -/
def State.azAtTick (s : State) (i : Nat) : Nat :=
  match s.ctl.staged.bind fun l => l[i]? with
  | some x => if !s.tim.strobed && decide (s.tim.frameAt + 16000000 ≤ s.nextTick) then x.2 else bamOf (s.srv.t i).az.target
  | none => bamOf (s.srv.t i).az.target

/-- A slew change of a thruster on path CAN is submitted for the next tick release (R264, R378, R389, R393). -/
def sendSlew (i : Nat) (c : ThrCfg) (s : State) : State :=
  let f := s.slewAt i c .tick
  if c.outPath = 2 && !s.standsBack && s.can.azSlew.getD i 0 != f then sendAzPitch i (s.azAtTick i) f .tick s else s

/-- One thruster in a tick. -/
def tickThr (i : Nat) (at_ : Nat) (s : State) : State :=
  match s.thrCfg i with
  | none => s
  | some c =>
    let prev := (s.srv.t i).az.sample
    let s := if c.hasServo false then tickLearner i c prev at_ (tickAz i c at_ s) else s
    let s := if c.hasServo true then tickPitch i c at_ s else s
    if c.hasServo false || c.hasServo true then sendSlew i c s else s

/-- SERVO_TICK (R266): `us` is the time the tick takes; one of 1 ms or more is abandoned (R268). -/
def servoTick (us : Nat) (s : State) : State :=
  if !s.tickDue then s
  else
    let at_ := s.tickInstant
    let s := beginTick s
    let s := s.modSrv fun b => { b with tickMax := max b.tickMax us }
    if 1000 ≤ us then abandonTick ((us - 1000) * 1000) s
    else
      let old := s.srv
      let s := s.forN 16 fun s i => tickThr i at_ s
      let s := tickTest s
      tickTrace at_ us old (s.modSrv fun b => { b with staged := true })

/-- TICK_ABANDONED (R268): the tick of this instant is not complete by the next one. -/
def tickAbandoned (lateNs : Nat) (s : State) : State := if s.tickDue then abandonTick lateNs (beginTick s) else s

/-- TICK_GUARD (R269): SV has not released for `ticks` tick instants; the hold timer runs in the output stage, whether or not SV has its
domain. -/
def tickGuard (ticks : Nat) (s : State) : State :=
  if s.svRuns || s.srv.guard || decide (ticks < 3) then s
  else forceGuard ticks (s.modSrv fun b => { b with noRelease := 3, staged := false })

/-- SERVO_FAULT (R277): detected as soon as its condition holds. -/
def servoFaultCmd (i : Nat) (pitch : Bool) (s : State) : State :=
  match s.thrCfg i with
  | none => s
  | some c =>
    if !s.svRuns then s
    else
      let s := modAxis i pitch (fun a => watchAxis c pitch s.now (readAxis s i c pitch s.now a)) s
      let s := detectFault i pitch s.now s
      if ((s.srv.t i).axis pitch).fault ≠ 0 then modAxis i pitch (fun a => { a.goto s.now .stop with staged := .stop }) s else s

/-- SRV_FAULT_CLEARED (R277, R278). -/
def servoFaultCleared (i : Nat) (pitch : Bool) (s : State) : State := if s.svRuns then autoClear i pitch s.now s else s

/-- Targets released at the strobe (R51, R266): azimuth in bam16 and pitch. -/
def releaseTargets (l : List (Rat × Nat)) (s : State) : State :=
  s.modSrv fun b => { b with thr := b.thr.mapIdx fun i t => match l[i]? with
    | some x => { t with az := { t.az with target := turnsOf x.2 }, pitch := { t.pitch with target := x.1 } }
    | none => t }

/-! ### Commands (R293, R294) -/

/-- SRV_CMD_RESULT (R297). -/
def srvResult (w : WCtx) (action r : Nat) (s : State) : State :=
  s.modSrv fun b => { b with cmdResult := r, cmdAction := action, cmdSession := w.session }

/-- CLEAR_FAULT of a thruster (R278). -/
def clearFaults (i : Nat) (s : State) : State :=
  match s.thrCfg i with
  | none => s
  | some c =>
    [false, true].foldl (fun s pitch =>
      let n := ((s.srv.t i).axis pitch).fault
      if (n = 3 || n = 4) && s.faultGone i c pitch s.now then clearServo i pitch true s else s) s

/-- SRV_CMD (R293, R297); an action that is not listed needs the least role of the register (R444). -/
def srvCmd (w : WCtx) (v : Word) (s : State) : WriteOut :=
  let i := field v 3 0
  let a := field v 7 4
  let arg := field v 31 16
  let n := arg % 32768
  let role := match a with | 1 => roleOperator | 3 => roleCommissioner | x => if 2 ≤ x ∧ x ≤ 7 then roleEngineer else roleOperator
  let no := fun (r : Nat) => WriteOut.refused (srvResult w a r s) r
  let ok := srvResult w a 0 s
  let quiet := s.sup.mode == .standby || s.sup.mode == .service
  let hys := match s.thrCfg i with | some c => c.azKind == 1 | none => false
  let t := s.srv.t i
  let testOk := s.sup.mode == .service && t.az.fault == 0 && t.pitch.fault == 0 && s.srv.test.isNone
  needRole w role (srvResult w a 2 s) <|
    match a with
    | 1 => if (s.thrCfg i).isSome then .done (clearFaults i ok) 0 else no 1
    | 2 => if quiet && hys then .done (invalidateProfile i 0 ok) 0 else no 1
    | 3 => if quiet && hys && t.ff then .done (setBaseline i false ok) 0 else no 1
    | 4 => if hys then .done (pumpProfiles (modServo i (fun t => { t with storeQueued := true }) ok)) 0 else no 1
    | 5 =>
      if n < 1 ∨ 100 < n then .range
      else if !hys then no 4
      else if !testOk then no 1
      else .done (ok.modSrv fun b => { b with
        test := some (i, .learnRun n (decide (32768 ≤ arg))), testThr := i, progress := 0, runBase := t.work.passList
        runCcw := decide (32768 ≤ arg) }) 0
    | 6 =>
      if !hys then no 4
      else if !testOk then no 1
      else .done (ok.modSrv fun b => { b with test := some (i, .testMove arg), testThr := i, progress := 0 }) 0
    | 7 => if s.underTest i && s.sup.mode == .service then .done (endTest 1 ok) 0 else no 1
    | _ => no 1

/-- TRC_CMD (R296): no trace is armed while the power-fail warning lasts or the throttle is enforced, up to the frame instant
after it ends (R296, R528). -/
def trcCmd (v : Word) (s : State) : WriteOut :=
  if bit v 0 && (s.srv.shed || s.thm.enforced || decide (s.now < s.thm.armFrom)) then .refused s 3
  else
    let s := if bit v 0 then traceArm s else s
    let s := if bit v 1 then traceStop false false s else s
    .done (if bit v 2 then traceTrigger s.now s else s) 0

/-! ### Registers (R297) -/

/-- Age of a store in minutes (R297). -/
def storeAge (now : Nat) : Option Nat → Nat
  | none => 0xFFFF
  | some t => let m := (now - t) / 60000000000; if 65534 < m then 0xFFFF else m

/-- Code of a trace state (R296). -/
def TracePhase.code : TracePhase → Nat
  | .idle => 0 | .armed => 1 | .triggered => 2 | .done => 3

/-- Sample k of a trace channel, counted from the oldest valid one; 0 beyond the end (R297). -/
def Trace.sample (r : Trace) (k : Nat) : Rat :=
  if r.len ≤ k then 0 else ((r.chans.getD r.chSel {}).data).getD (r.len - 1 - k) 0

/-- Value of an SRV register; none where none is defined. -/
def srvRead (s : State) (off : Nat) : Option Word :=
  let b := s.srv
  let m16 : (ServoThr → Bool) → Nat := fun p => (maskOf 16 fun i => p (b.t i)).toNat
  let t := b.t b.sel
  let a := t.az
  let p := t.pitch
  let bin := t.work.bin (!b.binDir) b.binSel
  let r := b.trace
  let ch := r.chans.getD r.chSel {}
  match off with
  | 0x10 => some (pack [(m16 fun t => t.ff, 0, 16), (m16 fun t => t.az.fault != 0 || t.pitch.fault != 0, 16, 16)])
  | 0x14 => some (pack [(m16 fun t => t.learning, 0, 16), (b2n b.shed, 16, 1),
      (b2n (s.aqf.writes.any fun w => w.key.part == 1), 17, 1)])
  | 0x18 => some (wordOf b.tickMax)
  | 0x1C => some (wordOf b.overruns)
  | 0x20 => some (wordOf b.guards)
  | 0x24 => some (wordOf b.sel)
  | 0x28 => some (pack [(a.state.code, 0, 2), (b2n a.ffUsed, 2, 1), (b2n (a.fault != 0), 3, 1), (a.fault, 4, 3),
      (b2n (!a.dwellOver s.tim.tickAt), 7, 1), (b2n a.forced, 8, 1), (b2n a.clamped, 9, 1), (bamOf a.fb, 16, 16)])
  | 0x2C => some (pack [(bamOf a.targetUsed, 0, 16), (bamOf (a.targetUsed - a.fb), 16, 16)])
  | 0x30 => some (f32Of a.rate)
  | 0x34 => some (f32Of a.cAnt)
  | 0x38 => some (pack [(p.state.code, 0, 2), (b2n (p.fault != 0), 2, 1), (p.fault, 3, 3), (b2n (!p.dwellOver s.tim.tickAt), 6, 1),
      (b2n t.ramp, 7, 1)])
  | 0x3C => some (f32Of p.fb)
  | 0x40 => some (f32Of p.targetUsed)
  | 0x44 => some (pack [(t.turns, 0, 16), (b2n t.loaded, 16, 1), (b2n t.base.isSome, 17, 1), (t.snaps.length, 18, 4)])
  | 0x48 => some (pack [(storeAge s.now t.storedAt, 0, 16), (sat 16 t.work.hours, 16, 16)])
  | 0x4C => some (f32Of t.wearMean)
  | 0x50 => some (f32Of t.wearPeak)
  | 0x54 => some (pack [(t.peakBin, 0, 10), (t.peakDir, 10, 1), (b2n t.alert, 11, 1)])
  | 0x58 => some (pack [(b.binSel, 0, 10), (b2n b.binDir, 10, 1)])
  | 0x5C => some (f32Of bin.v)
  | 0x60 => some (f32Of (if bin.kn = 0 then 0 else bin.k))
  | 0x64 => some (pack [(bin.pass, 0, 16), (bin.kn, 16, 8)])
  | 0x68 => some (f32Of (match t.base with | some q => (q.bin (!b.binDir) b.binSel).v | none => 0))
  | 0x6C => some 0
  | 0x70 => some (pack [(b.cmdResult, 0, 4), (b.cmdAction, 4, 4), (b.cmdSession, 8, 5)])
  | 0x74 => some (pack [(b.progress, 0, 15), (b2n b.test.isSome, 15, 1), (b.testThr, 16, 4)])
  | 0x78 => some 0
  | 0x7C => some (pack [(r.decim, 0, 4), (r.prePct, 4, 7), (r.trigSrc, 16, 3), (r.trigThr, 20, 4)])
  | 0x80 => some (f32Of r.level)
  | 0x84 => some (wordOf r.chSel)
  | 0x88 => some (pack [(ch.thr, 0, 4), (ch.node, 8, 4), (b2n ch.en, 15, 1)])
  | 0x8C => some (pack [(r.phase.code, 0, 2), (b2n r.shed, 2, 1), (b2n r.throttled, 3, 1), (r.len / 2, 16, 16)])
  | 0x90 => some (loWord r.trigAt)
  | 0x94 => some (hiWord r.trigAt)
  | 0x98 => some (wordOf r.rdIdx)
  | _ => if 0x9C ≤ off ∧ off ≤ 0xB8 ∧ off % 4 = 0 then some (f32Of (r.sample (r.rdIdx + (off - 0x9C) / 4))) else none

/-- What a read clears (R22, R297). -/
def srvClear (off : Nat) (s : State) : State :=
  match off with
  | 0x18 => s.modSrv fun b => { b with tickMax := 0 }
  | 0x1C => s.modSrv fun b => { b with overruns := 0 }
  | 0x20 => s.modSrv fun b => { b with guards := 0 }
  | _ => s

/-- Writable SRV registers (R297). -/
def srvWritable (off : Nat) : Bool := [0x24, 0x58, 0x6C, 0x78, 0x7C, 0x80, 0x84, 0x88, 0x98].contains off

/-- A trace setting is written (R296, R297): OUT_OF_RANGE with a value that the register does not take, BUSY while ARMED or TRIGGERED (R444). -/
def traceSetting (w : WCtx) (inRange : Bool) (s : State) (k : WriteOut) : WriteOut :=
  let p := s.srv.trace.phase
  needRole w roleEngineer s <| if !inRange then .range else if p == .armed || p == .triggered then .refused s 3 else k

/-- A write to an SRV register (R293, R296, R297). -/
def srvWrite (w : WCtx) (off : Nat) (v : Word) (s : State) : WriteOut :=
  match off with
  | 0x24 => .done (s.modSrv fun b => { b with sel := field v 3 0 }) 0
  | 0x58 => .done (s.modSrv fun b => { b with binSel := field v 9 0, binDir := bit v 10 }) 0
  | 0x6C => srvCmd w v s
  | 0x78 => needRole w roleEngineer s <| trcCmd v s
  | 0x7C => traceSetting w (decide (field v 3 0 ≤ 10) && decide (field v 10 4 ≤ 100) && decide (field v 18 16 ≠ 7)) s <|
      .done (modTrace (fun t => { t with decim := field v 3 0, prePct := field v 10 4, trigSrc := field v 18 16, trigThr := field v 23 20 }) s) 0
  | 0x80 => needRole w roleEngineer s <|
      if !f32Finite v then .badValue else traceSetting w true s <| .done (modTrace (fun t => { t with level := f32Val v }) s) 0
  | 0x84 => .done (modTrace (fun t => { t with chSel := field v 3 0 }) s) 0
  | 0x88 => traceSetting w (decide (field v 11 8 < 12)) s <|
      .done (modTrace (fun t => { t with chans := updAt t.chans t.chSel fun c => { c with
        thr := field v 3 0, node := field v 11 8, en := bit v 15 } }) s) 0
  | 0x98 => .done (modTrace (fun t => { t with rdIdx := field v 15 0 }) s) 0
  | _ => .refused s 1

/-! ### Meanings of the commands -/

/-- Meaning of SERVO_TICK (R266). -/
def execServoTick (us : Nat) (s : State) : Host.Outcome State Fault Refusal :=
  .next (servoTick us s)

/-- Meaning of TICK_ABANDONED (R268). -/
def execTickAbandoned (lateNs : Nat) (s : State) : Host.Outcome State Fault Refusal :=
  .next (tickAbandoned lateNs s)

/-- Meaning of TICK_GUARD (R269). -/
def execTickGuard (ticks : Nat) (s : State) : Host.Outcome State Fault Refusal :=
  .next (tickGuard ticks s)

/-- Meaning of SERVO_FAULT (R277). -/
def execServoFault (thr : Fin 16) (pitch : Bool) (s : State) : Host.Outcome State Fault Refusal :=
  .next (servoFaultCmd thr.val pitch s)

/-- Meaning of SRV_FAULT_CLEARED (R278). -/
def execSrvFaultCleared (thr : Fin 16) (pitch : Bool) (s : State) : Host.Outcome State Fault Refusal :=
  .next (servoFaultCleared thr.val pitch s)

end Sys2Proof.Machine
end

