-- ==== Sys2Proof/Machine/Domains.lean ====
section
/-!
DEFINITION. Power domains and what switching them does (R29 to R31, R521 to R523), lost engines (R32, R80), memory errors
(R43, R44, R544), the synchronising ports (R41), stage deadlines (R47), and what a reset of the module keeps (R77, R80).
-/
set_option autoImplicit false
namespace Sys2Proof.Machine

/-! ### Reset -/

/-- The supervisor runs: reset is not held and start-up phase 1 is over (R77, R516). -/
def State.suRuns (s : State) : Bool := !s.pwr.resetHeld && s.sup.startPhase != 1

/-- Sediment after a reset (R501, R502, R508): what MRAM and flash hold stays; records that were not durable are lost and told. -/
def keptLog (t : Nat) (l : LogState) : LogState :=
  let lost := (l.seq + 2 ^ 32 - l.flushed) % 2 ^ 32
  { epoch := l.epoch, seq := l.seq, flushed := l.flushed, oldest := l.oldest, durable := l.durable
    lastWords := l.lastWords, clearTime := l.clearTime, flushSec := t / 1000000000, globalAt := t, dropPending := lost }

/-- The store after a reset (R484, R492, R498, R513). -/
def keptStore (t : Nat) (b : AqfState) : AqfState :=
  { marker := b.marker, markerRestart := b.markerRestart, savedTime := b.savedTime, journal := b.journal, journalPeak := b.journal
    budget := b.savedBudget, savedBudget := b.savedBudget, budgetAt := t, lifeBytes := b.lifeBytes, eraseMax := b.eraseMax, eraseMin := b.eraseMin, txn := b.txn
    eraseMean := b.eraseMean, spare := b.spare, retired := b.retired, objs := b.objs, nextArch := b.nextArch }

/-- The module starts again at phase 1 (R77, R80, R83, R516): kept and factory values and the configuration key stay, everything
else takes its reset value, and module time is the flushed one (R469). -/
def resetModule (cause : Nat) (s : State) : State :=
  let t := s.aqf.savedTime
  { State.reset with
    log := keptLog t s.log
    sup :=
      { variantF := s.sup.variantF, serial := s.sup.serial, fwVersion := s.sup.fwVersion, startAt := t, upSince := t, resetCause := cause }
    tim :=
      { now := t, frameAt := t / 20000000 * 20000000, tickAt := t, scAt := t / 1000000 * 1000000, sampledAt := t / 1000000000
        dailyAt := t / dayNs, hourAt := t / 3600000000000 }
    gns := { queueEmptyAt := t }
    fus :=
      { refs := ({} : FusState).refs.map fun r => { r with kernelAt := t / 600000000000 }, storedHour := t / 3600000000000
        storedPeriod := t / 2592000000000000 }
    srv := { storeAt := t / 600000000000, snapAt := t / (90 * dayNs) }
    saf := { proofLast := s.saf.proofLast }
    ses :=
      { accounts := s.ses.accounts, siteCert := s.ses.siteCert, clogSeq := s.ses.clogSeq
        clog := s.ses.clog, clogLost := s.ses.clogLost }
    icx := { memberId := s.icx.memberId, ports := (List.range 3).map fun k => { phase := if s.portFitted k then .down else .notFitted } }
    aqf := keptStore t s.aqf
    cfg :=
      { keyPresent := s.cfg.keyPresent, keyBytes := if s.cfg.writing then [] else s.cfg.keyBytes, keyProtected := s.cfg.keyProtected
        confirmed := s.cfg.confirmed, p0Record := s.cfg.p0Record, mramCopy := s.cfg.mramCopy }
    free := s.free
    pending := s.pending }

/-! ### Switching domains (R31, R521, R522) -/

/-- Every connection and session ends, without their own closing rules, because the engine that serves them is gone (R80). -/
def sessionsGone (s : State) : State :=
  s.modSes fun b => { b with conns := [], checks := [], waiting := [], sessions := List.replicate 32 {} }

/-- The servos' states at the loss of their engine's domain; what was staged is not released, and the outputs keep their states until the guard
forces STOP (R269). -/
def servoOff (s : State) : State :=
  s.modSrv fun b => { b with staged := false, thr := b.thr.map fun t =>
    { t with az := { t.az with state := .stop }, pitch := { t.pitch with state := .stop } } }

/-- Every safe-stop pair is de-energised (R80, R533); CFk of one that was on must go high (R352). -/
def pairsOff (s : State) : State :=
  s.modSaf fun b => { b with pairs := b.pairs.map fun p => { p with
    hs := false, ls := false, fed := false, weirAt := none, testing := none
    cfExpect := if p.on then some (true, s.now) else p.cfExpect
    trips := if p.on then satInc 32 p.trips else p.trips } }

/-- With PD11 off the pairs are de-energised, and the alarm contact opens (R80, R368, R523). -/
def safetyOff (s : State) : State :=
  evalAlarm (pairsOff (s.modSaf fun b => { b with
    scOk := false, weirOk := false, entries := [], resetReq := none
    estops := b.estops.map fun e => { e with samples := [], scActive := false } }))

/-- What a domain's coming on does to the blocks in it (R77, R98, R183, R307, R320, R343, R376, R399, R413). -/
def domainOnAct (d : Nat) (s : State) : State :=
  match d with
  | 1 => antennasOn s
  | 2 => antennasOn s
  | 3 => s.modGns fun b => { b with acqWanted := false }
  | 5 => capacityChange (loadSlots s)
  | 8 => loadBank 0 s
  | 9 => loadBank 1 s
  | 10 => loadIcx (loadSerial (loadCan s))
  | 11 => loadSafety s
  | 12 => loadSignal s
  | _ => s

/-- What a domain's going off does to the blocks in it (R31, R100, R187, R314, R320, R523). -/
def domainOffAct (d : Nat) (s : State) : State :=
  match d with
  | 1 => frontEndOff 0 s
  | 2 => frontEndOff 1 s
  | 4 => gtOff s
  | 5 => slotsOff s
  | 6 => servoOff s
  | 8 => bankOff 0 s
  | 9 => bankOff 1 s
  | 10 => sessionsGone (icxOff (canOff (s.modEth fun b => { b with ports := b.ports.map fun p => { p with link := false, joined := [] } })))
  | 11 => safetyOff s
  | 12 => signalOff s
  | _ => s

/-- A domain is switched on; one that has tripped stays off until restart (R523). -/
def switchOn (d : Nat) (s : State) : State :=
  if s.domOn d || s.pwr.domFault.getLsbD d then s
  else domainOnAct d (s.modPwr fun b => { b with domOn := setBit b.domOn d true })

/-- A domain is switched off. -/
def switchOff (d : Nat) (s : State) : State :=
  if s.domOn d then domainOffAct d (s.modPwr fun b => { b with domOn := setBit b.domOn d false }) else s

/-! ### Lost engines (R32, R80) -/

/-- A start hold arises (R67). -/
def startHold (s : State) : State := s.modSup fun b => { b with held := true }

/-- The loss of a field bank holds the start only if one of its channels is essential (R80). -/
def essentialHold (k : Nat) (s : State) : State :=
  if (bankChans k).any fun ch => (s.fio.chan ch).cfg.essential then startHold s else s

/-- What the loss of an engine does beyond its tags (R80, R216, R368). -/
def engineGone (e : Nat) (s : State) : State :=
  if e < 8 then
    let s := loseSolver e s
    if s.slv.availCount = 0 then startHold s else s
  else match e with
    | 12 => gtOff s
    | 13 => evalAlarm (startHold (sessionsGone ((s.modSaf fun b => { b with ioFail := true }).modIcx fun b => { b with txns := [] })))
    | 14 => safHold s
    | _ => startHold s

/-- Solves that the loss of a solver engine ends: the one it runs or works for, and the one that waits on it (R212, R216). -/
def State.solvesOf (s : State) (e : Nat) : Nat :=
  if e < 8 then
    let x := s.slv.engine e
    ((x.slot.toList ++ (x.held.toList.filter fun i => x.slot != some i))).length
  else 0

/-- Tags that the loss of an engine abandons (R32, R59). -/
def State.tagsLost (s : State) (e : Nat) : Nat := (s.tags.open_.filter fun t => t.engine == e).length + s.solvesOf e

/-- An engine is lost with n tags (R32): ENGINE_LOST, and its tags complete ABANDONED. -/
def loseEngineOf (n e : Nat) (s : State) : State :=
  if (s.sup.engines.getD e {}).lost then s
  else
    let s := abandonTags e (s.modSup fun b => { b with engines := updAt b.engines e fun x => { x with lost := true } })
    engineGone e (s.raise 0x0116 e (leBytes 2 n))

/-- An engine is lost (R32). -/
def loseEngine (e : Nat) (s : State) : State := loseEngineOf (s.tagsLost e) e s

/-- ENGINE_LOST (R32): `frames` consecutive frames without a heartbeat; SC and SU are watched otherwise. -/
def engineLost (e frames : Nat) (s : State) : State :=
  if e < 14 ∧ 2 ≤ frames ∧ s.domOn (engineDomain e) = true ∧ s.suRuns = true then loseEngine e s else s

/-- Trip level of a domain, A (R523). -/
def tripLevel : Nat → Rat
  | 0 => 1/10 | 1 => 1/10 | 2 => 1/10 | 3 => 1/2 | 4 => 7/20 | 5 => 27/20 | 6 => 1/4 | 7 => 7/20 | 8 => 1/5 | 9 => 1/5 | 10 => 1/2
  | 11 => 3/20 | _ => 1/5

/-- Consequences of a tripped domain beyond its engines (R80, R523). -/
def domainGone (d : Nat) (s : State) : State :=
  match d with
  | 7 => setStore .failed (startHold s)
  | 8 => essentialHold 0 s
  | 9 => essentialHold 1 s
  | 10 => evalAlarm (startHold (s.modSaf fun b => { b with ioFail := true }))
  | 11 => safHold s
  | _ => s

/-- DOMAIN_FAULT (R523): a domain has drawn `amps` for `us`. -/
def domainFault (d : Nat) (amps : F32) (us : Nat) (s : State) : State :=
  let lvl := tripLevel d * clampQ (9/10) (11/10) (Config.tripFactor d)
  if us < 100 ∨ s.domOn d = false ∨ f32Finite amps = false ∨ f32Val amps ≤ lvl then s
  else
    let s := s.modPwr fun b => { b with domFault := setBit b.domFault d true }
    let s := s.raise 0x0214 d (leBytes 4 amps.toNat)
    if d = 0 then resetModule 4 s
    else
      let lost := ((List.range 15).filter fun e => engineDomain e == d).map fun e => (e, s.tagsLost e)
      let s := lost.foldl (fun s e => loseEngineOf e.2 e.1 s) (switchOff d s)
      domainGone d s

/-! ### The supervisor's own failure (R32, R80) -/

/-- SU is found dead: phase 1 is repeated after 1 s, at most three times (R80). -/
def suResetMonitor (s : State) : State :=
  if s.pwr.resetHeld || s.sup.suRetryAt.isSome then s
  else
    let n := s.sup.suRetries
    let s := resetModule 3 s
    s.modSup fun b => { b with suRetries := n, suRetryAt := some (s.now + 1000000000) }

/-- SU_RETRY (R80). -/
def suRetry (s : State) : State :=
  match s.sup.suRetryAt with
  | none => s
  | some t =>
    if s.pwr.resetHeld || decide (3 ≤ s.sup.suRetries) then s
    else
      let s := s.advance t
      s.modSup fun b => { b with suRetries := b.suRetries + 1, suRetryAt := none, startAt := s.now, upSince := s.now }

/-! ### Synchronising ports (R41) and stage deadlines (R47) -/

/-- A word crosses a port into the fabric; words that found the port's buffer full are lost and told (R41). -/
def syncPortWord (port dropped : Nat) (sample : Option (Nat × F32 × Nat)) (s : State) : State :=
  let s := s.raiseIf (decide (0 < dropped)) 0x0115 port (leBytes 2 (sat 16 dropped))
  match sample with
  | some (ch, raw, backUs) => if port = 1 then analogWord ch raw backUs s else s
  | none => s

/-- Frame time of a stage's deadline in ns (R45); 0 for a task that R49 bounds. -/
def stageLimit : Nat → Nat
  | 0 => 600000 | 1 => 3000000 | 2 => 6000000 | 3 => 12000000 | 4 => 15000000 | 5 => 16000000 | _ => 0

/-- STAGE_DEADLINE (R47): the deadline wins over the stage's completion, and the miss is recorded once. The MPC's deadline is R49's. -/
def stageDeadline (bit lateNs : Nat) (s : State) : State :=
  if bit = 6 then mpcDeadline s
  else if s.sup.stageDone.getLsbD bit || s.sup.stageMissed.getLsbD bit || !s.suRuns || !s.stagesRun || decide (5 < bit) then s
  else missStage bit lateNs (s.advance (s.tim.frameAt + stageLimit bit))

/-! ### Meanings of the commands -/

/-- Meaning of ENGINE_LOST (R32). -/
def execEngineLost (engine : Fin 16) (frames : Nat) (s : State) : Host.Outcome State Fault Refusal :=
  .next (engineLost engine.val frames s)

/-- Meaning of STAGE_DEADLINE (R47). -/
def execStageDeadline (stage : Fin 9) (lateNs : Nat) (s : State) : Host.Outcome State Fault Refusal :=
  .next (stageDeadline stage.val lateNs s)

/-- Meaning of SYNC_PORT_WORD (R41). -/
def execSyncPortWord (port : Fin 6) (dropped : Nat) (sample : Option (Fin 16 × F32 × Nat)) (s : State) : Host.Outcome
  State Fault Refusal :=
  .next (syncPortWord port.val dropped (sample.map fun x => (x.1.val, x.2)) s)

/-- Meaning of SU_RETRY (R80). -/
def execSuRetry (s : State) : Host.Outcome State Fault Refusal :=
  .next (suRetry s)

/-- Meaning of DOMAIN_FAULT (R523). -/
def execDomainFault (dom : Fin 13) (amps : F32) (us : Nat) (s : State) : Host.Outcome State Fault Refusal :=
  .next (domainFault dom.val amps us s)

/-- Meaning of SU_RESET_MONITOR (R32). -/
def execSuResetMonitor (s : State) : Host.Outcome State Fault Refusal :=
  .next (suResetMonitor s)

end Sys2Proof.Machine
end

