-- ==== Sys2Proof/Machine/Sha.lean ====
section
/-!
DEFINITION. The digests that R450 and R457 name: SHA-256 (FIPS 180-4), HMAC-SHA256 (RFC 2104) and PBKDF2-HMAC-SHA256 (RFC 8018)
with 100,000 iterations.
-/
set_option autoImplicit false
namespace Sys2Proof.Machine

/-- The largest whole number below 2^bits whose k-th power is at most n, found bit by bit from r on. -/
def rootFrom (k n : Nat) : Nat → Nat → Nat
  | 0, r => r
  | bits + 1, r => rootFrom k n bits (if (r + 2 ^ bits) ^ k ≤ n then r + 2 ^ bits else r)

/-- The first 32 bits of the fractional part of the k-th root of n, for a root below 8. -/
def rootFraction (k n : Nat) : Word := wordOf (rootFrom k (n * 2 ^ (32 * k)) 35 0 % 2 ^ 32)

/-- The 64 prime numbers up to 311. -/
def shaPrimes : List Nat := (List.range 312).filter fun p => decide (2 ≤ p) && (List.range 18).all fun d => decide (d < 2) || decide (p ≤ d) || p % d != 0

/-- Round constants of SHA-256, from the cube roots of the first 64 primes. -/
def shaK : List Word := shaPrimes.map (rootFraction 3)

/-- Initial hash value of SHA-256, from the square roots of the first eight primes. -/
def shaInit : List Word := (shaPrimes.take 8).map (rootFraction 2)

/-- Rotation right. -/
def rotr (w : Word) (n : Nat) : Word := w.rotateRight n

/-- The big-endian word of four bytes. -/
def beWord (b : Bytes) : Word := wordOf (b.foldl (fun n x => n * 256 + x.toNat) 0)

/-- The k low bytes of n, most significant first. -/
def beBytes (k n : Nat) : Bytes := (leBytes k n).reverse

/-- Consecutive pieces of k bytes, n of them. -/
def pieces (k : Nat) : Nat → Bytes → List Bytes
  | 0, _ => []
  | n + 1, b => b.take k :: pieces k n (b.drop k)

/-- The message schedule, newest word first, extended by n words. -/
def shaExtend : Nat → List Word → List Word
  | 0, w => w
  | n + 1, w =>
    let a := w.getD 14 0
    let e := w.getD 1 0
    let s0 := rotr a 7 ^^^ rotr a 18 ^^^ (a >>> 3)
    let s1 := rotr e 17 ^^^ rotr e 19 ^^^ (e >>> 10)
    shaExtend n ((w.getD 15 0 + s0 + w.getD 6 0 + s1) :: w)

/-- One round on the eight working variables. -/
def shaRound (v : List Word) (kw : Word × Word) : List Word :=
  match v with
  | [a, b, c, d, e, f, g, h] =>
    let s1 := rotr e 6 ^^^ rotr e 11 ^^^ rotr e 25
    let t1 := h + s1 + ((e &&& f) ^^^ (~~~ e &&& g)) + kw.1 + kw.2
    let s0 := rotr a 2 ^^^ rotr a 13 ^^^ rotr a 22
    let t2 := s0 + ((a &&& b) ^^^ (a &&& c) ^^^ (b &&& c))
    [t1 + t2, a, b, c, d + t1, e, f, g]
  | _ => v

/-- One block of 64 bytes. -/
def shaBlock (h : List Word) (b : Bytes) : List Word :=
  let w := (shaExtend 48 ((pieces 4 16 b).map beWord).reverse).reverse
  (h.zip ((shaK.zip w).foldl shaRound h)).map fun p => p.1 + p.2

/-- SHA-256 of a message. -/
def sha256 (m : Bytes) : Bytes :=
  let p := m ++ [0x80] ++ zeros ((119 - m.length % 64) % 64) ++ beBytes 8 (m.length * 8)
  (((pieces 64 (p.length / 64) p).foldl shaBlock shaInit).map fun w => beBytes 4 w.toNat).flatten

/-- Bytewise exclusive or. -/
def xorBytes (a b : Bytes) : Bytes := (a.zip b).map fun p => p.1 ^^^ p.2

/-- HMAC-SHA256. -/
def hmacSha256 (key m : Bytes) : Bytes :=
  let k := if 64 < key.length then sha256 key else key
  let k := k ++ zeros (64 - k.length)
  sha256 (xorBytes k (List.replicate 64 0x5C) ++ sha256 (xorBytes k (List.replicate 64 0x36) ++ m))

/-- n further iterations of PBKDF2 from U and T. -/
def pbkdf2Loop (password : Bytes) : Nat → Bytes → Bytes → Bytes
  | 0, _, t => t
  | n + 1, u, t => let v := hmacSha256 password u; pbkdf2Loop password n v (xorBytes t v)

/-- PBKDF2-HMAC-SHA256 of a password with 100,000 iterations, 32 bytes (R450). -/
def pbkdf2 (password salt : Bytes) : Bytes :=
  let u := hmacSha256 password (salt ++ beBytes 4 1)
  pbkdf2Loop password 99999 u u

/-- IDENTITY: the first 8 bytes of the SHA-256 of a name (R457). -/
def identityOf (name : Bytes) : Bytes := (sha256 name).take 8

end Sys2Proof.Machine
end

