-- ==== Sys2Proof/Machine/Session.lean ====
section
/-!
DEFINITION. Sessions, block SES (chapter 13_sessions_security.md, R440 to R459): connections, the request window, opening and closing
sessions, authentication and lockout, accounts, event pushes and the change log.
-/
set_option autoImplicit false
namespace Sys2Proof.Machine

/-! ### Change log (R457) -/

/-- The 64 bytes of an entry (R457). -/
def ChangeEntry.bytes (e : ChangeEntry) : Bytes :=
  let b := leBytes 8 e.time ++ leBytes 4 e.seq ++ leBytes 4 e.frame ++ [BitVec.ofNat 8 e.session, BitVec.ofNat 8 e.role,
    BitVec.ofNat 8 e.method, BitVec.ofNat 8 e.kind] ++ leBytes 4 e.target ++ leBytes 4 e.old ++ leBytes 4 e.new ++ leBytes 4 e.reqId
    ++ leBytes 4 e.source ++ (e.ident ++ zeros 8).take 8 ++ leBytes 2 e.detail ++ [BitVec.ofNat 8 e.member] ++ zeros 9
  b ++ leBytes 4 (crc32c b)

/-! ### Connections and messages (R441 to R444) -/

/-- One connection changed. -/
def modConn (c : Nat) (f : Conn → Conn) (s : State) : State :=
  s.modSes fun b => { b with conns := b.conns.map fun x => if x.id == c then f x else x }

/-- A connection is closed; a password check of it ends unanswered. -/
def dropConn (c : Nat) (s : State) : State :=
  s.modSes fun b => { b with conns := b.conns.filter fun x => x.id != c, checks := b.checks.filter fun x => x.conn != c }

/-- A response (R442). -/
def reply (conn type reqId status detail : Nat) (payload : Bytes) : OutMsg :=
  OutMsg.framed { conn := conn, type := type, reqId := reqId, status := status, detail := detail, flags := 1, payload := payload }

/-- Messages are taken: the IO core runs, and no full BIST does (R29, R80, R533). -/
def State.ioRuns (s : State) : Bool := s.engineRuns 13 && !s.saf.ioFail && !s.fullBist

/-! ### Closing and detaching (R447) -/

/-- A session returns to FREE (R447): window and cache are discarded, joystick ownership ends, and its waiting writes with it. The
connection that carried it stays, without a session (assumption log 27). -/
def closeSession (i cause : Nat) (s : State) : State :=
  let x := s.ses.session i
  if x.phase == .free then s
  else
    let s := x.outstanding.foldl (fun s o => completeTag (tagOf o.2) .cancelled s) s
    let s := s.modSes fun b => { b with
      sessions := updAt b.sessions i fun _ => {}
      waiting := b.waiting.filter fun w => w.session != i
      conns := b.conns.map fun c => if c.session == some i then { c with session := none } else c }
    joyRelease i (s.raise 0x1711 i [BitVec.ofNat 8 cause])

/-- An OPEN session becomes DETACHED and its connection is closed (R447). -/
def detachSession (i cause : Nat) (s : State) : State :=
  let x := s.ses.session i
  if x.phase != .open_ then s
  else
    let s := dropConn x.conn (modSession i (fun x => { x with phase := .detached, detachedAt := s.now }) s)
    s.raise 0x1712 i [BitVec.ofNat 8 cause]

/-- A connection is lost with what it carries (R447). -/
def loseConn (c cause : Nat) (s : State) : State :=
  match s.ses.conn c with
  | none => s
  | some x => match x.session with
    | some i => detachSession i cause s
    | none => dropConn c s

/-- A malformed message is answered when its REQ_ID can be read, and the connection is closed (R442). -/
def badFormat (c type : Nat) (reqId : Option Nat) (s : State) : State :=
  loseConn c 2 (match reqId with | some n => sendMsg (reply c type n 8 0 []) s | none => s)

/-- The header of a message is malformed (R442): it is cut short, its MAGIC, VERSION or LENGTH is wrong, or a reserved bit is set. -/
def headerBad (h : Bytes) : Bool :=
  decide (h.length < 16) || leAt h 0 2 != 0x514C || byteAt h 2 != 1 || decide (1040 < leAt h 8 2) || decide (8 ≤ leAt h 14 2)

/-- Reserved bytes of the payload of a request, by its TYPE (R443). -/
def reservedBytes (type : Nat) : List Nat :=
  match type with
  | 0x01 => [3] | 0x02 => [1, 2, 3] | 0x10 => [6, 7] | 0x11 => [2, 3] | 0x20 => [1, 10, 11] | 0x21 => [1, 10, 11] | 0x41 => [2, 3] | _ => []

/-- A message is malformed: its header, a length that its payload does not have, or a reserved byte of its payload (R442, R443). -/
def malformed (h p : Bytes) : Bool :=
  headerBad h || p.length != leAt h 8 2 || (reservedBytes (byteAt h 3)).any fun k => byteAt p k != 0

/-- REQ_ID of a header, when it can be read (R442). -/
def reqIdOf (h : Bytes) : Option Nat := if 8 ≤ h.length then some (leAt h 4 4) else none

/-- A malformed message arrives (R442); one that is not malformed is none of this command's. -/
def badMessage (c : Nat) (h p : Bytes) (s : State) : State :=
  if !malformed h p then s
  else
    let r := tcpIn c s
    if r.2 && s.ioRuns then badFormat c (byteAt h 3) (reqIdOf h) r.1 else r.1

/-! ### Lockout (R452) -/

/-- The entry of a source. -/
def SesState.source (b : SesState) (addr : Nat) : Option AuthSource := b.sources.find? fun x => x.addr == addr

/-- A source is locked out now (R452). -/
def State.lockedOut (s : State) (addr : Nat) : Bool :=
  match s.ses.source addr with
  | some x => match x.until_ with | some t => decide (s.now ≤ t) | none => false
  | none => false

/-- An entry as time has left it: a lockout that is over starts the count again, and 24 h without a failure return both to 0. -/
def AuthSource.fresh (x : AuthSource) (now : Nat) : AuthSource :=
  let x := match x.until_ with | some t => if t < now then { x with until_ := none, fails := 0 } else x | none => x
  if x.until_.isNone && decide (x.lastFail + dayNs ≤ now) then { x with fails := 0, n := 0 } else x

/-- Place of the entry whose lockout ends earliest, one that is not locked out counting as ending at once (R452). -/
def earliestSource (l : List AuthSource) : Option AuthSource :=
  l.foldl (fun a x => match a with | none => some x | some y => if x.until_.getD 0 < y.until_.getD 0 then some x else some y) none

/-- The table with an entry put in; the 65th source replaces the entry whose lockout ends earliest (R452). -/
def putSource (x : AuthSource) (l : List AuthSource) : List AuthSource :=
  let l := l.filter fun y => y.addr != x.addr
  let l := if 64 ≤ l.length then (match earliestSource l with | some y => l.filter fun z => z.addr != y.addr | none => l) else l
  l ++ [x]

/-- Seconds of the n-th lockout (R452). -/
def lockSeconds (n : Nat) : Nat := min 3840 (60 * 2 ^ (n - 1))

/-- An authentication failure (R452): 0 TLS, 1 certificate, 2 password, 3 resume. The fifth in a row locks the source out; one that ends
while a lockout is in force begins no second (assumption log 27). -/
def authFail (cause addr : Nat) (s : State) : State :=
  let x := ((s.ses.source addr).getD { addr := addr }).fresh s.now
  let s := (s.modSes fun b => { b with authFails := satInc 32 b.authFails }).raise 0x1715 0xFF
    (BitVec.ofNat 8 cause :: zeros 3 ++ leBytes 4 addr)
  let x := { x with fails := x.fails + 1, lastFail := s.now }
  if 5 ≤ x.fails ∧ x.until_.isNone = true then
    let n := x.n + 1
    let x := { x with n := n, until_ := some (s.now + lockSeconds n * 1000000000) }
    (s.modSes fun b => { b with sources := putSource x b.sources, lockouts := satInc 32 b.lockouts }).raise 0x1716 0xFF
      ([BitVec.ofNat 8 (min 255 n), 0] ++ leBytes 2 (lockSeconds n) ++ leBytes 4 addr)
  else s.modSes fun b => { b with sources := putSource x b.sources }

/-- A successful authentication returns a source's counts to 0 (R452). -/
def authOk (addr : Nat) (s : State) : State := s.modSes fun b => { b with sources := b.sources.filter fun x => x.addr != addr }

/-- LOCKOUT_END (R452). -/
def lockoutEnd (addr : Nat) (s : State) : State :=
  match s.ses.source addr with
  | some x => match x.until_ with
    | some t => if t ≤ s.now then s.modSes fun b => { b with sources := putSource { x with until_ := none, fails := 0 } b.sources } else s
    | none => s
  | none => s

/-- LOCKOUT_DECAY (R452): 24 h without a failure. -/
def lockoutDecay (addr : Nat) (s : State) : State :=
  match s.ses.source addr with
  | some x => if x.until_.isNone && decide (x.lastFail + dayNs ≤ s.now) then authOk addr s else s
  | none => s

/-! ### Opening and resuming (R445, R447, R449, R450) -/

/-- Code of the domain role (R423, R445). -/
def State.domainRole (s : State) : Nat := match s.icx.role with | .lead => 1 | .follow => 2 | .spare => 3 | .none_ => 0

/-- The payload of the responses to HELLO and RESUME (R445). -/
def State.helloPayload (s : State) (i : Nat) : Bytes :=
  let x := s.ses.session i
  [BitVec.ofNat 8 i, BitVec.ofNat 8 x.role, 0, 0] ++ leBytes 16 x.token ++ leBytes 8 s.now ++ leBytes 4 s.cfg.check
    ++ [BitVec.ofNat 8 s.domainRole, 0, 0, 0]

/-- The lowest index that a role may take; 30 and 31 are for ENGINEER and above (R445). -/
def SesState.freeIndex (b : SesState) (role : Nat) : Option Nat :=
  (List.range (if 2 ≤ role then 32 else 30)).find? fun i => (b.session i).phase == .free

/-- A HELLO that has authenticated opens a session (R445). -/
def openSession (c : Conn) (reqId method role : Nat) (name : Bytes) (s : State) : State :=
  let s := authOk c.addr s
  match s.ses.freeIndex role with
  | none => dropConn c.id (sendMsg (reply c.id 0x01 reqId 15 0 []) s)
  | some i =>
    let s := modSession i (fun _ =>
      { phase := .open_, role := role, method := method, port := c.port, conn := c.id, source := c.addr, opened := s.now
        ident := identityOf name, name := name, cert := if method = 0 then c.cert else none, token := Config.token s.free % 2 ^ 128
        lastMsg := s.now }) s
    let s := modConn c.id (fun x => { x with session := some i, hello := true }) s.draw
    let s := s.raise 0x1710 i ([BitVec.ofNat 8 role, BitVec.ofNat 8 method] ++ zeros 2 ++ leBytes 4 c.addr)
    sendMsg (reply c.id 0x01 reqId 0 0 (s.helloPayload i)) s

/-- The role that a client's certificate gives, if it meets every condition of R449. -/
def State.certRole (s : State) (x : ClientCert) : Option Nat :=
  let im := s.image
  if x.p256 && im.anchors.any (fun a => a.2 == x.anchor) && !im.denyList.contains x.serial
      && (!s.tim.confirmed || (decide (x.notBefore ≤ s.now) && decide (s.now ≤ x.notAfter))) then
    (im.roleMap.find? fun r => r.2.name == x.name).map fun r => r.2.role
  else none

/-- HELLO (R445, R449, R450, R452). A password is checked in its own time, one of a length that R450 does not allow with AUTH_FAILED for its answer.
A second HELLO on a connection is refused. -/
def hello (conn reqId method : Nat) (name password : Bytes) (s : State) : State :=
  match s.ses.conn conn with
  | none => s
  | some c =>
    let r := tcpIn conn s
    let s := r.1
    if !r.2 || !s.ioRuns || !c.tls then s
    else if 32 < name.length ∨ 1 < method ∨ (method = 0 ∧ 64 < password.length) then badFormat conn 0x01 (some reqId) s
    else if c.session.isSome || s.ses.checks.any (fun x => x.conn == conn) then sendMsg (reply conn 0x01 reqId 7 1 []) s
    else if s.lockedOut c.addr then sendMsg (reply conn 0x01 reqId 14 0 []) s
    else if method = 0 then
      match c.cert.bind s.certRole with
      | some role => openSession c reqId 0 role (match c.cert with | some x => x.name | none => []) s
      | none => sendMsg (reply conn 0x01 reqId 13 0 []) (authFail 1 c.addr s)
    else s.modSes fun b => { b with checks := b.checks ++ [{ conn := conn, reqId := reqId, name := name, password := password }] }

/-- A password's length is allowed (R450). -/
def passwordOk (p : Bytes) : Bool := decide (12 ≤ p.length) && decide (p.length ≤ 64)

/-- The account that a name and password open; P6 must be readable (R450, R483). -/
def State.accountFor (s : State) (name password : Bytes) : Option (Nat × Account) :=
  if s.aqf.phase == .failed || !passwordOk password then none
  else s.ses.accounts.find? fun a => a.2.name == name && a.2.hash == pbkdf2 password a.2.salt

/-- AUTH_CHECK_COMPLETE (R450): the check of a connection's HELLO ends. -/
def authCheck (conn : Nat) (s : State) : State :=
  match s.ses.checks.find? (fun x => x.conn == conn), s.ses.conn conn with
  | some k, some c =>
    if !s.ioRuns then s
    else
      let s := s.modSes fun b => { b with checks := b.checks.filter fun x => x.conn != conn }
      match s.accountFor k.name k.password with
      | some a => openSession c k.reqId 1 a.2.role a.2.name s
      | none => sendMsg (reply conn 0x01 k.reqId 13 0 []) (authFail 2 c.addr s)
  | _, _ => s

/-- RESUME (R447, R452). -/
def resume (conn reqId index token : Nat) (s : State) : State :=
  match s.ses.conn conn with
  | none => s
  | some c =>
    let r := tcpIn conn s
    let s := r.1
    if !r.2 || !s.ioRuns || !c.tls then s
    else if c.session.isSome || s.ses.checks.any (fun x => x.conn == conn) then sendMsg (reply conn 0x02 reqId 7 1 []) s
    else if s.lockedOut c.addr then sendMsg (reply conn 0x02 reqId 14 0 []) s
    else
      let x := s.ses.session index
      if index < 32 ∧ x.phase == .detached ∧ x.token = token ∧ (x.method ≠ 0 ∨ x.cert = c.cert) then
        let ms := msOf (s.now - x.detachedAt)
        let s := modSession index (fun x => { x with
          phase := .open_, conn := conn, source := c.addr, port := c.port, lastMsg := s.now }) (authOk c.addr s)
        let s := modConn conn (fun y => { y with session := some index, hello := true }) s
        let s := s.raise 0x1713 index (zeros 4 ++ leBytes 4 (sat 32 ms))
        sendMsg (reply conn 0x02 reqId 0 0 (s.helloPayload index)) s
      else sendMsg (reply conn 0x02 reqId 15 0 []) (authFail 3 c.addr s)

/-- Cipher suites, key exchange groups and signature algorithms that the module supports (R440): TLS_AES_128_GCM_SHA256 and
TLS_AES_256_GCM_SHA384; secp256r1 and x25519; ecdsa_secp256r1_sha256. -/
def tlsSuites : List Nat := [0x1301, 0x1302]
def tlsGroups : List Nat := [0x0017, 0x001D]
def tlsSigAlgs : List Nat := [0x0403]

/-- Parameters of an offer that the module supports. -/
def TlsOffer.suitesOk (o : TlsOffer) : List Nat := tlsSuites.filter o.suites.contains
def TlsOffer.groupsOk (o : TlsOffer) : List Nat := tlsGroups.filter o.groups.contains

/-- The offer has TLS 1.3 and a supported parameter of each kind (R440). -/
def TlsOffer.common (o : TlsOffer) : Bool :=
  o.versions.contains 0x0304 && !o.suitesOk.isEmpty && !o.groupsOk.isEmpty && tlsSigAlgs.any o.sigAlgs.contains

/-- The factory certificate (R455): subject common name "LQ-4816 " and the serial number, which is written in decimal (assumption log 27). -/
def State.factoryCert (s : State) : Bytes := Config.factoryCert ((("LQ-4816 " ++ toString s.sup.serial).toList).map fun c => BitVec.ofNat 8 c.toNat)

/-- The certificate that the module presents: the site certificate while P6 can be read, otherwise the factory certificate (R455, R483). -/
def State.deviceCert (s : State) : Bytes :=
  match s.ses.siteCert with
  | some d => if s.aqf.phase == .failed then s.factoryCert else d
  | none => s.factoryCert

/-- A supported parameter of those offered; which one, R440 leaves open. -/
def pickTls (l : List Nat) (n : Nat) : Nat := l.getD (Config.tlsChoice n % l.length) 0

/-- TLS_HANDSHAKE (R440, R452, R455). A pre-shared key and 0-RTT data are not taken up: the handshake is a full one. One that fails counts against its
source when nothing offered is supported, or when a client certificate was presented. -/
def tlsHandshake (conn : Nat) (o : TlsOffer) (cert : Option ClientCert) (s : State) : State :=
  match s.ses.conn conn with
  | none => s
  | some c =>
    let r := tcpIn conn s
    let s := r.1
    if !r.2 || !s.ioRuns || c.tls then s
    else if o.common && o.proves then
      modConn conn (fun x => { x with
        tls := true, cert := cert, suite := pickTls o.suitesOk s.free, group := pickTls o.groupsOk (s.free + 1), presented := s.deviceCert }) s.draw.draw
    else dropConn conn (if !o.common || cert.isSome then authFail 0 c.addr s else s)

/-- CONNECTION_TIMEOUT (R441): 10 s without a handshake, or 30 s without HELLO or RESUME. -/
def connTimeout (conn : Nat) (s : State) : State :=
  match s.ses.conn conn with
  | none => s
  | some c =>
    if (!c.tls && decide (c.accepted + 10000000000 ≤ s.now)) || (!c.hello && decide (c.accepted + 30000000000 ≤ s.now)) then dropConn conn s
    else s

/-- TLS_KEY_UPDATE (R440): accepted and answered. -/
def keyUpdate (conn : Nat) (s : State) : State :=
  let r := tcpIn conn s
  if r.2 then modConn conn (fun c => if c.tls then { c with keyUpdates := c.keyUpdates + 1 } else c) r.1 else r.1

/-- IDLE_TIMEOUT (R447). -/
def idleTimeout (i : Nat) (s : State) : State :=
  let x := s.ses.session i
  if x.phase == .open_ && decide (x.lastMsg + s.scalars.idleTimeout * 1000000000 ≤ s.now) then detachSession i 1 s else s

/-- DETACHED_EXPIRY (R447): 60 s in DETACHED. -/
def detachedExpiry (i : Nat) (s : State) : State :=
  let x := s.ses.session i
  if x.phase == .detached && decide (x.detachedAt + 60000000000 ≤ s.now) then closeSession i 1 s else s

/-! ### Request window (R446) -/

/-- How a request ID stands to a session's window (R446). -/
inductive IdClass where
  | above | unseen | seen | below
deriving DecidableEq, Repr

/-- The window's answer for an ID (R446). -/
def Session.classify (x : Session) (id : Nat) : IdClass :=
  match x.highest with
  | none => .above
  | some h =>
    if serialLater id h then .above
    else if 1023 < (h + 2 ^ 32 - id) % 2 ^ 32 then .below
    else if x.seen.contains id then .seen else .unseen

/-- An ID enters the window; what falls below it is forgotten (R446). -/
def enterId (id tag : Nat) (x : Session) : Session :=
  let h := if x.classify id == .above then id else x.highest.getD id
  let inside := fun n => decide ((h + 2 ^ 32 - n) % 2 ^ 32 ≤ 1023)
  { x with
    highest := some h, seen := id :: x.seen.filter inside, cache := x.cache.filter fun m => inside m.reqId
    outstanding := x.outstanding ++ [(id, tag)] }

/-- A duplicate of a request: the cached response with DUPLICATE, or nothing while the original is outstanding (R446). -/
def answerDuplicate (conn i id : Nat) (s : State) : State :=
  match (s.ses.session i).cache.find? fun m => m.reqId == id with
  | some m => sendMsg (OutMsg.framed { m with conn := conn, flags := 3 }) (s.modSes fun b => { b with duplicates := satInc 32 b.duplicates })
  | none => s

/-- A request of a session (R442, R446): `run` carries it out for the session's index and must answer it, now or later. -/
def sessionRequest (conn id type : Nat) (run : Nat → State → State) (s : State) : State :=
  match s.ses.conn conn with
  | none => s
  | some c =>
    let r := tcpIn conn s
    let s := r.1
    if !r.2 || !s.ioRuns || !c.tls then s
    else match c.session with
      | none => sendMsg (reply conn type id 12 0 []) s
      | some i =>
        let s := modSession i (fun x => { x with lastMsg := s.now }) s
        if id = 0 then badFormat conn type (some id) s
        else match (s.ses.session i).classify id with
          | .below => sendMsg (reply conn type id 10 0 []) s
          | .seen => answerDuplicate conn i id s
          | _ =>
            if 8 ≤ (s.ses.session i).outstanding.length then
              sendMsg (reply conn type id 11 0 []) (s.modSes fun b => { b with refusedFull := satInc 32 b.refusedFull })
            else
              let t := s.newTag 0x17 13
              run i (modSession i (enterId id t.word) (openTag t s))

/-! ### Pushes (R448) -/

/-- The 32 bytes of a record (R500). -/
def SedRecord.bytes (r : SedRecord) : Bytes :=
  leBytes 8 r.time ++ leBytes 2 r.code ++ leBytes 2 r.source ++ leBytes 4 r.seq ++ (r.data ++ zeros 16).take 16

/-- An event push on a connection (R442, R448). -/
def pushMsg (conn : Nat) (r : SedRecord) : OutMsg := OutMsg.framed { conn := conn, type := 0x31, flags := 4, payload := r.bytes }

/-- The queue of an OPEN session is sent, after a gap record when records were dropped (R448). -/
def sendPushes (i : Nat) (s : State) : State :=
  let x := s.ses.session i
  if x.phase != .open_ || x.push.isEmpty then s
  else
    let s := modSession i (fun x => { x with push := [], gap := 0 }) s
    let d := leBytes 4 x.gap
    let s := if x.gap = 0 then s
      else sendMsg (pushMsg x.conn { time := s.now, code := 0x1714, source := 0x1700 + i, data := s.eventData d }) (s.raise 0x1714 i d)
    x.push.foldl (fun s r => sendMsg (pushMsg x.conn r) s) s

/-- The queues of every session. -/
def sendAllPushes (s : State) : State := if s.ioRuns then s.forN 32 fun s i => sendPushes i s else s

/-! ### Requests that touch no register (R443, R448, R450) -/

/-- An answer without payload. -/
def answerPlain (conn id type i status detail : Nat) (s : State) : State := respond i (reply conn type id status detail []) s

/-- SUBSCRIBE (R448). -/
def subscribe (conn id : Nat) (mask : Word) (s : State) : State :=
  sessionRequest conn id 0x30 (fun i s => answerPlain conn id 0x30 i 0 0 (modSession i (fun x => { x with mask := mask.toNat }) s)) s

/-- KEEPALIVE (R443). -/
def keepAlive (conn id : Nat) (s : State) : State := sessionRequest conn id 0x7E (fun i s => answerPlain conn id 0x7E i 0 0 s) s

/-- CLOSE (R443, R447): the answer precedes the close. -/
def closeRequest (conn id : Nat) (s : State) : State :=
  sessionRequest conn id 0x7F (fun i s => closeSession i 0 (answerPlain conn id 0x7F i 0 0 s)) s

/-- A message of a type not in the table (R443). -/
def unknownMessage (conn id type : Nat) (s : State) : State :=
  sessionRequest conn id type (fun i s => answerPlain conn id type i 9 0 s) s

/-- Sessions opened on an account are closed (R450). -/
def closeAccount (name : Bytes) (s : State) : State :=
  s.forN 32 fun s i =>
    let x := s.ses.session i
    if x.phase != .free && x.method == 1 && x.name == name then closeSession i 3 s else s

/-- P6 takes the accounts (R450, R486); says whether it did. -/
def putAccounts (l : List (Nat × Account)) (s : State) : State × Bool :=
  let r := commitEssential 6 (Config.p6Bytes l.length) s
  (if r.2 then r.1.modSes fun b => { b with accounts := l } else r.1, r.2)

/-- The salt and hash of a new password (R450). -/
def newPassword (password : Bytes) (a : Account) (s : State) : Account :=
  let salt := leBytes 16 (Config.salt s.free)
  { a with salt := salt, hash := pbkdf2 password salt }

/-- Taking an account away, or lowering it, would leave no COMMISSIONER (R450). -/
def SesState.lastCommissioner (b : SesState) (k : Nat) : Bool :=
  b.accounts.any (fun a => a.1 == k && a.2.role == 3) && !b.accounts.any fun a => a.1 != k && a.2.role == 3

/-- What an ACCOUNT request does: status and detail with the table unchanged, or the account's index, the new table and its name. -/
def accountOp (op role : Nat) (name password : Bytes) (s : State) : (Nat × Nat) ⊕ (Nat × List (Nat × Account)) :=
  let l := s.ses.accounts
  let bad : (Nat × Nat) ⊕ (Nat × List (Nat × Account)) := .inl (7, 1)
  let found := l.find? fun a => a.2.name == name
  if name.isEmpty ∨ 32 < name.length ∨ 3 < role ∨ 3 < op then .inl (6, 0)
  else if (op = 0 ∨ op = 3) ∧ passwordOk password = false then .inl (6, 0)
  else match op, found with
    | 0, none =>
      match (List.range 32).find? fun k => (lookupK l k).isNone with
      | some k => .inr (k, l ++ [(k, newPassword password { name := name, role := role } s)])
      | none => bad
    | 1, some (k, _) => if s.ses.lastCommissioner k then bad else .inr (k, l.filter fun a => a.1 != k)
    | 2, some (k, a) =>
      if role < 3 ∧ s.ses.lastCommissioner k = true then bad else .inr (k, insertK l k { a with role := role })
    | 3, some (k, a) => .inr (k, insertK l k (newPassword password a s))
    | _, _ => bad

/-- ACCOUNT (R450): 0 add, 1 delete, 2 set role, 3 set password. -/
def account (conn id op role : Nat) (name password : Bytes) (s : State) : State :=
  sessionRequest conn id 0x40 (fun i s =>
    let done := answerPlain conn id 0x40 i
    if (s.ses.session i).role < roleCommissioner then done 4 0 s
    else match accountOp op role name password s with
      | .inl (st, d) => done st d s
      | .inr (k, l) => match putAccounts l s with
        | (s, false) => done 7 1 s
        | (s, true) =>
          let s := addChange i 2 k 0 0 id 0 s.draw
          let s := done 0 0 (s.raise 0x1717 i [BitVec.ofNat 8 op, BitVec.ofNat 8 k])
          if op = 1 ∨ op = 2 then closeAccount name s else s) s

/-- PASSWORD (R450): the session's own account; a wrong old password is an authentication failure (R452). -/
def passwordRequest (conn id : Nat) (old new : Bytes) (s : State) : State :=
  sessionRequest conn id 0x41 (fun i s =>
    let done := answerPlain conn id 0x41 i
    let x := s.ses.session i
    if !passwordOk old || !passwordOk new then done 6 0 s
    else match (if x.method = 1 then s.ses.accounts.find? fun a => a.2.name == x.name else none) with
      | none => done 7 1 s
      | some (k, a) =>
        if a.hash ≠ pbkdf2 old a.salt then done 13 0 (authFail 2 x.source s)
        else match putAccounts (insertK s.ses.accounts k (newPassword new a s)) s with
          | (s, false) => done 7 1 s
          | (s, true) => done 0 0 ((addChange i 2 k 0 0 id 0 s.draw).raise 0x1717 i [3, BitVec.ofNat 8 k])) s

/-! ### Registers (R458) -/

/-- The session shown at SESS_INFO. -/
def SesState.shown (b : SesState) : Session := b.session b.sel

/-- Value of an SES register; none where none is defined. -/
def sesRead (s : State) (off : Nat) : Option Word :=
  let b := s.ses
  let x := b.shown
  let count := fun p => (b.sessions.filter fun y => y.phase == p).length
  match off with
  | 0x10 => some (pack [(count .open_, 0, 6), (count .detached, 6, 6), (b2n (b.siteCert.isSome && s.aqf.phase != .failed), 12, 1), (b2n (!s.tim.confirmed), 13, 1),
      (b.accounts.length, 14, 6), ((b.sources.filter fun y => s.lockedOut y.addr).length, 20, 7)])
  | 0x14 => some (wordOf b.sel)
  | 0x18 => some (pack [((match x.phase with | .free => 0 | .open_ => 1 | .detached => 2), 0, 2), (x.role, 2, 2), (x.method, 4, 1),
      (x.port, 5, 1), (b2n (x.mask != 0), 6, 1), (x.outstanding.length, 8, 4)])
  | 0x1C => some (wordOf x.source)
  | 0x20 => some (loWord x.opened)
  | 0x24 => some (hiWord x.opened)
  | 0x28 => some (wordOf (leAt x.ident 0 4))
  | 0x2C => some (wordOf b.authFails)
  | 0x30 => some (wordOf b.lockouts)
  | 0x34 => some (wordOf b.duplicates)
  | 0x38 => some (wordOf b.clogSeq)
  | 0x3C => some (wordOf b.pushDrops)
  | 0x40 => some 0
  | 0x44 => some (pack [(b.cmdResult, 0, 4), (b.cmdSession, 4, 5)])
  | _ => none

/-- What a read clears (R22, R458). -/
def sesClear (off : Nat) (s : State) : State :=
  match off with
  | 0x2C => s.modSes fun b => { b with authFails := 0 }
  | 0x30 => s.modSes fun b => { b with lockouts := 0 }
  | 0x34 => s.modSes fun b => { b with duplicates := 0 }
  | 0x3C => s.modSes fun b => { b with pushDrops := 0 }
  | _ => s

/-- Writable SES registers (R458). -/
def sesWritable (off : Nat) : Bool := off == 0x14 || off == 0x40

/-- SES_CMD_RESULT (R458). -/
def sesResult (w : WCtx) (r : Nat) (s : State) : State := s.modSes fun b => { b with cmdResult := r, cmdSession := w.session }

/-- INSTALL_CERT (R455): the data written since the last install becomes the site certificate. -/
def installCert (w : WCtx) (s : State) : WriteOut :=
  match s.ses.siteStage with
  | none => .refused (sesResult w 4 s) 4
  | some d =>
    if !Config.certParses d then .refused (sesResult w 4 s) 3
    else if !Config.certDeviceKey d then .refused (sesResult w 4 s) 2
    else match commitEssential 6 (Config.p6Bytes s.ses.accounts.length) s with
      | (s, false) => .refused (sesResult w 1 s) 1
      | (s, true) =>
        let s := addChange w.session 3 7 0 (crc32c d) w.reqId 0 (s.modSes fun b => { b with siteCert := some d, siteStage := none })
        .done (sesResult w 0 (s.raise 0x1718 w.session [0])) 0

/-- USE_FACTORY (R455). -/
def useFactory (w : WCtx) (s : State) : WriteOut :=
  match commitEssential 6 (Config.p6Bytes s.ses.accounts.length) s with
  | (s, false) => .refused (sesResult w 1 s) 1
  | (s, true) => .done (sesResult w 0 ((s.modSes fun b => { b with siteCert := none }).raise 0x1718 w.session [1])) 0

/-- SES_CMD (R452, R455, R458): CLOSE needs ENGINEER or names its own session, every other action COMMISSIONER. -/
def sesCmd (w : WCtx) (v : Word) (s : State) : WriteOut :=
  let n := field v 4 0
  let act := field v 7 5
  let need := if act = 1 then (if n = w.session then roleObserver else roleEngineer) else roleCommissioner
  needRole w need (sesResult w 2 s) <|
    match act with
    | 1 => if (s.ses.session n).phase == .free then .refused (sesResult w 1 s) 1 else .done (closeSession n 2 (sesResult w 0 s)) 0
    | 2 => installCert w s
    | 3 => useFactory w s
    | 4 => .done (sesResult w 0 (s.modSes fun b => { b with sources := [] })) 0
    | _ => .refused (sesResult w 1 s) 1

/-- A write to an SES register (R458). -/
def sesWrite (w : WCtx) (off : Nat) (v : Word) (s : State) : WriteOut :=
  match off with
  | 0x14 => .done (s.modSes fun b => { b with sel := field v 4 0 }) 0
  | 0x40 => sesCmd w v s
  | _ => .refused s 1

/-! ### Meanings of the commands -/

/-- Meaning of TLS_HANDSHAKE (R440). -/
def execTlsHandshake (conn : Nat) (offer : TlsOffer) (cert : Option ClientCert) (s : State) : Host.Outcome State Fault Refusal :=
  .next (tlsHandshake conn offer cert s)

/-- Meaning of CONNECTION_TIMEOUT (R441). -/
def execConnectionTimeout (conn : Nat) (s : State) : Host.Outcome State Fault Refusal :=
  .next (connTimeout conn s)

/-- Meaning of HELLO (R445). -/
def execHello (req : Req) (method : Nat) (name password : Bytes) (s : State) : Host.Outcome State Fault Refusal :=
  .next (hello req.conn req.id method name password s)

/-- Meaning of AUTH_CHECK_COMPLETE (R450). -/
def execAuthCheckComplete (conn : Nat) (s : State) : Host.Outcome State Fault Refusal :=
  .next (authCheck conn s)

/-- Meaning of RESUME (R447). -/
def execResume (req : Req) (session : Nat) (token : BitVec 128) (s : State) : Host.Outcome State Fault Refusal :=
  .next (resume req.conn req.id session token.toNat s)

/-- Meaning of SUBSCRIBE (R448). -/
def execSubscribe (req : Req) (mask : Word) (s : State) : Host.Outcome State Fault Refusal :=
  .next (subscribe req.conn req.id mask s)

/-- Meaning of ACCOUNT (R450). -/
def execAccount (req : Req) (op role : Nat) (name password : Bytes) (s : State) : Host.Outcome State Fault Refusal :=
  .next (account req.conn req.id op role name password s)

/-- Meaning of PASSWORD (R450). -/
def execPassword (req : Req) (old new : Bytes) (s : State) : Host.Outcome State Fault Refusal :=
  .next (passwordRequest req.conn req.id old new s)

/-- Meaning of KEEPALIVE (R443). -/
def execKeepalive (req : Req) (s : State) : Host.Outcome State Fault Refusal :=
  .next (keepAlive req.conn req.id s)

/-- Meaning of CLOSE (R447). -/
def execClose (req : Req) (s : State) : Host.Outcome State Fault Refusal :=
  .next (closeRequest req.conn req.id s)

/-- Meaning of BAD_MESSAGE (R442). -/
def execBadMessage (conn : Nat) (header payload : Bytes) (s : State) : Host.Outcome State Fault Refusal :=
  .next (badMessage conn header payload s)

/-- Meaning of UNKNOWN_MESSAGE (R443). -/
def execUnknownMessage (req : Req) (type : Nat) (s : State) : Host.Outcome State Fault Refusal :=
  .next (unknownMessage req.conn req.id type s)

/-- Meaning of TRANSPORT_LOST (R447). -/
def execTransportLost (conn : Nat) (s : State) : Host.Outcome State Fault Refusal :=
  .next (loseConn conn 0 s)

/-- Meaning of IDLE_TIMEOUT (R447). -/
def execIdleTimeout (session : Fin 32) (s : State) : Host.Outcome State Fault Refusal :=
  .next (idleTimeout session.val s)

/-- Meaning of DETACHED_EXPIRY (R447). -/
def execDetachedExpiry (session : Fin 32) (s : State) : Host.Outcome State Fault Refusal :=
  .next (detachedExpiry session.val s)

/-- Meaning of LOCKOUT_END (R452). -/
def execLockoutEnd (source : Word) (s : State) : Host.Outcome State Fault Refusal :=
  .next (lockoutEnd source.toNat s)

/-- Meaning of LOCKOUT_DECAY (R452). -/
def execLockoutDecay (source : Word) (s : State) : Host.Outcome State Fault Refusal :=
  .next (lockoutDecay source.toNat s)

/-- Meaning of TLS_KEY_UPDATE (R440). -/
def execTlsKeyUpdate (conn : Nat) (s : State) : Host.Outcome State Fault Refusal :=
  .next (keyUpdate conn s)

end Sys2Proof.Machine
end

