-- ==== Sys2Proof/Machine/Thermal.lean ====
section
/-!
DEFINITION. Thermal supervision, block THM (R524 to R529, R538): sweeps, bands, their settings, and the throttle.
-/
set_option autoImplicit false
namespace Sys2Proof.Machine

/-- Code of a band (R538). -/
def Band.code : Band → Nat
  | .cold => 0 | .normal => 1 | .warm => 2 | .hot => 3 | .crit => 4 | .none => 5

/-- The band in whose range a temperature lies (R526). -/
def bandOf (t : Rat) : Band :=
  if 115 ≤ t then .crit else if 100 ≤ t then .hot else if 85 ≤ t then .warm else if -10 ≤ t then .normal else .cold

/-- A temperature lies below a band's lower edge by more than the hysteresis (R526); NORMAL is left for COLD at its edge. -/
def belowEdge (b : Band) (t : Rat) : Bool :=
  match b with
  | .warm => decide (t < 85 - 3) | .hot => decide (t < 100 - 3) | .crit => decide (t < 115 - 3) | .normal => decide (t < -10) | _ => false

/-- Band that a reading indicates for a sensor in a band; a failed reading counts as HOT, or as CRIT in CRIT (R525, R526). -/
def indicated (b : Band) (r : Option Rat) : Band :=
  match r with
  | none => if b == .crit then .crit else .hot
  | some t =>
    let x := bandOf t
    if b == .none then x
    else if b.code < x.code then (if b == .cold && decide (t < -7) then .cold else x)
    else if x.code < b.code && belowEdge b t then x
    else b

/-- Lowest and highest of bands. -/
def lowestBand (l : List Band) : Band := l.foldl (fun a b => if b.code < a.code then b else a) .crit
def highestBand (l : List Band) : Band := l.foldl (fun a b => if a.code < b.code then b else a) .cold

/-- A reading counts toward a change of a sensor's band: three in a row in one direction, and the first three of all (R526). -/
def countReading (r : Option Rat) (x : Sensor) : Sensor :=
  let i := indicated x.band r
  if x.band == .none then
    let l := x.run ++ [i]
    if 3 ≤ l.length then { x with band := highestBand l, run := [] } else { x with run := l }
  else if i == x.band then { x with run := [] }
  else
    let up := decide (x.band.code < i.code)
    let l := (if x.run.all fun y => decide (x.band.code < y.code) == up then x.run else []) ++ [i]
    if 3 ≤ l.length then { x with band := if up then lowestBand l else highestBand l, run := [] } else { x with run := l }

/-- One reading of a sensor: 0 a value, 1 open, 3 silent; a value outside −55 °C to +150 °C has failed with cause 2 (R525). -/
def readSensor (i : Nat) (r : Nat × F32) (s : State) : State × Option Rat :=
  let t := f32Val r.2
  let cause := if r.1 ≠ 0 then r.1 else if f32Finite r.2 && decide (-55 ≤ t) && decide (t ≤ 150) then 0 else 2
  let was := (s.thm.sensors.getD i {}).fault
  if cause = 0 then
    let s := s.modThm fun b => { b with
      sensors := updAt b.sensors i fun x => { x with fault := false, cause := 0, temp := t }
      tempMax := if b.tempSeen then maxQ b.tempMax t else t, tempSeen := true }
    let s := s.raiseIf was 0x0312 i (zeros 4 ++ f32Bytes t)
    (if i = 7 then carafeReading s else s, some t)
  else
    let s := s.modThm fun b => { b with sensors := updAt b.sensors i fun x => { x with fault := true, cause := cause } }
    (s.raiseIf (!was) 0x0311 i [BitVec.ofNat 8 cause], none)

/-- THERMAL_SWEEP (R525): at frame time 2 ms of frames at whole multiples of SWEEP_MS; a sensor without a reading is silent. -/
def thermalSweep (readings : List (Nat × F32)) (s : State) : State :=
  let f := s.tim.frameAt
  if !s.suRuns || !s.stagesRun || s.thm.sweepAt == some f || f % (s.scalars.sweepMs * 1000000) ≠ 0 then s
  else
    let s := (s.atFrame 2000).modThm fun b => { b with sweepAt := some f, sweep := [] }
    s.forN 9 fun s i =>
      let r := readSensor i (readings.getD i (3, 0)) s
      r.1.modThm fun b => { b with sweep := b.sweep ++ [r.2] }

/-- The sensor with the highest band, the lowest index on ties; a sensor without a band comes last (R538). -/
def State.hottest (s : State) : Nat :=
  let key := fun i => let b := (s.thm.sensors.getD i {}).band; if b == .none then 0 else b.code + 1
  (List.range 9).foldl (fun a i => if key a < key i then i else a) 0

/-- The module band that the sensors give (R526). -/
def State.moduleBand (s : State) : Band :=
  match (s.thm.sensors.map fun x => x.band).filter fun b => b != .none with
  | [] => .none
  | l => highestBand l

/-- Delay margin of a band (R37, R527). -/
def marginOf : Band → Margin
  | .normal => .narrow | .warm => .standard | _ => .wide

/-- DRAM refresh interval of a band, ms (R527). -/
def refreshOf : Band → Nat
  | .cold => 64 | .normal => 64 | .warm => 32 | _ => 16

/-- The throttle is enforced (R528, R529). -/
def enforceThrottle (s : State) : State :=
  if s.thm.enforced then s
  else
    let s := s.modThm fun b => { b with
      enforced := true, enforcedAt := s.now, graceEnd := none, throttleCount := satInc 32 b.throttleCount }
    traceStop false true (s.raise 0x0314 0xFF [BitVec.ofNat 8 s.thm.band.code])

/-- The band is HOT or above. -/
def Band.tooHot (b : Band) : Bool := b == .hot || b == .crit

/-- The throttle follows a change of the module band (R528). -/
def throttleBand (old new : Band) (s : State) : State :=
  if new.tooHot then
    if old.tooHot then s
    else
      let s := s.modThm fun b => { b with req := true }
      if new == .crit then s
      else (s.modThm fun b => { b with graceEnd := some (s.now + 10000000000) }).raise 0x0313 0xFF (leBytes 2 10000)
  else
    let s := s.raiseIf s.thm.enforced 0x0315 0xFF (zeros 4 ++ leBytes 4 ((s.now - s.thm.enforcedAt) / 1000000000))
    s.modThm fun b => { b with
      req := false, graceEnd := none, enforced := false
      armFrom := if b.enforced then s.tim.frameAt + 20000000 else b.armFrom }

/-- CRIT is entered or left (R529). -/
def critBand (old new : Band) (sensor : Nat) (t : Rat) (s : State) : State :=
  if new == .crit then
    let s := enforceThrottle (s.raise 0x0316 sensor (1 :: zeros 3 ++ f32Bytes t))
    conseqCheck (switchOff 3 s)
  else if old == .crit then conseqCheck (s.raise 0x0316 sensor (0 :: zeros 3 ++ f32Bytes t))
  else s

/-- The module band changes (R526 to R529). -/
def changeBand (new : Band) (s : State) : State :=
  let old := s.thm.band
  if old == new then s
  else
    let k := s.hottest
    let t := (s.thm.sensors.getD k {}).temp
    let r := refreshOf new
    let s := s.modThm fun b => { b with
      band := new, bandChanges := satInc 32 b.bandChanges
      refreshMs := min b.refreshMs r, refreshNext := if b.refreshMs < r then some r else none }
    let s := s.modSup fun b => { b with marginNext := marginOf new }
    let s := s.raise 0x0310 k ([BitVec.ofNat 8 old.code, BitVec.ofNat 8 new.code] ++ zeros 2 ++ f32Bytes t)
    critBand old new k t (throttleBand old new s)

/-- SWEEP_END (R526): the readings of the sweep count, and the bands are decided, 4.5 ms after its start. -/
def sweepEnd (s : State) : State :=
  if s.thm.sweep.isEmpty || !s.suRuns then s
  else
    let s := match s.thm.sweepAt with | some f => s.advance (f + 6500000) | none => s
    let s := s.modThm fun b => { b with sensors := b.sensors.mapIdx fun i x => countReading (b.sweep.getD i none) x, sweep := [] }
    changeBand s.moduleBand s

/-- THROTTLE_ENFORCED (R528): at the first frame instant after the grace. -/
def throttleEnforced (s : State) : State :=
  match s.thm.graceEnd with
  | some g => if s.suRuns && s.thm.band.tooHot && decide (g ≤ s.tim.frameAt) then enforceThrottle s else s
  | none => s

/-! ### Registers (R538) -/

/-- Value of a THM register; none where none is defined. -/
def thmRead (s : State) (off : Nat) : Option Word :=
  let b := s.thm
  let x := b.sensors.getD b.sensorSel {}
  match off with
  | 0x10 => some (pack [(b.band.code, 0, 3), (b2n b.req, 3, 1), (b2n b.enforced, 4, 1), (s.hottest, 5, 4),
      (bitsToNat (b.sensors.map fun y => y.fault), 9, 9)])
  | 0x14 => some (wordOf (match b.graceEnd with | some g => sat 16 (msOf (g - s.now)) | none => 0))
  | 0x18 => some (wordOf s.scalars.sweepMs)
  | 0x1C => some (wordOf b.refreshMs)
  | 0x20 => some (wordOf b.sensorSel)
  | 0x24 => some (f32Of x.temp)
  | 0x28 => some (pack [(x.band.code, 0, 3), (b2n x.fault, 3, 1), (x.cause, 4, 2), (x.run.length, 6, 2)])
  | 0x2C => some (wordOf b.bandChanges)
  | 0x30 => some (f32Of b.tempMax)
  | 0x34 => some (wordOf b.throttleCount)
  | _ => none

/-- What a read clears (R22, R538). -/
def thmClear (off : Nat) (s : State) : State :=
  match off with
  | 0x2C => s.modThm fun b => { b with bandChanges := 0 }
  | 0x34 => s.modThm fun b => { b with throttleCount := 0 }
  | _ => s

/-- Writable THM registers (R538). -/
def thmWritable (off : Nat) : Bool := off == 0x20

/-- A write to a THM register (R538). -/
def thmWrite (v : Word) (s : State) : WriteOut := selector v 3 8 s fun n => s.modThm fun b => { b with sensorSel := n }

/-! ### Meanings of the commands -/

/-- Meaning of THERMAL_SWEEP (R525). -/
def execThermalSweep (readings : List (Fin 4 × F32)) (s : State) : Host.Outcome State Fault Refusal :=
  .next (thermalSweep (readings.map fun x => (x.1.val, x.2)) s)

/-- Meaning of SWEEP_END (R526). -/
def execSweepEnd (s : State) : Host.Outcome State Fault Refusal :=
  .next (sweepEnd s)

/-- Meaning of THROTTLE_ENFORCED (R528). -/
def execThrottleEnforced (s : State) : Host.Outcome State Fault Refusal :=
  .next (throttleEnforced s)

end Sys2Proof.Machine
end

