-- ==== Sys2Proof/Machine/Bist.lean ====
section
/-!
DEFINITION. The built-in self-test, block BST (R530 to R535, R539, R540): the units and their expected signatures, the start-up,
partial, full and background kinds, and what a failed unit does.
-/
set_option autoImplicit false
namespace Sys2Proof.Machine

/-! ### Units and signatures (R530, R531) -/

/-- Expected signatures of the full test, by unit (R530). -/
def fullSigs : List Nat :=
  [0x3A91C4E7, 0x5C18E2A0, 0x8E630F5B, 0xB4D97A32, 0x2F7EB1C9, 0xD1A2659E, 0x6704D38B, 0xA9BD0E14,
   0x14C69F72, 0xF25A3806, 0x7B83E5D1, 0x0E49B72C, 0xC86F21A4, 0x3D27FC58, 0x91E04B3F, 0x58B41D96,
   0xE6D592A3, 0x2A3CD07E, 0x7FE12B95, 0xC05B8E61, 0x4897C1DA, 0x9B2674F0, 0x357DA8C2, 0xAE401F5D]

/-- Expected signatures of the partial test, by unit (R530). -/
def partSigs : List Nat :=
  [0x7D2058B3, 0x19F473DC, 0xC2A7961E, 0x4E0B2C85, 0x96D3E047, 0x3B581FA2, 0xE9C14A60, 0x5072BD39,
   0x8B3E07D5, 0x27E9C14B, 0xD4165A8E, 0x61AFD3F0, 0x1D508E67, 0xA78436B1, 0x4C3AE8D2, 0x58B41D96,
   0x0F976C41, 0xB261F9A8, 0x6D08A35C, 0x93F25D17, 0x1EC4B28F, 0xD7A905E3, 0x357DA8C2, 0x6B1CD794]

/-- Expected value of a unit for a kind of run: 0 START_UP, 1 PARTIAL, 2 FULL, 3 background (R530 to R532). -/
def expectedSig (kind u : Nat) : Nat := (if kind = 2 then fullSigs else partSigs).getD u 0

/-- Background units (R530). -/
def backgroundUnit (u : Nat) : Bool := decide (u < 14) || u == 15

/-- The domains a unit needs (R29, R530). -/
def unitDomains (u : Nat) : List Nat :=
  if u < 16 then [engineDomain u]
  else match u with | 16 => [11] | 17 => [1, 2, 3] | 18 => [12] | 19 => [8] | 20 => [9] | 21 => [7] | 23 => [10] | _ => [0]

/-- Units that a kind of run tests (R532). -/
def State.unitsRun (s : State) (kind : Nat) : List Nat :=
  match kind with
  | 1 => indices 24 backgroundUnit
  | 2 => List.range 24
  | _ => indices 24 fun u => (unitDomains u).all s.domOn

/-! ### A failed unit (R80, R535) -/

/-- An engine is retired by its BIST; at runtime it is lost as well (R32, R535). -/
def retireEngine (e : Nat) (s : State) : State :=
  let s := s.modSup fun b => { b with engines := updAt b.engines e fun x => { x with retired := true } }
  if s.startDone then loseEngine e s else engineGone e s

/-- The consequences of a failed unit (R80, R535). -/
def unitGone (u : Nat) (s : State) : State :=
  if u < 14 then retireEngine u s
  else match u with
    | 14 => safHold (pairsOff (retireEngine 14 (s.modSaf fun b => { b with scOk := false })))
    | 15 => suResetMonitor s
    | 16 => safHold (pairsOff (s.modSaf fun b => { b with weirOk := false }))
    | 17 => frontEndOff 1 (frontEndOff 0 s)
    | 18 => signalOff s
    | 19 => essentialHold 0 (bankFailed 0 s)
    | 20 => essentialHold 1 (bankFailed 1 s)
    | 21 => startHold s
    | 22 => setStore .failed s
    | _ => engineGone 13 s

/-- A unit fails (R535): it is retired until restart. Kind 3 is background. -/
def unitFail (u kind sig : Nat) (s : State) : State :=
  if s.bst.failedMask.getLsbD u then s
  else
    let s := s.modBst fun b => { b with failedMask := setBit b.failedMask u true }
    unitGone u (s.raise 0x0411 u ([BitVec.ofNat 8 kind] ++ zeros 3 ++ leBytes 4 sig))

/-! ### Runs (R531 to R533) -/

/-- The result of a unit: its signature against the expected value of the kind (R531). -/
def BistUnit.judged (kind u sig : Nat) (x : BistUnit) : BistUnit :=
  { x with sig := sig, expect := expectedSig kind u, result := if sig = expectedSig kind u then 1 else 2 }

/-- A run ends (R531, R533, R539): the signatures found, the device signature, and what failed. A supervisor that fails starts the module
again (R80), and the run with it. -/
def finishBist (kind : Nat) (sigs : List Word) (s : State) : State :=
  let l := s.unitsRun kind
  let sig := fun u => (sigs.getD u 0).toNat
  let good := fun u => l.contains u && sig u == expectedSig kind u
  let s := s.modBst fun b => { b with
    state := 2, kind := kind, pass := l.all good, passMask := maskOf 24 good
    units := b.units.mapIdx fun u x => if l.contains u then x.judged kind u (sig u) else x
    devSig := crc64 ((List.range 24).flatMap fun u => leBytes 4 (if l.contains u then sig u else 0)) }
  (l.filter fun u => !good u).foldl (fun s u => if s.sup.suRetryAt.isSome then s else unitFail u kind (sig u) s) s

/-- Phase 6 of start-up runs. -/
def State.startUpTests (s : State) : Bool := s.sup.startPhase == 6 && s.suRuns && s.pwr.supply == .normal

/-- START_UP_BIST (R77, R79, R532): phase 6. -/
def startUpBist (sigs : List Word) (s : State) : State :=
  if !s.startUpTests then s
  else
    let s := s.modSaf fun b => { b with scOk := s.domOn 11, weirOk := s.domOn 11 }
    let s := finishBist 0 sigs s
    if s.sup.startPhase != 6 then s
    else
      let bad := s.bst.failedMask
      let s := if bad = 0 then s
        else (s.modSup fun b => { b with startFault := setBit b.startFault 8 true }).raise 0x0127 8
          ([6] ++ zeros 3 ++ leBytes 4 bad.toNat)
      s.modSup fun b => { b with startPhase := 7 }

/-- A commanded run begins (R532, R539). -/
def beginBist (kind : Nat) (s : State) : State :=
  let l := s.unitsRun kind
  s.modBst fun b => { b with
    state := 1, kind := kind, pass := false, passMask := 0
    units := b.units.mapIdx fun u x => if l.contains u then { x with result := 3 } else x }

/-- After the response to a FULL command (R533): sessions close, the pairs open, the field links fall silent, and what DRAM and the
engines' memories held for solves, traces and staged transfers is lost (R532). -/
def beginFull (s : State) : State :=
  if !s.fullBist then s
  else
    let s := s.modBst fun b => { b with restartNeeded := true }
    let s := s.forN 32 fun s i => closeSession i Config.bistCloseCause s
    let s := pairsOff s
    let s := slotsOff s
    let s := s.modSrv fun b => { b with trace := { b.trace with phase := .idle, chans := b.trace.chans.map fun c => { c with data := [] } } }
    let s := s.modAqf fun b => { b with export_ := none, import_ := [], importLen := 0 }
    s.modCfg fun b => { b with staged := [], stagedLen := 0 }

/-- BIST_DONE (R533): a commanded run completes. -/
def bistDone (sigs : List Word) (s : State) : State :=
  if s.bst.state != 1 || !(s.bst.kind == 1 || s.bst.kind == 2) || !s.suRuns then s
  else
    let s := finishBist s.bst.kind sigs s
    if s.sup.suRetryAt.isSome then s
    else s.raise 0x0410 0xFF ([BitVec.ofNat 8 s.bst.kind, BitVec.ofNat 8 (b2n s.bst.pass)] ++ zeros 2 ++ leBytes 8 s.bst.devSig)

/-! ### Background slices (R534) -/

/-- Slices of a unit in a round (R534). -/
def slicesOf (u : Nat) : Nat := if u < 8 then 16 else if u = 11 then 256 else 64

/-- Background slices run: STANDBY and modes 2 to 4, with no commanded run (R532); BST_STATUS BG_ON. -/
def State.bgOn (s : State) : Bool :=
  s.suRuns && s.startDone && s.bst.state != 1 && (s.sup.mode == .standby || releasesThrust s.sup.mode)

/-- A unit can take slices: it is tested in the background and works. -/
def State.sliceUnit (s : State) (u : Nat) : Bool :=
  backgroundUnit u && !s.bst.failedMask.getLsbD u && (unitDomains u).all s.domOn && !(s.sup.engines.getD u {}).lost

/-- Background units that have to complete a round. -/
def State.bgUnits (s : State) : List Nat := indices 24 s.sliceUnit

/-- Slices that a unit has taken in this frame. -/
def State.slicesNow (s : State) (u : Nat) : Nat :=
  let x := s.bst.units.getD u {}
  if x.sliceFrame = some s.frame then x.sliceCount else 0

/-- The unit whose turn it is to take the frame's slice: one with a slice to repeat, else the next one after the last, in ascending order and
round again, of those that have slices left in the round (R534; the order DEDUCED, assumption log 29). -/
def State.sliceTurn (s : State) : Option Nat :=
  let left := s.bgUnits.filter fun u => decide (8 ≤ u) && !s.bst.bgDone.getLsbD u
  let again := left.find? fun u => (s.bst.units.getD u {}).repeat_
  (again.or (left.find? fun u => decide (s.bst.bgLast < u))).or left.head?

/-- A unit takes a slice now (R532, R534). A partial run gives each unit one slice a frame and SV four; in the background one unit takes one.
The solver engines' slices run beside them as work of priority 3, so on an engine that neither runs nor holds anything and finds no queued work
(R219). A slice that failed is repeated in a later frame. -/
def State.takesSlice (s : State) (u : Nat) : Bool :=
  let x := s.bst.units.getD u {}
  s.sliceUnit u && !(x.repeat_ && x.sliceFrame == some s.frame)
    && (if s.bst.state == 1 then s.bst.kind == 1 else s.bgOn && !s.bst.bgDone.getLsbD u)
    && (if u < 8 then (s.slv.engine u).slot.isNone && (s.slv.engine u).held.isNone && (s.nextWork u).isNone
      else if s.bst.state == 1 then decide (s.slicesNow u < if u = 11 then 4 else 1)
      else s.bgUnits.all (fun w => decide (w < 8) || s.slicesNow w == 0) && s.sliceTurn == some u)

/-- A round is complete once every background unit has run all its slices (R534). -/
def closeRound (s : State) : State :=
  if s.bst.state != 1 && s.bgUnits.all fun u => s.bst.bgDone.getLsbD u then
    s.modBst fun b => { b with
      bgDone := 0, bgRoundAt := s.now, bgRoundMs := sat 16 (msOf (s.now - b.bgRoundAt)), bgRounds := satInc 32 b.bgRounds }
  else s

/-- The first slice of a round sets its beginning. -/
def openRound (s : State) : State :=
  if s.bst.bgDone = 0 ∧ s.bst.units.all (fun x => x.slice == 0 && !x.repeat_) = true then s.modBst fun b => { b with bgRoundAt := s.now } else s

/-- A background round of a unit that passes: its signature is the expected one (R531, R539; DEDUCED, assumption log 29). -/
def BistUnit.passed (u : Nat) (x : BistUnit) : BistUnit := { x with sig := expectedSig 3 u, expect := expectedSig 3 u, result := 1 }

/-- A slice of SC's own self-test (R366), which is no background unit (R530): its failure is SC_INTERNAL, until restart (R357). -/
def scSlice (good : Bool) (s : State) : State :=
  if good || !s.scRuns || s.saf.scInternal then s
  else s.modSaf fun b => { b with
    scInternal := true
    entries := b.entries ++ [{ cause := 3, mask := b.defined, immediate := true }] }

/-- BG_SLICE (R534): the next slice of a unit, or its repeat, and whether its signature is the expected one. -/
def bgSlice (u : Nat) (good : Bool) (sig : Word) (s : State) : State :=
  if u = 14 then scSlice good s
  else if !s.takesSlice u then s
  else
    let s := openRound s
    let x := s.bst.units.getD u {}
    let n := s.slicesNow u + 1
    let s := s.modBst fun b => { b with
      bgLast := if u < 8 then b.bgLast else u
      units := updAt b.units u fun y => { y with sliceFrame := some s.frame, sliceCount := n } }
    let mod := fun (f : BistUnit → BistUnit) (s : State) => s.modBst fun b => { b with units := updAt b.units u f }
    if good then
      let last := decide (slicesOf u ≤ x.slice + 1)
      let s := mod (fun y => { y with slice := if last then 0 else y.slice + 1, repeat_ := false }) s
      let s := if last && s.bst.state != 1 then mod (BistUnit.passed u) s else s
      if last then closeRound (s.modBst fun b => if b.state == 1 then b else { b with bgDone := setBit b.bgDone u true }) else s
    else
      let s := mod (fun y => { y with repeat_ := !x.repeat_, bgFails := satInc 8 y.bgFails }) s
      let s := s.raise 0x0412 u (leBytes 2 x.slice ++ [if x.repeat_ then 2 else 1])
      if x.repeat_ then
        let kind := if s.bst.state == 1 then 1 else 3
        unitFail u kind sig.toNat (mod (fun y => { y with sig := sig.toNat, expect := expectedSig 3 u, result := 2 }) s)
      else s

/-! ### Registers (R539) -/

/-- Value of a BST register; none where none is defined. -/
def bstRead (s : State) (off : Nat) : Option Word :=
  let b := s.bst
  let x := b.units.getD b.unitSel {}
  match off with
  | 0x10 => some (pack [(b.state, 0, 2), (b.kind, 2, 2), (b2n b.pass, 4, 1), (b2n s.bgOn, 5, 1)])
  | 0x14 => some (b.passMask.setWidth 32)
  | 0x18 => some (b.failedMask.setWidth 32)
  | 0x1C => some (loWord b.devSig)
  | 0x20 => some (hiWord b.devSig)
  | 0x24 => some (wordOf b.unitSel)
  | 0x28 => some (wordOf x.sig)
  | 0x2C => some (wordOf x.expect)
  | 0x30 => some (pack [(x.result, 0, 2), (x.bgFails, 8, 8)])
  | 0x34 => some (wordOf b.bgRoundMs)
  | 0x38 => some (wordOf b.bgRounds)
  | 0x3C => some 0
  | 0x40 => some (pack [(b.cmdResult, 0, 4), (b.cmdSession, 4, 5)])
  | _ => none

/-- What a read clears (R22, R539). -/
def bstClear (off : Nat) (s : State) : State :=
  match off with
  | 0x38 => s.modBst fun b => { b with bgRounds := 0 }
  | _ => s

/-- Writable registers (R539). -/
def bstWritable (off : Nat) : Bool := off == 0x24 || off == 0x3C

/-- BST_CMD_RESULT is set (R539). -/
def bstResult (w : WCtx) (r : Nat) (s : State) : State := s.modBst fun b => { b with cmdResult := r, cmdSession := w.session }

/-- BST_CMD (R532, R539). -/
def bstCmd (w : WCtx) (v : Word) (s : State) : WriteOut :=
  let act := field v 1 0
  let refuse := fun r => WriteOut.refused (bstResult w r s) r
  needRole w roleEngineer (bstResult w 2 s)
    (if act = 0 ∨ act = 3 then refuse 1
    else if s.bst.state = 1 ∧ s.bst.kind ≠ 0 then refuse 3
    else if act = 1 then
      if s.sup.mode == .standby || s.sup.mode == .service then .done (bstResult w 0 (beginBist 1 s)) 0 else refuse 1
    else if s.sup.mode != .service || field v 15 8 != 0x5A || s.srv.test.isSome || s.saf.proof == .running then refuse 1
    else .done (bstResult w 0 (beginBist 2 s)) 0)

/-- A write to a BST register. -/
def bstWrite (w : WCtx) (off : Nat) (v : Word) (s : State) : WriteOut :=
  match off with
  | 0x24 => selector v 4 23 s fun n => s.modBst fun b => { b with unitSel := n }
  | _ => bstCmd w v s

/-! ### Meanings of the commands -/

/-- Meaning of START_UP_BIST (R532). -/
def execStartUpBist (sigs : List Word) (s : State) : Host.Outcome State Fault Refusal :=
  .next (startUpBist sigs s)

/-- Meaning of BG_SLICE (R534). -/
def execBgSlice (unit : Fin 24) (good : Bool) (sig : Word) (s : State) : Host.Outcome State Fault Refusal :=
  .next (bgSlice unit.val good sig s)

/-- Meaning of BIST_DONE (R533). -/
def execBistDone (sigs : List Word) (s : State) : Host.Outcome State Fault Refusal :=
  .next (bistDone sigs s)

end Sys2Proof.Machine
end

