-- ==== Sys2Proof/Machine/Commit.lean ====
section
/-!
DEFINITION. What the clients of Aquifer do when a write of theirs completes (R289, R473, R486, R512), and the small write that a flush
commits (R495).
-/
set_option autoImplicit false
namespace Sys2Proof.Machine

/-- A completed write at its client (R289, R473, R512). -/
def clientDone (w : StoreWrite) (r : StoreResult) (s : State) : State :=
  match w.data with
  | .profile p => profileDone w.key w.tag r p s
  | .carafe m => if r == .ok then carafeStored m s else s.modTim fun b => { b with modelDirty := true }
  | .hotStart _ => s
  | .refModel _ => if r == .ok then s else modelFailed w.key s
  | .bytes _ =>
    if w.key.part = 5 then
      (s.modAqf fun b => { b with archiving := false }).raiseIf (r == .ok) 0x1A19 0xFF (leBytes 2 w.key.tag ++ zeros 2 ++ leBytes 4 w.size)
    else s

/-- A write completes: committed, or prevented by its media (R486, R487). -/
def commitClient (w : StoreWrite) (media : Bool) (s : State) : State :=
  clientDone w (if media then .media else .ok) (commitWrite w media s)

/-- A small write whose BEGIN entry was written is committed by the flush (R495). -/
def flushSmall (s : State) : State :=
  match s.aqf.writes.find? (fun w => w.begun && decide (w.size ≤ 32768)) with
  | some w => commitClient w false s
  | none => s

end Sys2Proof.Machine
end

