-- ==== Sys2Proof/Machine/Power.lean ====
section
/-!
DEFINITION. The supply, block PWR (R516 to R523, R537, R540): the power-fail warning, its flush and release, reset, the two inputs,
and the domains that are switched with the mode (R521, R522).
-/
set_option autoImplicit false
namespace Sys2Proof.Machine

/-! ### Switching with the mode (R522) -/

/-- A domain of the switch-on order comes on; PD1 and PD2 come with PD4, and SV's profiles load with PD6 (R290, R522). -/
def modeSwitchOn (d : Nat) (s : State) : State :=
  match d with
  | 4 => switchOn 2 (switchOn 1 (switchOn 4 s))
  | 6 => if s.domOn 6 then s else reloadProfiles (switchOn 6 s)
  | _ => switchOn d s

/-- A change out of DORMANT is accepted: PD4 with PD1 and PD2 at once, PD6 and PD5 to follow in 10 ms steps (R522). -/
def beginDomainsOn (s : State) : State :=
  modeSwitchOn 4 (s.modPwr fun b => { b with onQueue := [6, 5], onAt := s.now, dormantSince := none })

/-- MODE_DOMAIN_SWITCH_ON: the next domain of the order, 10 ms after the previous one (R522). -/
def modeDomainSwitchOn (s : State) : State :=
  match s.pwr.onQueue with
  | [] => s
  | d :: ds =>
    let t := s.pwr.onAt + 10000000
    if s.tim.frameAt + 20000000 < t then s
    else
      let s := s.advance t
      modeSwitchOn d (s.modPwr fun b => { b with onQueue := ds, onAt := t })

/-- Writes of FC's models and GT's hot-start data that are outstanding (R522). -/
def waitsPd4 (w : StoreWrite) : Bool := w.key.part == 3 || (w.key.part == 2 && w.key.kind == 1)

/-- Profile writes that are outstanding or queued (R289, R522). -/
def State.waitsPd6 (s : State) : Bool :=
  s.aqf.writes.any (fun w => w.key.part == 1) || s.srv.thr.any fun t => t.storeQueued || t.storing.isSome

/-- In DORMANT PD4 and PD6 are switched off once their writes have completed (R522); a wake keeps PD4 (R124). -/
def dormantCheck (s : State) : State :=
  if s.pwr.dormantSince.isNone || s.sup.mode != .dormant then s
  else
    let s := if s.aqf.writes.any waitsPd4 || s.gns.wakeAt.isSome then s else switchOff 4 s
    let s := if s.waitsPd6 then s else switchOff 6 s
    if s.domOn 4 || s.domOn 6 then s else s.modPwr fun b => { b with dormantSince := none }

/-- The writes of a kind are abandoned (R522): they never complete, and their tags end ABANDONED; the models among them count as changed still
(R171). -/
def abandonWrites (p : StoreWrite → Bool) (s : State) : State :=
  (s.aqf.writes.filter p).foldl (fun s w => let s := completeTag w.tag .abandoned s; if w.key.part = 3 then modelFailed w.key s else s)
    (s.modAqf fun b => { b with writes := b.writes.filter fun w => !p w })

/-- DORMANT_SWITCH_OFF_TIMEOUT (R522): 10 s after entry what has not completed is abandoned and the domains go off. -/
def dormantTimeout (s : State) : State :=
  match s.pwr.dormantSince with
  | none => s
  | some t =>
    if s.sup.mode != .dormant || decide (s.tim.frameAt + 20000000 < t + 10000000000) then s
    else
      let s := s.advance (t + 10000000000)
      let s := abandonWrites (fun w => w.key.part == 1 || waitsPd4 w) s
      let s := s.modSrv fun b => { b with thr := b.thr.map fun x => { x with dirty := x.dirty || x.storing.isSome, storeQueued := false, storing := none } }
      dormantCheck s

/-! ### Warning, release and reset (R516 to R519) -/

/-- Code of a phase of a key write (R569). -/
def KeyPhase.code : KeyPhase → Nat
  | .idle => 0 | .check => 1 | .erase => 2 | .program => 3 | .verify => 4 | .header => 5 | .done => 6 | .failed => 7

/-- Greatest lengths of the first four phases of a write of `len` bytes, in ns (R566). -/
def keyPhaseMax (len : Nat) : List Nat := [200000000, (len + 65535) / 65536 * 1000000000, (len + 255) / 256 * 1500000, len * 50]

/-- Instants, after its start, at which the first four phases of the write have ended: each takes its own time, up to its greatest
(R566; the time itself is free). -/
def CfgState.phaseEnds (b : CfgState) : List Nat :=
  let d := (List.range 4).map fun k => min ((keyPhaseMax b.stagedLen).getD k 0) (Config.keyPhaseNs (k + 1) b.writeStart)
  (List.range 4).map fun k => (d.take (k + 1)).foldl (· + ·) 0

/-- WRITE_PROGRESS PHASE (R566, R569): a running write passes phases 1 to 5. -/
def State.keyPhase (s : State) : Nat :=
  if s.cfg.writing then 1 + (s.cfg.phaseEnds.filter fun t => decide (s.cfg.writeStart + t ≤ s.now)).length else s.cfg.phase.code

/-- WRITE_PROGRESS PCT (R569): the share of a running write is free. -/
def State.keyPct (s : State) : Nat :=
  if s.cfg.writing then min 100 (Config.keyShare s.cfg.stagedLen (s.now - s.cfg.writeStart)) else s.cfg.pct

/-- A key write in progress fails in a phase (R567). The header block was erased first, so the key's header reads all ones. -/
def failKeyWrite (cause phase : Nat) (s : State) : State :=
  (s.modCfg fun b => { b with phase := .failed, pct := s.keyPct, keyBytes := [] }).raise 0x1C15 s.cfg.writer
    [BitVec.ofNat 8 cause, BitVec.ofNat 8 phase]

/-- The write of the last positions, a small write of the flush, is committed (R123, R495). -/
def commitHotStart (s : State) : State :=
  match s.aqf.writes.find? fun w => w.key == hotKey && w.begun with
  | some w => commitWrite w false s
  | none => s

/-- What the first warning of a dip sheds (R102, R285, R296, R518). -/
def shedLoad (s : State) : State :=
  let s := switchOff 3 (s.modPwr fun b => { b with shed := true })
  traceStop true false (s.modSrv fun b => { b with shed := true })

/-- The flush of a warning or a restart (R495, R497): none while a flush runs. -/
def storeFlush (restart : Bool) (s : State) : State :=
  if s.aqf.flushing then s
  else
    let s := if s.domOn 4 && (s.sup.startPhase == 0 || s.sup.startPhase == 8) then storeLastPos s else s
    flushSmall (commitHotStart (startFlush restart s))

/-- A full BIST ends at the warning (R533); the unit under test has then not been run (log 29). -/
def abortFull (s : State) : State :=
  if s.bst.state == 1 && s.bst.kind == 2 then
    s.modBst fun b => { b with state := 3, units := b.units.map fun u => if u.result == 3 then { u with result := 0 } else u }
  else s

/-- POWER_FAIL_WARNING (R516, R518): V_RAIL is below 16.5 V. A fall before the release belongs to the same dip (R519). -/
def powerFailWarning (volts : F32) (s : State) : State :=
  if s.pwr.resetHeld || !f32Finite volts || decide (33 / 2 ≤ f32Val volts) then s
  else
    let first := s.pwr.supply == .normal
    let s := s.modPwr fun b => { b with
      supply := .warning, vRail := f32Val volts, warnAt := if first then s.now else b.warnAt
      dipLow := if first then f32Val volts else minQ b.dipLow (f32Val volts) }
    let s := storeFlush false s
    let s := if s.cfg.writing then failKeyWrite 0 s.keyPhase s else s
    if first then abortFull (shedLoad s) else s

/-- The dip ends in a release (R497, R519). -/
def endDip (s : State) : State :=
  let ms := (s.now - s.pwr.warnAt) / 1000000
  let low := s.pwr.dipLow
  let s := s.modPwr fun b => { b with
    supply := .normal, shed := false, dipCount := satInc 32 b.dipCount, dipMs := sat 16 ms, dipMinCv := sat 16 (roundEven (low * 100)).toNat }
  let s := s.modSrv fun b => { b with shed := false }
  let s := s.raise 0x0210 0xFF (f32Bytes low ++ leBytes 4 ms)
  beginWrites (s.modAqf fun b => { b with suspended := false, marker := false })

/-- POWER_RELEASE (R516, R519): V_RAIL has stayed at or above 17.5 V for 50 ms. A module in reset starts (R77). -/
def powerRelease (volts : F32) (ms : Nat) (s : State) : State :=
  if ms < 50 ∨ f32Finite volts = false ∨ f32Val volts < 35 / 2 then s
  else if s.pwr.resetHeld then s.modPwr fun b => { b with resetHeld := false, supply := .normal, vRail := f32Val volts }
  else if s.pwr.supply == .normal then s
  else endDip (s.modPwr fun b => { b with vRail := f32Val volts })

/-- POWER_RESET (R516): V_RAIL is below 14.0 V; every domain but PD0 goes off and reset is held. -/
def powerReset (volts : F32) (s : State) : State :=
  if f32Finite volts = false ∨ 14 ≤ f32Val volts ∨ s.pwr.resetHeld = true then s
  else (resetModule 0 s).modPwr fun b => { b with resetHeld := true, vRail := f32Val volts }

/-- FLUSH_DONE (R495, R496): the flush is complete; a restart that waited for it begins (R83). -/
def flushDone (s : State) : State :=
  if !s.aqf.flushing then s
  else
    let s := endFlush s
    if s.sup.restarting then resetModule 2 s else s

/-! ### Inputs (R520) -/

/-- INPUT_LOW: an input below 18.0 V for 100 ms while V_RAIL is at or above 18.0 V. -/
def inputLow (i : Nat) (volts vRail : F32) (ms : Nat) (s : State) : State :=
  if !s.suRuns || decide (ms < 100) || !f32Finite volts || decide (18 ≤ f32Val volts) || decide (f32Val vRail < 18)
      || (s.pwr.inLowAt.getD i none).isSome then s
  else
    (s.modPwr fun b => { b with
      inLow := b.inLow.set i true, inLowAt := b.inLowAt.set i (some s.now), vin := b.vin.set i (f32Val volts) }).raise 0x0212 i
        (leBytes 4 volts.toNat)

/-- INPUT_RESTORED: the input has been at or above 18.0 V for 1 s. -/
def inputRestored (i : Nat) (volts : F32) (ms : Nat) (s : State) : State :=
  if !s.suRuns || decide (ms < 1000) || !f32Finite volts || decide (f32Val volts < 18) || !s.pwr.inLow.getD i false then s
  else
    let at_ := s.pwr.inLowAt.getD i none
    let s := s.modPwr fun b => { b with
      inLow := b.inLow.set i false, inLowAt := b.inLowAt.set i none, vin := b.vin.set i (f32Val volts) }
    match at_ with
    | some t => s.raise 0x0213 i (zeros 4 ++ leBytes 4 (sat 32 (msOf (s.now - t))))
    | none => s

/-- What a frame instant measures of the supply (R516, R537): RELEASE_WAIT while the release is counted. -/
def measureSupply (m : Measured) (s : State) : State :=
  s.modPwr fun b => { b with
    vin := [f32Val m.vinA, f32Val m.vinB], vRail := f32Val m.vRail, draw := f32Val m.draw
    dipLow := if b.supply == .normal then b.dipLow else minQ b.dipLow (f32Val m.vRail)
    supply := if b.supply == .normal then .normal else if f32Val m.vRail < 35 / 2 then .warning else .releaseWait }

/-! ### Registers (R537) -/

/-- Code of a supply state. -/
def SupplyState.code : SupplyState → Nat
  | .normal => 0 | .warning => 1 | .releaseWait => 2

/-- Value of a PWR register; none where none is defined. -/
def pwrRead (s : State) (off : Nat) : Option Word :=
  let b := s.pwr
  match off with
  | 0x10 => some (pack [(b.supply.code, 0, 2), (b2n (!b.inLow.getD 0 false), 2, 1), (b2n (!b.inLow.getD 1 false), 3, 1), (b2n b.shed, 4, 1)])
  | 0x14 => some (f32Of (b.vin.getD 0 0))
  | 0x18 => some (f32Of (b.vin.getD 1 0))
  | 0x1C => some (f32Of b.vRail)
  | 0x20 => some (f32Of b.draw)
  | 0x24 => some (b.domOn.setWidth 32)
  | 0x28 => some (b.domFault.setWidth 32)
  | 0x2C => some (wordOf b.dipCount)
  | 0x30 => some (pack [(b.dipMs, 0, 16), (b.dipMinCv, 16, 16)])
  | _ => none

/-- What a read clears (R22, R537). -/
def pwrClear (off : Nat) (s : State) : State :=
  match off with
  | 0x2C => s.modPwr fun b => { b with dipCount := 0 }
  | _ => s

/-! ### Meanings of the commands -/

/-- Meaning of POWER_FAIL_WARNING (R518). -/
def execPowerFailWarning (volts : F32) (s : State) : Host.Outcome State Fault Refusal :=
  .next (powerFailWarning volts s)

/-- Meaning of FLUSH_DONE (R496). -/
def execFlushDone (s : State) : Host.Outcome State Fault Refusal :=
  .next (flushDone s)

/-- Meaning of POWER_RELEASE (R519). -/
def execPowerRelease (volts : F32) (ms : Nat) (s : State) : Host.Outcome State Fault Refusal :=
  .next (powerRelease volts ms s)

/-- Meaning of POWER_RESET (R516). -/
def execPowerReset (volts : F32) (s : State) : Host.Outcome State Fault Refusal :=
  .next (powerReset volts s)

/-- Meaning of INPUT_LOW (R520). -/
def execInputLow (input : Fin 2) (volts vRail : F32) (ms : Nat) (s : State) : Host.Outcome State Fault Refusal :=
  .next (inputLow input.val volts vRail ms s)

/-- Meaning of INPUT_RESTORED (R520). -/
def execInputRestored (input : Fin 2) (volts : F32) (ms : Nat) (s : State) : Host.Outcome State Fault Refusal :=
  .next (inputRestored input.val volts ms s)

/-- Meaning of DORMANT_SWITCH_OFF_TIMEOUT (R522). -/
def execDormantSwitchOffTimeout (s : State) : Host.Outcome State Fault Refusal :=
  .next (dormantTimeout s)

/-- Meaning of MODE_DOMAIN_SWITCH_ON (R522). -/
def execModeDomainSwitchOn (s : State) : Host.Outcome State Fault Refusal :=
  .next (modeDomainSwitchOn s)

end Sys2Proof.Machine
end

