-- ==== Sys2Proof/Machine/Clients.lean ====
section
/-!
DEFINITION. Writes to Aquifer (R486, R487), the forms its objects have in an export (R286, R473, R509), export, import and the trace
archive (R509 to R513), and the clearing of Sediment (R507, R514).
-/
set_option autoImplicit false
namespace Sys2Proof.Machine

/-! ### Writes (R486, R487) -/

/-- Class of a write, fixed by its partition (R486). -/
def classOf (part : Nat) : Nat := match part with | 0 => 0 | 6 => 0 | 4 => 1 | 5 => 3 | _ => 2

/-- AQF_WRITE_SUBMIT (R486): the store admits or refuses the write. -/
def writeSubmit (engine : Nat) (key : StoreKey) (size : Nat) (data : StoreData) (s : State) : State :=
  if s.suRuns && decide (key.part < 7) then (submitWrite key (classOf key.part) size engine data s).1 else s

/-- AQF_WRITE_COMMIT (R487): the COMMIT entry of the write with this tag is complete, or media prevented it. -/
def writeCommit (tag : Nat) (media : Bool) (s : State) : State :=
  match s.aqf.write tag with
  | some w => if s.suRuns && s.mayCommit w then dormantCheck (commitClient w media s) else s
  | none => s

/-! ### Objects as bytes (R286, R473) -/

/-- A bin entry (R286): LAST_H is that of the later update of the two directions. -/
def binBytes (a b : LearnBin) : Bytes :=
  f32Bytes a.v ++ f32Bytes b.v ++ f32Bytes a.k ++ f32Bytes b.k ++ leBytes 2 a.pass ++ leBytes 2 b.pass
    ++ [BitVec.ofNat 8 a.kn, BitVec.ofNat 8 b.kn] ++ leBytes 2 (max a.lastH b.lastH % 65536)

/-- A profile record's header without its CRC (R286). -/
def Profile.header (p : Profile) : Bytes :=
  leBytes 2 1 ++ [BitVec.ofNat 8 p.thruster, BitVec.ofNat 8 p.kind] ++ leBytes 4 p.tag ++ leBytes 4 p.struct ++ leBytes 8 p.stored
    ++ leBytes 4 p.hours ++ leBytes 2 p.turns ++ [BitVec.ofNat 8 (b2n p.ff), 0] ++ f32Bytes p.aRate ++ zeros 28

/-- A profile record, 24,640 bytes (R286). A record whose CRC is wrong is given as it stands, with a wrong one. -/
def Profile.bytes (p : Profile) : Bytes :=
  let bins := (List.range 1024).flatMap fun b => binBytes (p.bin true b) (p.bin false b)
  let crc := crc32c (p.header ++ bins)
  p.header ++ leBytes 4 (if p.crcOk then crc else crc ^^^ 1) ++ bins

/-- The profile that a record spells (R286); an hour of LAST_H is the last one before SERVICE_H that it can be. -/
def profileOf (b : Bytes) : Profile :=
  let e := fun (i : Nat) => 64 + 24 * i
  let hours := leAt b 20 4
  let bin := fun (side i : Nat) =>
    { v := ratAt b (e i + 4 * side), k := ratAt b (e i + 8 + 4 * side), pass := leAt b (e i + 16 + 2 * side) 2
      kn := byteAt b (e i + 20 + side), lastH := hours - (hours + 65536 - leAt b (e i + 22) 2) % 65536 : LearnBin }
  { thruster := byteAt b 2, kind := byteAt b 3, tag := leAt b 4 4, struct := leAt b 8 4, stored := leAt b 12 8
    service := leAt b 20 4 * 3600000000000, turns := leAt b 24 2, ff := byteAt b 26 != 0, aRate := ratAt b 28
    cw := (List.range 1024).map (bin 0), ccw := (List.range 1024).map (bin 1) }

/-- A profile record is well formed: its length, FORMAT and CRC (R286). -/
def profileGood (b : Bytes) : Bool :=
  b.length == 24640 && leAt b 0 2 == 1 && leAt b 60 4 == crc32c (b.take 60 ++ b.drop 64)

/-- A Carafe record's first 28 bytes (R473). -/
def CarafeModel.header (m : CarafeModel) : Bytes :=
  leBytes 2 1 ++ leBytes 2 81 ++ leBytes 4 m.serial ++ leBytes 8 m.started ++ f32Bytes m.a ++ f32Bytes m.b ++ leBytes 2 m.days
    ++ leBytes 2 m.daily.length

/-- A Carafe record, 1,040 bytes (R473). -/
def CarafeModel.bytes (m : CarafeModel) : Bytes :=
  let tail := (List.range 81).flatMap (fun i => let e := m.bins.getD i (0, 0); f32Bytes e.1 ++ leBytes 2 e.2 ++ zeros 2)
    ++ (List.range 90).flatMap (fun j => if j < m.daily.length then f32Bytes (m.daily.getD j (0, 0)).2 else zeros 4)
  m.header ++ leBytes 4 (crc32c (m.header ++ tail)) ++ tail

/-- The Carafe model that a record spells (R471, R473); its daily values are those of its last days. -/
def carafeOf (b : Bytes) : CarafeModel :=
  let days := leAt b 24 2
  let n := leAt b 26 2
  { serial := leAt b 4 4, started := leAt b 8 8, a := ratAt b 16, b := ratAt b 20, days := days
    daily := (List.range n).map fun j => (((days + j - n : Nat) : Rat), ratAt b (680 + 4 * j))
    bins := (List.range 81).map fun i => (ratAt b (32 + 8 * i), leAt b (36 + 8 * i) 2) }

/-- A Carafe record is well formed: its length, FORMAT, BINS, DAILY and CRC (R473). -/
def carafeGood (b : Bytes) : Bool :=
  b.length == 1040 && leAt b 0 2 == 1 && leAt b 2 2 == 81 && decide (leAt b 26 2 ≤ 90) && leAt b 28 4 == crc32c (b.take 28 ++ b.drop 32)

/-- A byte string of exactly n bytes. -/
def fitBytes (n : Nat) (b : Bytes) : Bytes := b.take n ++ zeros (n - b.length)

/-- The bytes of a stored object (R286, R473, R509). -/
def StoreObj.bytes (o : StoreObj) : Bytes :=
  fitBytes o.size (match o.data with
    | .profile p => p.bytes
    | .hotStart h => Config.hotBytes h
    | .carafe m => m.bytes
    | .refModel m => Config.modelBytes o.key m
    | .bytes b => b)

/-- What the COMMIT entry of an object carries (R487): its key, length and transaction number, and the CRC-32C of its data. -/
structure CommitEntry where
  key : StoreKey
  length : Nat
  txn : Nat
  crc : Nat
deriving DecidableEq, Repr

/-- The COMMIT entry with which an object came to stand in the store (R487). -/
def StoreObj.commit (o : StoreObj) : CommitEntry := { key := o.key, length := o.size, txn := o.txn, crc := crc32c o.bytes }

/-- What the spare area of a page of P4 carries (R505): the page's first SEQ, the epoch and a CRC-32C over its records. -/
structure PageSpare where
  firstSeq : Nat
  epoch : Nat
  crc : Nat
deriving DecidableEq, Repr

/-- Records of 32 bytes to a flash page (R505). -/
def pageRecords : Nat := flashPage / 32

/-- The spare area of page k of the durable record, oldest first; none of a page that is not full, whose records stand in the journal yet
(R490, R505). -/
def LogState.pageSpare (b : LogState) (k : Nat) : Option PageSpare :=
  let rs := (b.durable.drop (pageRecords * k)).take pageRecords
  if rs.length < pageRecords then none
  else rs.head?.map fun r => { firstSeq := r.seq, epoch := b.epoch, crc := crc32c (rs.flatMap SedRecord.bytes) }

/-! ### Export (R509, R510) -/

/-- TYPE of an object's section (R509). -/
def StoreObj.sectionType (o : StoreObj) : Nat :=
  match o.key.part with | 1 => 1 | 3 => 4 | _ => if o.key.kind = 2 then 3 else 2

/-- The objects that an export takes: P1, P2 and P3 (R510). -/
def State.learnedObjs (s : State) : List StoreObj :=
  s.aqf.objs.filter fun o => o.key.part == 1 || o.key.part == 2 || o.key.part == 3

/-- A section: its header and the object (R509). -/
def StoreObj.section (o : StoreObj) : Bytes := BitVec.ofNat 8 o.sectionType :: zeros 3 ++ leBytes 4 o.size ++ o.bytes

/-- The bytes of the frozen export (R509); none before a prepare. -/
def AqfState.exportBytes (b : AqfState) : Bytes :=
  match b.export_ with
  | none => []
  | some os =>
    let body := os.flatMap StoreObj.section
    let hdr := leBytes 4 0x534C514C ++ leBytes 2 1 ++ leBytes 2 os.length ++ leBytes 4 b.exportHdr.1 ++ leBytes 8 b.exportHdr.2.1
      ++ leBytes 4 b.exportHdr.2.2 ++ leBytes 4 b.exportLen ++ zeros 32
    hdr ++ leBytes 4 (crc32c (hdr ++ body)) ++ body

/-- EXPORT_PREPARE (R510). -/
def exportPrepare (sess : Nat) (s : State) : State :=
  let s := s.modAqf fun b => { b with export_ := some s.learnedObjs, exportHdr := (s.sup.serial % 2 ^ 32, s.now, s.cfg.check) }
  s.raise 0x1A16 sess (zeros 4 ++ leBytes 4 s.aqf.exportLen)

/-! ### Import (R511) -/

/-- The sections of a staged import: TYPE and object bytes; none when they do not fill it exactly. -/
def sectionsOf : Nat → Bytes → Option (List (Nat × Bytes))
  | 0, b => if b.isEmpty then some [] else none
  | k + 1, b =>
    let n := leAt b 4 4
    if b.length < 8 + n then none
    else (sectionsOf k (b.drop (8 + n))).map fun l => (byteAt b 0, (b.drop 8).take n) :: l

/-- Mask bit that selects a section TYPE (R511). -/
def sectionBit (type : Nat) : Nat := match type with | 1 => 0 | 4 => 2 | _ => 1

/-- An object of a section passes its own CRC where its format has one (R511). -/
def sectionGood (x : Nat × Bytes) : Bool :=
  match x.1 with | 1 => profileGood x.2 | 2 => true | 3 => carafeGood x.2 | 4 => x.2.length == 2112 | _ => false

/-- The object that a section carries, under its own key (R509, R511). Bytes that spell no object of their kind are kept as they are. -/
def sectionObj (now : Nat) (x : Nat × Bytes) : StoreObj :=
  let size := x.2.length
  match x.1 with
  | 1 =>
    let p := profileOf x.2
    { key := profileKey p.tag p.kind 0, size := size, data := .profile p, at_ := now, inJournal := false }
  | 2 => { key := hotKey, size := size, at_ := now, inJournal := false
           data := match Config.hotOf x.2 with | some h => .hotStart h | none => .bytes x.2 }
  | 3 => { key := carafeKey, size := size, data := .carafe (carafeOf x.2), at_ := now, inJournal := false }
  | _ => match Config.modelOf x.2 with
    | some (k, m) => { key := { k with part := 3 }, size := size, data := .refModel m, at_ := now, inJournal := false }
    | none => { key := modelKey 0 0 0, size := size, data := .bytes x.2, at_ := now, inJournal := false }

/-- The objects of an import's sections; a snapshot gets its number as at a store (R287, R511). -/
def State.sectionObjs (s : State) (l : List (Nat × Bytes)) : List StoreObj :=
  l.foldl (fun acc x =>
    let o := sectionObj s.now x
    let o := if x.1 = 1 ∧ byteAt x.2 3 = 2 then
        let tag := leAt x.2 4 4
        { o with key := { o.key with num := snapNumber ((acc.filterMap fun a => snapOf tag a.key a.data) ++ s.snapsHeld tag) (leAt x.2 12 8) } }
      else o
    acc ++ [o]) []

/-- The selected objects fit their partitions once orphans are gone (R511). -/
def State.importFits (s : State) (os : List StoreObj) : Bool :=
  [1, 2, 3].all fun p =>
    let kept := s.aqf.objs.filter fun o => o.key.part == p && !o.orphan && !os.any (fun n => n.key == o.key)
    let new := os.filter fun o => o.key.part == p
    decide (((kept ++ new).map fun o => o.size).foldl (· + ·) 0 ≤ partSize p)

/-- The first check of R511 that the staged data fails, or the objects to write. -/
def State.importCheck (s : State) (mask : Nat) : Nat ⊕ List StoreObj :=
  let b := s.aqf.import_.take s.aqf.importLen
  let total := leAt b 24 4
  let body := b.drop 64
  if b.length < 64 ∨ leAt b 0 4 ≠ 0x534C514C ∨ leAt b 4 2 ≠ 1 ∨ total ≠ b.length then .inl 1
  else if leAt b 60 4 ≠ crc32c (b.take 60 ++ body) then .inl 2
  else match sectionsOf (leAt b 6 2) body with
    | none => .inl 1
    | some l =>
      let sel := l.filter fun x => mask / 2 ^ sectionBit x.1 % 2 == 1
      let os := s.sectionObjs sel
      let size := (os.map fun o => o.size).foldl (· + ·) 0
      if l.any (fun x => x.1 == 0 || decide (4 < x.1)) || !sel.all sectionGood then .inl 3
      else if !s.importFits os then .inl 4
      else if (fillBudget s.now s.aqf).budget < Int.ofNat size + 16777216 then .inl 5
      else if sel.isEmpty then .inl 6
      else .inr os

/-- The accepted import is one large write (R487, R511); what a partition needs of room it takes from its orphans (R484). -/
def importWrite (sess reqId mask : Nat) (os : List StoreObj) (s : State) : State :=
  let size := (os.map fun o => o.size).foldl (· + ·) 0
  let b := s.aqf.import_.take s.aqf.importLen
  let t := s.newTag 0x1A 15
  let s := openTag t (refreshBudget s)
  let s := os.foldl (fun s o => putObj { o with txn := s.aqf.txn + 1 } (makeRoom o.key o.size s)) s
  let s := charge size (fillJournal (32 + 4 * ((size + 4095) / 4096) + 32) s)
  let s := s.modAqf fun b => { b with lifeBytes := b.lifeBytes + (size + 4095) / 4096 * 4096, importPending := true }
  let s := completeTag t .done s
  let s := addChange sess 1 4 0 (crc32c b) reqId 0 s
  s.raise 0x1A17 sess (BitVec.ofNat 8 mask :: zeros 3 ++ leBytes 4 (leAt b 8 4))

/-! ### Trace archive (R512) -/

/-- TRC_CH_CFG of a trace channel (R297). -/
def TraceChan.word (c : TraceChan) : Word := pack [(c.thr, 0, 4), (c.node, 8, 4), (b2n c.en, 15, 1)]

/-- The archive entry of the trace (R512). -/
def State.traceEntry (s : State) (id : Nat) : Bytes :=
  let r := s.srv.trace
  let cfg := pack [(r.decim, 0, 4), (r.prePct, 4, 7), (r.trigSrc, 16, 3), (r.trigThr, 20, 4)]
  let hdr := leBytes 2 1 ++ leBytes 2 id ++ leBytes 4 r.len ++ leBytes 8 r.trigAt ++ leBytes 8 s.now ++ leBytes 4 cfg.toNat
    ++ leBytes 2 (maskOf 16 fun i => (r.chans.getD i {}).en).toNat
    ++ (List.range 16).flatMap (fun i => leBytes 2 (r.chans.getD i {}).word.toNat) ++ zeros 62
  let smp := (r.chans.filter fun c => c.en).flatMap fun c => (c.data.take r.len).reverse.flatMap f32Bytes
  hdr ++ leBytes 4 (crc32c (hdr ++ smp)) ++ smp

/-- Older entries go, oldest first, until the new one fits (R512). -/
def dropArchives (size : Nat) : Nat → State → State
  | 0, s => s
  | k + 1, s =>
    if s.partUsed 5 + size ≤ partSize 5 then s
    else match s.aqf.objs.find? fun o => o.key.part == 5 with
      | some o => dropArchives size k (s.modAqf fun b => { b with objs := b.objs.filter fun x => x.key != o.key })
      | none => s

/-- ARCHIVE_TRACE (R512): a class 3 write of one entry under the next identifier; older entries give way only to a write that nothing else
refuses. -/
def archiveTrace (s : State) : State :=
  let id := s.aqf.nextArch
  let e := s.traceEntry id
  let key : StoreKey := { part := 5, kind := 0, tag := id }
  let ok := (s.noTag e.length).isNone && ((refreshBudget s).refusal key 3 e.length).isNone
  let s := if ok then dropArchives e.length s.aqf.objs.length s else s
  let s := s.modAqf fun b => { b with nextArch := (b.nextArch + 1) % 65536 }
  let r := submitWrite key 3 e.length 15 (.bytes e) s
  match r.2 with
  | .inr _ => r.1.modAqf fun b => { b with archiving := true }
  | .inl _ => r.1

/-! ### Commands (R510 to R514) -/

/-- Writable AQF registers (R513). -/
def aqfWritable (off : Nat) : Bool := off == 0x4C || off == 0x68

/-- AQF_CMD_RESULT is set (R513). -/
def aqfResult (w : WCtx) (action r cause : Nat) (s : State) : State :=
  s.modAqf fun b => { b with cmdResult := r, cmdAction := action, cmdSession := w.session, cmdCause := cause }

/-- The journal takes the entries of the import's large write (R487, R490); its size is at most that of the staging area. -/
def State.importRoom (s : State) : Bool :=
  decide (s.aqf.journal + s.aqf.reserved + entryBytes (max 32769 s.aqf.importLen) + 192 * 1024 ≤ ringSize)

/-- IMPORT_COMMIT (R511); a store that takes no class 3 write of this size does not take it. With 64 writes outstanding its write is refused
FULL, without room in the journal BUSY, and the command is answered BUSY (R54, R490; assumption log 37). -/
def importCommit (w : WCtx) (mask : Nat) (s : State) : WriteOut :=
  if s.aqf.phase != .ready || !s.domOn 7 || s.aqf.suspended || s.aqf.importPending then .refused (aqfResult w 2 1 0 s) 1
  else if 64 ≤ s.aqf.writes.length then
    .refused (refuseWrite { part := 2 } 3 (s.aqf.import_.take s.aqf.importLen).length .full (aqfResult w 2 3 0 s)) 3
  else match s.importCheck mask with
    | .inl c => .refused ((aqfResult w 2 4 c s).raise 0x1A18 w.session [BitVec.ofNat 8 c]) 4
    | .inr os =>
      if !s.importRoom then .refused (refuseWrite { part := 2 } 3 (s.aqf.import_.take s.aqf.importLen).length .busy (aqfResult w 2 3 0 s)) 3
      else .done (importWrite w.session w.reqId mask os (aqfResult w 2 0 0 s)) 0

/-- AQF_CMD (R510 to R513). -/
def aqfCmd (w : WCtx) (v : Word) (s : State) : WriteOut :=
  let act := field v 3 0
  let refuse := fun r => WriteOut.refused (aqfResult w act r 0 s) r
  let done := fun (f : State → State) => WriteOut.done (f (aqfResult w act 0 0 s)) 0
  needRole w roleEngineer (aqfResult w act 2 0 s)
    (if act = 0 ∨ 5 < act then refuse 1
    else if act ≤ 3 ∧ s.sup.mode ≠ .service then refuse 1
    else match act with
      | 1 => done (exportPrepare w.session)
      | 2 => importCommit w (field v 6 4) s
      | 3 => done fun s => s.modAqf fun b => { b with import_ := [], importLen := 0 }
      | 4 => if s.srv.trace.phase != .done || s.srv.trace.len = 0 || s.aqf.archiving then refuse 3 else done archiveTrace
      | _ => if s.aqf.archives.contains (field v 31 16) then
          done fun s => s.modAqf fun b => { b with objs := b.objs.filter fun o => !(o.key.part == 5 && o.key.tag == field v 31 16) }
        else refuse 1)

/-- A write to an AQF register (R513). -/
def aqfWrite (w : WCtx) (off : Nat) (v : Word) (s : State) : WriteOut :=
  match off with
  | 0x4C => selector v 2 6 s fun n => s.modAqf fun b => { b with partSel := n }
  | _ => aqfCmd w v s

/-- A write to a LOG register (R507, R514). The clear, with its record of 32 bytes, and its change-log entry of 64
are one class 0 transaction. -/
def logWrite (w : WCtx) (off : Nat) (v : Word) (s : State) : WriteOut :=
  let refuse := WriteOut.refused (logResult w 1 s) 1
  if off ≠ 0x40 then .refused s 1
  else needRole w roleCommissioner (logResult w 2 s)
    (if field v 15 8 ≠ 0xA5 then refuse
    else if !bit v 0 then .done (logResult w 0 s) 0
    else if (s.sup.mode == .standby || s.sup.mode == .service) && !s.log.logFault then
      if s.essentialResult 96 ≠ .ok then .refused (logResult w 1 (commitEssential 0 96 s).1) 1
      else .done (clearLog w.session (noteChange (s.ses.session w.session) w.session 5 0 0 0 w.reqId 0 (commitEssential 0 96 (logResult w 0 s)).1)) 0
    else refuse)

/-! ### Meanings of the commands -/

/-- Meaning of AQF_WRITE_SUBMIT (R486). -/
def execAqfWriteSubmit (engine : Fin 16) (key : StoreKey) (size : Nat) (data : StoreData) (s : State) : Host.Outcome
  State Fault Refusal :=
  .next (writeSubmit engine.val key size data s)

/-- Meaning of AQF_WRITE_COMMIT (R487). -/
def execAqfWriteCommit (tag : Word) (media : Bool) (s : State) : Host.Outcome State Fault Refusal :=
  .next (writeCommit tag.toNat media s)

end Sys2Proof.Machine
end

