-- ==== Sys2Proof/Machine/ImageRead.lean ====
section
/-!
DEFINITION. Reading an image (R541 to R548, R550, R564, R605): the key's bytes, the header, the records in image order with the checks made
as each is read, and the check value.
-/
set_option autoImplicit false
namespace Sys2Proof.Machine

/-- The first failing check of an image: cause of R564, TYPE and INDEX of the record, DETAIL (R564, R605). -/
structure ImgFail where
  cause : Nat
  type : Nat := 0
  index : Nat := 0
  detail : Nat := 0
deriving DecidableEq, Repr

/-- The first n bytes of a key with this content; what it does not hold is erased, and a key pulled out returns all ones from then on
(R542, R543). -/
def keyView (b : Bytes) (pulledAt : Option Nat) (n : Nat) : Bytes :=
  let m := min n (pulledAt.getD n)
  let got := b.take m
  got ++ List.replicate (n - got.length) 0xFF

/-- The header's fields (R545). -/
def headerOf (h : Bytes) : ImageHeader :=
  { magic := leAt h 0 4, format := leAt h 4 2, hdrLen := leAt h 6 2, imageLen := leAt h 8 4, records := leAt h 12 4, check := leAt h 16 4
    family := leAt h 20 2, hwMin := byteAt h 22, buildTime := leAt h 24 8, berpinVer := leAt h 32 4
    crcOk := crc32c (h.take 60) == leAt h 60 4 }

/-- Checks on the header, in order (R564, R605): MAGIC, FORMAT, LENGTH, HDR_CRC. The module is hardware revision C, code 3. -/
def headerFail (h : ImageHeader) : Option ImgFail :=
  if h.magic ≠ 0x4943514C then some { cause := 2 }
  else if h.format ≠ 1 ∨ h.hdrLen ≠ 64 ∨ h.family ≠ 0x4816 ∨ 3 < h.hwMin then some { cause := 3 }
  else if h.imageLen < 84 ∨ 6291456 < h.imageLen ∨ h.imageLen % 4 ≠ 0 then some { cause := 4 }
  else if h.crcOk = false then some { cause := 5 }
  else none

/-- Number of INDEX values of a record type; the types of a single record have one, and an unknown type none (R548). -/
def indexCount : Nat → Nat
  | 0x0001 => 1 | 0x0002 => 1 | 0x0010 => 1 | 0x0020 => 64 | 0x0030 => 16 | 0x0031 => 8 | 0x0032 => 64 | 0x0033 => 1 | 0x0034 => 64
  | 0x0035 => 8 | 0x0040 => 256 | 0x0041 => 256 | 0x0042 => 1 | 0x0043 => 1 | 0x0050 => 1 | 0x0060 => 16 | 0x0061 => 12 | 0x0062 => 48
  | 0x0070 => 4 | 0x0071 => 6 | 0x0072 => 4 | 0x0073 => 2 | 0x0074 => 32 | 0x0080 => 1 | 0x0090 => 1 | 0x00A0 => 4 | 0x00A1 => 1
  | 0x00A2 => 64 | 0x00A3 => 32 | 0xFFFF => 1 | _ => 0

/-- TYPE is known and INDEX within its range (R548). -/
def typeOk (type index : Nat) : Bool :=
  if type = 0x0021 then decide (index < 8) || (decide (16 ≤ index) && decide (index < 20)) else decide (index < indexCount type)

/-- Length of a body with its padding to a multiple of 4 (R546). -/
def paddedLen (n : Nat) : Nat := (n + 3) / 4 * 4

/-- What reading the records gives: the records, the bytes under the check value, the bytes read, and the first failure. -/
structure ReadOut where
  records : List RawRecord := []
  covered : Bytes := []
  used : Nat := 64
  fail : Option ImgFail := none
deriving DecidableEq, Repr

/-- A parameter record is every one but INFO and END (R548). -/
def parameterType (t : Nat) : Bool := t != 0x0001 && t != 0xFFFF

/-- One record at the start of `b`, of which `left` bytes belong to the image: framing, type, order and CRC (R546, R605). `prev` is the
record before it. -/
def recordFail (prev : Option RawRecord) (left : Nat) (b : Bytes) : Option ImgFail :=
  let type := leAt b 0 2
  let index := leAt b 2 2
  let body := paddedLen (leAt b 4 4)
  let ordered := match prev with
    | none => true
    | some p => decide (p.type < type) || (p.type == type && decide (p.index < index))
  if left < 8 ∨ left < 8 + body + 4 then some { cause := 7, type := type, index := index }
  else if typeOk type index = false then some { cause := 9, type := type, index := index }
  else if ordered = false then some { cause := 8, type := type, index := index }
  else if crc32c (b.take (8 + body)) ≠ leAt b (8 + body) 4 then some { cause := 6, type := type, index := index }
  else none

/-- The records from offset `off` of an image of `len` bytes, `b` being the bytes from there on; one step of `fuel` a record. -/
def readRecords (len : Nat) : Nat → Nat → Option RawRecord → Bytes → ReadOut → ReadOut
  | 0, _, _, _, out => out
  | fuel + 1, off, prev, b, out =>
    if len ≤ off then { out with used := len }
    else
      let n := leAt b 4 4
      let total := 8 + paddedLen n + 4
      match recordFail prev (len - off) b with
      | some f => { out with used := if f.cause = 7 then min len (off + 8) else off + total, fail := some f }
      | none =>
        let r : RawRecord := { type := leAt b 0 2, index := leAt b 2 2, body := (b.drop 8).take n }
        readRecords len fuel (off + total) (some r) (b.drop total)
          { out with
            records := out.records ++ [r]
            covered := if parameterType r.type then out.covered ++ b.take (total - 4) else out.covered }

/-- Checks after the last record (R605): END last and RECORDS right, then CHECK (R550). -/
def closeRead (h : ImageHeader) (o : ReadOut) : ReadOut :=
  match o.fail with
  | some _ => o
  | none =>
    let last := o.records.getLast?
    let t := (last.map RawRecord.type).getD 0
    let i := (last.map RawRecord.index).getD 0
    if t ≠ 0xFFFF ∨ o.records.length ≠ h.records then { o with fail := some { cause := 7, type := t, index := i } }
    else if crc32c o.covered ≠ h.check then { o with fail := some { cause := 16 } }
    else o

/-- An image as phase 3 reads it: header, then records (R605). `b` gives the first n bytes for any n. -/
def readImage (view : Nat → Bytes) : ImageHeader × ReadOut :=
  let h := headerOf (view 64)
  match headerFail h with
  | some f => (h, { fail := some f })
  | none =>
    let b := view h.imageLen
    (h, closeRead h (readRecords h.imageLen (h.imageLen / 12 + 1) 64 none (b.drop 64) {}))

/-- START_FAULT bit of a cause (R79, R564). -/
def causeBit (cause : Nat) : Nat := if cause = 1 then 0 else if cause ≤ 5 then 1 else if cause = 17 then 5 else if cause = 18 then 6 else 2

end Sys2Proof.Machine
end

