-- ==== Sys2Proof/Machine/ImageFields.lean ====
section
/-!
DEFINITION. The records of an image in typed form (R133, R214, R552 to R563): each function gives the fields that a body spells.
-/
set_option autoImplicit false
namespace Sys2Proof.Machine

/-- n numbers of binary32 from offset i. -/
def ratsAt (b : Bytes) (i n : Nat) : List Rat := (List.range n).map fun k => ratAt b (i + 4 * k)

/-- n little-endian numbers of `w` bytes from offset i. -/
def numsAt (b : Bytes) (i w n : Nat) : List Nat := (List.range n).map fun k => leAt b (i + w * k) w

/-- A register word at offset i. -/
def wordAt (b : Bytes) (i : Nat) : Word := BitVec.ofNat 32 (leAt b i 4)

/-- Bytes of a text field up to its NUL padding. -/
def textAt (b : Bytes) (i n : Nat) : Bytes := ((b.drop i).take n).takeWhile (· != 0)

/-- A bam16 read as signed (R10). -/
def signedAt (b : Bytes) (i : Nat) : Int := toSigned 16 (leAt b i 2)

/-- TRANSFORM (R133). -/
def transformOf (b : Bytes) : Transform :=
  { x := ratAt b 0, y := ratAt b 4, z := ratAt b 8, yaw := signedAt b 12, pitch := signedAt b 14, roll := signedAt b 16
    tag := leAt b 18 2, used := byteAt b 20 % 2 == 1 }

/-- WORKLOAD (R553). -/
def workloadOf (b : Bytes) : Workload :=
  { gtUs := leAt b 0 4, fusUs := leAt b 4 4, allocUs := leAt b 8 4, stageUs := leAt b 12 4, servoUs := leAt b 16 4, mpcUs := leAt b 20 4
    conseqUs := leAt b 24 4, blockUs := leAt b 28 4, sliceUs := leAt b 32 4, schedMflop := f32At b 36 }

/-- The entries of a SCALARS body: ID and VALUE word (R552). -/
def scalarEntries (b : Bytes) : List (Nat × F32) := (List.range (b.length / 8)).map fun k => (leAt b (8 * k) 2, wordAt b (8 * k + 4))

/-- The list of a vector scalar with one element set; the elements before it exist since entries ascend. -/
def setElem (l : List Rat) (i : Nat) (x : Rat) : List Rat := (l ++ List.replicate (i + 1 - l.length) 0).set i x

/-- A scalar takes its VALUE (R552). -/
def setScalar (c : Scalars) (e : Nat × F32) : Scalars :=
  let v := f32Val e.2
  let n := e.2.toNat
  let f := fun (hi lo : Nat) => field e.2 hi lo
  match e.1 with
  | 0x0101 => { c with startMode := n }
  | 0x0102 => { c with drLimit := v }
  | 0x0103 => { c with tBlend := v }
  | 0x0301 => { c with sweepMs := n }
  | 0x0801 => { c with elevMask := v }
  | 0x0802 => { c with pllBw := v }
  | 0x0803 => { c with fllBw := v }
  | 0x0804 => { c with dllBw := v }
  | 0x0805 => { c with pdopMax := v }
  | 0x0806 => { c with corrMaxAge := v }
  | 0x0807 => { c with antOffA := bit e.2 0, antOffB := bit e.2 1 }
  | 0x0808 => { c with baselineA := n, baselineNamedA := true }
  | 0x0809 => { c with baselineB := n, baselineNamedB := true }
  | 0x080A => { c with corrPriKind := f 7 0, corrPriSer := f 15 8, corrPriUdp := f 31 16 }
  | 0x080B => { c with corrSecKind := f 7 0, corrSecSer := f 15 8, corrSecUdp := f 31 16 }
  | 0x0901 => { c with holdLimit := v }
  | 0x0902 => { c with ppsFree := bit e.2 0, syncMode := f 2 1, syncDiv := f 14 3 }
  | 0x0A01 => { c with carrySigmaPos := v }
  | 0x0A02 => { c with carrySigmaHdg := v }
  | 0x0A03 => { c with sigmaReq := v }
  | 0x0A04 => { c with sigmaReqHdg := v }
  | 0x0A05 => { c with confMin := n }
  | 0x0A06 => { c with settleGain := v }
  | 0x0A07 => { c with ggaQ1 := v }
  | 0x0A08 => { c with ggaQ2 := v }
  | 0x0A09 => { c with ggaQ4 := v }
  | 0x0A0A => { c with ggaQ5 := v }
  | 0x0C01 => { c with testStruct := n }
  | 0x0D01 => { c with planMaxAge := v }
  | 0x0D02 => { c with spMaxDist := v }
  | 0x0D03 => { c with trackAccel := v }
  | 0x0D04 => { c with trackLead := v }
  | 0x0D05 => { c with trackEndRadius := v }
  | 0x0D06 => { c with joyMaxAge := v }
  | 0x0D07 => { c with busMaxAge := v }
  | 0x0D08 => { c with fRef := v }
  | 0x0D09 => { c with mRef := v }
  | 0x0D0A => { c with tuneDefault := n }
  | 0x0D0B => { c with joySource := f 7 0, joyChans := [f 15 8, f 23 16, f 31 24] }
  | 0x0D0C => { c with thrEnable := some n }
  | 0x0D0D => { c with mpcStruct := n }
  | 0x0D0E => { c with mpcStructHot := n }
  | 0x1001 => { c with syncCtrl := n }
  | 0x1101 => { c with linkTimeout := n }
  | 0x1701 => { c with idleTimeout := n }
  | id =>
    if 0x0A10 ≤ id ∧ id ≤ 0x0A18 then { c with massM := setElem c.massM (id - 0x0A10) v }
    else if 0x0A20 ≤ id ∧ id ≤ 0x0A28 then { c with dampD := setElem c.dampD (id - 0x0A20) v }
    else if 0x0A30 ≤ id ∧ id ≤ 0x0A38 then { c with procQ := setElem c.procQ (id - 0x0A30) v }
    else c

/-- SCALARS: the defaults, then each entry (R552). -/
def scalarsOf (b : Bytes) : Scalars := (scalarEntries b).foldl setScalar {}

/-- REFERENCE (R554). -/
def referenceOf (slot : Nat) (b : Bytes) : RefCfg :=
  { slot := slot, type := byteAt b 0, transform := byteAt b 1, srcKind := byteAt b 2, srcIndex := byteAt b 3, chan2 := byteAt b 4
    depthChan := byteAt b 5, sentenceStamp := byteAt b 6 == 1, enabledAtReset := byteAt b 7 % 2 == 1
    autoAnchor := byteAt b 7 / 2 % 2 == 1, maxAge := ratAt b 8, sigma := ratAt b 12, sigma2 := ratAt b 16, depth := ratAt b 20
    latency := ratAt b 24, tag := leAt b 28 4, ttmTarget := byteAt b 32, talker := leAt b 33 2 }

/-- THRUSTER (R555). -/
def thrusterOf (b : Bytes) : ThrCfg :=
  { tag := leAt b 0 4, type := byteAt b 4, transform := byteAt b 5, bus := byteAt b 6, group := byteAt b 7
    tMax := ratAt b 8, tRev := ratAt b 12, kPow := ratAt b 16, pRated := ratAt b 20, tRate := ratAt b 24, aRate := ratAt b 28
    zones := (List.range (byteAt b 48)).map fun k => (leAt b (32 + 4 * k) 2, leAt b (34 + 4 * k) 2)
    azKind := byteAt b 49, thrustKind := byteAt b 50, fbSource := byteAt b 51, outPath := byteAt b 52, fbChanA := byteAt b 53
    fbChanB := byteAt b 54, reversed := byteAt b 55 == 1, zeroOffset := leAt b 56 2, bandOn := leAt b 58 2, bandOff := leAt b 60 2
    readySrc := byteAt b 62, pitchFb := byteAt b 63, drvDelay := ratAt b 64, decel := ratAt b 68, learnGain := ratAt b 72
    fbMaxAge := ratAt b 76, vSlew := ratAt b 80, pbOn := ratAt b 84, pbOff := ratAt b 88, pRate := ratAt b 92, pDrvDelay := ratAt b 96
    pDecel := ratAt b 100, wearLimit := ratAt b 104, peakLimit := ratAt b 108
    fwdTable := (List.range 16).map fun k => (ratAt b (112 + 8 * k), ratAt b (116 + 8 * k))
    revTable := (List.range 16).map fun k => (ratAt b (240 + 8 * k), ratAt b (244 + 8 * k)) }

/-- BUS (R556). -/
def busOf (b : Bytes) : BusCfg := { fallback := ratAt b 0, source := byteAt b 4, chan := byteAt b 5, fixed := ratAt b 8 }

/-- GROUP (R556). -/
def groupOf (b : Bytes) : GroupCfg :=
  { parent := byteAt b 0, external := byteAt b 1 == 1, extIcxon := byteAt b 3 == 1, struct := leAt b 4 2, slot := leAt b 6 2
    children := (List.range (byteAt b 2)).map fun k => { index := byteAt b (8 + 2 * k), isGroup := byteAt b (9 + 2 * k) % 2 == 1 } }

/-- DIRECTIONS (R245, R556). -/
def directionsOf (b : Bytes) : List (Rat × Rat × Rat) :=
  (List.range (b.length / 12)).map fun k => (ratAt b (12 * k), ratAt b (12 * k + 4), ratAt b (12 * k + 8))

/-- FAILURE_GROUP (R556). -/
def failGroupOf (b : Bytes) : FailCfg :=
  { tag := leAt b 0 4, thrMask := leAt b 4 2, busMask := byteAt b 6, extMask := leAt b 8 8, struct := leAt b 16 2, slot := leAt b 18 2 }

/-- TUNING_SET (R557). -/
def tuneOf (b : Bytes) : TuneCfg :=
  { q := ratsAt b 0 3, qNu := ratsAt b 12 3, rhoP := ratAt b 24, term := ratAt b 28, rU := ratsAt b 32 32, kP := ratsAt b 160 3
    kD := ratsAt b 172 3, kI := ratsAt b 184 3, iMax := ratsAt b 196 3, slackLin := ratAt b 208, slackQuad := ratAt b 212
    satTolAbs := ratsAt b 216 3, satTolRel := ratAt b 228, lookahead := ratAt b 232, spSpeed := ratAt b 236, spRot := ratAt b 240
    joyMax := ratsAt b 244 3
    weights := (List.range (leAt b 256 2)).map fun j =>
      let o : Nat := 264 + 12 * j
      { group := byteAt b o, child := byteAt b (o + 1), w := ratAt b (o + 4), v := ratAt b (o + 8) } }

/-- Offset of the arrays of A in a STRUCTURE body of n variables: those of H stand before them, each n + 1 pointers and its row indices
(R558). -/
def arrayBytes (n nnz : Nat) : Nat := 4 * (n + 1 + nnz)

/-- The header of a STRUCTURE (R558). -/
def structHeader (b : Bytes) : StructCfg :=
  { cls := byteAt b 0, iterCap := leAt b 2 2, n := leAt b 4 4, mE := leAt b 8 4, mI := leAt b 12 4, nnzH := leAt b 16 4
    nnzA := leAt b 20 4, nnzC := leAt b 24 4, signature := leAt b 28 8, epsFeas := ratAt b 36, epsGap := ratAt b 40, resTol := ratAt b 44
    firstSched := leAt b 48 4, schedCount := leAt b 52 4, blockBounds := numsAt b 56 4 9 }

/-- Body length of a STRUCTURE with this header (R558). -/
def StructCfg.bodyLen (c : StructCfg) : Nat :=
  96 + arrayBytes c.n c.nnzH + arrayBytes c.n c.nnzA + arrayBytes c.n c.nnzC + 8 * c.dataLen

/-- STRUCTURE (R558), without its tags. -/
def structOf (b : Bytes) : StructCfg :=
  let c := structHeader b
  let a := 96 + arrayBytes c.n c.nnzH
  let d := a + arrayBytes c.n c.nnzA
  let e := d + arrayBytes c.n c.nnzC
  { c with
    patH := numsAt b 96 4 (c.n + 1 + c.nnzH), patA := numsAt b a 4 (c.n + 1 + c.nnzA), patC := numsAt b d 4 (c.n + 1 + c.nnzC)
    defaultData := numsAt b e 8 c.dataLen }

/-- SAFETY (R559). -/
def safetyOf (b : Bytes) : SafetyCfg :=
  { crc := leAt b 0 4, esDisc := leAt b 4 2, stopCat := numsAt b 6 1 2, esScope := numsAt b 8 1 2, proofInterval := leAt b 10 2
    scopes := numsAt b 12 2 8, tWeir := (List.range 8).map fun k => leAt b (28 + 4 * k) 2
    tCf := (List.range 8).map fun k => leAt b (30 + 4 * k) 2, pairOf := numsAt b 60 1 16
    thr := (List.range 16).map fun i =>
      let o : Nat := 76 + 28 * i
      { rampRate := ratAt b o, lag := ratAt b (o + 4), tol := ratAt b (o + 8), zeroTol := ratAt b (o + 12), endGrace := ratAt b (o + 16)
        outFs := ratAt b (o + 20), fbClassF := byteAt b (o + 24) == 1, chan := byteAt b (o + 25) }
    computed := crc32c ((b.drop 4).take 520) }

/-- AIN and AOUT (R560). -/
def ainRecord (b : Bytes) : AinCfg := { cfg := wordAt b 0, delay := wordAt b 4, scale := ratAt b 8, offset := ratAt b 12 }
def aoutRecord (b : Bytes) : AoutCfg :=
  { cfg := wordAt b 0, scale := ratAt b 4, offset := ratAt b 8, safeValue := ratAt b 12, dormantValue := ratAt b 16, outTimeout := leAt b 20 4 }

/-- CAN_PORT and CAN_CLASS (R560). -/
def canPortOf (b : Bytes) : CanPortCfg := { cfg := wordAt b 0, arbSample := leAt b 4 2, dataSample := leAt b 6 2, idBase := leAt b 8 4 }
def canClassOf (b : Bytes) : CanClassCfg := { primary := byteAt b 0, mirror := byteAt b 1, standby := byteAt b 2 == 1 }

/-- SER_PORT (R560). -/
def serPortOf (b : Bytes) : SerPortCfg :=
  { cfg := wordAt b 0, talker := leAt b 4 2, silence := leAt b 6 2, rates := numsAt b 8 2 5, mru := byteAt b 18 == 1
    negRoll := byteAt b 19 % 2 == 1, negPitch := byteAt b 19 / 2 % 2 == 1, rollName := textAt b 20 8, pitchName := textAt b 28 8 }

/-- ETH_IF (R560). -/
def ethIfOf (b : Bytes) : EthIfCfg :=
  { addr := leAt b 0 4, mask := leAt b 4 4, gateway := leAt b 8 4, sysId := (b.drop 12).take 6, ttl := byteAt b 18, outGroup := byteAt b 19
    rates := numsAt b 20 2 5 }

/-- S450_BIND (R560). -/
def s450Of (b : Bytes) : S450Cfg :=
  { iface := byteAt b 0, srcId := (b.drop 2).take 6, formatter := (b.drop 8).take 3, talker := leAt b 12 2, group := byteAt b 14 }

/-- DOMAIN (R562). -/
def domainOf (b : Bytes) : DomainCfg :=
  { domain := byteAt b 0, slots := byteAt b 1, topology := byteAt b 2, witness := byteAt b 3, parent := byteAt b 4, parentSlot := byteAt b 5
    extGroup := byteAt b 6, tolOut := ratAt b 8, tolAz := leAt b 12 2, tolF := ratAt b 16, tolM := ratAt b 20, portMask := numsAt b 24 1 8
    segments := numsAt b 32 2 24, longest := leAt b 80 4 }

/-- EVENT_TABLE (R561). -/
def eventsOf (b : Bytes) : List EventCfg :=
  (List.range (b.length / 8)).map fun k =>
    { code := leAt b (8 * k) 2, burst := byteAt b (8 * k + 2), cls := byteAt b (8 * k + 3), rate := leAt b (8 * k + 4) 2 }

/-- DENY_LIST (R563). -/
def denyOf (b : Bytes) : List Bytes := (List.range (b.length / 21)).map fun k => (b.drop (21 * k + 1)).take (byteAt b (21 * k))

/-- ROLE_MAP (R563). -/
def roleOf (b : Bytes) : RoleCfg := { role := byteAt b 0, name := (b.drop 2).take (byteAt b 1) }

/-- ACCOUNT (R563). -/
def accountOf (b : Bytes) : Account :=
  { name := (b.drop 4).take (byteAt b 0), role := byteAt b 1, salt := (b.drop 36).take 16, hash := (b.drop 52).take 32 }

/-- SLOT_MAP: owner and class of each slot (R558). -/
def slotsOf : Bytes → List (Nat × Nat)
  | owner :: cls :: b => (owner.toNat, cls.toNat) :: slotsOf b
  | _ => []

/-- A record enters the typed image (R548). -/
def addRecord (im : Image) (r : RawRecord) : Image :=
  let b := r.body
  match r.type with
  | 0x0001 => { im with info := b }
  | 0x0002 => { im with workload := workloadOf b }
  | 0x0010 => { im with scalars := scalarsOf b }
  | 0x0020 => { im with transforms := im.transforms ++ [(r.index, transformOf b)] }
  | 0x0021 => { im with refs := im.refs ++ [referenceOf r.index b] }
  | 0x0030 => { im with thrusters := im.thrusters ++ [(r.index, thrusterOf b)] }
  | 0x0031 => { im with buses := im.buses ++ [(r.index, busOf b)] }
  | 0x0032 => { im with groups := im.groups ++ [(r.index, groupOf b)] }
  | 0x0033 => { im with directions := directionsOf b }
  | 0x0034 => { im with failGroups := im.failGroups ++ [(r.index, failGroupOf b)] }
  | 0x0035 => { im with tunes := im.tunes ++ [(r.index, tuneOf b)] }
  | 0x0040 => { im with structs := im.structs ++ [(r.index, structOf b)] }
  | 0x0041 => { im with structs := im.structs.map fun x => if x.1 = r.index then (x.1, { x.2 with tags := numsAt b 0 4 (b.length / 4) }) else x }
  | 0x0042 => { im with schedule := (List.range (b.length / 16)).map fun k => { raw := (b.drop (16 * k)).take 16 } }
  | 0x0043 => { im with slotMap := slotsOf b }
  | 0x0050 => { im with safety := safetyOf b }
  | 0x0060 => { im with ains := im.ains ++ [(r.index, ainRecord b)] }
  | 0x0061 => { im with aouts := im.aouts ++ [(r.index, aoutRecord b)] }
  | 0x0062 => { im with fields := im.fields ++ [(r.index, wordAt b 0)] }
  | 0x0070 => { im with canPorts := im.canPorts ++ [(r.index, canPortOf b)] }
  | 0x0071 => { im with canClasses := im.canClasses ++ [(r.index, canClassOf b)] }
  | 0x0072 => { im with serPorts := im.serPorts ++ [(r.index, serPortOf b)] }
  | 0x0073 => { im with ethIfs := im.ethIfs ++ [(r.index, ethIfOf b)] }
  | 0x0074 => { im with s450 := im.s450 ++ [(r.index, s450Of b)] }
  | 0x0080 => { im with domain := some (domainOf b) }
  | 0x0090 => { im with events := eventsOf b }
  | 0x00A0 => { im with anchors := im.anchors ++ [(r.index, b)] }
  | 0x00A1 => { im with denyList := denyOf b }
  | 0x00A2 => { im with roleMap := im.roleMap ++ [(r.index, roleOf b)] }
  | 0x00A3 => { im with accounts := im.accounts ++ [(r.index, accountOf b)] }
  | _ => im

/-- The typed image of the records. -/
def imageOf (rs : List RawRecord) : Image := rs.foldl addRecord {}

end Sys2Proof.Machine
end

