-- ==== Sys2Proof/Machine/ImageRange.lean ====
section
/-!
DEFINITION. The phase 4 checks of one record (R549, R564, R605): SIZE, then RANGE field by field in byte order, then STRUCT_SIG. A range
check is a list of byte offsets with whether the field there is wrong; the first wrong one is the DETAIL.
-/
set_option autoImplicit false
namespace Sys2Proof.Machine

/-! ### Fields -/

/-- A bound as the binary32 value nearest to it, so that the nearest value to the bound lies within the range (assumption log 31). -/
def edge (q : Rat) : Rat := f32Val (f32Of q)

/-- A binary32 that is not finite, or whose value fails `ok`. -/
def wrongRat (b : Bytes) (i : Nat) (ok : Rat → Bool) : Nat × Bool := (i, !(f32Finite (f32At b i) && ok (ratAt b i)))

/-- Within lo … hi. -/
def within (lo hi x : Rat) : Bool := decide (edge lo ≤ x) && decide (x ≤ edge hi)

/-- Any finite number, one above 0, and one of at least 0. -/
def anyRat (_ : Rat) : Bool := true
def positive (x : Rat) : Bool := decide (0 < x)
def atLeast0 (x : Rat) : Bool := decide (0 ≤ x)

/-- A byte outside 0 to top. -/
def wrongByte (b : Bytes) (i top : Nat) : Nat × Bool := (i, decide (top < byteAt b i))

/-- A byte outside 0 to top that is not 0xFF either. -/
def wrongByteOr (b : Bytes) (i top : Nat) : Nat × Bool := (i, decide (top < byteAt b i) && byteAt b i != 255)

/-- A 16-bit field outside lo to hi. -/
def wrong16 (b : Bytes) (i lo hi : Nat) : Nat × Bool := (i, decide (leAt b i 2 < lo) || decide (hi < leAt b i 2))

/-- Reserved bytes that must be 0. -/
def wrongZero (b : Bytes) (i n : Nat) : List (Nat × Bool) := (List.range n).map fun k => (i + k, byteAt b (i + k) != 0)

/-- The first wrong field. -/
def firstWrong (l : List (Nat × Bool)) : Option Nat := (l.find? fun x => x.2).map (·.1)

/-! ### Scalars (R552) -/

/-- The number of ID is one of the vectors M, D and the process noise (R552). -/
def vectorScalar (id : Nat) : Bool :=
  (decide (0x0A10 ≤ id) && decide (id ≤ 0x0A18)) || (decide (0x0A20 ≤ id) && decide (id ≤ 0x0A28))
    || (decide (0x0A30 ≤ id) && decide (id ≤ 0x0A38))

/-- Range of a binary32 scalar; none for an ID that is no binary32 scalar of the table (R552 and the rules it names). -/
def ratScalar (id : Nat) : Option (Rat → Bool) :=
  match id with
  | 0x0102 => some (within 0 120)
  | 0x0103 => some (within 0 30)
  | 0x0801 => some (within 0 30)
  | 0x0802 => some (within 2 25)
  | 0x0803 => some (within 1 10)
  | 0x0804 => some (within (1/10) 2)
  | 0x0805 => some (within 2 20)
  | 0x0806 => some (within 1 60)
  | 0x0901 => some (within (1/1000000) (1/100))
  | 0x0A01 => some (within 0 1)
  | 0x0A02 => some (within 0 1)
  | 0x0A03 => some (within (1/10) 10)
  | 0x0A04 => some (within (1/20) 5)
  | 0x0A06 => some (within (1/20) 1)
  | 0x0A07 => some (within (1/100) 50)
  | 0x0A08 => some (within (1/100) 50)
  | 0x0A09 => some (within (1/100) 50)
  | 0x0A0A => some (within (1/100) 50)
  | 0x0D01 => some (within (1/5) 5)
  | 0x0D02 => some (within 1 500)
  | 0x0D03 => some (within (1/200) (1/5))
  | 0x0D04 => some (within 1 50)
  | 0x0D05 => some (within (1/2) 20)
  | 0x0D06 => some (within (1/10) 2)
  | 0x0D07 => some (within (1/10) 10)
  | 0x0D08 => some positive
  | 0x0D09 => some positive
  | _ => if vectorScalar id then some anyRat else none

/-- Range of a u32 scalar; none for an ID that is none (R552 and the rules it names). -/
def wordScalar (id : Nat) (v : Word) : Option Bool :=
  let n := v.toNat
  match id with
  | 0x0101 => some (decide (n ≤ 1))
  | 0x0301 => some (decide (20 ≤ n) && decide (n ≤ 1000) && n % 20 == 0)
  | 0x0807 => some (decide (n ≤ 3))
  | 0x0808 => some (decide (n ≤ 63))
  | 0x0809 => some (decide (n ≤ 63))
  | 0x080A => some (decide (field v 7 0 ≤ 3) && decide (field v 15 8 ≤ 3))
  | 0x080B => some (decide (field v 7 0 ≤ 3) && decide (field v 15 8 ≤ 3))
  | 0x0902 => some (decide (field v 2 1 ≤ 2) && decide (1 ≤ field v 14 3) && decide (field v 14 3 ≤ 3000) && field v 31 15 == 0)
  | 0x0A05 => some (decide (1 ≤ n) && decide (n ≤ 255))
  | 0x0C01 => some (decide (n ≤ 255))
  | 0x0D0A => some (decide (n ≤ 7))
  | 0x0D0B => some (decide (field v 7 0 ≤ 2))
  | 0x0D0C => some (decide (n ≤ 0xFFFF))
  | 0x0D0D => some (decide (n ≤ 255))
  | 0x0D0E => some (decide (n ≤ 255))
  | 0x1001 => some (decide (n ≤ 3))
  | 0x1101 => some (decide (10 ≤ n) && decide (n ≤ 1000))
  | 0x1701 => some (decide (10 ≤ n) && decide (n ≤ 3600))
  | _ => none

/-- A scalar's VALUE is in range; an ID absent from the table is not (R552). -/
def scalarOk (e : Nat × F32) : Bool :=
  match ratScalar e.1, wordScalar e.1 e.2 with
  | some ok, _ => f32Finite e.2 && ok (f32Val e.2)
  | none, some ok => ok
  | none, none => false

/-- Entries in order: each wrong when its VALUE is or when its ID does not ascend; the DETAIL is the ID (R552, R564). -/
def wrongScalars : Option Nat → List (Nat × F32) → List (Nat × Bool)
  | _, [] => []
  | prev, e :: es => (e.1, !(scalarOk e && prev.all fun p => decide (p < e.1))) :: wrongScalars (some e.1) es

/-! ### Records -/

/-- Transform, REFERENCE and WORKLOAD fields (R130, R133, R553, R554). -/
def wrongTransform (b : Bytes) : List (Nat × Bool) :=
  [wrongRat b 0 anyRat, wrongRat b 4 anyRat, wrongRat b 8 anyRat, wrongByte b 20 1] ++ wrongZero b 21 3

/-- The source kinds that a reference type takes (R130, R554). -/
def sourceFits (type kind : Nat) : Bool :=
  match type with
  | 0 => decide (kind ≤ 1) | 1 => kind == 2 || kind == 3 | 2 => kind == 2 || kind == 3 | 3 => kind == 4
  | 8 => decide (kind ≤ 1) | 9 => kind == 2 || kind == 3 | 10 => kind == 2 || kind == 3 | _ => false

def wrongReference (slot : Nat) (b : Bytes) : List (Nat × Bool) :=
  let t := byteAt b 0
  let k := byteAt b 2
  let wire := t == 3
  [(0, !(if slot < 8 then decide (t ≤ 3) else decide (8 ≤ t) && decide (t ≤ 10))), wrongByte b 1 63, (2, !sourceFits t k),
   (3, decide ((if k = 2 then 3 else if k = 3 then 31 else if k = 4 then 15 else 255) < byteAt b 3)),
   (4, wire && decide (15 < byteAt b 4)), (5, wire && (wrongByteOr b 5 15).2), wrongByte b 6 1,
   wrongRat b 8 (within (1/10) 10), wrongRat b 12 atLeast0, wrongRat b 16 atLeast0, wrongRat b 20 anyRat, wrongRat b 24 (within 0 1)]

/-- The thrust of one point of an output table lies below that of the next, and its output not above (R555). -/
def wrongTable (b : Bytes) (o : Nat) : List (Nat × Bool) :=
  (List.range 16).flatMap fun k =>
    let i : Nat := o + 8 * k
    [(i, !(f32Finite (f32At b i) && (k == 0 || decide (ratAt b (i - 8) < ratAt b i)))),
     (i + 4, !(f32Finite (f32At b (i + 4)) && (k == 0 || decide (ratAt b (i - 4) ≤ ratAt b (i + 4)))))]

/-- THRUSTER (R240, R263 to R265, R273, R277, R280, R292, R555). -/
def wrongThruster (b : Bytes) : List (Nat × Bool) :=
  let az := byteAt b 4 == 0
  [wrongByte b 4 2, (5, byteAt b 5 == 0 || decide (63 < byteAt b 5)), wrongByte b 6 7, wrongByte b 7 63,
   wrongRat b 8 positive, wrongRat b 12 (fun x => decide (0 ≤ x) && (!az || x == 0)), wrongRat b 16 positive, wrongRat b 20 positive,
   wrongRat b 24 positive, wrongRat b 28 (fun x => if az then decide (0 < x) else x == 0),
   wrongByte b 48 4, (49, decide (1 < byteAt b 49) || (!az && byteAt b 49 != 0)), wrongByte b 50 1, wrongByte b 51 2, wrongByte b 52 2,
   wrongByteOr b 53 15, wrongByteOr b 54 15, wrongByte b 55 1,
   (60, byteAt b 49 == 1 && decide (leAt b 58 2 ≤ leAt b 60 2)), wrongByteOr b 62 47, wrongByteOr b 63 15,
   wrongRat b 64 (within 0 (1/2)), wrongRat b 68 (within (1/20) 20), wrongRat b 72 (within (1/100) (1/2)),
   wrongRat b 76 (within (1/500) (1/10)), wrongRat b 80 (within (1/2) 10), wrongRat b 84 atLeast0, wrongRat b 88 atLeast0,
   wrongRat b 92 atLeast0, wrongRat b 96 atLeast0, wrongRat b 100 atLeast0, wrongRat b 104 (within 1 50), wrongRat b 108 (within 5 100)]
  ++ wrongTable b 112
  ++ (if az then (wrongZero b 240 128) else wrongTable b 240)

/-- GROUP (R244, R556). -/
def wrongGroup (index : Nat) (b : Bytes) : List (Nat × Bool) :=
  let n := byteAt b 2
  [(0, if index = 0 then byteAt b 0 != 255 else decide (63 < byteAt b 0)), wrongByte b 1 1,
   (2, if byteAt b 1 = 1 then n != 0 else n == 0 || decide (32 < n)), wrongByte b 3 1, wrong16 b 4 0 255, wrong16 b 6 0 511]
  ++ (List.range (min n 32)).map fun k =>
    (8 + 2 * k, decide ((if byteAt b (9 + 2 * k) % 2 = 1 then 63 else 15) < byteAt b (8 + 2 * k)))

/-- Limits of a component of force or moment: `f` for the first two of three, `m` for the third. -/
def wrongThree (b : Bytes) (i : Nat) (f m : Rat) : List (Nat × Bool) :=
  [wrongRat b i (within 0 f), wrongRat b (i + 4) (within 0 f), wrongRat b (i + 8) (within 0 m)]

/-- TUNING_SET (R227, R557); R_u is tested for the thrusters of `defined`. -/
def wrongTune (defined : List Nat) (b : Bytes) : List (Nat × Bool) :=
  ([0, 4, 8].map fun i => wrongRat b i positive) ++ ([12, 16, 20, 24, 28].map fun i => wrongRat b i atLeast0)
  ++ ((List.range 32).map fun k => wrongRat b (32 + 4 * k) fun x => if defined.contains (k / 2) then decide (0 < x) else decide (0 ≤ x))
  ++ ((List.range 9).map fun k => wrongRat b (160 + 4 * k) atLeast0)
  ++ wrongThree b 196 10000 1000000
  ++ [wrongRat b 208 (within 100 1000000), wrongRat b 212 (within 100 1000000)]
  ++ wrongThree b 216 50 500
  ++ [wrongRat b 228 atLeast0, wrongRat b 232 (within (1/50) 10), wrongRat b 236 (within (1/100) 1), wrongRat b 240 (within (1/20) 5)]
  ++ wrongThree b 244 10000 1000000
  ++ (List.range (leAt b 256 2)).flatMap fun j =>
    let o : Nat := 264 + 12 * j
    [wrongByte b o 63, wrongByte b (o + 1) 31, wrongRat b (o + 4) (within 0 1000), wrongRat b (o + 8) (within 0 1000)]

/-- A pattern in canonical form (R180): pointers from 0 to the number of nonzeros, not falling, and rows ascending within a column and
below the number of rows. -/
def canonical (n rows nnz : Nat) (p : List Nat) : Bool :=
  let ptr := p.take (n + 1)
  let idx := p.drop (n + 1)
  ptr.head? == some 0 && ptr.getLast? == some nnz && (ptr.zip ptr.tail).all (fun e => decide (e.1 ≤ e.2)) && idx.all (fun r => decide (r < rows))
    && (ptr.zip ptr.tail).all fun e =>
      let col := (idx.drop e.1).take (e.2 - e.1)
      (col.zip col.tail).all fun r => decide (r.1 < r.2)

/-- Limits of a class on n, m_e, m_i and the nonzeros (R179). -/
def classLimits (cls : Nat) : Nat × Nat × Nat × Nat := if cls = 0 ∨ cls = 2 then (512, 64, 1024, 16384) else (4096, 2048, 8192, 262144)

/-- What the model counts of a problem's working set (R175, R179): the data vector and the vectors of the iterate. How much the factors take
depends on the order of elimination, which the rules leave open (DESIGN CHOICE, assumption log 19). -/
def StructCfg.workingSet (t : StructCfg) : Nat := 8 * (t.dataLen + 3 * t.n + t.mE + 2 * t.mI)

/-- STRUCTURE (R179, R180, R204, R213, R558). -/
def wrongStruct (b : Bytes) : List (Nat × Bool) :=
  let c := structOf b
  let lim := classLimits c.cls
  let nnz := c.nnzH + c.nnzA + c.nnzC
  let a := 96 + arrayBytes c.n c.nnzH
  let d := a + arrayBytes c.n c.nnzA
  let e := d + arrayBytes c.n c.nnzC
  [wrongByte b 0 3, wrong16 b 2 4 40, (4, decide (lim.1 < c.n) || c.n == 0), (8, decide (lim.2.1 < c.mE)), (12, decide (lim.2.2.1 < c.mI)),
   (16, decide (lim.2.2.2 < nnz) || ((c.cls == 0 || c.cls == 2) && decide (workBytes < c.workingSet))), wrongRat b 36 (within (1/1000000000000) (1/10000)), wrongRat b 40 (within (1/1000000000000) (1/10000)),
   wrongRat b 44 (within (10 * c.epsFeas) (1/1000))]
  ++ ((List.range 9).map fun k =>
    let x := c.blockBounds.getD k 0
    (56 + 4 * k, if c.cls = 1 then decide (c.n < x) || (k != 0 && decide (x < c.blockBounds.getD (k - 1) 0)) else x != 0))
  ++ [(96, !canonical c.n c.n c.nnzH c.patH), (a, !canonical c.n c.mE c.nnzA c.patA), (d, !canonical c.n c.mI c.nnzC c.patC)]
  ++ (List.range c.dataLen).map fun k => (e + 8 * k, (c.defaultData.getD k 0) / 2 ^ 52 % 2048 == 2047 && c.defaultData.getD k 0 % 2 ^ 52 != 0)

/-- SCHEDULE (R214): known operations, reserved flag bits 0, LEN 1 to 4,096, operands within the working set or
the spill region (R175), and jumps within the structure that holds the entry. -/
def wrongSchedule (structs : List StructCfg) (b : Bytes) : List (Nat × Bool) :=
  (List.range (b.length / 16)).flatMap fun k =>
    let o : Nat := 16 * k
    let op := byteAt b o
    let home := structs.find? fun c => decide (c.firstSched ≤ k) && decide (k < c.firstSched + c.schedCount)
    let far := fun (i : Nat) => decide (1 ≤ op) && decide (op ≤ 9) && !offsetOk (leAt b i 4)
    let jump := leAt b (o + 8) 4
    [(o, !((decide (1 ≤ op) && decide (op ≤ 12)) || op == 255)), wrongByte b (o + 1) 1, wrong16 b (o + 2) 1 4096, (o + 4, far (o + 4)),
     (o + 8, far (o + 8) || (op == 11 && home.any fun c => decide (jump < c.firstSched) || decide (c.firstSched + c.schedCount ≤ jump))),
     (o + 12, far (o + 12))]

/-- SLOT_MAP (R183, R558): an owner and a class for each slot; an assigned slot's owner is that of its class (R179; DEDUCED, assumption
log 19). -/
def wrongSlotMap (b : Bytes) : List (Nat × Bool) :=
  (slotsOf b).zipIdx.flatMap fun ((owner, cls), k) =>
    [(2 * k, owner != 3 && owner != (match cls with | 0 => 0 | 3 => 2 | _ => 1)), (2 * k + 1, decide (3 < cls))]

/-- Largest output magnitude of a thruster's tables (R359, R559). -/
def ThrCfg.largestOutput (c : ThrCfg) : Rat := maxList 0 ((c.fwdTable ++ c.revTable).map fun x => absQ x.2)

/-- SAFETY (R351, R352, R356, R360 to R364, R372, R559), with the thrusters of the image. -/
def wrongSafety (thr : List (Nat × ThrCfg)) (b : Bytes) : List (Nat × Bool) :=
  let used := fun (k : Nat) => (List.range 16).any fun i => byteAt b (60 + i) == k
  [wrong16 b 4 10 500, wrongByte b 6 1, wrongByte b 7 1, wrongByte b 8 7, wrongByte b 9 7, wrong16 b 10 30 365]
  ++ ((List.range 8).flatMap fun k => if used k then [wrong16 b (28 + 4 * k) 1000 60000, wrong16 b (30 + 4 * k) 20 1000] else [])
  ++ ((List.range 16).map fun i => (60 + i, if (lookupK thr i).isSome then decide (7 < byteAt b (60 + i)) else (wrongByteOr b (60 + i) 7).2))
  ++ (List.range 16).flatMap fun i =>
    let o : Nat := 76 + 28 * i
    match lookupK thr i with
    | none => []
    | some c =>
      [wrongRat b o (within (1/50) 10), wrongRat b (o + 4) (within 0 5), wrongRat b (o + 8) (within (1/100) (3/10)), wrongRat b (o + 12) atLeast0,
       wrongRat b (o + 16) (within (1/2) 10), wrongRat b (o + 20) (fun x => x == c.largestOutput), wrongByte b (o + 24) 1,
       (o + 25, byteAt b (o + 24) == 1 && decide (15 < byteAt b (o + 25)))]

/-- AIN and AOUT (R299, R303, R309, R312, R314, R315, R560). -/
def wrongAin (b : Bytes) : List (Nat × Bool) :=
  let w := wordAt b 0
  let rate := field w 22 6
  let f := bit w 3
  [(0, decide (3 < field w 2 0) || rate == 0 || decide (80000 < rate) || (!f && !gridRate rate)),
   (4, if f then !delayOk rate (field (wordAt b 4) 11 0) else field (wordAt b 4) 11 0 != 0), wrongRat b 8 anyRat, wrongRat b 12 anyRat]
def wrongAout (b : Bytes) : List (Nat × Bool) :=
  [(0, decide (3 < field (wordAt b 0) 3 1)), wrongRat b 4 anyRat, wrongRat b 8 anyRat, wrongRat b 12 anyRat, wrongRat b 16 anyRat,
   (20, decide (leAt b 20 4 < 10) || decide (1000 < leAt b 20 4))]

/-- FIELD (R323, R326, R331, R340). -/
def wrongField (b : Bytes) : List (Nat × Bool) :=
  let w := wordAt b 0
  [(0, decide (2 < field w 1 0) || decide (3 < field w 5 3) || decide (2 < field w 7 6) || decide (100 < field w 20 14))]

/-- CAN_PORT and CAN_CLASS (R376, R389, R409, R560). -/
def wrongCanPort (b : Bytes) : List (Nat × Bool) :=
  let w := wordAt b 0
  let data := field w 4 2
  let base := leAt b 8 4
  [(0, decide (4 < data) || (field w 1 0 == 0 && decide (2 < data))), wrong16 b 4 750 875,
   (6, data != 0 && (wrong16 b 6 600 800).2), (8, base % 256 != 0 || decide ((if bit w 9 then 2 ^ 29 - 1 else 0x700) < base))]
def wrongCanClass (b : Bytes) : List (Nat × Bool) := [wrongByte b 0 3, wrongByteOr b 1 3, wrongByte b 2 1]

/-- Sentence rates from offset i: 0, 1, 2, 5 or 10 Hz; ZDA 0 or 1 (R403, R560). -/
def wrongRates (b : Bytes) (i : Nat) : List (Nat × Bool) :=
  (List.range 5).map fun k => (i + 2 * k, !((if k = 3 then [0, 1] else [0, 1, 2, 5, 10]).contains (leAt b (i + 2 * k) 2)))

/-- SER_PORT (R399, R402, R410, R560): the rate fits the mode. -/
def wrongSerPort (b : Bytes) : List (Nat × Bool) :=
  let w := wordAt b 0
  let mode := field w 1 0
  let baud := field w 6 4
  [(0, decide (2 < mode) || (mode == 1 && baud != 0 && baud != 3) || (mode == 2 && (baud == 0 || decide (5 < baud)))), wrong16 b 6 1 60]
  ++ wrongRates b 8 ++ [wrongByte b 18 1]

/-- ETH_IF and S450_BIND (R407, R408, R560). -/
def wrongEthIf (b : Bytes) : List (Nat × Bool) := [(18, byteAt b 18 == 0 || decide (8 < byteAt b 18)), wrongByte b 19 15] ++ wrongRates b 20
def wrongS450 (b : Bytes) : List (Nat × Bool) := [wrongByte b 0 1, wrongByte b 14 15]

/-- DOMAIN (R413, R426, R562). -/
def wrongDomain (b : Bytes) : List (Nat × Bool) :=
  [(0, byteAt b 0 == 0), (1, decide (byteAt b 1 < 2) || decide (8 < byteAt b 1)), (2, byteAt b 2 == 0 || decide (3 < byteAt b 2)), wrongByteOr b 3 3, wrongByte b 5 7,
   wrongByte b 6 63, wrongRat b 8 atLeast0, wrongRat b 16 atLeast0, wrongRat b 20 atLeast0]
  ++ ((List.range 8).map fun k => wrongByte b (24 + k) 7) ++ wrongZero b 84 4

/-- EVENT_TABLE (R25, R503, R561): ascending codes, none with NN = 0x00. -/
def wrongEvents (b : Bytes) : List (Nat × Bool) :=
  (List.range (b.length / 8)).flatMap fun k =>
    let o : Nat := 8 * k
    [(o, leAt b o 2 % 256 == 0 || (k != 0 && decide (leAt b o 2 ≤ leAt b (o - 8) 2))), (o + 2, byteAt b (o + 2) == 0), wrongByte b (o + 3) 2,
     wrong16 b (o + 4) 1 6000]

/-- DENY_LIST, ROLE_MAP and ACCOUNT (R445, R450, R563). -/
def wrongDeny (b : Bytes) : List (Nat × Bool) := (List.range (b.length / 21)).map fun k => wrongByte b (21 * k) 20
def wrongRole (b : Bytes) : List (Nat × Bool) := [wrongByte b 0 3, wrongByte b 1 64]
def wrongAccount (b : Bytes) : List (Nat × Bool) := [(0, byteAt b 0 == 0 || decide (32 < byteAt b 0)), wrongByte b 1 3]

/-- DIRECTIONS (R245). -/
def wrongDirections (b : Bytes) : List (Nat × Bool) := (List.range (b.length / 4)).map fun k => wrongRat b (4 * k) anyRat

/-! ### SIZE, RANGE and STRUCT_SIG of a record (R548, R605) -/

/-- The body length fits the type (R548). A TAG_TABLE is measured by its structure, when that is there. -/
def sizeOk (im : Image) (r : RawRecord) : Bool :=
  let n := r.body.length
  match r.type with
  | 0x0001 => decide (n ≤ 4096)
  | 0x0002 => n == 64
  | 0x0010 => n % 8 == 0
  | 0x0020 => n == 24
  | 0x0021 => n == 36
  | 0x0030 => n == 368
  | 0x0031 => n == 12
  | 0x0032 => n == 72
  | 0x0033 => n % 12 == 0 && decide (1 ≤ n / 12) && decide (n / 12 ≤ 32)
  | 0x0034 => n == 20
  | 0x0035 => decide (264 ≤ n) && n == 264 + 12 * leAt r.body 256 2
  | 0x0040 => decide (96 ≤ n) && n == (structHeader r.body).bodyLen
  | 0x0041 => match lookupK im.structs r.index with | some c => n == 4 * (c.n + c.mE + c.mI) | none => n % 4 == 0
  | 0x0042 => n % 16 == 0 && decide (n / 16 ≤ 8192)
  | 0x0043 => n == 1024
  | 0x0050 => n == 524
  | 0x0060 => n == 16
  | 0x0061 => n == 24
  | 0x0062 => n == 4
  | 0x0070 => n == 12
  | 0x0071 => n == 4
  | 0x0072 => n == 40
  | 0x0073 => n == 32
  | 0x0074 => n == 16
  | 0x0080 => n == 88
  | 0x0090 => n % 8 == 0 && decide (n / 8 ≤ 4096)
  | 0x00A0 => decide (n ≤ 2048)
  | 0x00A1 => n % 21 == 0 && decide (n / 21 ≤ 64)
  | 0x00A2 => n == 66
  | 0x00A3 => n == 84
  | _ => n == 0

/-- The fields of a record with whether each is wrong, in byte order; `im` holds the records before it (R549). -/
def wrongFields (im : Image) (r : RawRecord) : List (Nat × Bool) :=
  let b := r.body
  match r.type with
  | 0x0002 => wrongZero b 40 24
  | 0x0010 => wrongScalars none (scalarEntries b)
  | 0x0020 => wrongTransform b
  | 0x0021 => wrongReference r.index b
  | 0x0030 => wrongThruster b
  | 0x0031 => [wrongRat b 0 atLeast0, wrongByte b 4 2, (5, byteAt b 4 == 2 && decide (15 < byteAt b 5)), wrongRat b 8 atLeast0]
  | 0x0032 => wrongGroup r.index b
  | 0x0033 => wrongDirections b
  | 0x0034 => [wrong16 b 16 0 255, wrong16 b 18 0 511]
  | 0x0035 => wrongTune (im.thrusters.map (·.1)) b
  | 0x0040 => wrongStruct b
  | 0x0042 => wrongSchedule (im.structs.map (·.2)) b
  | 0x0043 => wrongSlotMap b
  | 0x0050 => wrongSafety im.thrusters b
  | 0x0060 => wrongAin b
  | 0x0061 => wrongAout b
  | 0x0062 => wrongField b
  | 0x0070 => wrongCanPort b
  | 0x0071 => wrongCanClass b
  | 0x0072 => wrongSerPort b
  | 0x0073 => wrongEthIf b
  | 0x0074 => wrongS450 b
  | 0x0080 => wrongDomain b
  | 0x0090 => wrongEvents b
  | 0x00A1 => wrongDeny b
  | 0x00A2 => wrongRole b
  | 0x00A3 => wrongAccount b
  | _ => []

/-- The first failing check of one record (R605): SIZE, RANGE, STRUCT_SIG. -/
def recordCheck (im : Image) (r : RawRecord) : Option ImgFail :=
  let f := fun (cause detail : Nat) => some { cause := cause, type := r.type, index := r.index, detail := detail % 65536 : ImgFail }
  if sizeOk im r = false then f 10 0
  else match firstWrong (wrongFields im r) with
    | some d => f 11 d
    | none => if r.type = 0x0040 ∧ (structOf r.body).sig ≠ (structHeader r.body).signature then f 15 28 else none

/-- The records in image order, each checked before the next (R605). -/
def checkRecords : Image → List RawRecord → Image × Option ImgFail
  | im, [] => (im, none)
  | im, r :: rs =>
    match recordCheck im r with
    | some f => (im, some f)
    | none => checkRecords (addRecord im r) rs

end Sys2Proof.Machine
end

