-- ==== Sys2Proof/Machine/ImageCheck.lean ====
section
/-!
DEFINITION. The phase 4 checks over the whole image (R549, R564, R605): MISSING, REFERENCE, RULE, WORKLOAD and VARIANT, and the outcome of all
checks of an image.
-/
set_option autoImplicit false
namespace Sys2Proof.Machine

/-- A named check: what it reports, and whether it fails. -/
def wrongAt (type index detail : Nat) (bad : Bool) : ImgFail × Bool := ({ cause := 0, type := type, index := index, detail := detail }, bad)

/-- The first failing check of a list, under a cause. -/
def firstFail (cause : Nat) (l : List (ImgFail × Bool)) : Option ImgFail := (l.find? fun x => x.2).map fun x => { x.1 with cause := cause }

/-- An item of this index is present. -/
def present {α : Type} (l : List (Nat × α)) (i : Nat) : Bool := (lookupK l i).isSome

/-- A record of this type is present. -/
def hasType (rs : List RawRecord) (t : Nat) : Bool := rs.any fun r => r.type == t

/-! ### MISSING (R548, R552) -/

/-- Scalars that have no default, with whether the image needs them (R552). -/
def neededScalars (im : Image) : List (Nat × Bool) :=
  let base := im.refs.any fun r => r.type == 8
  [(0x0808, base), (0x0809, base)] ++ ((List.range 9).map fun k => (0x0A10 + k, true)) ++ ((List.range 9).map fun k => (0x0A20 + k, true))
  ++ ((List.range 9).map fun k => (0x0A30 + k, true)) ++ [(0x0C01, true), (0x0D0D, true), (0x0D0E, true)]

/-- The structures that the image names (R548). -/
def namedStructs (im : Image) : List Nat :=
  ((im.groups.filter fun g => !g.2.external).map fun g => g.2.struct) ++ (im.failGroups.map fun f => f.2.struct)
  ++ [im.scalars.testStruct, im.scalars.mpcStruct, im.scalars.mpcStructHot]

/-- Required records and scalars, in ascending TYPE (R548, R605). -/
def missingChecks (rs : List RawRecord) (im : Image) : List (ImgFail × Bool) :=
  let ids := (rs.filter fun r => r.type == 0x0010).flatMap fun r => (scalarEntries r.body).map (·.1)
  let lone := fun (t : Nat) => wrongAt t 0 0 (!hasType rs t)
  [lone 0x0002, lone 0x0010]
  ++ ((neededScalars im).map fun e => wrongAt 0x0010 0 e.1 (e.2 && !ids.contains e.1))
  ++ [wrongAt 0x0020 0 0 (!present im.transforms 0), wrongAt 0x0030 0 0 im.thrusters.isEmpty]
  ++ ((List.range 8).map fun k => wrongAt 0x0031 k 0 ((im.thrusters.any fun t => t.2.bus == k) && !present im.buses k))
  ++ [wrongAt 0x0032 0 0 (!present im.groups 0), wrongAt 0x0035 im.scalars.tuneDefault 0 (!present im.tunes im.scalars.tuneDefault)]
  ++ ((List.range 256).map fun k => wrongAt 0x0040 k 0 ((namedStructs im).contains k && !present im.structs k))
  ++ [wrongAt 0x0042 0 0 ((im.structs.any fun c => c.2.cls == 1 || c.2.cls == 3) && !hasType rs 0x0042), lone 0x0043, lone 0x0050,
      wrongAt 0x0073 0 0 (!present im.ethIfs 0), wrongAt 0x0073 1 0 (!present im.ethIfs 1), lone 0x0090]

/-! ### REFERENCE (R549) -/

/-- An analog channel of the class a use needs (R300): class F when `f`. -/
def Image.channel (im : Image) (f : Bool) (c : Nat) : Bool :=
  match lookupK im.ains c with | some a => bit a.cfg 3 == f | none => false

/-- Bits of a mask that name nothing present. -/
def strayBits (n mask : Nat) (there : Nat → Bool) : Bool := (List.range n).any fun i => mask / 2 ^ i % 2 == 1 && !there i

/-- A tag that is 0 or occurs before its place in the list (R549). -/
def badTag (l : List Nat) (k : Nat) : Bool := l.getD k 0 == 0 || (l.take k).contains (l.getD k 0)

/-- A structure present and of this class. -/
def Image.structClass (im : Image) (i cls : Nat) : Bool := match lookupK im.structs i with | some c => c.cls == cls | none => false

/-- Cross-references of the scalars (R549, R552). -/
def scalarRefs (im : Image) : List (ImgFail × Bool) :=
  let c := im.scalars
  let base := im.refs.any fun r => r.type == 8
  [wrongAt 0x0010 0 0x0808 ((base || c.baselineNamedA) && !present im.transforms c.baselineA), wrongAt 0x0010 0 0x0809 ((base || c.baselineNamedB) && !present im.transforms c.baselineB),
   wrongAt 0x0010 0 0x080A (c.corrPriKind == 1 && !present im.serPorts c.corrPriSer),
   wrongAt 0x0010 0 0x080B (c.corrSecKind == 1 && !present im.serPorts c.corrSecSer),
   wrongAt 0x0010 0 0x0C01 (!im.structClass c.testStruct 3),
   wrongAt 0x0010 0 0x0D0B (c.joySource == 1 && c.joyChans.any fun x => x != 255 && !im.channel false x),
   wrongAt 0x0010 0 0x0D0D (!im.structClass c.mpcStruct 1), wrongAt 0x0010 0 0x0D0E (!im.structClass c.mpcStructHot 1)]

/-- Cross-references of the references, and at most one GNSS_INT an antenna and one GNSS_BASELINE (R130, R549). -/
def referenceRefs (im : Image) : List (ImgFail × Bool) :=
  let tags := im.refs.map RefCfg.tag
  (List.range im.refs.length).flatMap fun k =>
    let r := im.refs.getD k {}
    let before := im.refs.take k
    let a := fun (off : Nat) (bad : Bool) => wrongAt 0x0021 r.slot off bad
    [a 0 ((r.type == 8 && before.any (fun x => x.type == 8)) || (r.type == 0 && before.any fun x => x.type == 0 && x.srcKind == r.srcKind)),
     a 1 (!present im.transforms r.transform),
     a 3 ((r.srcKind == 2 && !present im.serPorts r.srcIndex) || (r.srcKind == 3 && !present im.s450 r.srcIndex)
       || (r.srcKind == 4 && !im.channel false r.srcIndex)),
     a 4 (r.type == 3 && !im.channel false r.chan2), a 5 (r.type == 3 && r.depthChan != 255 && !im.channel false r.depthChan),
     a 28 (badTag tags k)]

/-- A field input of the image (R323, R549). -/
def Image.fieldInput (im : Image) (c : Nat) : Bool := match lookupK im.fields c with | some w => field w 1 0 == 1 | none => false

/-- Cross-references of the thrusters (R265, R300, R394, R549). -/
def thrusterRefs (im : Image) : List (ImgFail × Bool) :=
  let tags := im.thrusters.map fun t => t.2.tag
  (List.range im.thrusters.length).flatMap fun k =>
    let (i, t) := im.thrusters.getD k (0, {})
    let a := fun (off : Nat) (bad : Bool) => wrongAt 0x0030 i off bad
    let servo := t.azKind == 1
    [a 0 (badTag tags k), a 5 (!present im.transforms t.transform), a 6 (!present im.buses t.bus),
     a 7 ((match lookupK im.groups t.group with
       | some g => (g.children.filter fun c => !c.isGroup && c.index == i).length != 1 || g.external
       | none => true)
       || (im.groups.any fun g => g.1 != t.group && g.2.children.any fun c => !c.isGroup && c.index == i)),
     a 53 (servo && decide (t.fbSource ≤ 1) && !im.channel true t.fbChanA), a 54 (servo && t.fbSource == 0 && !im.channel true t.fbChanB),
     a 62 (t.readySrc != 255 && !im.fieldInput t.readySrc), a 63 (t.pitchFb != 255 && !im.channel true t.pitchFb)]

/-- A group lies on a path of parents to the root within 64 steps (R549). -/
def Image.reachesRoot (im : Image) : Nat → Nat → Bool
  | 0, g => g == 0
  | n + 1, g => g == 0 || (match lookupK im.groups g with | some x => Image.reachesRoot im n x.parent | none => false)

/-- The allocation tree and the other references of buses, groups and failure groups (R244, R256, R549). -/
def treeRefs (im : Image) : List (ImgFail × Bool) :=
  let ftags := im.failGroups.map fun f => f.2.tag
  (im.buses.map fun b => wrongAt 0x0031 b.1 5 (b.2.source == 2 && !im.channel false b.2.chan))
  ++ (im.groups.flatMap fun g =>
    let a := fun (off : Nat) (bad : Bool) => wrongAt 0x0032 g.1 off bad
    [a 0 ((g.1 != 0 && (match lookupK im.groups g.2.parent with
        | some p => (p.children.filter fun c => c.isGroup && c.index == g.1).length != 1
        | none => true)) || !im.reachesRoot 64 g.1),
     a 4 (!g.2.external && !im.structClass g.2.struct 0)]
    ++ (List.range g.2.children.length).map fun k =>
      let c := g.2.children.getD k {}
      a (8 + 2 * k) (if c.isGroup then (match lookupK im.groups c.index with | some x => x.parent != g.1 || c.index == 0 | none => true)
        else (match lookupK im.thrusters c.index with | some t => t.group != g.1 | none => true)))
  ++ (List.range im.failGroups.length).flatMap fun k =>
    let (i, f) := im.failGroups.getD k (0, {})
    let a := fun (off : Nat) (bad : Bool) => wrongAt 0x0034 i off bad
    [a 0 (badTag ftags k), a 4 (strayBits 16 f.thrMask (present im.thrusters)), a 6 (strayBits 8 f.busMask (present im.buses)),
     a 8 (strayBits 64 f.extMask fun g => match lookupK im.groups g with | some x => x.external | none => false),
     a 16 (!im.structClass f.struct 2)]

/-- References of the tuning sets, the solver records, safety, I/O and the domain (R300, R356, R549). -/
def otherRefs (rs : List RawRecord) (im : Image) : List (ImgFail × Bool) :=
  (im.tunes.flatMap fun t => (List.range t.2.weights.length).map fun j =>
    let w := t.2.weights.getD j {}
    wrongAt 0x0035 t.1 (264 + 12 * j) (match lookupK im.groups w.group with | some g => decide (g.children.length ≤ w.child) | none => true))
  ++ (im.structs.map fun c => wrongAt 0x0040 c.1 48
      ((c.2.cls == 1 || c.2.cls == 3) && c.2.firstSched != 0xFFFFFFFF && decide (im.schedule.length < c.2.firstSched + c.2.schedCount)))
  ++ ((rs.filter fun r => r.type == 0x0041).map fun r => wrongAt 0x0041 r.index 0 (!present im.structs r.index))
  ++ ((List.range 8).map fun k => wrongAt 0x0050 0 (12 + 2 * k) (strayBits 16 (im.safety.scopes.getD k 0) (present im.thrusters)))
  ++ ((List.range 16).map fun i =>
      let x := im.safety.thr.getD i {}
      wrongAt 0x0050 0 (76 + 28 * i + 25) (present im.thrusters i && x.fbClassF && !im.channel true x.chan))
  ++ (im.aouts.map fun o => wrongAt 0x0061 o.1 0 ((field o.2.cfg 3 1 == 1 || field o.2.cfg 3 1 == 2) && !present im.thrusters (field o.2.cfg 7 4)))
  ++ (im.fields.map fun f => wrongAt 0x0062 f.1 0 (field f.2 1 0 == 2 && field f.2 5 3 == 2 && !present im.thrusters (field f.2 27 24)))
  ++ (im.canClasses.flatMap fun c =>
      [wrongAt 0x0071 c.1 0 (!present im.canPorts c.2.primary), wrongAt 0x0071 c.1 1 (c.2.mirror != 255 && !present im.canPorts c.2.mirror)])
  ++ (match im.domain with
      | some d => [wrongAt 0x0080 0 3 (d.witness != 255 && !present im.canPorts d.witness)]
      | none => [])

/-! ### RULE (R273, R356, R364, R384, R504, R592) -/

/-- Largest coast c_max of R273 at a rate, with T_OUT of 1 ms (R266). -/
def coastMax (rate delay decel : Rat) : Rat := rate * (1 / 1000 + delay) + rate * rate / (2 * decel)

/-- The switching bands of a thruster are too narrow (R273, R275). -/
def ThrCfg.bandsBad (t : ThrCfg) : Bool :=
  (t.azKind == 1 && decide (radOf (turnsOf t.bandOn) < radOf (turnsOf t.bandOff) + t.aRate / 10 + coastMax t.aRate t.drvDelay t.decel))
  || (t.thrustKind == 0 && decide (t.pbOn < t.pbOff + t.pRate / 10 + coastMax t.pRate t.pDrvDelay t.pDecel))

/-- The mask of the thrusters on a pair (R356). -/
def Image.pairMask (im : Image) (k : Nat) : Nat :=
  bitsToNat ((List.range 16).map fun i => present im.thrusters i && im.safety.pairOf.getD i 255 == k)

/-- Codes the module can raise, by the event tables of the chapters: the first of each run and how many follow in order (R25, R504). -/
def raisable : List (Nat × Nat) :=
  [(0x0110, 7), (0x0120, 13), (0x0210, 5), (0x0310, 7), (0x0410, 3), (0x0810, 18), (0x0910, 11), (0x0A10, 19), (0x0C10, 12), (0x0D10, 19),
   (0x0E10, 14), (0x1010, 8), (0x1110, 13), (0x1210, 16), (0x1410, 8), (0x1510, 4), (0x1610, 4), (0x1710, 10), (0x1810, 17), (0x1A10, 13),
   (0x1B10, 4), (0x1C10, 8)]

/-- Sum of RATE over the codes of the table and the raisable codes it leaves out, at 4 per minute each (R504). -/
def Image.rateSum (im : Image) : Nat :=
  let codes := raisable.flatMap fun r => (List.range r.2).map fun k => r.1 + k
  (im.events.foldl (fun n e => n + e.rate) 0) + 4 * (codes.filter fun c => !im.events.any fun e => e.code == c).length

/-- The Berpin checks that the module repeats, in ascending DETAIL (R549, R564). -/
def ruleChecks (im : Image) : List (ImgFail × Bool) :=
  let sf := im.safety
  (im.thrusters.map fun t => wrongAt 0x0030 t.1 1 t.2.bandsBad)
  ++ ((List.range 8).flatMap fun n => (List.range 8).map fun k =>
      let both := (BitVec.ofNat 16 (sf.scopes.getD n 0) &&& BitVec.ofNat 16 (im.pairMask k)).toNat
      wrongAt 0x0050 0 2 (both != 0 && both != im.pairMask k))
  ++ (im.thrusters.map fun t =>
      let x := sf.thr.getD t.1 {}
      wrongAt 0x0050 0 3 (decide (((sf.tWeir.getD (sf.pairOf.getD t.1 255) 0 : Nat) : Rat) / 1000 < 1 / x.rampRate + x.lag + x.endGrace + 1 / 2)))
  ++ ([0, 4, 5].flatMap fun c => match lookupK im.canClasses c with
      | some x => [wrongAt 0x0071 c 4 ([x.primary, x.mirror].any fun p => match lookupK im.canPorts p with | some q => bit q.cfg 6 | none => false)]
      | none => [])
  ++ [wrongAt 0x0090 0 5 (decide (7680 < im.rateSum)),
      wrongAt 0x0080 0 6 (match im.domain with | some d => decide (50000 < d.longest) | none => false)]

/-! ### WORKLOAD and VARIANT (R3, R553, R562) -/

/-- The windows of R553 in ascending byte offset. -/
def workloadChecks (im : Image) : List (ImgFail × Bool) :=
  let w := im.workload
  let a := fun (off : Nat) (ok : Bool) => wrongAt 0x0002 0 off (!ok)
  [a 0 (decide (w.gtUs ≤ 600)), a 4 (decide (w.fusUs ≤ 3000)),
   a 8 (decide (w.fusUs + w.allocUs ≤ 12000) && (im.domain.isNone || decide (6000 + w.allocUs ≤ 12000))), a 12 (decide (w.stageUs ≤ 1000)),
   a 16 (decide (w.servoUs ≤ 1000)), a 20 (decide (w.mpcUs ≤ 80000)), a 24 (decide (w.conseqUs ≤ 1000000)), a 28 (decide (w.blockUs ≤ 2000)),
   a 32 (decide (w.sliceUs ≤ 4000)), a 36 (f32Finite w.schedMflop && decide (0 < f32Val w.schedMflop))]

/-- The module's own member assigns port C on a variant without it (R3, R562). -/
def variantChecks (variantF : Bool) (member : Option Nat) (im : Image) : List (ImgFail × Bool) :=
  match im.domain, member with
  | some d, some m => [wrongAt 0x0080 0 (24 + m) (!variantF && d.portMask.getD m 0 / 4 % 2 == 1)]
  | _, _ => []

/-- Phase 4 (R549, R605): the records one by one, then the whole image. -/
def validate (variantF : Bool) (member : Option Nat) (rs : List RawRecord) : Image × Option ImgFail :=
  match checkRecords {} rs with
  | (im, some f) => (im, some f)
  | (im, none) =>
    (im, ((firstFail 12 (missingChecks rs im)).orElse fun _ =>
      (firstFail 13 (scalarRefs im ++ referenceRefs im ++ thrusterRefs im ++ treeRefs im ++ otherRefs rs im)).orElse fun _ =>
      (firstFail 14 (ruleChecks im)).orElse fun _ =>
      (firstFail 17 (workloadChecks im)).orElse fun _ => firstFail 18 (variantChecks variantF member im)))

end Sys2Proof.Machine
end

