-- ==== Sys2Proof/Machine/Startup.lean ====
section
/-!
DEFINITION. Start-up, phases 1 to 8 but the BIST and the GNSS start (R77 to R82): boot, journal replay, the key and its image, the domains, the
learned state, and the entry.
-/
set_option autoImplicit false
namespace Sys2Proof.Machine

/-- A start-up phase can be carried out: SU runs, the supply is not in a dip, and it is the phase in progress (R77, R78). -/
def State.inPhase (s : State) (n : Nat) : Bool := s.suRuns && s.pwr.supply == .normal && s.sup.startPhase == n

/-- The phase in progress becomes n (R77). -/
def goPhase (n : Nat) (s : State) : State := s.modSup fun b => { b with startPhase := n }

/-- A start-up fault sets its bit and raises START_FAULT (R79). -/
def startFault (i phase : Nat) (s : State) : State :=
  (s.modSup fun b => { b with startFault := setBit b.startFault i true }).raise 0x0127 i [BitVec.ofNat 8 phase]

/-! ### Phases 1 to 3 (R77, R469, R498, R519, R542) -/

/-- BOOT (R77, R519): phase 1, suspended during a power-fail warning (R78). A marker of a flush that no restart ordered tells that the supply
ended. -/
def boot (s : State) : State :=
  if s.pwr.resetHeld || s.pwr.supply != .normal || s.sup.startPhase != 1 || s.sup.suRetryAt.isSome then s
  else
    let s := goPhase 2 s
    let told := s.aqf.marker && !s.aqf.markerRestart
    let s := s.modAqf fun b => { b with marker := false, markerRestart := false }
    if told then (s.modSup fun b => { b with resetCause := 1 }).raise 0x0211 0xFF (leBytes 8 s.aqf.savedTime) else s

/-- JOURNAL_REPLAY (R498): phase 2. `n` transactions have a valid COMMIT; every other one is discarded. -/
def journalReplay (n : Nat) (headerGood : Bool) (s : State) : State :=
  if s.inPhase 2 then goPhase 3 (s.modAqf fun b => { b with replayed := sat 32 n, rebuilt := !headerGood }) else s

/-- The writes that waited for the mount (R494): begun, or completed with the result of the state the store is in. -/
def mountedWrites (s : State) : State :=
  s.aqf.writes.foldl (fun s w =>
    match s.aqf.phase with
    | .failed => finishWrite w.key w.tag .media (refuseWrite w.key w.cls w.size .media s)
    | .readOnly => finishWrite w.key w.tag .readOnly (refuseWrite w.key w.cls w.size .readOnly s)
    | .limited => if w.cls = 0 then s else finishWrite w.key w.tag .readOnly (refuseWrite w.key w.cls w.size .readOnly s)
    | _ => s) (if s.aqf.suspended then s else beginWrites s)

/-- The mount of the store (R494, R498); a rebuild that fails makes it FAILED. -/
def mountStore (mapGood rebuildGood : Bool) (s : State) : State :=
  let s := s.modAqf fun b => { b with rebuilt := b.rebuilt || !mapGood }
  let s := if s.aqf.rebuilt && !rebuildGood then startFault 7 3 (setStore .failed s) else setStore (phaseOfSpare s.aqf.spare) s
  let s := s.raiseIf (s.aqf.phase != .failed) 0x1A10 0xFF (BitVec.ofNat 8 (b2n s.aqf.rebuilt) :: zeros 3 ++ leBytes 4 s.aqf.replayed)
  mountedWrites s

/-- The confirmation found at start-up (R499): P0's, else the MRAM copy with P0_OK. -/
def readConfirmation (p0Good mramGood : Bool) (s : State) : State :=
  let fromP0 := if p0Good && s.aqf.phase != .failed then s.cfg.p0Record else none
  let unread := s.cfg.p0Record.isSome && fromP0.isNone
  let copy := match s.cfg.mramCopy with | some (v, true) => if mramGood && unread then some v else none | _ => none
  s.modCfg fun b => { b with confirmed := fromP0.orElse fun _ => copy }

/-- An image is refused (R79, R564): CFG_ERROR, START_FAULT and IMAGE_REFUSED. Image handling ends, and start-up goes on at phase 5. -/
def refuseImage (f : ImgFail) (phase : Nat) (s : State) : State :=
  let s := s.modCfg fun b => { b with
    image := none, header := {}, records := [], check := 0, errCause := f.cause, errType := f.type, errIndex := f.index, errDetail := f.detail }
  let s := startFault (causeBit f.cause) phase (s.modSup fun b => { b with noImage := true })
  let s := s.raise 0x1C11 f.cause (leBytes 2 f.type ++ leBytes 2 f.index ++ leBytes 2 f.detail)
  goPhase 5 s

/-- The key as phase 3 finds it: present, and its identifier neither all zeros nor all ones (R542). -/
def State.keyFound (s : State) (k : KeyRead) : Bool := s.cfg.keyPresent && s.domOn 7 && k.jedec != 0 && k.jedec != 0xFFFFFF

/-- KEY_READ (R498, R542, R543, R550, R605): phase 3. A mount that fails (START_FAULT bit 7) does not end the image's handling, though R79 says
that a fault found in phase 3 does: its row of R79's table names the learned state alone (DEDUCED, assumption log 32). -/
def keyRead (k : KeyRead) (s : State) : State :=
  if !s.inPhase 3 then s
  else
    let s := readConfirmation k.p0Good k.mramGood (mountStore k.mapGood k.rebuildGood (switchOn 7 s))
    let s := s.modCfg fun b => { b with phase3Done := true, jedec := if s.cfg.keyPresent then k.jedec.toNat else 0 }
    if !s.keyFound k then refuseImage { cause := 1 } 3 s
    else
      let r := readImage (keyView s.cfg.keyBytes k.pulledAt)
      let s := s.modCfg fun b => { b with readMs := r.2.used / 20000 }
      match r.2.fail with
      | some f => refuseImage f 3 s
      | none => goPhase 4 (s.modCfg fun b => { b with header := r.1, records := r.2.records, check := crc32c r.2.covered })

/-! ### Phase 4 (R66, R371, R503, R549, R564) -/

/-- The event table of an accepted image is in force (R503): counts of tokens stand, at most the new BURST. -/
def adoptEvents (im : Image) (s : State) : State :=
  let codes := ((s.log.buckets.map Bucket.code) ++ (im.events.map EventCfg.code)).eraseDups
  s.modLog fun l => { l with buckets := codes.map fun c =>
    let b := bucketAt l { code := c } s.now
    { b with tokens := min b.tokens (((im.events.find? fun e => e.code == c).getD { code := c }).burst) } }

/-- The values of the image that registers hold as working values (R93, R132, R227, R241, R261). -/
def adoptScalars (im : Image) (s : State) : State :=
  let c := im.scalars
  let all := maskOf 16 fun i => (lookupK im.thrusters i).isSome
  let s := s.modSup fun b => { b with tBlend := c.tBlend }
  let s := s.modCtl fun b => { b with
    thrEnable := match c.thrEnable with | some m => BitVec.ofNat 16 m | none => all
    tune := c.tuneDefault, tuneNext := none
    buses := b.buses.mapIdx fun i x => { x with avail := match lookupK im.buses i with
      | some k => if k.source = 0 then k.fixed else k.fallback
      | none => x.avail } }
  loadRefs s

/-- STANDBY_LOCKED holds unless the check value is the confirmed one (R66, R79). -/
def checkConfirmation (s : State) : State :=
  let hit := match s.cfg.confirmed with | some (v, _) => v == s.cfg.check | none => false
  if hit then s
  else
    let ever := s.cfg.p0Record.isSome || s.cfg.mramCopy.isSome
    let s := startFault (if s.cfg.confirmed.isNone && ever then 4 else 3) 4 (s.modSup fun b => { b with locked := true })
    s.raise 0x0122 0xFF (leBytes 4 s.cfg.check ++ leBytes 4 ((s.cfg.confirmed.map (·.1)).getD 0))

/-- IMAGE_VALIDATION (R66, R181, R371, R549, R564, R605): phase 4. -/
def imageValidation (s : State) : State :=
  if !s.inPhase 4 then s
  else
    let r := validate s.sup.variantF s.icx.memberId s.cfg.records
    match r.2 with
    | some f =>
      let sig := ((s.cfg.records.find? fun x => x.type == 0x0040 && x.index == f.index).map fun x => (structOf x.body).sig).getD 0
      refuseImage f 4 (s.raiseIf (f.cause == 15) 0x0C17 f.index (leBytes 8 sig))
    | none =>
      let s := adoptEvents r.1 (s.modCfg fun b => { b with image := some r.1 })
      let s := adoptScalars r.1 s
      let s := s.raise 0x1C10 0xFF (leBytes 4 s.cfg.check ++ leBytes 4 s.cfg.header.imageLen ++ leBytes 2 s.cfg.records.length)
      let s := s.modSaf fun b => { b with check := r.1.safety.computed, checkImg := r.1.safety.crc }
      goPhase 5 (checkConfirmation (checkSafety false s))

/-! ### Phases 5, 7 and the entry (R77, R82, R290, R371, R450, R474) -/

/-- DOMAIN_SWITCH_ON (R77, R322, R343, R371): phase 5, the domains in their order. -/
def domainSwitchOn (latchBad : Bool) (s : State) : State :=
  if !s.inPhase 5 then s
  else
    let s := [11, 6, 4, 10, 12, 1, 2, 5, 3, 8, 9].foldl (fun s d => switchOn d s) s
    let s := if s.saf.checkBad && !latchBad then s else checkSafety latchBad s
    goPhase 6 s

/-- The stored Carafe record is taken over (R474). -/
def loadCarafe (s : State) : State :=
  match s.aqf.objs.find? fun o => o.key == carafeKey with
  | none => s
  | some o => match o.data with
    | .carafe m =>
      if !o.crcOk then
        (s.modSup fun b => { b with startFault := setBit b.startFault 9 true }).raise 0x0918 0xFF [0]
      else if m.serial ≠ s.sup.serial % 2 ^ 32 then
        (s.modTim fun b => { b with modelDirty := true, model := { m with
          serial := s.sup.serial % 2 ^ 32, b := 0, days := 0, daily := [], bins := m.bins.map fun e => (e.1, 0) } }).raise 0x0919 0xFF (leBytes 4 m.serial)
      else s.modTim fun b => { b with model := m }
    | _ => s

/-- The hot-start data kept in P2 (R123). -/
def loadHot (s : State) : State :=
  match s.aqf.objs.find? fun o => o.key == hotKey with
  | none => s
  | some o => match o.data with
    | .hotStart h => if o.crcOk then s.modGns fun b => { b with hot := h, leapKept := true } else s
    | _ => s

/-- P6 without an account takes the image's (R450). -/
def initialAccounts (s : State) : State :=
  if s.ses.accounts.isEmpty && !s.image.accounts.isEmpty then
    match commitEssential 6 (Config.p6Bytes s.image.accounts.length) s with
    | (s, false) => s
    | (s, true) =>
      let s := s.modSes fun b => { b with accounts := s.image.accounts }
      s.image.accounts.foldl (fun s a => s.raise 0x1717 0xFF [0, BitVec.ofNat 8 a.1]) s
  else s

/-- LEARNED_STATE_LOAD (R290, R172, R474, R494): phase 7. A store that is not readable leaves every learned object absent. -/
def learnedStateLoad (s : State) : State :=
  if !s.inPhase 7 then s
  else
    let objs := s.aqf.objs
    let dark := s.aqf.phase == .failed || !s.domOn 7
    let s := if dark then s.modAqf fun b => { b with objs := [] } else s
    let before := s.sup.startFault.getLsbD 9
    let s := loadCarafe (loadHot (loadModels (loadProfiles s)))
    let s := s.modAqf fun b => { b with objs := objs }
    let s := s.raiseIf (!before && s.sup.startFault.getLsbD 9) 0x0127 9 [7]
    goPhase 8 (initialAccounts s)

/-- The first mode (R68, R82). -/
def State.firstMode (s : State) : Mode :=
  if s.sup.noImage then .service else if s.scalars.startMode = 0 then .dormant else .standby

/-- START_COMPLETE (R77, R82, R117): the first mode is entered at the next frame instant, up to which START_TIME counts. -/
def startComplete (s : State) : State :=
  if !s.inPhase 8 then s
  else
    let s := if s.scalars.baselineNamedA && s.scalars.baselineNamedB then checkBaseline s else s
    let ms := msOf (s.tim.frameAt + 20000000 - s.sup.startAt)
    let m := s.firstMode
    let s := s.modSup fun b => { b with
      startPhase := 0, startTime := sat 32 ms, suRetries := 0
      pendMode := some { target := m, cause := if b.noImage then 7 else 1 } }
    s.raise 0x0126 0xFF (leBytes 4 (sat 32 ms) ++ [BitVec.ofNat 8 (modeCode m)])

/-! ### Meanings of the commands -/

/-- Meaning of BOOT (R77). -/
def execBoot (s : State) : Host.Outcome State Fault Refusal :=
  .next (boot s)

/-- Meaning of JOURNAL_REPLAY (R498). -/
def execJournalReplay (transactions : Nat) (headerGood : Bool) (s : State) : Host.Outcome State Fault Refusal :=
  .next (journalReplay transactions headerGood s)

/-- Meaning of KEY_READ (R542). -/
def execKeyRead (found : KeyRead) (s : State) : Host.Outcome State Fault Refusal :=
  .next (keyRead found s)

/-- Meaning of IMAGE_VALIDATION (R549). -/
def execImageValidation (s : State) : Host.Outcome State Fault Refusal :=
  .next (imageValidation s)

/-- Meaning of DOMAIN_SWITCH_ON (R77). -/
def execDomainSwitchOn (latchBad : Bool) (s : State) : Host.Outcome State Fault Refusal :=
  .next (domainSwitchOn latchBad s)

/-- Meaning of LEARNED_STATE_LOAD (R290). -/
def execLearnedStateLoad (s : State) : Host.Outcome State Fault Refusal :=
  .next (learnedStateLoad s)

/-- Meaning of START_COMPLETE (R82). -/
def execStartComplete (s : State) : Host.Outcome State Fault Refusal :=
  .next (startComplete s)

end Sys2Proof.Machine
end

