-- ==== Sys2Proof/Machine/Configure.lean ====
section
/-!
DEFINITION. Block CFG in operation (R541, R543, R565 to R570): the key's removal, the staged image and its writing, and confirmation.
-/
set_option autoImplicit false
namespace Sys2Proof.Machine

/-! ### The key in X11 (R541, R543) -/

/-- KEY_SWAPPED (R543, R567): KEY_DET_L changes; with the key's content. The first change after phase 3 is told. -/
def keyChange (there : Bool) (bytes : Bytes) (prot : Bool) (s : State) : State :=
  if there == s.cfg.keyPresent then s
  else
    let told := s.cfg.keySwapped
    let s := s.modCfg fun b => { b with keyPresent := there, keyBytes := if there then bytes else [], keyProtected := there && prot }
    if !s.suRuns || !s.cfg.phase3Done then s
    else
      let s := (s.modCfg fun b => { b with keySwapped := true }).raiseIf (!told) 0x1C16 0xFF [BitVec.ofNat 8 (b2n (!there))]
      if !there && s.cfg.writing then failKeyWrite 4 s.keyPhase s else s

/-! ### Staging and writing an image (R565 to R567) -/

/-- Bytes put into a staging area at an offset; a gap below them holds what the rules leave open (R511, R565). -/
def pokeBytes (area : Bytes) (off : Nat) (b : Bytes) : Bytes :=
  let pad := (List.range (off - area.length)).map fun i => Config.stagedGap (area.length + i)
  let l := area ++ pad
  l.take off ++ b ++ l.drop (off + b.length)

/-- The image in the staging area, checked (R566): its failure, if any, and its check value. -/
def State.stagedCheck (s : State) : Option ImgFail × Nat :=
  let r := readImage (keyView (s.cfg.staged.take s.cfg.stagedLen) none)
  match r.2.fail with
  | some f => (some f, crc32c r.2.covered)
  | none => ((validate s.sup.variantF s.icx.memberId r.2.records).2, crc32c r.2.covered)

/-- CFG_CMD_RESULT is set (R569). -/
def cfgResult (w : WCtx) (r cause : Nat) (s : State) : State :=
  s.modCfg fun b => { b with cmdResult := r, cmdSession := w.session, cmdCause := cause }

/-- WRITE_KEY accepted (R457, R566). -/
def beginKeyWrite (w : WCtx) (check : Nat) (s : State) : State :=
  let s := s.modCfg fun b => { b with
    written := true, phase := .check, pct := 0, writeStart := s.now, writer := w.session, writerReq := w.reqId, stagedCheck := check, stagedPrev := b.stagedCheck }
  addChange w.session 1 5 0 (crc32c (s.cfg.staged.take s.cfg.stagedLen)) w.reqId 0 s

/-- CFG_CMD WRITE_KEY (R566, R569). -/
def writeKey (w : WCtx) (key : Nat) (s : State) : WriteOut :=
  let refuse := fun r => WriteOut.refused (cfgResult w r 0 s) r
  needRole w roleEngineer (cfgResult w 2 0 s)
    (if key ≠ 0xC5 ∨ s.sup.mode ≠ .service ∨ s.cfg.stagedLen = 0 then refuse 1
    else if s.cfg.writing then refuse 3
    else match s.stagedCheck with
      | (some f, _) => .refused (cfgResult w 5 f.cause s) 5
      | (none, check) => .done (beginKeyWrite w check (cfgResult w 0 0 s)) 0)

/-- CFG_CMD DISCARD (R565). -/
def discardStaged (w : WCtx) (s : State) : WriteOut :=
  needRole w roleEngineer (cfgResult w 2 0 s)
    (if s.cfg.writing then .refused (cfgResult w 3 0 s) 3
    else .done (cfgResult w 0 0 (s.modCfg fun b => { b with staged := [], stagedLen := 0 })) 0)

/-- KEY_WRITTEN (R566): the last phase is complete, and the key holds the staged bytes; the rest of the erased blocks reads all ones. -/
def keyWritten (s : State) : State :=
  if !s.cfg.writing || !s.cfg.keyPresent || s.cfg.keyProtected || !s.domOn 7 then s
  else
    let n := s.cfg.stagedLen
    let top := (n + 65535) / 65536 * 65536
    let s := s.modCfg fun b => { b with
      phase := .done, pct := 100, keyBytes := b.staged.take n ++ List.replicate (top - n) 0xFF ++ b.keyBytes.drop top }
    s.raise 0x1C14 s.cfg.writer (leBytes 4 s.cfg.stagedCheck ++ leBytes 4 n)

/-- KEY_WRITE_FAIL (R567): erase, program or verify fails, or the key is absent or its block-protect bits are set, in a phase of the write. -/
def keyWriteFail (cause phase : Nat) (s : State) : State :=
  if !s.cfg.writing || cause == 0 || (cause == 5 && !s.cfg.keyProtected) || (cause == 4 && s.cfg.keyPresent) then s
  else failKeyWrite cause (max 1 phase) s

/-! ### Confirmation (R66, R81, R457, R499, R568) -/

/-- The confirmation is committed (R499): P0 and the MRAM copy together, or the MRAM copy alone. It and its change-log entry, of 64 bytes each,
are one transaction (R568). -/
def commitConfirmation (w : WCtx) (p0Ok : Bool) (s : State) : State :=
  let v := (s.cfg.check, s.now)
  let put := if p0Ok then commitEssential 0 128 s else (s, false)
  let good := put.2
  let s := put.1
  let s := s.modCfg fun b => { b with
    confirmed := some v, p0Record := if good then some v else b.p0Record, mramCopy := some (v, good), volatile := !good }
  let s := noteChange (s.ses.session w.session) w.session 4 0 0 s.cfg.check w.reqId 0 s
  let s := s.raise 0x1C12 w.session (leBytes 4 s.cfg.check)
  s.raiseIf (!good) 0x012C w.session (leBytes 4 s.cfg.check)

/-- CFG_CMD CONFIRM (R568); `p0Ok`: the P0 part of the transaction can be written. -/
def confirmCheck (w : WCtx) (p0Ok : Bool) (s : State) : WriteOut :=
  let told := fun (r : Nat) => (cfgResult w r 0 s).raise 0x1C13 w.session (leBytes 4 s.cfg.confirmValue ++ [BitVec.ofNat 8 r])
  needRole w roleCommissioner (told 2)
    (if (s.sup.mode ≠ .standby ∧ s.sup.mode ≠ .service) ∨ s.sup.noImage = true ∨ s.cfg.written = true then .refused (told 1) 1
    else if s.cfg.confirmValue ≠ s.cfg.check then .refused (told 4) 4
    else
      let s := commitConfirmation w p0Ok (cfgResult w 0 0 s)
      let s := s.modSup fun b => { b with lockClearing := if b.locked then some w.session else b.lockClearing }
      .done (storeCommissionModels s) 0)

/-! ### Registers (R569) -/

/-- Value of a CFG register; none where none is defined. -/
def cfgRead (s : State) (off : Nat) : Option Word :=
  let b := s.cfg
  let h := b.header
  match off with
  | 0x10 => some (pack [(b2n b.keyPresent, 0, 1), (b2n b.keySwapped, 1, 1), (b2n b.image.isSome, 2, 1), (b2n b.confirmed.isSome, 3, 1),
      (b2n (b.image.isSome && b.confirmed.any fun c => c.1 == b.check), 4, 1), (b2n b.volatile, 5, 1), (b2n (b.stagedLen != 0), 6, 1),
      (b2n b.written, 7, 1), (b2n b.writing, 8, 1), (b2n b.copyRepaired, 9, 1)])
  | 0x14 => some (if b.image.isSome then wordOf h.imageLen else 0)
  | 0x18 => some (if b.image.isSome then pack [(b.records.length, 0, 16), (h.format, 16, 8)] else 0)
  | 0x1C => some (wordOf b.check)
  | 0x20 => some (wordOf ((b.confirmed.map (·.1)).getD 0))
  | 0x24 => some (loWord ((b.confirmed.map (·.2)).getD 0))
  | 0x28 => some (hiWord ((b.confirmed.map (·.2)).getD 0))
  | 0x2C => some (if b.image.isSome then loWord h.buildTime else 0)
  | 0x30 => some (if b.image.isSome then hiWord h.buildTime else 0)
  | 0x34 => some (if b.image.isSome then wordOf h.berpinVer else 0)
  | 0x38 => some (pack [(b.errCause, 0, 8), (b.errType, 16, 16)])
  | 0x3C => some (pack [(b.errIndex, 0, 16), (b.errDetail, 16, 16)])
  | 0x40 => some (pack [(sat 16 b.readMs, 0, 16)])
  | 0x44 => some (pack [(b.jedec, 0, 24)])
  | 0x48 => some (wordOf b.confirmValue)
  | 0x4C => some 0
  | 0x50 => some (pack [(b.cmdResult, 0, 4), (b.cmdSession, 4, 5), (b.cmdCause, 16, 8)])
  | 0x54 => some (wordOf b.stagedLen)
  | 0x58 => some (wordOf (if s.keyPhase = 1 then b.stagedPrev else b.stagedCheck))
  | 0x5C => some (pack [(s.keyPct, 0, 8), (s.keyPhase, 8, 3)])
  | _ => none

/-- Writable CFG registers (R569). -/
def cfgWritable (off : Nat) : Bool := off == 0x48 || off == 0x4C

/-- CFG_CMD (R565, R566, R568, R569); an action that is not listed needs the least role of the register (R444). -/
def cfgCmd (w : WCtx) (p0Ok : Bool) (v : Word) (s : State) : WriteOut :=
  match field v 3 0 with
  | 1 => confirmCheck w p0Ok s
  | 2 => writeKey w (field v 15 8) s
  | 3 => discardStaged w s
  | _ => needRole w roleEngineer (cfgResult w 2 0 s) (.refused (cfgResult w 1 0 s) 1)

/-- A write to a CFG register (R569). -/
def cfgWrite (w : WCtx) (p0Ok : Bool) (off : Nat) (v : Word) (s : State) : WriteOut :=
  match off with
  | 0x48 => needRole w roleCommissioner s (.done (s.modCfg fun b => { b with confirmValue := v.toNat }) 0)
  | _ => cfgCmd w p0Ok v s

/-! ### Meanings of the commands -/

/-- Meaning of KEY_SWAPPED (R543). -/
def execKeySwapped (there : Bool) (content : Bytes) (protected_ : Bool) (s : State) : Host.Outcome State Fault Refusal
  :=
  .next (keyChange there content protected_ s)

/-- Meaning of KEY_WRITTEN (R566). -/
def execKeyWritten (s : State) : Host.Outcome State Fault Refusal :=
  .next (keyWritten s)

/-- Meaning of KEY_WRITE_FAIL (R567). -/
def execKeyWriteFail (cause : Fin 6) (phase : Fin 6) (s : State) : Host.Outcome State Fault Refusal :=
  .next (keyWriteFail cause.val phase.val s)

end Sys2Proof.Machine
end

