-- ==== Sys2Proof/Machine/Modes.lean ====
section
/-!
DEFINITION. The operating modes (chapter 02_modes_and_startup.md): requests and their evaluation (R68 to R76), SAFE_STOP and restart requests (R63,
R65, R83), the change of mode at a frame instant with its handover (R87 to R94), fallbacks (R71), readiness (R84, R86), and the registers of
block SUP (R58, R95, R536).
-/
set_option autoImplicit false
namespace Sys2Proof.Machine

/-! ### Evaluation of a request (R68, R70, R73) -/

/-- Transitions by request to another mode (R68). -/
def transitionOk (a b : Mode) : Bool :=
  match a with
  | .dormant => b == .standby || b == .service
  | .standby => b == .dormant || b == .service || releasesThrust b
  | .joystick => b == .standby || b == .autoPos || b == .autoTrack
  | .autoPos => b == .standby || b == .joystick || b == .autoTrack
  | .autoTrack => b == .standby || b == .joystick || b == .autoPos
  | .service => b == .standby || b == .dormant
  | .start => false

/-- A request for a mode may be made in a mode: its own, or one that R68 leads to. -/
def requestOk (a b : Mode) : Bool := a != .start && (a == b || transitionOk a b)

/-- Thrusters that are in SAFE_STOP or will be by an entry that SC has not yet carried out (R76). -/
def SafState.coming (b : SafState) : BitVec 16 := (b.entries ++ ((List.range 2).filter fun i => (b.e i).coming).map b.estopEntry).foldl (fun m e => m ||| e.mask) b.stopped

/-- SAFE_STOP is active, or entered, with a scope that covers every thruster (R64, R73). -/
def State.fullStop (s : State) : Bool := s.saf.defined != 0 && (s.saf.defined &&& ~~~s.saf.coming) == 0

/-- A ramp-down is in progress, or about to be (R68). -/
def State.ramping (s : State) : Bool := !s.saf.entries.isEmpty || s.saf.estops.any EStop.coming || s.saf.thr.any fun t => t.phase == .ramping

/-- Position and heading are valid as the transition requires (R68). -/
def State.refsFit (s : State) (b : Mode) (hold : Bool) : Bool :=
  let p := s.fus.snap.posValid
  let h := s.fus.snap.hdgValid
  let fresh := s.sup.mode == .standby || s.sup.mode == .joystick
  match b with
  | .joystick => !hold || h
  | .autoPos | .autoTrack => !fresh || (p && h)
  | _ => true

/-- A track is loaded and not about to be cleared (R68, R231). -/
def State.trackLoaded (s : State) : Bool :=
  !s.ctl.track.isEmpty && (match s.ctl.trackNext with | some (t, _) => !t.isEmpty | none => true)

/-- Result code of a request, role apart: the first check of R73 that fails. `none`: the code names no mode. -/
def State.modeVerdict (s : State) (target : Option Mode) (hold : Bool) : Nat :=
  let m := s.sup.mode
  if s.sup.noImage && target != some .service then 10
  else if s.sup.reqTaken then 8
  else match target with
    | none => 1
    | some t =>
      if !requestOk m t then 1
      else if m == .service && t != .service && (s.bst.restartNeeded || s.cfg.written) then 9
      else if releasesThrust t && s.sup.locked then 2
      else if (releasesThrust t && s.fullStop) || (m == .standby && t == .dormant && s.ramping) then 5
      else if releasesThrust t && s.sup.held then 7
      else if !s.refsFit t hold then 3
      else if t == .autoTrack && m != .autoTrack && !s.trackLoaded then 6
      else 0

/-- An accepted change waits for the next frame instant; the domains of a change out of DORMANT start to come on (R75, R522). -/
def acceptMode (p : PendingMode) (s : State) : State :=
  let s := s.modSup fun b => { b with reqTaken := true, pendMode := some p }
  if s.sup.mode == .dormant && p.target != .dormant then beginDomainsOn s else s

/-- A refused request: MODE_RESULT and MODE_REFUSED (R95, R96). -/
def refuseMode (w : WCtx) (code r : Nat) (s : State) : State :=
  (setModeResult r code w.session s).raise 0x0121 w.session [BitVec.ofNat 8 code, BitVec.ofNat 8 r]

/-- A write of MODE_REQ (R73 to R76); both option bits are in force with the mode, whether its target uses them or not (R76, R96). -/
def modeRequest (w : WCtx) (v : Word) (s : State) : WriteOut :=
  let code := field v 2 0
  let hold := bit v 4
  needRole w (if code = 5 then roleEngineer else roleOperator) (refuseMode w code 4 s) <|
    let r := s.modeVerdict (modeOf code) hold
    if r ≠ 0 then .refused (refuseMode w code r s) r
    else match modeOf code with
      | some m => .done (acceptMode { target := m, hdgHold := hold, useSetpoint := bit v 5 }
          (setModeResult 0 code w.session s)) 0
      | none => .refused s 1

/-! ### SAFE_STOP and restart requests (R63, R65, R83, R93) -/

/-- A write of SSTOP_REQ (R63, R65, R95): ENTER acts at once; RESET is answered after SC's next cycle. -/
def sstopRequest (w : WCtx) (v : Word) (s : State) : WriteOut :=
  let enter := bit v 0
  let t := setModeResult 4 7 w.session s
  needRole w roleOperator (t.raiseIf (!enter && bit v 1) 0x0121 w.session [7, 4]) <|
    if enter then .done (requestStop w.session (field v 15 8) (setModeResult 0 7 w.session s)) 0
    else if !bit v 1 then .done s 0
    else if s.scRuns || s.icx.resetWait.isSome then .later (requestReset w.session s)
    else
      let s := requestReset w.session s
      if s.sup.resCode = 0 then .done s 0 else .refused s 5

/-- A restart is ordered: it follows the flush of its RESTART event (R83). -/
def beginRestart (session : Nat) (s : State) : State :=
  let s := s.raise 0x012B session [BitVec.ofNat 8 (modeCode s.sup.mode)]
  storeFlush true (s.modSup fun b => { b with restarting := true })

/-- A write of RESTART_REQ (R83). -/
def restartRequest (w : WCtx) (v : Word) (s : State) : WriteOut :=
  needRole w roleEngineer s <|
    if v = 0x0000A55A ∧ releasesThrust s.sup.mode = false then .done (beginRestart w.session s) 0 else .refused s 1

/-- A write of MODE_TBLEND (R93, R95); without an image the register keeps its default. -/
def blendRequest (w : WCtx) (v : Word) (s : State) : WriteOut :=
  needRole w roleOperator s <|
    f32Register v (fun x => decide (0 ≤ x) && decide (x ≤ 30)) fun x =>
      if s.sup.noImage then s else s.modSup fun b => { b with tBlend := x }

/-! ### The change of mode at a frame instant (R61, R75, R76, R87 to R94, R522) -/

/-- MODE_CHANGE with the options now in force (R96). -/
def tellMode (old new : Mode) (cause : Nat) (s : State) : State :=
  s.raise 0x0120 0xFF [BitVec.ofNat 8 (modeCode old), BitVec.ofNat 8 (modeCode new), BitVec.ofNat 8 cause,
    BitVec.ofNat 8 (b2n s.sup.hdgHold + 2 * b2n s.sup.useSetpoint)]

/-- A fallback's outgoing controller cannot run (R91). -/
def fallbackCause (cause : Nat) : Bool := cause == 2 || cause == 3

/-- A handover begins: the blend, and the integrator's initialisation (R87 to R91). -/
def handover (cause : Nat) (o : Outgoing) (s : State) : State :=
  (startBlend s.sup.tBlend (fallbackCause cause) o s).modCtl fun b => { b with intInit := true }

/-- The cause that a change is recorded with (R71). -/
def PendingMode.told (p : PendingMode) : Nat := if p.byLead then 6 else p.cause

/-- Other options of the mode in force (R71, R76). -/
def changeOptions (p : PendingMode) (s : State) : State :=
  if p.hdgHold == s.sup.hdgHold && p.useSetpoint == s.sup.useSetpoint then s
  else
    let o := s.asOutgoing
    let hand := s.sup.mode == .joystick && p.hdgHold != s.sup.hdgHold
    let s := s.modSup fun b => { b with hdgHold := p.hdgHold, useSetpoint := p.useSetpoint }
    let s := tellMode s.sup.mode s.sup.mode p.told s
    if hand then handover p.cause o (s.modCtl fun b => { b with entry := true }) else s

/-- Azimuth feedback of every thruster at the instant the outputs become inhibited (R61). -/
def keepAzimuths (s : State) : State :=
  s.modSup fun b => { b with holdAz := (List.range 16).map fun i => match s.thrCfg i with | some c => bamOf (s.azFb i c) | none => 0 }

/-- The last waypoint as a setpoint, with the heading in force on the track (R94). -/
def State.lastWaypoint (s : State) : Setpoint :=
  let w := s.ctl.track.getLastD {}
  { pos := s.geoOf w.lat w.lon, hdg := bamOf s.ctl.tp.hdg }

/-- The setpoint with which AUTO_POS is entered; none is formed later from the fused pose (R94). -/
def entrySetpoint (p : PendingMode) (s : State) : State :=
  let s0 := s.modCtl fun b => { b with setpoint := none, spNext := none }
  if p.target != .autoPos then s0
  else if p.cause = 5 then useSetpoint s.lastWaypoint s0
  else if p.useSetpoint then (match s.ctl.spStored with | some q => useSetpoint q.1 s0 | none => s0)
  else s0

/-- Entry to DORMANT: no law is in force, the learned state is written and the domains begin to go off (R124, R171, R222, R289, R473, R522). -/
def enterDormant (s : State) : State :=
  let s := storeCarafe (storeHotStart (storeModels (queueProfiles (noAllocation s))))
  let s := switchOff 3 (switchOff 2 (switchOff 1 (switchOff 5 s)))
  let s := s.modGns fun b => { b with asleep := true, wakes := 0, wakesNoFix := 0 }
  dormantCheck (s.modPwr fun b => { b with dormantSince := some s.now, onQueue := [] })

/-- DORMANT is left: the observer and the MPC start again, and GNSS continues a wake or starts (R86, R124, R164). -/
def leaveDormant (above : List (Nat × Nat)) (s : State) : State :=
  let s := if s.domOn 4 || !s.pwr.onQueue.isEmpty then s else beginDomainsOn s
  let s := (restartObserver 2 s).modSup fun b => { b with mpcWarm := false }
  if s.gns.wakeAt.isSome then s.modGns fun b => { b with wakeAt := none, asleep := false }
  else beginStart (s.startKindOf above s.timeHeld) false s.startNow s

/-- What leaving a mode does. -/
def leaveMode (above : List (Nat × Nat)) (old : Mode) (s : State) : State :=
  match old with
  | .dormant => leaveDormant above s
  | .service => s.modAqf fun b => { b with export_ := none }
  | _ => s

/-- Another mode takes effect (R75, R87, R94). A blend in progress at a change to a mode that releases no thrust is dropped, without BLEND_END:
R89 tells it where s = 1, and no rule speaks of this case (DESIGN CHOICE, assumption log 33). -/
def enterMode (above : List (Nat × Nat)) (p : PendingMode) (s : State) : State :=
  let old := s.sup.mode
  let o := s.asOutgoing
  let s := s.modSup fun b => { b with
    mode := p.target, hdgHold := p.hdgHold, useSetpoint := p.useSetpoint, modeEntry := s.frame, prevMode := old, prevCause := p.told }
  let s := entrySetpoint p (tellMode old p.target p.told s)
  let s := s.modCtl fun b => { b with
    entry := true, planSinceEntry := false, tp := { b.tp with ended := false }
    joy := if p.target == .joystick then { b.joy with entered := s.now, stale := false } else b.joy }
  let s :=
    if releasesThrust old && releasesThrust p.target then handover p.cause o s
    else if releasesThrust p.target then s
    else
      let s := (s.modSup fun b => { b with blend := {} }).modCtl fun b => { b with outgoing := {} }
      if releasesThrust old || old == .start then keepAzimuths s else s
  let s := leaveMode above old s
  if p.target == .dormant then enterDormant s else s

/-- A change takes effect at the frame instant. -/
def changeMode (above : List (Nat × Nat)) (p : PendingMode) (s : State) : State :=
  if p.target == s.sup.mode then changeOptions p s else enterMode above p s

/-- A change that the module makes without a request (R71). A LEAD makes it known to the domain at once, so that every member runs the mode
from this frame (R62; DEDUCED, assumption log 33). -/
def autoMode (above : List (Nat × Nat)) (p : PendingMode) (s : State) : State :=
  let s := changeMode above p s
  if s.inDomain && s.icx.role == .lead then
    (sendOrder { effect := .mode p, frame := s.frame } s).1
  else s

/-- Every thruster defined has been removed (R64). -/
def State.allRemoved (s : State) : Bool :=
  s.saf.defined != 0 && (List.range 16).all fun i => (s.saf.t i).pair.isNone || (s.saf.t i).phase == .removed

/-- The fallback that is due is evaluated against the mode in force (R71, R76). -/
def applyFallback (above : List (Nat × Nat)) (s : State) : State :=
  match s.sup.fallDue with
  | none => s
  | some (cause, ms) =>
    let s := s.modSup fun b => { b with fallDue := none }
    let auto := s.sup.mode == .autoPos || s.sup.mode == .autoTrack
    if auto || (cause = 3 && s.sup.mode == .joystick && s.sup.hdgHold) then
      (autoMode above { target := .joystick, hdgHold := decide (cause = 2), cause := cause } s).raise 0x0128 0xFF
        (BitVec.ofNat 8 cause :: zeros 3 ++ leBytes 4 (sat 32 ms))
    else s

/-- The mode changes of a frame instant: the request first, then the automatic ones (R71, R75, R76). A subordinate domain's LEAD that follows
its parent makes that change known like one of its own (R62). A member that does not hold LEAD makes
none of its own. A SAFE_STOP completed with full scope is told once in STANDBY, which is kept. -/
def modeInstant (above : List (Nat × Nat)) (s : State) : State :=
  let s := match s.sup.pendMode with
    | some p => (if p.cause = 0 then changeMode else autoMode) above p (s.modSup fun b => { b with pendMode := none })
    | none => s
  let full := s.allRemoved
  let done := full && !s.sup.stopFull
  let s := s.modSup fun b => { b with reqTaken := false, stopFull := full }
  if s.standsBack then s.modSup fun b => { b with fallDue := none }
  else
    let s := if releasesThrust s.sup.mode && full then autoMode above { target := .standby, cause := 4 } s
      else if s.sup.mode == .standby && done then tellMode .standby .standby 4 s
      else s
    let s := if s.sup.mode == .autoTrack && s.ctl.tp.ended then autoMode above { target := .autoPos, cause := 5 } s else s
    applyFallback above s

/-- MODE_FALLBACK (R71, R164): position or heading has been invalid for longer than DR_LIMIT. The change takes effect at the frame instant: this
one, when nothing has come after it, otherwise the next. Heading loss decides when both are lost. -/
def modeFallback (s : State) : State :=
  let lim := nsOf s.scalars.drLimit
  let out := fun (t : Option Nat) => match t with
    | some a => if lim < s.now - a then some (msOf (s.now - a)) else none
    | none => none
  let pos := out s.fus.posBad
  let hdg := out s.fus.hdgBad
  let due := match hdg, pos with
    | some ms, _ => some (3, ms)
    | none, some ms => if s.fus.snap.hdgValid then some (2, ms) else none
    | none, none => none
  if !s.stagesRun || s.sup.mode == .start then s
  else
    let s := s.modSup fun b => { b with fallDue := if s.standsBack then none else due }
    let s := if pos.isSome && s.fus.obs.started then restartObserver 1 s else s
    if s.now = s.tim.frameAt then applyFallback [] s else s

/-! ### Readiness and the lock (R66, R84, R86, R291) -/

/-- READY_STATUS COND (R84). -/
def State.readyNow (s : State) : BitVec 6 :=
  BitVec.ofNat 6 (bitsToNat [s.fus.obs.started && !s.fus.obs.settling, s.sup.mpcWarm, decide (10 ≤ s.sup.conseqRun),
    s.sup.mode != .start && s.ffMask == 0xFFFF, s.fus.snap.posValid, s.fus.snap.hdgValid])

/-- The conditions are evaluated in every frame; each transition of DP_READY is told once (R86). -/
def readyInstant (s : State) : State :=
  let c := s.readyNow
  let old := s.sup.ready
  let was := s.sup.dpReady
  let is := c == 0x3F
  let s := s.modSup fun b => { b with ready := c, dpReady := is }
  if is && !was then s.raise 0x0124 0xFF [c.setWidth 8]
  else if was && !is then s.raise 0x0125 0xFF [c.setWidth 8, (old &&& ~~~c).setWidth 8]
  else s

/-- A matching confirmation clears STANDBY_LOCKED (R66, R291). -/
def lockInstant (s : State) : State :=
  match s.sup.lockClearing with
  | none => s
  | some session =>
    let s := s.modSup fun b => { b with locked := false, lockClearing := none }
    baselinesAtLock (s.raise 0x0123 session (leBytes 4 ((s.cfg.confirmed.map (·.1)).getD 0)))

/-! ### Registers (R58, R95, R536) -/

/-- Codes of the delay margins (R58). -/
def Margin.code : Margin → Nat
  | .narrow => 0 | .standard => 1 | .wide => 2

/-- Value of an SUP register; none where none is defined. -/
def supRead (s : State) (off : Nat) : Option Word :=
  let b := s.sup
  if 0x214 ≤ off ∧ off ≤ 0x230 ∧ off % 4 = 0 then some (wordOf (b.dlCount.getD ((off - 0x214) / 4) 0))
  else match off with
  | 0x10 => some (pack [(0x43, 0, 8), (b2n b.variantF, 8, 1)])
  | 0x14 => some (loWord b.serial)
  | 0x18 => some (pack [(b.serial / 2 ^ 32, 0, 8)])
  | 0x1C => some (pack [(b.fwVersion, 0, 24)])
  | 0x20 => some (wordOf (sat 32 ((s.now - b.upSince) / 1000000000)))
  | 0x24 => some (pack [(b.resetCause, 0, 3)])
  | 0x100 => some (pack [(modeCode b.mode, 0, 3), (b2n s.safeStop, 3, 1), (b2n b.locked, 4, 1), (b2n b.dpReady, 5, 1), (b2n b.blend.active, 6, 1),
      (b2n b.noImage, 7, 1), (b2n b.held, 8, 1), (b2n (b.mode == .joystick && b.hdgHold), 9, 1), (b.startPhase, 16, 4)])
  | 0x104 => some 0
  | 0x108 => some 0
  | 0x10C => some (pack [(b.resCode, 0, 4), (b.resMode, 4, 3), (b.resSession, 8, 5), (b.resFrame, 16, 16)])
  | 0x110 => some (wordOf b.modeEntry)
  | 0x114 => some (pack [(modeCode b.prevMode, 0, 3), (b.prevCause, 4, 4)])
  | 0x118 => some (pack [(b.ready.toNat, 0, 6), (min 10 b.conseqRun, 8, 4)])
  | 0x11C => some (pack [(s.ffMask.toNat, 0, 16)])
  | 0x120 => some (pack [(b.blend.framesLeft, 0, 11), (b2n b.blend.frozen, 16, 1)])
  | 0x124 => some (f32Of b.tBlend)
  | 0x128 => some (f32Of s.scalars.drLimit)
  | 0x12C => some (pack [(s.scalars.startMode, 0, 3)])
  | 0x130 => some (wordOf b.startTime)
  | 0x134 => some (b.startFault.setWidth 32)
  | 0x138 => some 0
  | 0x200 => some (pack [(b.margin.code, 0, 2), (b.marginNext.code, 2, 2), (b2n (b.marginNext != b.margin), 4, 1)])
  | 0x204 => some (f32Of b.fabRate)
  | 0x208 => some (wordOf s.frame)
  | 0x20C => some (wordOf (min 19999999 (s.now - s.tim.frameAt)))
  | 0x210 => some (b.dlStatus.setWidth 32)
  | 0x234 => some (wordOf b.slackMin)
  | 0x238 => some (pack [(sat 16 s.tags.open_.length, 0, 16), (s.tags.peak, 16, 16)])
  | 0x23C => some (wordOf s.tags.orphans)
  | 0x240 => some (wordOf b.eccCorr)
  | 0x244 => some (wordOf b.eccUncorr)
  | _ => none

/-- What a read clears (R22, R58). -/
def supClear (off : Nat) (s : State) : State :=
  if 0x214 ≤ off ∧ off ≤ 0x230 ∧ off % 4 = 0 then s.modSup fun b => { b with dlCount := updAt b.dlCount ((off - 0x214) / 4) fun _ => 0 }
  else match off with
  | 0x234 => s.modSup fun b => { b with slackMin := 0xFFFFFFFF }
  | 0x23C => s.modTags fun b => { b with orphans := 0 }
  | 0x240 => s.modSup fun b => { b with eccCorr := 0 }
  | 0x244 => s.modSup fun b => { b with eccUncorr := 0 }
  | _ => s

/-- Writable SUP registers (R58, R95). -/
def supWritable (off : Nat) : Bool := [0x104, 0x108, 0x124, 0x138, 0x210].contains off

/-- A write to an SUP register. -/
def supWrite (w : WCtx) (off : Nat) (v : Word) (s : State) : WriteOut :=
  match off with
  | 0x104 => modeRequest w v s
  | 0x108 => sstopRequest w v s
  | 0x124 => blendRequest w v s
  | 0x138 => restartRequest w v s
  | _ => .done (s.modSup fun b => { b with dlStatus := b.dlStatus &&& ~~~(v.setWidth 9) }) 0

/-! ### Meanings of the commands -/

/-- Meaning of MODE_FALLBACK (R71). -/
def execModeFallback (s : State) : Host.Outcome State Fault Refusal :=
  .next (modeFallback s)

end Sys2Proof.Machine
end

