-- ==== Sys2Proof/Machine/Registers.lean ====
section
/-!
DEFINITION. The register window (chapter 01_architecture.md, R20 to R24, R57, R603): which address is a register of which block, what a
read returns and clears, and which block takes a write.
-/
set_option autoImplicit false
namespace Sys2Proof.Machine

/-! ### Header registers (R57) -/

/-- BLK_STATUS FAULT: a fault event of the block is active (R57; which events those are, assumption log 1). -/
def State.blockFault (s : State) (blk : Nat) : Bool :=
  match blk with
  | 0x01 => s.sup.held || s.sup.engines.any fun e => e.lost
  | 0x02 => s.pwr.domFault != 0
  | 0x03 => s.thm.sensors.any fun x => x.fault
  | 0x04 => s.bst.failedMask != 0
  | 0x08 => s.gns.ants.any fun a => a.phase == .open_ || a.phase == .short
  | 0x09 => s.tim.tcxoFault
  | 0x0C => s.slv.slots.any fun x => x.phase == .faulted
  | 0x0D => s.ctl.lost
  | 0x0E => s.srv.thr.any fun t => t.az.fault != 0 || t.pitch.fault != 0
  | 0x10 => s.sig.ins.any (fun c => c.phase == .fault) || s.sig.outs.any fun c => c.fault != 0
  | 0x11 => s.fio.chans.any (fun c => c.latched || c.blocked || c.ocFault || c.stuckHigh || c.openLoad || c.fieldLost)
  | 0x12 => s.alarmCause != 0
  | 0x14 => s.can.ports.any fun p => p.phase == .busOff
  | 0x16 => s.eth.ports.all fun p => p.lost
  | 0x18 => s.icx.disagree || s.icx.phase == .refused
  | 0x1A => s.aqf.phase == .failed
  | 0x1B => s.log.logFault
  | 0x1C => s.cfg.errCause != 0
  | _ => false

/-- BLK_STATUS DEGRADED: the block runs at reduced capability (R57; assumption log 1). -/
def State.blockDegraded (s : State) (blk : Nat) : Bool :=
  match blk with
  | 0x02 => s.pwr.shed || s.pwr.inLowAt.any fun x => x.isSome
  | 0x03 => s.thm.enforced
  | 0x09 => s.tim.degraded
  | 0x0A => s.fus.posWatch.degraded || s.fus.hdgWatch.degraded
  | 0x0C => s.domOn 5 && s.slv.avail != 0xFF
  | 0x0D => s.ctl.fallbackAlloc || s.ctl.deadline
  | 0x0E => s.srv.shed
  | 0x11 => s.fio.banks.any fun b => !(b.phase == .normal || b.phase == .off)
  | 0x12 => s.saf.scLost || s.saf.weirLost
  | 0x14 => s.can.ports.any fun p => p.phase == .errorPassive
  | 0x15 => s.ser.ports.any fun p => p.silent
  | 0x16 => s.eth.ports.any fun p => p.lost
  | 0x18 => s.icx.phase == .isolated || s.icx.phase == .suspect
  | 0x1A => s.aqf.phase == .limited || s.aqf.phase == .readOnly
  | 0x1B => s.log.volatileOnly
  | 0x1C => s.cfg.recordLost || s.cfg.volatile || s.cfg.copyRepaired
  | _ => false

/-- Header of a block by its number. -/
def State.header (s : State) (blk : Nat) : BlockHeader := s.hdr.getD blk {}

/-- Value of a header register (R57). Until SU runs no fault is active and nothing is degraded. -/
def headerRead (s : State) (blk off : Nat) : Option Word :=
  match off with
  | 0x0 => some (pack [(blk, 24, 8), (0x03, 16, 8), (0x4816, 0, 16)])
  | 0x4 => some (pack [(1, 0, 1), (b2n (s.powered blk), 1, 1), (b2n (s.suRuns && s.blockFault blk), 2, 1),
      (b2n (s.suRuns && s.blockDegraded blk), 3, 1)])
  | 0x8 => some (wordOf (s.header blk).events)
  | 0xC => some (pack [((s.header blk).lastCode, 0, 16), ((s.header blk).lastInst, 16, 8)])
  | _ => none

/-! ### The window (R20, R21, R24, R57, R603) -/

/-- Block number of an address (R20). -/
def blockOf (addr : Nat) : Nat := addr / 65536

/-- Offset of an address (R20). -/
def offsetOf (addr : Nat) : Nat := addr % 65536

/-- Value of a register of a block beyond its header; none where none is defined. -/
def blockRead (s : State) (blk off : Nat) : Option Word :=
  match blk with
  | 0x01 => supRead s off
  | 0x02 => pwrRead s off
  | 0x03 => thmRead s off
  | 0x04 => bstRead s off
  | 0x08 => gnsRead s off
  | 0x09 => timRead s off
  | 0x0A => fusRead s off
  | 0x0C => slvRead s off
  | 0x0D => ctlRead s off
  | 0x0E => srvRead s off
  | 0x10 => sigRead s off
  | 0x11 => fioRead s off
  | 0x12 => safRead s off
  | 0x14 => canRead s off
  | 0x15 => serRead s off
  | 0x16 => ethRead s off
  | 0x17 => sesRead s off
  | 0x18 => icxRead s off
  | 0x1A => aqfRead s off
  | 0x1B => logRead s off
  | 0x1C => cfgRead s off
  | _ => none

/-- Value of a register; none where the address lies in no defined register (R21). -/
def regRead (s : State) (addr : Nat) : Option Word :=
  let blk := blockOf addr
  let off := offsetOf addr
  if blockNumbers.contains blk then (if off < 0x10 then headerRead s blk off else blockRead s blk off) else none

/-- What a read of a register of a block clears (R22). -/
def blockClear (blk off : Nat) (s : State) : State :=
  match blk with
  | 0x01 => supClear off s
  | 0x02 => pwrClear off s
  | 0x03 => thmClear off s
  | 0x04 => bstClear off s
  | 0x08 => gnsClear off s
  | 0x09 => timClear off s
  | 0x0A => fusClear off s
  | 0x0C => slvClear off s
  | 0x0D => ctlClear off s
  | 0x0E => srvClear off s
  | 0x10 => sigClear off s
  | 0x11 => fioClear off s
  | 0x12 => safClear off s
  | 0x14 => canClear off s
  | 0x15 => serClear off s
  | 0x16 => ethClear off s
  | 0x17 => sesClear off s
  | 0x18 => icxClear off s
  | 0x1A => aqfClear off s
  | 0x1B => logClear off s
  | _ => s

/-- What a read of a register clears (R22, R57). -/
def regClear (addr : Nat) (s : State) : State :=
  let blk := blockOf addr
  let off := offsetOf addr
  if off < 0x10 then (if off = 0x8 then s.modHdr fun h => updAt h blk fun x => { x with events := 0 } else s) else blockClear blk off s

/-- Registers that some write reaches (R21). -/
def regWritable (addr : Nat) : Bool :=
  let off := offsetOf addr
  match blockOf addr with
  | 0x01 => supWritable off
  | 0x03 => thmWritable off
  | 0x04 => bstWritable off
  | 0x08 => gnsWritable off
  | 0x09 => timWritable off
  | 0x0A => fusWritable off
  | 0x0C => slvWritable off
  | 0x0D => ctlWritable off
  | 0x0E => srvWritable off
  | 0x10 => sigWritable off
  | 0x11 => fioWritable off
  | 0x12 => safWritable off
  | 0x14 => canWritable off
  | 0x15 => serWritable off
  | 0x16 => ethWritable off
  | 0x17 => sesWritable off
  | 0x18 => icxWritable off
  | 0x1A => aqfWritable off
  | 0x1B => logWritable off
  | 0x1C => cfgWritable off
  | _ => false

/-- The block takes a write of a writable register. `p0Ok`: the P0 part of a confirmation can be written (R568). -/
def blockWrite (w : WCtx) (p0Ok : Bool) (addr : Nat) (v : Word) (s : State) : WriteOut :=
  let off := offsetOf addr
  match blockOf addr with
  | 0x01 => supWrite w off v s
  | 0x03 => thmWrite v s
  | 0x04 => bstWrite w off v s
  | 0x08 => gnsWrite w off v s
  | 0x09 => timWrite w off v s
  | 0x0A => fusWrite w off v s
  | 0x0C => slvWrite w off v s
  | 0x0D => ctlWrite w off v s
  | 0x0E => srvWrite w off v s
  | 0x10 => sigWrite w off v s
  | 0x11 => fioWrite w off v s
  | 0x12 => safWrite w off v s
  | 0x14 => canWrite w off v s
  | 0x15 => serWrite v s
  | 0x16 => ethWrite v s
  | 0x17 => sesWrite w off v s
  | 0x18 => icxWrite w off v s
  | 0x1A => aqfWrite w off v s
  | 0x1B => logWrite w off v s
  | _ => cfgWrite w p0Ok off v s

/-- First of UNMAPPED and DOMAIN_OFF that holds of an address (R21, R57, R444, R603); 0 when neither does. -/
def State.regStatus (s : State) (addr : Nat) : Nat :=
  if (regRead s addr).isNone then 1
  else if 0x10 ≤ offsetOf addr ∧ s.domOn (registerDomain (blockOf addr)) = false then 3
  else 0

/-- Registers whose names end in _SEL, by address: the change log leaves them out (R457). -/
def selectors : List Nat :=
  [0x00030020, 0x00040024, 0x0008006C, 0x000A0084, 0x000A00A8, 0x000C0050, 0x000C0064, 0x000D005C, 0x000D0078, 0x000D0090, 0x000D00AC,
    0x000D00C0, 0x000D00D4, 0x000E0024, 0x000E0058, 0x000E0084, 0x00100030, 0x00100060, 0x0011005C, 0x00120038, 0x0012004C, 0x00140014,
    0x0014004C, 0x00150014, 0x00160014, 0x00170014, 0x00180040, 0x001A004C]

/-- The change log records a write of this register: every one but the selectors and JOY_DEMAND (R457). -/
def recorded (addr : Nat) : Bool := !(selectors.contains addr || addr == 0x000D0060)

end Sys2Proof.Machine
end

