-- ==== Sys2Proof/Machine/Domain.lean ====
section
/-!
DEFINITION. Domain commands (R429): the writes that the LEAD evaluates for the whole domain, their distribution and their effect at a later
frame instant; and the reception of Icxon frames, COMMAND included (R415 to R437).
-/
set_option autoImplicit false
namespace Sys2Proof.Machine

/-! ### Which writes they are, and what they do (R429) -/

/-- Addresses whose writes are domain commands, the RESET bit of SSTOP_REQ apart (R429). -/
def domainRegisters : List Nat :=
  [0x00010104, 0x00010124, 0x000A0070, 0x000A0074, 0x000D0058, 0x000D005C, 0x000D0060, 0x000D008C, 0x000D00E4]

/-- SSTOP_REQ (R95). -/
def sstopAddr : Nat := 0x00010108

/-- A write is a domain command (R429). ENTER of SSTOP_REQ is none. -/
def domainWrite (addr : Nat) (v : Word) : Bool := domainRegisters.contains addr || (addr == sstopAddr && bit v 1 && !bit v 0)

/-- What an accepted write would change at the next frame instant, read from the state `t` in which it was carried out. -/
def effectOf (session addr : Nat) (v : Word) (t : State) : Option DomainEffect :=
  match addr with
  | 0x00010104 => t.sup.pendMode.map .mode
  | 0x00010124 => some (.tBlend t.sup.tBlend)
  | 0x000D0058 => if bit v 0 || bit v 1 then t.ctl.spStored.map fun p => .setpoint p.1 else none
  | 0x000D005C => t.ctl.tuneNext.map fun p => .tune p.1 p.2
  | 0x000D0060 =>
    if t.sup.mode != .joystick then none
    else if bit v 31 then some (.joy none session)
    else t.ctl.joy.value.map fun d => .joy (some d.1) session
  | 0x000D008C => if bit v 0 || bit v 1 then t.ctl.trackNext.map fun p => .track p.1 p.2 else none
  | 0x000D00E4 => some (.thrEnable v)
  | 0x000A0070 => some (.refSelect v)
  | 0x000A0074 => if bit v 5 || bit v 6 then some (.refCmd v session) else none
  | _ => none

/-- The state `t` after an accepted write, but for what waits for the effect frame. -/
def deferred (s t : State) : State :=
  { t with
    ctl := s.ctl
    fus := s.fus
    sup := { t.sup with pendMode := s.sup.pendMode, tBlend := s.sup.tBlend } }

/-- The LEAD evaluates a write as if written locally; the effect of an accepted one is held back. -/
def evaluateWrite (w : WCtx) (addr : Nat) (v : Word) (s : State) : WriteOut × Option DomainEffect :=
  match blockWrite w true addr v s with
  | .done t d => (.done (deferred s t) d, effectOf w.session addr v t)
  | .later t => (.later (deferred s t), effectOf w.session addr v t)
  | o => (o, none)

/-- An accepted command goes to every member with its effect frame (R429); says whether it could be sent (R54). -/
def distribute (w : WCtx) (addr : Nat) (v : Word) (e : DomainEffect) (s : State) : State × Bool :=
  let o : DomainOrder := { effect := e, addr := addr, value := v, session := w.session, frame := (s.frame + 2) % 2 ^ 32 }
  let r := sendOrder o s
  (r.1.modIcx fun b => { b with cmds := b.cmds ++ [o] }, r.2)

/-- A command that finds no transaction free is refused BUSY and changes nothing (R54, R429). -/
def busyCommand (addr : Nat) (s : State) : WriteOut :=
  .refused (s.modIcx fun b => { b with txnFull := satInc 32 b.txnFull }) (if blockOf addr = 0x01 then 8 else 3)

/-- A domain command in the LEAD: an accepted one is distributed, and MODE_RESULT reports a refused mode request in every member. An ANCHOR written in the LEAD itself is answered once its frame has been evaluated (R136). -/
def leadWrite (w : WCtx) (addr : Nat) (v : Word) (s : State) : WriteOut :=
  match evaluateWrite w addr v s with
  | (.done t d, some e) => let r := distribute w addr v e t; if r.2 then .done r.1 d else busyCommand addr s
  | (.later t, some e) => let r := distribute w addr v e t; if r.2 then .later r.1 else busyCommand addr s
  | (.refused t d, _) => .refused (if addr = 0x00010104 then tellResult t else t) d
  | (.role t, _) => .role (if addr = 0x00010104 then tellResult t else t)
  | (o, _) => o

/-! ### SSTOP_REQ RESET in a domain (R65, R429) -/

/-- The reset goes to a member; one it cannot be sent to counts as not accepting. -/
def sendReset (session : Nat) (s : State) (i : Nat) : State :=
  let r := sendTxn 0x04 i none (fun f => { f with cmd := some (.reset session) }) s
  if r.2 then r.1 else countReset i false r.1

/-- SSTOP_REQ RESET in the LEAD: every present member evaluates R65 for itself. `from_`: the member and the transaction that
forwarded it. One evaluation at a time. -/
def leadReset (w : WCtx) (v : Word) (from_ : Option (Nat × Nat)) (s : State) : WriteOut :=
  if s.others.isEmpty && from_.isNone then sstopRequest w v s
  else
    needRole w roleOperator (tellResult (refuseMode w 7 4 s)) <|
      if s.icx.resetWait.isSome || s.saf.resetReq.isSome then .refused (tellResult (refuseMode w 7 8 s)) 8
      else
        let s := s.modIcx fun b => { b with
          resetFrom := from_, resetWait := some (w.session, s.selfIndex :: s.others, true) }
        .later (requestReset w.session (s.others.foldl (sendReset w.session) s))

/-! ### COMMAND (R429) -/

/-- STATUS and DETAIL of an evaluation, as RESULT carries them (R417, R444). -/
def WriteOut.status : WriteOut → Nat
  | .done _ _ => 0 | .role _ => 4 | .badValue => 5 | .range => 6 | .refused _ d => 7 + 256 * d | .later _ => 0

/-- The state an evaluation leaves. -/
def WriteOut.after (o : WriteOut) (s : State) : State :=
  match o with
  | .done t _ => t | .role t => t | .refused t _ => t | .later t => t | .badValue => s | .range => s

/-- The state with the SP registers and the staging buffer of the member written to (R429). -/
def withForwarded (x : Forwarded) (s : State) : State :=
  s.modCtl fun b => { b with
    spLat := x.spLat, spLon := x.spLon, spHdg := x.spHdg, spMoveN := x.spMoveN, spMoveE := x.spMoveE, staging := x.staging }

/-- A forwarded command reaches the LEAD: evaluated with the writer's role and session, and answered with a RESULT. -/
def takeForwarded (src tag : Nat) (x : Forwarded) (s : State) : State :=
  let w : WCtx := { session := x.session, role := x.role }
  if !s.inDomain || s.icx.role != .lead || !domainWrite x.addr x.value then resultIcx src tag (7 + 256) s
  else if x.addr = sstopAddr then
    match leadReset w x.value (some (src, tag)) s with
    | .later t => t
    | o => resultIcx src tag o.status (o.after s)
  else
    let o := leadWrite w x.addr x.value (withForwarded x s)
    resultIcx src tag o.status ((o.after s).modCtl fun _ => s.ctl)

/-- A change of mode that the LEAD has made without a request (R71): the mode, taken in the frame in which the LEAD took it (R62). -/
def DomainOrder.autoMode (o : DomainOrder) : Option PendingMode :=
  match o.effect with
  | .mode p => if p.cause = 0 then none else some { p with byLead := true }
  | _ => none

/-- A command distributed by the LEAD: kept for its effect frame; one that comes too late makes the member SUSPECT. A change of mode that the
LEAD has made in this frame is made at once. -/
def takeOrder (o : DomainOrder) (s : State) : State :=
  if !s.inDomain || s.icx.role == .lead then s
  else if o.autoMode.isSome && o.frame = s.frame then
    (match o.autoMode with | some p => if s.sup.mode == .start then s else changeMode [] p s | none => s)
  else if !serialLater o.frame s.frame then suspect s.selfIndex s
  else
    let s := s.modIcx fun b => { b with cmds := b.cmds ++ [o] }
    match o.effect with
    | .mode p =>
      let s := if p.cause ≠ 0 then s else setModeResult 0 (modeCode p.target) o.session s
      if s.sup.mode == .dormant && p.target != .dormant then beginDomainsOn s else s
    | _ => s

/-- A COMMAND arrives; one for all members is answered by each (R417). -/
def takeCommand (f : IcxFrame) (s : State) : State :=
  match f.cmd with
  | some (.forward x) => takeForwarded f.src f.tag x s
  | some (.effect o) =>
    let ok := o.autoMode.isSome || serialLater o.frame s.frame
    let s := if f.tag = 0 || !s.inDomain || s.icx.role == .lead then s else resultIcx f.src f.tag (if ok then 0 else 7) s
    takeOrder o s
  | some (.reset session) =>
    if s.inDomain then requestReset session (s.modIcx fun b => { b with resetOwed := some (f.src, f.tag) }) else s
  | some (.told code mode session) =>
    if s.inDomain && s.icx.role != .lead then
      let s := setModeResult code mode session s
      if f.tag = 0 then s else resultIcx f.src f.tag 0 s
    else s
  | none => s

/-! ### Effect at the frame instant (R429) -/

/-- What an accepted command changes at its effect frame. -/
def applyEffect (e : DomainEffect) (session : Nat) (s : State) : State :=
  match e with
  | .mode p => s.modSup fun b => { b with pendMode := some { p with byLead := s.icx.role != .lead } }
  | .tBlend t => s.modSup fun b => { b with tBlend := t }
  | .setpoint p =>
    let auto := s.sup.mode == .autoPos
    let s := s.modCtl fun b => { b with spStored := some (p, s.frame), spNext := if auto then some p else b.spNext }
    let s := if auto then wantOrigin p.pos s else s
    s.raiseIf (s.icx.role != .lead) 0x0D18 session (spBytes p auto)
  | .tune n sess => s.modCtl fun b => { b with tuneNext := some (n, sess) }
  | .joy d sess =>
    if s.sup.mode != .joystick then s
    else s.modCtl fun b => { b with joy := match d with
      | some d => { b.joy with owner := some sess, stale := false, value := some (d, s.now) }
      | none => { b.joy with owner := none } }
  | .track t sess => s.modCtl fun b => { b with trackNext := some (t, sess) }
  | .thrEnable v => s.modCtl fun b => { b with thrEnable := v.setWidth 16 }
  | .refSelect v => enableRefs v s
  | .refCmd v sess =>
    let i := refPlace v
    let s := if bit v 6 then resetModel i s else s
    if bit v 5 then modRef i (fun r => { r with anchor := none, anchorCmds := r.anchorCmds ++ [(s.now, sess, 0)] }) s else s

/-- A command takes effect; in a member that does not hold LEAD the change log records it, if a register write made it (R457). -/
def applyOrder (s : State) (o : DomainOrder) : State :=
  let s := applyEffect o.effect o.session s
  if s.icx.role == .lead || o.autoMode.isSome then s else addChange 255 6 o.addr 0 o.value.toNat 0 0 s

/-- The commands whose effect frame has come. -/
def domainInstant (s : State) : State :=
  let due := fun (o : DomainOrder) => !serialLater o.frame s.frame
  let l := s.icx.cmds.filter due
  l.foldl applyOrder (s.modIcx fun b => { b with cmds := b.cmds.filter fun o => !due o })

/-! ### Writes of sessions -/

/-- A domain command goes to the LEAD as a transaction, with what its evaluation needs (R417, R429). -/
def forwardWrite (w : WCtx) (wait : Waiting) (addr : Nat) (v : Word) (s : State) : WriteOut :=
  let b := s.ctl
  let x : Forwarded := { addr := addr, value := v, session := w.session, role := w.role, spLat := b.spLat, spLon := b.spLon, spHdg := b.spHdg
                         spMoveN := b.spMoveN, spMoveE := b.spMoveE, staging := b.staging }
  match sendTxn 0x04 s.icx.lead (some wait) (fun f => { f with cmd := some (.forward x) }) s with
  | (t, true) => .later t
  | (t, false) => .refused t (if blockOf addr = 0x01 then 8 else 3)

/-- A session's write of a writable register: a domain command in a domain, otherwise its block's own (R429). -/
def sessionWrite (w : WCtx) (p0Ok : Bool) (wait : Waiting) (addr : Nat) (v : Word) (s : State) : WriteOut :=
  if s.inDomain && domainWrite addr v then
    if s.forwards then forwardWrite w wait addr v s
    else if addr = sstopAddr then leadReset w v none s
    else leadWrite w addr v s
  else blockWrite w p0Ok addr v s

/-- A frame received on an Icxon port (R415, R416). -/
def receiveIcx (r : IcxRx) (s : State) : State := icxReceive takeCommand r s

/-- A frame of one TYPE received. -/
def receiveType (type : Nat) (r : IcxRx) (s : State) : State := if r.frame.type = type then receiveIcx r s else s

/-! ### Meanings of the commands -/

/-- Meaning of SYNC (R422). -/
def execSync (rx : IcxRx) (s : State) : Host.Outcome State Fault Refusal :=
  .next (receiveType 1 rx s)

/-- Meaning of EXCHANGE (R425). -/
def execExchange (rx : IcxRx) (s : State) : Host.Outcome State Fault Refusal :=
  .next (receiveType 2 rx s)

/-- Meaning of VOTE (R426). -/
def execVote (rx : IcxRx) (s : State) : Host.Outcome State Fault Refusal :=
  .next (receiveType 3 rx s)

/-- Meaning of COMMAND (R429). -/
def execCommand (rx : IcxRx) (s : State) : Host.Outcome State Fault Refusal :=
  .next (receiveType 4 rx s)

/-- Meaning of SSTOP (R435). -/
def execSstop (rx : IcxRx) (s : State) : Host.Outcome State Fault Refusal :=
  .next (receiveType 6 rx s)

/-- Meaning of JOIN (R420). -/
def execJoin (rx : IcxRx) (s : State) : Host.Outcome State Fault Refusal :=
  .next (receiveType 7 rx s)

/-- Meaning of STATE (R420). -/
def execState (rx : IcxRx) (s : State) : Host.Outcome State Fault Refusal :=
  .next (receiveType 8 rx s)

/-- Meaning of EXT_CAP (R437). -/
def execExtCap (rx : IcxRx) (s : State) : Host.Outcome State Fault Refusal :=
  .next (receiveType 10 rx s)

/-- Meaning of EXT_DEMAND (R437). -/
def execExtDemand (rx : IcxRx) (s : State) : Host.Outcome State Fault Refusal :=
  .next (receiveType 11 rx s)

end Sys2Proof.Machine
end

