-- ==== Sys2Proof/Machine/Ecc.lean ====
section
/-!
DEFINITION. Memory errors (R43, R44, R188, R544): what a read of a memory finds, and the work item that it ends.
-/
set_option autoImplicit false
namespace Sys2Proof.Machine

/-! ### Memory errors (R43, R44) -/

/-- The domain that a memory stands in is on. -/
def State.memoryOn (s : State) (m : Nat) : Bool :=
  match memoryOf m with | some x => s.domOn x.domain | none => false

/-- A word of the image copies (R544): replaced from the other copy, or lost. -/
def imageWord (off : Nat) (lost : Bool) (s : State) : State :=
  let s := s.modCfg fun b => if lost then { b with recordLost := true } else { b with copyRepaired := true }
  let s := s.raise 0x1C17 0xFF (leBytes 4 off ++ [BitVec.ofNat 8 (b2n (!lost))])
  if lost then startHold s else s

/-- A single-bit error is corrected and counted (R43). -/
def eccCorrected (f : MemFind) (s : State) : State :=
  let s := s.modSup fun b => { b with eccCorr := satInc 32 b.eccCorr }
  let s := if f.memory = 14 then s.modSaf fun b => { b with eccCorr := satInc 16 b.eccCorr } else s
  s.raise 0x0113 f.memory (leBytes 4 f.addr)

/-- The word's second uncorrectable error within 24 h (R44). -/
def State.secondError (s : State) (f : MemFind) : Bool :=
  s.sup.eccWords.any fun w => w.1 == (f.memory, f.addr) && decide (s.now ≤ w.2 + dayNs)

/-- The row of a word is retired until restart (R44). -/
def State.rowRetired (s : State) (memory addr : Nat) : Bool := s.sup.eccRetired.contains (memory, Config.memoryRow memory addr)

/-- The work item with a tag is aborted and completes MEM_FAULT (R44): a solve, a transmit entry, a session's request, an Icxon transaction or a
write, which leaves its unit. A request so aborted gets no response, and a write that waited for its transaction the status TIMEOUT; the client
of a write sees MEDIA (assumption log 37). -/
def abortItem (t : Tag) (s : State) : State :=
  let plain := completeTag t .memFault
  match t.block with
  | 0x0C => (match (List.range 512).find? fun i => ((s.slv.slot i).phase == .queued || (s.slv.slot i).phase == .running) && (s.slv.slot i).tag.same t with
    | some i => drainSolves (endSolve i .memFault s)
    | none => plain s)
  | 0x14 => (match (List.range 4).find? fun p => (s.can.port p).tx.any fun e => e.tag.same t with
    | some p => (((s.can.port p).tx.filter fun e => e.tag.same t).foldl (fun s e => finishTx p e .memFault s) s)
    | none => plain s)
  | 0x17 =>
    let hit := fun (x : Session) => x.outstanding.filter fun o => (tagOf o.2).same t
    let gone := fun (w : Waiting) => (hit (s.ses.session w.session)).any fun o => o.1 == w.reqId
    plain (s.modSes fun b => { b with
      sessions := b.sessions.map fun x => { x with outstanding := x.outstanding.filter fun o => !(tagOf o.2).same t }
      waiting := b.waiting.filter fun w => !gone w })
  | 0x18 => (match s.icx.txns.find? fun x => (tagOf x.tag).same t with
    | some x =>
      let s := dropTxn x .memFault s
      (match x.origin with | some w => answer w 16 0 s | none => s)
    | none => plain s)
  | 0x1A => (match s.aqf.writes.find? fun w => w.tag.same t with
    | some w =>
      let s := s.modAqf fun b => { b with
        writes := b.writes.filter fun x => !x.tag.same t, done := (w.key, w.tag, .media, s.now) :: b.done }
      dormantCheck (clientDone w .media (plain s))
    | none => plain s)
  | _ => plain s

/-- An uncorrectable error (R44): its item completes MEM_FAULT, and the word's owner acts. The Sediment buffer lies in SU's SRAM or beside the tag
pool; LOG_FAULT says whether the word was one of the buffer's (R508; assumption log 14). A row retired in MRAM's last-words area leaves the area
unwritable (R485, R508). -/
def eccUncorrectable (f : MemFind) (s : State) : State :=
  let retire := s.secondError f
  let key := (f.memory, f.addr)
  let row := (f.memory, Config.memoryRow f.memory f.addr)
  let s := s.modSup fun b => { b with
    eccUncorr := satInc 32 b.eccUncorr
    eccWords := b.eccWords.filter (fun w => w.1 != key) ++ [(key, s.now)]
    eccRetired := if retire then b.eccRetired ++ [row] else b.eccRetired }
  let s := if f.memory = 15 ∨ f.memory = 0xF2 then s.modLog fun b => { b with bufferEcc := true } else s
  let words := f.memory = 0xF1 ∧ (mramArea 2).1 ≤ f.addr ∧ f.addr < (mramArea 2).1 + (mramArea 2).2
  let s := if retire ∧ words then s.modLog fun b => { b with lastWordsOk := false } else s
  let s := s.raise 0x0114 f.memory (leBytes 4 f.addr ++ [BitVec.ofNat 8 (b2n retire)])
  let s := match f.item with | some w => abortItem (tagOf w.toNat) s | none => s
  let s := match f.slot with | some i => if f.memory = 0xF0 then drainSolves (faultSlot i f.addr s) else s | none => s
  let s := match f.image with | some (o, lost) => if f.memory = 0xF0 then imageWord o lost s else s | none => s
  if f.memory = 14 ∧ s.scRuns = true then
    s.modSaf fun b => { b with
      eccUncorr := satInc 16 b.eccUncorr, scInternal := true
      entries := b.entries ++ [{ cause := 3, mask := b.defined, immediate := true }] }
  else s

/-- MEMORY_SCRUB (R43, R44): what a read of memory finds; a retired row is not used again until restart. -/
def memoryScrub (f : MemFind) (s : State) : State :=
  if !s.memoryOn f.memory || !memoryHolds f.memory f.addr || !s.suRuns || s.rowRetired f.memory f.addr then s
  else if f.uncorrectable then eccUncorrectable f s
  else eccCorrected f s

/-! ### Meanings of the commands -/

/-- Meaning of MEMORY_SCRUB (R43). -/
def execMemoryScrub (find : MemFind) (s : State) : Host.Outcome State Fault Refusal :=
  .next (memoryScrub find s)

end Sys2Proof.Machine
end

