-- ==== Sys2Proof/Machine/Frame.lean ====
section
/-!
DEFINITION. The frame (chapter 01_architecture.md, R14, R45 to R52): the frame instant with everything that takes effect there, the step
of module time in its place (R466), the staging of outputs and the release strobe.
-/
set_option autoImplicit false
namespace Sys2Proof.Machine

/-! ### The frame instant (R14, R45, R75) -/

/-- The margin decided since the last frame instant is applied (R37, R39, R59). -/
def marginInstant (s : State) : State :=
  let old := s.sup.margin
  let new := s.sup.marginNext
  if old == new then s
  else (s.modSup fun b => { b with margin := new }).raise 0x0110 0xFF
    [BitVec.ofNat 8 old.code, BitVec.ofNat 8 new.code, BitVec.ofNat 8 s.thm.band.code]

/-- A longer DRAM refresh interval applies (R527). -/
def refreshInstant (s : State) : State :=
  s.modThm fun b => { b with refreshMs := b.refreshNext.getD b.refreshMs, refreshNext := none }

/-- A step held that the mode in force does not allow is not made: the time base slews (R465). -/
def stepWithheld (s : State) : State :=
  if s.tim.step.isSome then s.modTim fun b => { b with step := none, bigSlew := true, steer := steerOf false (b.offset : Rat) } else s

/-- SYNC_OUT in mode FRAME (R476). -/
def syncOutInstant (s : State) : State :=
  if s.scalars.syncMode = 1 ∧ s.frame % (max 1 s.scalars.syncDiv) = 0 then s.modTim fun b => { b with syncOutAt := some s.now } else s

/-- A setpoint commanded in AUTO_POS takes effect (R230). -/
def setpointInstant (s : State) : State :=
  match s.ctl.spNext with
  | none => s
  | some p =>
    let s := s.modCtl fun b => { b with spNext := none }
    if s.sup.mode == .autoPos then useSetpoint p s else s

/-- Mode changes and the tuning set with them (R75, R228). -/
def changesInstant (above : List (Nat × Nat)) (s : State) : State :=
  let t := modeInstant above s
  tuneInstant (t.sup.mode != s.sup.mode || (t.sup.mode == .joystick && t.sup.hdgHold != s.sup.hdgHold)) t

/-- The time base reaches the next frame instant: the next whole multiple of 20 ms (R14). -/
def nextFrame (s : State) : State :=
  let t := s.tim.frameAt + 20000000
  (steerFrame (stepWithheld s)).modTim fun b => { b with now := max b.now t, frameAt := t, strobed := false, skipUntil := none, measured := none }

/-- What the supervisor measures and starts afresh in a frame (R35, R58, R537). -/
def freshFrame (m : Measured) (s : State) : State :=
  measureSupply m (s.modSup fun b => { b with stageDone := 0, stageMissed := 0, fabRate := f32Val m.rate })

/-- Everything pending for the instant, in order: the blocks' own settings, the domain's roles and commands, setpoint and track, the
mode, and what depends on it. -/
def pendingInstant (above : List (Nat × Nat)) (s : State) : State :=
  let s := publishField (applyDelays (syncOutInstant (refreshInstant (marginInstant s))))
  let s := drainSolves (cancelNodes s)
  let s := trackInstant (setpointInstant (domainInstant (icxInstant s)))
  let s := xferInstant (changesInstant above s)
  let s := fusInstant (conseqCheck (dormantCheck (lockInstant s)))
  sendAllPushes (readyInstant s)

/-- The strobe at a frame instant reports how far the 52 MHz edge lies from it (R461). -/
def frameStrobe (edge : Rat) (s : State) : State := s.modTim fun b => { b with frameEdge := strobeRes edge }

/-- FRAME_INSTANT (R45); an instant at which module time steps is not emitted (R466). -/
def frameInstant (m : Measured) (s : State) : State :=
  if !s.suRuns || s.stepDue then s else pendingInstant m.above (freshFrame m (strobeLatch m.edge m.latch (frameStrobe m.edge (nextFrame s))))

/-- TIME_STEP (R466): the step in place of the frame instant, and what follows it in SIG and GNS (R121, R308). -/
def timeStep (s : State) : State :=
  if !s.suRuns || !s.stepDue then s
  else (syncAfterStep (stepTime s)).modGns fun b => { b with afterStep := true }

/-! ### Output staging (R45, R46, R61, R314, R360, R389 to R398, R423) -/

/-- CC0 stages the ramp value of a thruster: it ramps since an entry that precedes frame time 15 ms (R360). -/
def State.rampStaged (s : State) (i : Nat) : Bool :=
  (s.saf.t i).phase == .ramping && decide ((s.saf.t i).entryAt < s.tim.frameAt + 15000000)

/-- What CC0 stages for a thruster: the ramp value while it is RAMPING, otherwise the command formed, which is the hold value where thrust is
inhibited or the thruster unavailable (R61, R252, R254, R360). -/
def State.stagedThr (s : State) (i : Nat) : Rat × Nat :=
  match s.thrCfg i with
  | none => (0, 0)
  | some _ =>
    let t := s.ctl.thruster i
    if s.rampStaged i then ((s.saf.t i).ramp, t.cmdAz)
    else if s.inhibited then (0, s.sup.holdAz.getD i 0)
    else if (s.saf.t i).phase == .removed then (0, t.cmdAz)
    else (t.output, t.cmdAz)

/-- Analog outputs of source THRUSTER; a member that is not LEAD stages the hold value (R314, R423). -/
def stageAnalog (l : List (Rat × Nat)) (s : State) : State :=
  if !s.domOn 12 then s
  else s.forN 12 fun s i =>
    let o := s.sig.out i
    if o.src == .thruster then stageOut i (if s.standsBack then 0 else (l.getD o.thr (0, 0)).1) s else s

/-- THRUST_CMD and AZPITCH_CMD of a thruster (R389, R392, R393). -/
def sendThruster (l : List (Rat × Nat)) (s : State) (i : Nat) : State :=
  match s.thrCfg i with
  | none => s
  | some c =>
    let x := l.getD i (0, 0)
    let ramp := s.rampStaged i
    let enable := ramp || (releasesThrust s.sup.mode && (s.ctl.thruster i).available && (s.saf.t i).phase != .removed)
    let test := match s.srv.test with | some (j, _) => j == i | none => false
    let s := sendLuquel 0 i false (thrustCmd s.frame x.1 enable ramp test (modeCode s.sup.mode)) .strobe s
    sendAzPitch i x.2 (s.slewAt i c .strobe) .strobe s

/-- EXT_DEMAND of an EXTERNAL group on CAN (R251, R397). -/
def sendGroupDemand (s : State) (g : Nat) : State :=
  match s.groupCfg g with
  | some c =>
    if c.external && !c.extIcxon then
      let d := (s.ctl.group g).demand
      let f := s.image.scalars.fRef
      let m := s.image.scalars.mRef
      sendLuquel 4 (0x40 + g) true (extDemandData s.frame { surge := d.surge / f, sway := d.sway / f, yaw := d.yaw / m }
        (releasesThrust s.sup.mode)) .strobe s
    else s
  | none => s

/-- CC0 stages the commands of the frame: for the servos, the analog outputs and, in the LEAD or a lone module, the CAN frames. -/
def stageCommands (s : State) : State :=
  let l := (List.range 16).map s.stagedThr
  let s := stageAnalog l (s.modCtl fun b => { b with staged := some l })
  if s.standsBack then s else (s.forN 16 (sendThruster l)).forN 64 sendGroupDemand

/-- OUTPUT_STAGING: from frame time 15 ms, complete at `us` (R45); what is staged after the strobe waits for the next one (R46). In DORMANT the
IO core stages the hold value, whether PD6 is on or off (R61, R522). -/
def outputStaging (us : Nat) (s : State) : State :=
  if !s.stagesRun || s.sup.mode == .start || s.sup.stageDone.getLsbD 5 then s
  else
    let s := s.atFrame (max 15000 us)
    let s := if s.engineRuns (if s.sup.mode == .dormant then 13 else 9) then stageCommands s else s
    let s := if s.engineRuns 13 && !s.standsBack then sendLuquel 5 0xF0 false (moduleStatus s) .strobe s else s
    closeStage 5 16000 s

/-! ### The release strobe (R46, R51) -/

/-- The staged commands reach the servos, and SC's mirror of what was released (R34, R51, R360). -/
def releaseCommands (s : State) : State :=
  match s.ctl.staged with
  | none => s
  | some l =>
    let s := releaseTargets l (s.modCtl fun b => { b with staged := none })
    s.modSaf fun b => { b with
      mirrorAt := if s.engineRuns 13 then some s.now else b.mirrorAt
      thr := b.thr.mapIdx fun i t => { t with released := (l.getD i (0, 0)).1 } }

/-- RELEASE_STROBE (R46): at the 52 MHz edge nearest frame time 16 ms (R461), once in a frame; `readbacks` are the analog outputs read back after it (R316). -/
def releaseStrobe (readbacks : List F32) (s : State) : State :=
  if !s.suRuns || s.tim.strobed || !s.stagesRun then s
  else
    let at_ := s.tim.frameAt + 16000000
    let s := (s.advance at_).modTim fun b => { b with strobed := true, releaseEdge := strobeRes (Config.strobeEdge at_) }
    let s := releaseField (takeReadbacks readbacks (releaseAnalog (releaseCommands s)))
    if s.stagesRun && s.engineRuns 13 && s.engineRuns 9 then sendExtDemand s else s

/-! ### Meanings of the commands -/

/-- Meaning of FRAME_INSTANT (R45). -/
def execFrameInstant (m : Measured) (s : State) : Host.Outcome State Fault Refusal :=
  .next (frameInstant m s)

/-- Meaning of RELEASE_STROBE (R46). -/
def execReleaseStrobe (readbacks : List F32) (s : State) : Host.Outcome State Fault Refusal :=
  .next (releaseStrobe readbacks s)

/-- Meaning of TIME_STEP (R466). -/
def execTimeStep (s : State) : Host.Outcome State Fault Refusal :=
  .next (timeStep s)

/-- Meaning of OUTPUT_STAGING (R45). -/
def execOutputStaging (us : Nat) (s : State) : Host.Outcome State Fault Refusal :=
  .next (outputStaging us s)

end Sys2Proof.Machine
end

