-- ==== Sys2Proof/Machine/Requests.lean ====
section
/-!
DEFINITION. Session requests that reach registers and objects (R443, R444, R454, R456, R457): READ, WRITE, BULK_READ and BULK_WRITE, and
every register write that the command table names on its own.
-/
set_option autoImplicit false
namespace Sys2Proof.Machine

/-! ### READ (R20 to R22, R443) -/

/-- A request whose payload R443 does not allow is malformed (R442). -/
def checkedRequest (ok : Bool) (conn id type : Nat) (run : Nat → State → State) (s : State) : State :=
  if ok then sessionRequest conn id type run s
  else match s.ses.conn conn with
    | some c => if s.ioRuns && c.tls then badFormat conn type (some id) s else s
    | none => s

/-- The addresses of a READ. -/
def readAddrs (addr count : Nat) : List Nat := (List.range count).map fun k => addr + 4 * k

/-- READ (R443): the frame number and the values, all of one instant. One address that cannot be read refuses the whole request, and
nothing is cleared. -/
def readRequest (conn id addr count : Nat) (s : State) : State :=
  checkedRequest (decide (1 ≤ count) && decide (count ≤ 64)) conn id 0x10 (fun i s =>
    let l := readAddrs addr count
    match l.find? fun a => s.regStatus a != 0 with
    | some a => answerPlain conn id 0x10 i (s.regStatus a) 0 s
    | none =>
      let values := l.flatMap fun a => leBytes 4 ((regRead s a).getD 0).toNat
      respond i (reply conn 0x10 id 0 0 (leBytes 4 s.frame ++ values)) (l.foldl (fun s a => regClear a s) s)) s

/-! ### WRITE (R429, R444, R456, R457) -/

/-- What a pair of a WRITE comes to: STATUS, DETAIL, and whether its answer follows later or has been given by its block. -/
structure PairOut where
  s : State
  status : Nat := 0
  detail : Nat := 0
  later : Bool := false

/-- A write that waits, forgotten. -/
def dropWait (x : Waiting) (s : State) : State := s.modSes fun b => { b with waiting := b.waiting.filter (· != x) }

/-- One pair (R444): UNMAPPED, DOMAIN_OFF and READ_ONLY, then what the block says. `before` pairs have been applied, and `rest` follow. A write that
waits and has been accepted at once is applied. -/
def writePair (w : WCtx) (p0Ok : Bool) (before addr : Nat) (v : Word) (rest : List (Word × Word)) (s : State) : PairOut :=
  let st := s.regStatus addr
  if st ≠ 0 then { s := s, status := st }
  else if !regWritable addr then { s := s, status := 2 }
  else
    let old := (regRead s addr).getD 0
    let by_ := s.ses.session w.session
    let x : Waiting := { conn := w.conn, session := w.session, reqId := w.reqId, addr := addr, value := v, old := old
                         logged := recorded addr, before := before, rest := rest, p0Ok := p0Ok
                         role := by_.role, method := by_.method, source := by_.source, ident := by_.ident }
    match sessionWrite w p0Ok x addr v (s.modSes fun b => { b with waiting := b.waiting ++ [x] }) with
    | .later t => if t.ses.waiting.contains { x with ready := true } then { s := dropWait { x with ready := true } t } else { s := t, later := true }
    | .done t d =>
      let t := dropWait x t
      { s := if recorded addr then addChangeAs (s.ses.session w.session) w.session 0 addr old.toNat v.toNat w.reqId d t else t }
    | .role t => { s := dropWait x t, status := 4 }
    | .badValue => { s := s, status := 5 }
    | .range => { s := s, status := 6 }
    | .refused t d => { s := dropWait x t, status := 7, detail := d }

/-- The pairs in order, up to the first that is refused or waits (R456): how many were applied, and how it ended. -/
def writePairs (w : WCtx) (p0Ok : Bool) : Nat → List (Word × Word) → State → Nat × PairOut
  | k, [], s => (k, { s := s })
  | k, (a, v) :: l, s =>
    let o := writePair w p0Ok k a.toNat v l s
    if o.status ≠ 0 || o.later then (k, o) else writePairs w p0Ok (k + 1) l o.s

/-- The pairs of a WRITE from the k-th on, and its answer unless a pair waits; a full self-test starts after it (R456, R533). -/
def runPairs (w : WCtx) (p0Ok : Bool) (k : Nat) (l : List (Word × Word)) (s : State) : State :=
  let r := writePairs w p0Ok k l s
  if r.2.later then r.2.s else beginFull (respond w.session (writeResponse w.conn w.reqId r.1 r.2.status r.2.detail) r.2.s)

/-- The pairs that follow an accepted pair of a WRITE are applied (R456). -/
def goOn (x : Waiting) (s : State) : State :=
  runPairs { session := x.session, role := (s.ses.session x.session).role, conn := x.conn, reqId := x.reqId } x.p0Ok (x.before + 1) x.rest (dropWait x s)

/-- Every WRITE whose waiting pair has been accepted goes on (R456). -/
def settle (s : State) : State := (s.ses.waiting.filter fun x => x.ready).foldl (fun s x => goOn x s) s

/-- WRITE (R443, R456). Where a pair waits, the pairs after it and the answer follow once it has been evaluated. -/
def writeRequest (conn id : Nat) (p0Ok : Bool) (pairs : List (Word × Word)) (s : State) : State :=
  checkedRequest (decide (1 ≤ pairs.length) && decide (pairs.length ≤ 16)) conn id 0x11 (fun i s =>
    runPairs { session := i, role := (s.ses.session i).role, conn := conn, reqId := id } p0Ok 0 pairs s) s

/-- A WRITE of one pair. -/
def writeOne (req : Req) (addr : Nat) (v : Word) (s : State) : State := writeRequest req.conn req.id true [(wordOf addr, v)] s

/-! ### Objects (R454, R455, R457, R506, R510 to R512, R565) -/

/-- Records from a SEQ on, whole ones within a length (R506). -/
def recordsFrom (seq len : Nat) (l : List SedRecord) : Bytes :=
  ((l.dropWhile fun r => serialLater seq r.seq).take (len / 32)).flatMap SedRecord.bytes

/-- Bytes of an object at an offset that exist (R454). -/
def window (off len : Nat) (b : Bytes) : Bytes := (b.drop off).take len

/-- Bytes of the archive entry of an identifier (R512). -/
def AqfState.archive (b : AqfState) (id : Nat) : Bytes :=
  match b.objs.find? fun o => o.key.part == 5 && o.key.tag == id with
  | some o => (match o.data with | .bytes x => x | _ => [])
  | none => []

/-- Content of an object that can be read, at index and offset (R454). -/
def State.objectBytes (s : State) (object index off len : Nat) : Bytes :=
  match object with
  | 0 => match index with
    | 0 => recordsFrom off len s.log.durable
    | 1 => recordsFrom off len s.log.buffer
    | 2 => window off len (s.log.lastWords.flatMap SedRecord.bytes)
    | _ => []
  | 1 => window off len (s.ses.clog.flatMap ChangeEntry.bytes)
  | 2 => window off len (s.aqf.archive index)
  | 3 => window off len s.aqf.exportBytes
  | 6 => window off len s.factoryCert
  | 7 => window off len (s.ses.siteCert.getD [])
  | 8 => window off len Config.csr
  | _ => []

/-- Least role that reads an object (R454). -/
def readRole (object : Nat) : Nat :=
  match object with | 2 => roleEngineer | 3 => roleEngineer | 4 => roleEngineer | 5 => roleEngineer | 8 => roleCommissioner | _ => roleObserver

/-- BULK_READ (R443, R454). -/
def bulkRead (conn id object index off len : Nat) (s : State) : State :=
  checkedRequest (decide (1 ≤ len) && decide (len ≤ 1024)) conn id 0x20 (fun i s =>
    let done := answerPlain conn id 0x20 i
    if 8 < object then done 1 0 s
    else if (s.ses.session i).role < readRole object then done 4 0 s
    else if object = 4 ∨ object = 5 ∨ (object = 3 ∧ s.sup.mode ≠ .service) then done 7 1 s
    else respond i (reply conn 0x20 id 0 0 (s.objectBytes object index off len)) s) s

/-- Bytes of a write that fit an area (R454, R511, R565). -/
def fitting (top off : Nat) (b : Bytes) : Bytes := b.take (top - off)

/-- Data written into an object's staging area (R454, R455, R511, R565). -/
def stageObject (object off : Nat) (b : Bytes) (s : State) : State :=
  if b.isEmpty then s
  else match object with
    | 4 => s.modAqf fun x => { x with import_ := pokeBytes x.import_ off b, importLen := max x.importLen (off + b.length) }
    | 5 => s.modCfg fun x => { x with staged := pokeBytes x.staged off b, stagedLen := max x.stagedLen (off + b.length) }
    | _ => s.modSes fun x => { x with siteStage := some (pokeBytes (x.siteStage.getD []) off b) }

/-- Length of an object's staging area (R454, R511, R565). -/
def objectRoom (object : Nat) : Nat := match object with | 4 => 14680064 | 5 => 6291456 | _ => 2048

/-- BULK_WRITE (R443, R454). An index other than 0 names nothing in object 5 (R565). -/
def bulkWrite (conn id object index off : Nat) (data : Bytes) (s : State) : State :=
  checkedRequest (decide (1 ≤ data.length) && decide (data.length ≤ 1024)) conn id 0x21 (fun i s =>
    let done := fun st d n => respond i (reply conn 0x21 id st d (leBytes 2 n ++ zeros 2))
    let need := if object = 7 then roleCommissioner else roleEngineer
    if 8 < object then done 1 0 0 s
    else if !(object == 4 || object == 5 || object == 7) then done 2 0 0 s
    else if (s.ses.session i).role < need then done 4 0 0 s
    else if object ≠ 7 ∧ s.sup.mode ≠ .service then done 7 1 0 s
    else if object = 5 ∧ s.cfg.writing = true then done 7 1 0 s
    else
      let b := if object = 5 ∧ index ≠ 0 then [] else fitting (objectRoom object) off data
      done 0 0 b.length (stageObject object off b s)) s

/-! ### Commands that may accept a pair that waits -/

/-- Meaning of SC_CYCLE (R342). -/
def execScCycle (us : Nat) (pinsP pinsN cf : BitVec 8) (currents : List F32) (supply : F32) (s : State) : Host.Outcome
  State Fault Refusal :=
  .next (settle (scCycle us pinsP pinsN cf currents supply s))

/-- Meaning of FUSION_INPUT_CUT (R151). -/
def execFusionInputCut (us : Nat) (s : State) : Host.Outcome State Fault Refusal :=
  .next (settle (inputCut us s))

/-- Meaning of ICX_FORWARD (R416). -/
def execIcxForward (rx : IcxRx) (s : State) : Host.Outcome State Fault Refusal :=
  .next (settle (receiveIcx rx s))

/-- Meaning of RESULT (R417). -/
def execResult (rx : IcxRx) (s : State) : Host.Outcome State Fault Refusal :=
  .next (settle (receiveType 5 rx s))

/-! ### Meanings of the commands -/

/-- Meaning of MODE_REQ (R73). -/
def execModeReq (req : Req) (mode : Fin 8) (hdgHold useSetpoint : Bool) (s : State) : Host.Outcome State Fault Refusal
  :=
  .next (writeOne req 0x00010104 (pack [(mode.val, 0, 3), (b2n hdgHold, 4, 1), (b2n useSetpoint, 5, 1)]) s)

/-- Meaning of SSTOP_REQ_ENTER (R63). -/
def execSstopReqEnter (req : Req) (scope : Byte) (s : State) : Host.Outcome State Fault Refusal :=
  .next (writeOne req 0x00010108 (pack [(1, 0, 1), (scope.toNat, 8, 8)]) s)

/-- Meaning of SSTOP_REQ_RESET (R65). -/
def execSstopReqReset (req : Req) (s : State) : Host.Outcome State Fault Refusal :=
  .next (writeOne req 0x00010108 2 s)

/-- Meaning of RESTART_REQ (R83). -/
def execRestartReq (req : Req) (key : Word) (s : State) : Host.Outcome State Fault Refusal :=
  .next (writeOne req 0x00010138 key s)

/-- Meaning of MODE_TBLEND (R93). -/
def execModeTblend (req : Req) (seconds : F32) (s : State) : Host.Outcome State Fault Refusal :=
  .next (writeOne req 0x00010124 seconds s)

/-- Meaning of COLD_START (R127). -/
def execColdStart (req : Req) (s : State) : Host.Outcome State Fault Refusal :=
  .next (writeOne req 0x00080094 1 s)

/-- Meaning of RTK_RESET (R127). -/
def execRtkReset (req : Req) (s : State) : Host.Outcome State Fault Refusal :=
  .next (writeOne req 0x00080094 2 s)

/-- Meaning of REF_SELECT (R132). -/
def execRefSelect (req : Req) (mask : BitVec 12) (s : State) : Host.Outcome State Fault Refusal :=
  .next (writeOne req 0x000A0070 (mask.setWidth 32) s)

/-- Meaning of ANCHOR (R136). -/
def execAnchor (req : Req) (slot : Fin 16) (heading : Bool) (s : State) : Host.Outcome State Fault Refusal :=
  .next (writeOne req 0x000A0074 (pack [(slot.val, 0, 4), (b2n heading, 4, 1), (1, 5, 1)]) s)

/-- Meaning of REF_CMD_RESET_MODEL (R172). -/
def execRefCmdResetModel (req : Req) (slot : Fin 16) (heading : Bool) (s : State) : Host.Outcome State Fault Refusal
  :=
  .next (writeOne req 0x000A0074 (pack [(slot.val, 0, 4), (b2n heading, 4, 1), (1, 6, 1)]) s)

/-- Meaning of SLV_TEST (R219). -/
def execSlvTest (req : Req) (engine : Fin 8) (s : State) : Host.Outcome State Fault Refusal :=
  .next (writeOne req 0x000C0084 (pack [(1, 0, 1), (engine.val, 1, 3)]) s)

/-- Meaning of SP_APPLY (R230). -/
def execSpApply (req : Req) (s : State) : Host.Outcome State Fault Refusal :=
  .next (writeOne req 0x000D0058 1 s)

/-- Meaning of SP_MOVE (R230). -/
def execSpMove (req : Req) (s : State) : Host.Outcome State Fault Refusal :=
  .next (writeOne req 0x000D0058 2 s)

/-- Meaning of TUNE_SEL (R227). -/
def execTuneSel (req : Req) (set : Fin 8) (s : State) : Host.Outcome State Fault Refusal :=
  .next (writeOne req 0x000D005C (pack [(set.val, 0, 3)]) s)

/-- Meaning of JOY_DEMAND (R235). -/
def execJoyDemand (req : Req) (surge sway yaw : BitVec 10) (s : State) : Host.Outcome State Fault Refusal :=
  .next (writeOne req 0x000D0060 (pack [(surge.toNat, 0, 10), (sway.toNat, 10, 10), (yaw.toNat, 20, 10)]) s)

/-- Meaning of JOY_RELEASE (R235). -/
def execJoyRelease (req : Req) (s : State) : Host.Outcome State Fault Refusal :=
  .next (writeOne req 0x000D0060 0x80000000 s)

/-- Meaning of TRACK_COMMIT (R231). -/
def execTrackCommit (req : Req) (count : Fin 128) (s : State) : Host.Outcome State Fault Refusal :=
  .next (writeOne req 0x000D008C (pack [(1, 0, 1), (count.val, 8, 7)]) s)

/-- Meaning of TRACK_CLEAR (R231). -/
def execTrackClear (req : Req) (s : State) : Host.Outcome State Fault Refusal :=
  .next (writeOne req 0x000D008C 2 s)

/-- Meaning of THR_ENABLE (R241). -/
def execThrEnable (req : Req) (mask : BitVec 16) (s : State) : Host.Outcome State Fault Refusal :=
  .next (writeOne req 0x000D00E4 (mask.setWidth 32) s)

/-- Meaning of SRV_CLEAR_FAULT (R278). -/
def execSrvClearFault (req : Req) (thruster : Fin 16) (s : State) : Host.Outcome State Fault Refusal :=
  .next (writeOne req 0x000E006C (pack [(thruster.val, 0, 4), (1, 4, 4)]) s)

/-- Meaning of RESET_PROFILE (R293). -/
def execResetProfile (req : Req) (thruster : Fin 16) (s : State) : Host.Outcome State Fault Refusal :=
  .next (writeOne req 0x000E006C (pack [(thruster.val, 0, 4), (2, 4, 4)]) s)

/-- Meaning of SET_BASELINE (R291). -/
def execSetBaseline (req : Req) (thruster : Fin 16) (s : State) : Host.Outcome State Fault Refusal :=
  .next (writeOne req 0x000E006C (pack [(thruster.val, 0, 4), (3, 4, 4)]) s)

/-- Meaning of STORE_NOW (R293). -/
def execStoreNow (req : Req) (thruster : Fin 16) (s : State) : Host.Outcome State Fault Refusal :=
  .next (writeOne req 0x000E006C (pack [(thruster.val, 0, 4), (4, 4, 4)]) s)

/-- Meaning of LEARN_RUN (R294). -/
def execLearnRun (req : Req) (thruster : Fin 16) (passes : Fin 32768) (ccw : Bool) (s : State) : Host.Outcome State
  Fault Refusal :=
  .next (writeOne req 0x000E006C (pack [(thruster.val, 0, 4), (5, 4, 4), (passes.val, 16, 15), (b2n ccw, 31, 1)]) s)

/-- Meaning of TEST_MOVE (R293). -/
def execTestMove (req : Req) (thruster : Fin 16) (target : BitVec 16) (s : State) : Host.Outcome State Fault Refusal
  :=
  .next (writeOne req 0x000E006C (pack [(thruster.val, 0, 4), (6, 4, 4), (target.toNat, 16, 16)]) s)

/-- Meaning of TEST_STOP (R293). -/
def execTestStop (req : Req) (thruster : Fin 16) (s : State) : Host.Outcome State Fault Refusal :=
  .next (writeOne req 0x000E006C (pack [(thruster.val, 0, 4), (7, 4, 4)]) s)

/-- Meaning of ARM (R296). -/
def execArm (req : Req) (s : State) : Host.Outcome State Fault Refusal :=
  .next (writeOne req 0x000E0078 1 s)

/-- Meaning of TRC_STOP (R296). -/
def execTrcStop (req : Req) (s : State) : Host.Outcome State Fault Refusal :=
  .next (writeOne req 0x000E0078 2 s)

/-- Meaning of FORCE (R296). -/
def execForce (req : Req) (s : State) : Host.Outcome State Fault Refusal :=
  .next (writeOne req 0x000E0078 4 s)

/-- Meaning of SIG_CMD_START (R307). -/
def execSigCmdStart (req : Req) (mask : BitVec 16) (s : State) : Host.Outcome State Fault Refusal :=
  .next (writeOne req 0x00100028 (pack [(mask.toNat, 0, 16), (1, 16, 1)]) s)

/-- Meaning of SIG_CMD_STOP (R307). -/
def execSigCmdStop (req : Req) (mask : BitVec 16) (s : State) : Host.Outcome State Fault Refusal :=
  .next (writeOne req 0x00100028 (pack [(mask.toNat, 0, 16), (1, 17, 1)]) s)

/-- Meaning of SIG_CMD_SYNC (R310). -/
def execSigCmdSync (req : Req) (s : State) : Host.Outcome State Fault Refusal :=
  .next (writeOne req 0x00100028 0x40000 s)

/-- Meaning of CH_CFG (R306). -/
def execChCfg (req : Req) (value : Word) (s : State) : Host.Outcome State Fault Refusal :=
  .next (writeOne req 0x00100034 value s)

/-- Meaning of CH_DELAY (R313). -/
def execChDelay (req : Req) (eighths : BitVec 12) (s : State) : Host.Outcome State Fault Refusal :=
  .next (writeOne req 0x00100038 (eighths.setWidth 32) s)

/-- Meaning of OUT_VALUE (R314). -/
def execOutValue (req : Req) (value : F32) (s : State) : Host.Outcome State Fault Refusal :=
  .next (writeOne req 0x00100068 value s)

/-- Meaning of OUT_ON (R325). -/
def execOutOn (req : Req) (bankB : Bool) (mask : BitVec 24) (s : State) : Host.Outcome State Fault Refusal :=
  .next (writeOne req (if bankB then 0x0011004C else 0x00110044) (mask.setWidth 32) s)

/-- Meaning of OUT_OFF (R325). -/
def execOutOff (req : Req) (bankB : Bool) (mask : BitVec 24) (s : State) : Host.Outcome State Fault Refusal :=
  .next (writeOne req (if bankB then 0x00110050 else 0x00110048) (mask.setWidth 32) s)

/-- Meaning of FIO_CLEAR_FAULT (R336). -/
def execFioClearFault (req : Req) (channel : Fin 64) (all : Bool) (s : State) : Host.Outcome State Fault Refusal :=
  .next (writeOne req 0x00110054 (pack [(channel.val, 0, 6), (b2n all, 6, 1), (1, 7, 1)]) s)

/-- Meaning of PROOF_BEGIN (R373). -/
def execProofBegin (req : Req) (s : State) : Host.Outcome State Fault Refusal :=
  .next (writeOne req 0x0012007C (pack [(1, 0, 4)]) s)

/-- Meaning of PAIR_TEST_HS (R373). -/
def execPairTestHs (req : Req) (pair : Fin 8) (s : State) : Host.Outcome State Fault Refusal :=
  .next (writeOne req 0x0012007C (pack [(2, 0, 4), (pair.val, 4, 3)]) s)

/-- Meaning of PAIR_TEST_LS (R373). -/
def execPairTestLs (req : Req) (pair : Fin 8) (s : State) : Host.Outcome State Fault Refusal :=
  .next (writeOne req 0x0012007C (pack [(3, 0, 4), (pair.val, 4, 3)]) s)

/-- Meaning of ESTOP_TEST (R373). -/
def execEstopTest (req : Req) (input : Fin 2) (s : State) : Host.Outcome State Fault Refusal :=
  .next (writeOne req 0x0012007C (pack [(4, 0, 4), (input.val, 8, 1)]) s)

/-- Meaning of PROOF_END (R373). -/
def execProofEnd (req : Req) (s : State) : Host.Outcome State Fault Refusal :=
  .next (writeOne req 0x0012007C (pack [(5, 0, 4)]) s)

/-- Meaning of FAULT_RESET (R349). -/
def execFaultReset (req : Req) (pair : Fin 8) (all : Bool) (input : Fin 2) (s : State) : Host.Outcome State Fault
  Refusal :=
  .next (writeOne req 0x0012007C (pack [(6, 0, 4), (pair.val, 4, 3), (b2n all, 7, 1), (input.val, 8, 1)]) s)

/-- Meaning of ALARM_TEST (R368). -/
def execAlarmTest (req : Req) (s : State) : Host.Outcome State Fault Refusal :=
  .next (writeOne req 0x0012007C (pack [(7, 0, 4)]) s)

/-- Meaning of RECOVER (R386). -/
def execRecover (req : Req) (port : Fin 4) (s : State) : Host.Outcome State Fault Refusal :=
  .next (writeOne req 0x0014005C (pack [(port.val, 0, 2), (1, 2, 1)]) s)

/-- Meaning of HANDOVER (R430). -/
def execHandover (req : Req) (s : State) : Host.Outcome State Fault Refusal :=
  .next (writeOne req 0x00180050 1 s)

/-- Meaning of SET_MEMBER (R419). -/
def execSetMember (req : Req) (index : Fin 8) (s : State) : Host.Outcome State Fault Refusal :=
  .next (writeOne req 0x00180050 (pack [(1, 1, 1), (index.val, 2, 3)]) s)

/-- Meaning of READ (R443). -/
def execRead (req : Req) (addr : Word) (count : Nat) (s : State) : Host.Outcome State Fault Refusal :=
  .next (readRequest req.conn req.id addr.toNat count s)

/-- Meaning of WRITE (R456). -/
def execWrite (req : Req) (pairs : List (Word × Word)) (s : State) : Host.Outcome State Fault Refusal :=
  .next (writeRequest req.conn req.id true pairs s)

/-- Meaning of BULK_READ (R454). -/
def execBulkRead (req : Req) (object : Byte) (index : BitVec 16) (offset : Word) (length : Nat) (s : State) :
  Host.Outcome State Fault Refusal :=
  .next (bulkRead req.conn req.id object.toNat index.toNat offset.toNat length s)

/-- Meaning of BULK_WRITE (R454). -/
def execBulkWrite (req : Req) (object : Byte) (index : BitVec 16) (offset : Word) (data : Bytes) (s : State) :
  Host.Outcome State Fault Refusal :=
  .next (bulkWrite req.conn req.id object.toNat index.toNat offset.toNat data s)

/-- Meaning of SES_CMD_CLOSE (R447). -/
def execSesCmdClose (req : Req) (session : Fin 32) (s : State) : Host.Outcome State Fault Refusal :=
  .next (writeOne req 0x00170040 (pack [(session.val, 0, 5), (1, 5, 3)]) s)

/-- Meaning of INSTALL_CERT (R455). -/
def execInstallCert (req : Req) (s : State) : Host.Outcome State Fault Refusal :=
  .next (writeOne req 0x00170040 (pack [(2, 5, 3)]) s)

/-- Meaning of USE_FACTORY (R455). -/
def execUseFactory (req : Req) (s : State) : Host.Outcome State Fault Refusal :=
  .next (writeOne req 0x00170040 (pack [(3, 5, 3)]) s)

/-- Meaning of UNLOCK (R452). -/
def execUnlock (req : Req) (s : State) : Host.Outcome State Fault Refusal :=
  .next (writeOne req 0x00170040 (pack [(4, 5, 3)]) s)

/-- Meaning of TIM_CMD_RESET_MODEL (R474). -/
def execTimCmdResetModel (req : Req) (s : State) : Host.Outcome State Fault Refusal :=
  .next (writeOne req 0x00090058 1 s)

/-- Meaning of BIST_PARTIAL (R532). -/
def execBistPartial (req : Req) (s : State) : Host.Outcome State Fault Refusal :=
  .next (writeOne req 0x0004003C 1 s)

/-- Meaning of BIST_FULL (R533). -/
def execBistFull (req : Req) (key : Byte) (s : State) : Host.Outcome State Fault Refusal :=
  .next (writeOne req 0x0004003C (pack [(2, 0, 2), (key.toNat, 8, 8)]) s)

/-- Meaning of LOG_CLEAR (R507). -/
def execLogClear (req : Req) (key : Byte) (s : State) : Host.Outcome State Fault Refusal :=
  .next (writeOne req 0x001B0040 (pack [(1, 0, 1), (key.toNat, 8, 8)]) s)

/-- Meaning of EXPORT_PREPARE (R510). -/
def execExportPrepare (req : Req) (s : State) : Host.Outcome State Fault Refusal :=
  .next (writeOne req 0x001A0068 1 s)

/-- Meaning of IMPORT_COMMIT (R511). -/
def execImportCommit (req : Req) (mask : Fin 8) (s : State) : Host.Outcome State Fault Refusal :=
  .next (writeOne req 0x001A0068 (pack [(2, 0, 4), (mask.val, 4, 3)]) s)

/-- Meaning of IMPORT_ABORT (R511). -/
def execImportAbort (req : Req) (s : State) : Host.Outcome State Fault Refusal :=
  .next (writeOne req 0x001A0068 3 s)

/-- Meaning of ARCHIVE_TRACE (R512). -/
def execArchiveTrace (req : Req) (s : State) : Host.Outcome State Fault Refusal :=
  .next (writeOne req 0x001A0068 4 s)

/-- Meaning of ARCHIVE_DELETE (R512). -/
def execArchiveDelete (req : Req) (entry : BitVec 16) (s : State) : Host.Outcome State Fault Refusal :=
  .next (writeOne req 0x001A0068 (pack [(5, 0, 4), (entry.toNat, 16, 16)]) s)

/-- Meaning of CONFIRM (R568). -/
def execConfirm (req : Req) (p0Ok : Bool) (s : State) : Host.Outcome State Fault Refusal :=
  .next (writeRequest req.conn req.id p0Ok [(0x001C004C, 1)] s)

/-- Meaning of WRITE_KEY (R566). -/
def execWriteKey (req : Req) (key : Byte) (s : State) : Host.Outcome State Fault Refusal :=
  .next (writeOne req 0x001C004C (pack [(2, 0, 4), (key.toNat, 8, 8)]) s)

/-- Meaning of DISCARD (R565). -/
def execDiscard (req : Req) (s : State) : Host.Outcome State Fault Refusal :=
  .next (writeOne req 0x001C004C 3 s)

end Sys2Proof.Machine
end

