-- ==== Sys2Proof/Machine/Dispatch.lean ====
section
/-!
DEFINITION. The meaning of every command: one arm per constructor of `Instr`, each a direct call of its meaning.
-/
namespace Sys2Proof.Machine

def exec (i : Instr) (s : State) : Host.Outcome State Fault Refusal :=
  match i with
  | .frameInstant m => Sys2Proof.Machine.execFrameInstant m s
  | .releaseStrobe readbacks => Sys2Proof.Machine.execReleaseStrobe readbacks s
  | .servoTick us => Sys2Proof.Machine.execServoTick us s
  | .tickAbandoned lateNs => Sys2Proof.Machine.execTickAbandoned lateNs s
  | .tickGuard ticks => Sys2Proof.Machine.execTickGuard ticks s
  | .servoFault thr pitch => Sys2Proof.Machine.execServoFault thr pitch s
  | .srvFaultCleared thr pitch => Sys2Proof.Machine.execSrvFaultCleared thr pitch s
  | .engineLost engine frames => Sys2Proof.Machine.execEngineLost engine frames s
  | .stageDeadline stage lateNs => Sys2Proof.Machine.execStageDeadline stage lateNs s
  | .tagCompletion tag status => Sys2Proof.Machine.execTagCompletion tag status s
  | .syncPortWord port dropped sample => Sys2Proof.Machine.execSyncPortWord port dropped sample s
  | .memoryScrub find => Sys2Proof.Machine.execMemoryScrub find s
  | .boot => Sys2Proof.Machine.execBoot s
  | .journalReplay transactions headerGood => Sys2Proof.Machine.execJournalReplay transactions headerGood s
  | .keyRead found => Sys2Proof.Machine.execKeyRead found s
  | .imageValidation => Sys2Proof.Machine.execImageValidation s
  | .domainSwitchOn latchBad => Sys2Proof.Machine.execDomainSwitchOn latchBad s
  | .startUpBist sigs => Sys2Proof.Machine.execStartUpBist sigs s
  | .learnedStateLoad => Sys2Proof.Machine.execLearnedStateLoad s
  | .gnssStart above => Sys2Proof.Machine.execGnssStart above s
  | .startComplete => Sys2Proof.Machine.execStartComplete s
  | .suRetry => Sys2Proof.Machine.execSuRetry s
  | .modeReq req mode hdgHold useSetpoint => Sys2Proof.Machine.execModeReq req mode hdgHold useSetpoint s
  | .sstopReqEnter req scope => Sys2Proof.Machine.execSstopReqEnter req scope s
  | .sstopReqReset req => Sys2Proof.Machine.execSstopReqReset req s
  | .restartReq req key => Sys2Proof.Machine.execRestartReq req key s
  | .modeTblend req seconds => Sys2Proof.Machine.execModeTblend req seconds s
  | .modeFallback => Sys2Proof.Machine.execModeFallback s
  | .antOpen ant ma ms => Sys2Proof.Machine.execAntOpen ant ma ms s
  | .antShort ant ma => Sys2Proof.Machine.execAntShort ant ma s
  | .antSupplyRetry ant ma => Sys2Proof.Machine.execAntSupplyRetry ant ma s
  | .antRestored ant ma ms => Sys2Proof.Machine.execAntRestored ant ma ms s
  | .frontEndReady ant => Sys2Proof.Machine.execFrontEndReady ant s
  | .acqPass windows found => Sys2Proof.Machine.execAcqPass windows found s
  | .acqIdle => Sys2Proof.Machine.execAcqIdle s
  | .acqPowerOn => Sys2Proof.Machine.execAcqPowerOn s
  | .channelSearchTimeout ch => Sys2Proof.Machine.execChannelSearchTimeout ch s
  | .channelPullIn ch lockMs sync => Sys2Proof.Machine.execChannelPullIn ch lockMs sync s
  | .channelPullInTimeout ch => Sys2Proof.Machine.execChannelPullInTimeout ch s
  | .channelTrackLoss ch weakMs unlockMs => Sys2Proof.Machine.execChannelTrackLoss ch weakMs unlockMs s
  | .gtSnapshotPublish us ma sky residuals fixes ego nav => Sys2Proof.Machine.execGtSnapshotPublish us ma sky residuals fixes ego nav s
  | .ambiguitySearchDone search ratio ndd fix => Sys2Proof.Machine.execAmbiguitySearchDone search ratio ndd fix s
  | .hdgWrongFix => Sys2Proof.Machine.execHdgWrongFix s
  | .fixLost ant => Sys2Proof.Machine.execFixLost ant s
  | .solutionRevalidate ant => Sys2Proof.Machine.execSolutionRevalidate ant s
  | .rtcmFrame source frame => Sys2Proof.Machine.execRtcmFrame source frame s
  | .corrStale => Sys2Proof.Machine.execCorrStale s
  | .corrSwitch => Sys2Proof.Machine.execCorrSwitch s
  | .jamDetect ant upper lower weak ms => Sys2Proof.Machine.execJamDetect ant upper lower weak ms s
  | .gnssWake above => Sys2Proof.Machine.execGnssWake above s
  | .gnssWakeEnd => Sys2Proof.Machine.execGnssWakeEnd s
  | .coldStart req => Sys2Proof.Machine.execColdStart req s
  | .rtkReset req => Sys2Proof.Machine.execRtkReset req s
  | .fusionInputCut us => Sys2Proof.Machine.execFusionInputCut us s
  | .fusedSnapshotPublish us => Sys2Proof.Machine.execFusedSnapshotPublish us s
  | .fusSkip => Sys2Proof.Machine.execFusSkip s
  | .refMasked slot => Sys2Proof.Machine.execRefMasked slot s
  | .refRestored slot => Sys2Proof.Machine.execRefRestored slot s
  | .referenceDisagree hdg => Sys2Proof.Machine.execReferenceDisagree hdg s
  | .disagreeCleared hdg => Sys2Proof.Machine.execDisagreeCleared hdg s
  | .obsPosReset hdg => Sys2Proof.Machine.execObsPosReset hdg s
  | .settled => Sys2Proof.Machine.execSettled s
  | .innovationSample slot => Sys2Proof.Machine.execInnovationSample slot s
  | .consistencyCheck slot => Sys2Proof.Machine.execConsistencyCheck slot s
  | .kernelUpdate slot => Sys2Proof.Machine.execKernelUpdate slot s
  | .modelStore => Sys2Proof.Machine.execModelStore s
  | .refSelect req mask => Sys2Proof.Machine.execRefSelect req mask s
  | .anchor req slot heading => Sys2Proof.Machine.execAnchor req slot heading s
  | .refCmdResetModel req slot heading => Sys2Proof.Machine.execRefCmdResetModel req slot heading s
  | .sentenceReceived port line backUs framing => Sys2Proof.Machine.execSentenceReceived port line backUs framing s
  | .portSilent port => Sys2Proof.Machine.execPortSilent port s
  | .sentenceTransmit iface kind => Sys2Proof.Machine.execSentenceTransmit iface kind s
  | .solveSubmit owner desc packet => Sys2Proof.Machine.execSolveSubmit owner desc packet s
  | .bind owner slot struct => Sys2Proof.Machine.execBind owner slot struct s
  | .release owner slot => Sys2Proof.Machine.execRelease owner slot s
  | .cancel owner slot => Sys2Proof.Machine.execCancel owner slot s
  | .solveDispatch engine => Sys2Proof.Machine.execSolveDispatch engine s
  | .solveResume engine => Sys2Proof.Machine.execSolveResume engine s
  | .subjobComplete engine => Sys2Proof.Machine.execSubjobComplete engine s
  | .solveComplete slot => Sys2Proof.Machine.execSolveComplete slot s
  | .expired slot => Sys2Proof.Machine.execExpired slot s
  | .slvTest req engine => Sys2Proof.Machine.execSlvTest req engine s
  | .allocationStage us => Sys2Proof.Machine.execAllocationStage us s
  | .deadline => Sys2Proof.Machine.execDeadline s
  | .mpcStart => Sys2Proof.Machine.execMpcStart s
  | .conseqCycleStart => Sys2Proof.Machine.execConseqCycleStart s
  | .spApply req => Sys2Proof.Machine.execSpApply req s
  | .spMove req => Sys2Proof.Machine.execSpMove req s
  | .tuneSel req set => Sys2Proof.Machine.execTuneSel req set s
  | .joyDemand req surge sway yaw => Sys2Proof.Machine.execJoyDemand req surge sway yaw s
  | .joyRelease req => Sys2Proof.Machine.execJoyRelease req s
  | .joyStale => Sys2Proof.Machine.execJoyStale s
  | .trackCommit req count => Sys2Proof.Machine.execTrackCommit req count s
  | .trackClear req => Sys2Proof.Machine.execTrackClear req s
  | .thrEnable req mask => Sys2Proof.Machine.execThrEnable req mask s
  | .busStale bus => Sys2Proof.Machine.execBusStale bus s
  | .extGroupStale group => Sys2Proof.Machine.execExtGroupStale group s
  | .profileStore => Sys2Proof.Machine.execProfileStore s
  | .profileSnapshot => Sys2Proof.Machine.execProfileSnapshot s
  | .srvClearFault req thruster => Sys2Proof.Machine.execSrvClearFault req thruster s
  | .resetProfile req thruster => Sys2Proof.Machine.execResetProfile req thruster s
  | .setBaseline req thruster => Sys2Proof.Machine.execSetBaseline req thruster s
  | .storeNow req thruster => Sys2Proof.Machine.execStoreNow req thruster s
  | .learnRun req thruster passes ccw => Sys2Proof.Machine.execLearnRun req thruster passes ccw s
  | .testMove req thruster target => Sys2Proof.Machine.execTestMove req thruster target s
  | .testStop req thruster => Sys2Proof.Machine.execTestStop req thruster s
  | .arm req => Sys2Proof.Machine.execArm req s
  | .trcStop req => Sys2Proof.Machine.execTrcStop req s
  | .force req => Sys2Proof.Machine.execForce req s
  | .chFault ch code raw count => Sys2Proof.Machine.execChFault ch code raw count s
  | .chFaultCleared ch code raw us => Sys2Proof.Machine.execChFaultCleared ch code raw us s
  | .shuntReconnect ch => Sys2Proof.Machine.execShuntReconnect ch s
  | .channelSettled ch => Sys2Proof.Machine.execChannelSettled ch s
  | .sigCmdStart req mask => Sys2Proof.Machine.execSigCmdStart req mask s
  | .sigCmdStop req mask => Sys2Proof.Machine.execSigCmdStop req mask s
  | .sigCmdSync req => Sys2Proof.Machine.execSigCmdSync req s
  | .syncInEdge edge => Sys2Proof.Machine.execSyncInEdge edge s
  | .chCfg req value => Sys2Proof.Machine.execChCfg req value s
  | .chDelay req eighths => Sys2Proof.Machine.execChDelay req eighths s
  | .outValue req value => Sys2Proof.Machine.execOutValue req value s
  | .outTimeout out => Sys2Proof.Machine.execOutTimeout out s
  | .outFault out code readback limit frames => Sys2Proof.Machine.execOutFault out code readback limit frames s
  | .outCleared out us => Sys2Proof.Machine.execOutCleared out us s
  | .fieldLinkFrame bank crcOk => Sys2Proof.Machine.execFieldLinkFrame bank crcOk s
  | .linkReply bank crcOk pins demag currents supply => Sys2Proof.Machine.execLinkReply bank crcOk pins demag currents supply s
  | .linkTimeout bank => Sys2Proof.Machine.execLinkTimeout bank s
  | .linkLost bank => Sys2Proof.Machine.execLinkLost bank s
  | .inputEdge ch volts heldUs backUs => Sys2Proof.Machine.execInputEdge ch volts heldUs backUs s
  | .outOn req bankB mask => Sys2Proof.Machine.execOutOn req bankB mask s
  | .outOff req bankB mask => Sys2Proof.Machine.execOutOff req bankB mask s
  | .fieldLow bank volts us => Sys2Proof.Machine.execFieldLow bank volts us s
  | .fieldHigh bank volts us => Sys2Proof.Machine.execFieldHigh bank volts us s
  | .fieldLost bank volts us => Sys2Proof.Machine.execFieldLost bank volts us s
  | .fieldRestored bank volts us => Sys2Proof.Machine.execFieldRestored bank volts us s
  | .overcurrent ch thermal amps us => Sys2Proof.Machine.execOvercurrent ch thermal amps us s
  | .ocRetry ch => Sys2Proof.Machine.execOcRetry ch s
  | .ocCleanPeriod ch => Sys2Proof.Machine.execOcCleanPeriod ch s
  | .bankOverload bank currents us => Sys2Proof.Machine.execBankOverload bank currents us s
  | .stuckHigh ch volts us demagUs => Sys2Proof.Machine.execStuckHigh ch volts us demagUs s
  | .stuckHighClear ch us => Sys2Proof.Machine.execStuckHighClear ch us s
  | .openLoad ch amps us => Sys2Proof.Machine.execOpenLoad ch amps us s
  | .openLoadClear ch amps us => Sys2Proof.Machine.execOpenLoadClear ch amps us s
  | .fioClearFault req channel all => Sys2Proof.Machine.execFioClearFault req channel all s
  | .scCycle us pinsP pinsN cf currents supply => Sys2Proof.Machine.execScCycle us pinsP pinsN cf currents supply s
  | .estop input openA openB => Sys2Proof.Machine.execEstop input openA openB s
  | .estopRelease input us => Sys2Proof.Machine.execEstopRelease input us s
  | .tpFault input chB => Sys2Proof.Machine.execTpFault input chB s
  | .tpFaultCleared input chB us => Sys2Proof.Machine.execTpFaultCleared input chB us s
  | .discrepancy input => Sys2Proof.Machine.execDiscrepancy input s
  | .hsTestPulse pair ok => Sys2Proof.Machine.execHsTestPulse pair ok s
  | .lsTestPulse pair ok => Sys2Proof.Machine.execLsTestPulse pair ok s
  | .torqueRemoved thr => Sys2Proof.Machine.execTorqueRemoved thr s
  | .weirTimer pair => Sys2Proof.Machine.execWeirTimer pair s
  | .contactorFault pair => Sys2Proof.Machine.execContactorFault pair s
  | .scLost violations => Sys2Proof.Machine.execScLost violations s
  | .weirLost cause => Sys2Proof.Machine.execWeirLost cause s
  | .mirrorStale => Sys2Proof.Machine.execMirrorStale s
  | .pairSupplyFault volts us => Sys2Proof.Machine.execPairSupplyFault volts us s
  | .proofBegin req => Sys2Proof.Machine.execProofBegin req s
  | .pairTestHs req pair => Sys2Proof.Machine.execPairTestHs req pair s
  | .pairTestLs req pair => Sys2Proof.Machine.execPairTestLs req pair s
  | .pairTestEnd pair readbackOk cfHighOk cfLowOk => Sys2Proof.Machine.execPairTestEnd pair readbackOk cfHighOk cfLowOk s
  | .estopTest req input => Sys2Proof.Machine.execEstopTest req input s
  | .proofEnd req => Sys2Proof.Machine.execProofEnd req s
  | .faultReset req pair all input => Sys2Proof.Machine.execFaultReset req pair all input s
  | .alarmTest req => Sys2Proof.Machine.execAlarmTest req s
  | .alarmTestEnd => Sys2Proof.Machine.execAlarmTestEnd s
  | .proofOverdue => Sys2Proof.Machine.execProofOverdue s
  | .canTxSubmit port engine frame gate => Sys2Proof.Machine.execCanTxSubmit port engine frame gate s
  | .canFrameStart port => Sys2Proof.Machine.execCanFrameStart port s
  | .canFrameEnd port how => Sys2Proof.Machine.execCanFrameEnd port how s
  | .canCancel port tag => Sys2Proof.Machine.execCanCancel port tag s
  | .canRxFrame port frame remote held backUs => Sys2Proof.Machine.execCanRxFrame port frame remote held backUs s
  | .canRecovered port => Sys2Proof.Machine.execCanRecovered port s
  | .recover req port => Sys2Proof.Machine.execRecover req port s
  | .mirrorEnd port => Sys2Proof.Machine.execMirrorEnd port s
  | .linkDown port => Sys2Proof.Machine.execLinkDown port s
  | .linkUp port gigabit => Sys2Proof.Machine.execLinkUp port gigabit s
  | .ethRxFrame port frame => Sys2Proof.Machine.execEthRxFrame port frame s
  | .tcpConnect port tcpPort addr id => Sys2Proof.Machine.execTcpConnect port tcpPort addr id s
  | .s450Datagram port group payload backUs => Sys2Proof.Machine.execS450Datagram port group payload backUs s
  | .portUp port us => Sys2Proof.Machine.execPortUp port us s
  | .portDown port cause count => Sys2Proof.Machine.execPortDown port cause count s
  | .icxForward rx => Sys2Proof.Machine.execIcxForward rx s
  | .sync rx => Sys2Proof.Machine.execSync rx s
  | .exchangeSend us => Sys2Proof.Machine.execExchangeSend us s
  | .exchange rx => Sys2Proof.Machine.execExchange rx s
  | .voteSend => Sys2Proof.Machine.execVoteSend s
  | .vote rx => Sys2Proof.Machine.execVote rx s
  | .voteEvaluation => Sys2Proof.Machine.execVoteEvaluation s
  | .command rx => Sys2Proof.Machine.execCommand rx s
  | .result rx => Sys2Proof.Machine.execResult rx s
  | .txnTimeout tag => Sys2Proof.Machine.execTxnTimeout tag s
  | .sstop rx => Sys2Proof.Machine.execSstop rx s
  | .join rx => Sys2Proof.Machine.execJoin rx s
  | .joinRetry => Sys2Proof.Machine.execJoinRetry s
  | .state rx => Sys2Proof.Machine.execState rx s
  | .delay port roundTripNs => Sys2Proof.Machine.execDelay port roundTripNs s
  | .icxDelayProbe port => Sys2Proof.Machine.execIcxDelayProbe port s
  | .extCap rx => Sys2Proof.Machine.execExtCap rx s
  | .extDemand rx => Sys2Proof.Machine.execExtDemand rx s
  | .extDemandStale => Sys2Proof.Machine.execExtDemandStale s
  | .domainFormation => Sys2Proof.Machine.execDomainFormation s
  | .partition => Sys2Proof.Machine.execPartition s
  | .timeSkew => Sys2Proof.Machine.execTimeSkew s
  | .fusDisagree heading => Sys2Proof.Machine.execFusDisagree heading s
  | .handover req => Sys2Proof.Machine.execHandover req s
  | .setMember req index => Sys2Proof.Machine.execSetMember req index s
  | .tlsHandshake conn offer cert => Sys2Proof.Machine.execTlsHandshake conn offer cert s
  | .connectionTimeout conn => Sys2Proof.Machine.execConnectionTimeout conn s
  | .hello req method name password => Sys2Proof.Machine.execHello req method name password s
  | .authCheckComplete conn => Sys2Proof.Machine.execAuthCheckComplete conn s
  | .resume req session token => Sys2Proof.Machine.execResume req session token s
  | .read req addr count => Sys2Proof.Machine.execRead req addr count s
  | .write req pairs => Sys2Proof.Machine.execWrite req pairs s
  | .bulkRead req object index offset length => Sys2Proof.Machine.execBulkRead req object index offset length s
  | .bulkWrite req object index offset data => Sys2Proof.Machine.execBulkWrite req object index offset data s
  | .subscribe req mask => Sys2Proof.Machine.execSubscribe req mask s
  | .account req op role name password => Sys2Proof.Machine.execAccount req op role name password s
  | .password req old new => Sys2Proof.Machine.execPassword req old new s
  | .keepalive req => Sys2Proof.Machine.execKeepalive req s
  | .close req => Sys2Proof.Machine.execClose req s
  | .badMessage conn header payload => Sys2Proof.Machine.execBadMessage conn header payload s
  | .unknownMessage req type => Sys2Proof.Machine.execUnknownMessage req type s
  | .transportLost conn => Sys2Proof.Machine.execTransportLost conn s
  | .idleTimeout session => Sys2Proof.Machine.execIdleTimeout session s
  | .detachedExpiry session => Sys2Proof.Machine.execDetachedExpiry session s
  | .lockoutEnd source => Sys2Proof.Machine.execLockoutEnd source s
  | .lockoutDecay source => Sys2Proof.Machine.execLockoutDecay source s
  | .sesCmdClose req session => Sys2Proof.Machine.execSesCmdClose req session s
  | .installCert req => Sys2Proof.Machine.execInstallCert req s
  | .useFactory req => Sys2Proof.Machine.execUseFactory req s
  | .unlock req => Sys2Proof.Machine.execUnlock req s
  | .referenceOffset domain ns => Sys2Proof.Machine.execReferenceOffset domain ns s
  | .timeUnlock => Sys2Proof.Machine.execTimeUnlock s
  | .holdoverEnter => Sys2Proof.Machine.execHoldoverEnter s
  | .timeStep => Sys2Proof.Machine.execTimeStep s
  | .timeJumpResolve => Sys2Proof.Machine.execTimeJumpResolve s
  | .timeDegraded => Sys2Proof.Machine.execTimeDegraded s
  | .carafeSample ppb => Sys2Proof.Machine.execCarafeSample ppb s
  | .carafeDaily => Sys2Proof.Machine.execCarafeDaily s
  | .carafeStore => Sys2Proof.Machine.execCarafeStore s
  | .timCmdResetModel req => Sys2Proof.Machine.execTimCmdResetModel req s
  | .ppsOut => Sys2Proof.Machine.execPpsOut s
  | .tcxoFault deviation => Sys2Proof.Machine.execTcxoFault deviation s
  | .aqfWriteSubmit engine key size data => Sys2Proof.Machine.execAqfWriteSubmit engine key size data s
  | .aqfWriteCommit tag media => Sys2Proof.Machine.execAqfWriteCommit tag media s
  | .aqfRead key fault => Sys2Proof.Machine.execAqfRead key fault s
  | .journalDrain pages extra erases eraseMean fault => Sys2Proof.Machine.execJournalDrain pages extra erases eraseMean fault s
  | .wearRelocation bytes erases eraseMean fault => Sys2Proof.Machine.execWearRelocation bytes erases eraseMean fault s
  | .powerFailWarning volts => Sys2Proof.Machine.execPowerFailWarning volts s
  | .flushDone => Sys2Proof.Machine.execFlushDone s
  | .powerRelease volts ms => Sys2Proof.Machine.execPowerRelease volts ms s
  | .powerReset volts => Sys2Proof.Machine.execPowerReset volts s
  | .inputLow input volts vRail ms => Sys2Proof.Machine.execInputLow input volts vRail ms s
  | .inputRestored input volts ms => Sys2Proof.Machine.execInputRestored input volts ms s
  | .domainFault dom amps us => Sys2Proof.Machine.execDomainFault dom amps us s
  | .dormantSwitchOffTimeout => Sys2Proof.Machine.execDormantSwitchOffTimeout s
  | .thermalSweep readings => Sys2Proof.Machine.execThermalSweep readings s
  | .sweepEnd => Sys2Proof.Machine.execSweepEnd s
  | .throttleEnforced => Sys2Proof.Machine.execThrottleEnforced s
  | .bgSlice unit good sig => Sys2Proof.Machine.execBgSlice unit good sig s
  | .bistPartial req => Sys2Proof.Machine.execBistPartial req s
  | .bistFull req key => Sys2Proof.Machine.execBistFull req key s
  | .bistDone sigs => Sys2Proof.Machine.execBistDone sigs s
  | .sedimentFlush media => Sys2Proof.Machine.execSedimentFlush media s
  | .suppressed code => Sys2Proof.Machine.execSuppressed code s
  | .logFault cause => Sys2Proof.Machine.execLogFault cause s
  | .logClear req key => Sys2Proof.Machine.execLogClear req key s
  | .exportPrepare req => Sys2Proof.Machine.execExportPrepare req s
  | .importCommit req mask => Sys2Proof.Machine.execImportCommit req mask s
  | .importAbort req => Sys2Proof.Machine.execImportAbort req s
  | .archiveTrace req => Sys2Proof.Machine.execArchiveTrace req s
  | .archiveDelete req entry => Sys2Proof.Machine.execArchiveDelete req entry s
  | .keySwapped there content protected_ => Sys2Proof.Machine.execKeySwapped there content protected_ s
  | .confirm req p0Ok => Sys2Proof.Machine.execConfirm req p0Ok s
  | .writeKey req key => Sys2Proof.Machine.execWriteKey req key s
  | .keyWritten => Sys2Proof.Machine.execKeyWritten s
  | .keyWriteFail cause phase => Sys2Proof.Machine.execKeyWriteFail cause phase s
  | .discard req => Sys2Proof.Machine.execDiscard req s
  | .outputStaging us => Sys2Proof.Machine.execOutputStaging us s
  | .canErrorDetected port dominant => Sys2Proof.Machine.execCanErrorDetected port dominant s
  | .modeDomainSwitchOn => Sys2Proof.Machine.execModeDomainSwitchOn s
  | .suResetMonitor => Sys2Proof.Machine.execSuResetMonitor s
  | .tlsKeyUpdate conn => Sys2Proof.Machine.execTlsKeyUpdate conn s

end Sys2Proof.Machine
end

