-- ==== Sys2Proof/Safety.lean ====
section
/-!
DEFINITION. Runs of the block, what counts as a safe one, and the sizes of the fixed tables of State.
-/
set_option autoImplicit false
namespace Sys2Proof.Machine

/-- The state with a command put at the end of the queue: what a sender does. -/
def State.send (c : Instr) (s : State) : State := { s with pending := s.pending ++ [c] }

/-- The state with a command put at the front of the queue. -/
def State.front (c : Instr) (s : State) : State := { s with pending := c :: s.pending }

/-- The states the block can reach from reset by steps and by commands sent to it. -/
inductive Reachable : State → Prop where
  | reset : Reachable State.reset
  | send (c : Instr) (s : State) : Reachable s → Reachable (s.send c)
  | step (s t : State) : Reachable s → step s = .next t → Reachable t

/-- A step that ends in a next state. -/
def Completes (s : State) : Prop := ∃ t, step s = .next t

/-- A safe run: every state it reaches has a next state, so no command stops the block. -/
def SafeRun : Prop := ∀ s, Reachable s → Completes s

/-- A right frame of its own domain reaches a module for the first time, addressed to it (R414 to R416). -/
abbrev Received (d : DomainCfg) (f : IcxFrame) (s : State) : Prop :=
  s.domOn 10 = true ∧ (s.icx.port f.port).phase = .up ∧ f.good = true ∧ s.icx.cfg = some d ∧ f.domain = d.domain ∧ f.src ≠ s.selfIndex ∧
    (s.subordinate = false ∨ f.domain ≠ d.parent) ∧ s.icx.seen.contains (f.src, f.type, f.frame, f.tag) = false ∧
    (f.dst = s.selfIndex ∨ f.dst = 0xFF) ∧ s.icx.phase ≠ .detached ∧ s.icx.phase ≠ .refused

/-- A request of an OPEN session with a role that the module takes up: its ID is new, the window and the port's
frame limit have room, and the IO core runs (R406, R442, R446). -/
abbrev Ready (req : Req) (i need : Nat) (s : State) : Prop :=
  (s.ses.conn req.conn).map (fun c => (c.tls, c.session)) = some (true, some i) ∧ i < 32 ∧ (s.ses.session i).phase = .open_ ∧
    need ≤ (s.ses.session i).role ∧ s.ioRuns = true ∧ req.id ≠ 0 ∧
    ((s.ses.session i).classify req.id = .above ∨ (s.ses.session i).classify req.id = .unseen) ∧ (s.ses.session i).outstanding.length < 8 ∧
    s.tcpRoom req.conn = true

/-- The state in which such a request is carried out: it has its tag and its place in the window (R53, R446). -/
def State.taken (req : Req) (i : Nat) (s : State) : State :=
  let s := modSession i (fun x => { x with lastMsg := s.now }) s
  let t := s.newTag 0x17 13
  modSession i (enterId req.id t.word) (openTag t s)

/-- The store takes an essential object of any size that its partition holds (R487, R494). -/
abbrev StoreRoom (s : State) : Prop := s.aqf.phase = .ready ∧ s.aqf.journal + s.aqf.reserved + 32832 + 160 * 1024 ≤ ringSize ∧
  s.aqf.writes.length < 64 ∧ s.domOn 7 = true

/-- A state with what raising events changes taken from another one: the headers (R57), Sediment's arbiter and buffer (R500 to R504), and the
push queues (R448). A step whose result t is `s.told t` raised events and did nothing else. -/
def State.told (s t : State) : State :=
  { s with
    hdr := t.hdr
    log := { s.log with
      seq := t.log.seq, buffer := t.log.buffer, unflushed := t.log.unflushed, sinceCut := t.log.sinceCut, flushDue := t.log.flushDue
      lastWords := t.log.lastWords, lastSlot := t.log.lastSlot, suppressedCount := t.log.suppressedCount, droppedCount := t.log.droppedCount
      dropPending := t.log.dropPending, globalTokens := t.log.globalTokens, globalCredit := t.log.globalCredit, globalAt := t.log.globalAt
      buckets := t.log.buckets }
    ses := { s.ses with
      pushDrops := t.ses.pushDrops
      sessions := s.ses.sessions.zipWith (fun x y => { x with push := y.push, gap := y.gap }) t.ses.sessions } }

/-- A state with what taking up and answering a request of a session changes taken from another one, over what events change: tags, the
sessions' windows, connections and responses, the change log and its commits (R53, R446, R457, R494). -/
def State.served (s t : State) : State :=
  { s.told t with
    tags := t.tags
    eth := { s.eth with ports := t.eth.ports }
    ses := { (s.told t).ses with
      sessions := t.ses.sessions, conns := t.ses.conns, checks := t.ses.checks, duplicates := t.ses.duplicates, clogSeq := t.ses.clogSeq
      clog := t.ses.clog, clogLost := t.ses.clogLost, sent := t.ses.sent, waiting := t.ses.waiting
      refusedFull := t.ses.refusedFull }
    aqf := { s.aqf with
      budget := t.aqf.budget, budgetAt := t.aqf.budgetAt, budgetCredit := t.aqf.budgetCredit, budgetLow := t.aqf.budgetLow
      hour := t.aqf.hour, journal := t.aqf.journal, journalPeak := t.aqf.journalPeak, writesPeak := t.aqf.writesPeak, done := t.aqf.done
      refOther := t.aqf.refOther, txn := t.aqf.txn } }

/-- The tables whose sizes the spec fixes: 32 block headers by number (R24, R57), 16 engines (R30) and their azimuth holds (R61), eight
deadline counters (R58), two antennas and 192 channels (R98, R103), twelve reference slots (R131), eight solver engines and 512 slots (R175,
R185), sixteen thrusters (R240), 64 groups (R244) and failure groups (R257), eight buses (R242), sixteen servos (R263), sixteen analog
inputs and twelve outputs (R299, R314), two banks of 24 channels (R320), eight pairs, sixteen thrusters and two E-stop inputs (R342, R344,
R348), four CAN ports and sixteen drive feedbacks (R376, R394), four serial ports (R399), two Ethernet ports (R405), 32 sessions (R445), eight members and three ports of a
domain (R413, R419), nine sensors (R524) and 24 units of the self-test (R530). -/
structure Sized (s : State) : Prop where
  hdr : s.hdr.length = 32
  engines : s.sup.engines.length = 16
  dlCount : s.sup.dlCount.length = 8
  ants : s.gns.ants.length = 2
  gnsChans : s.gns.chans.length = 192
  refs : s.fus.refs.length = 12
  solvers : s.slv.engines.length = 8
  slots : s.slv.slots.length = 512
  ctlThr : s.ctl.thr.length = 16
  groups : s.ctl.groups.length = 64
  fails : s.ctl.fail.length = 64
  buses : s.ctl.buses.length = 8
  servos : s.srv.thr.length = 16
  ins : s.sig.ins.length = 16
  outs : s.sig.outs.length = 12
  banks : s.fio.banks.length = 2
  chans : s.fio.chans.length = 48
  pairs : s.saf.pairs.length = 8
  safThr : s.saf.thr.length = 16
  estops : s.saf.estops.length = 2
  canPorts : s.can.ports.length = 4
  canFb : s.can.fb.length = 16
  serPorts : s.ser.ports.length = 4
  ethPorts : s.eth.ports.length = 2
  sessions : s.ses.sessions.length = 32
  members : s.icx.members.length = 8
  icxPorts : s.icx.ports.length = 3
  sensors : s.thm.sensors.length = 9
  units : s.bst.units.length = 24

end Sys2Proof.Machine
end

