-- ==== Sys2Proof/WellFormed.lean ====
section
/-!
DEFINITION. Well-formed commands: the operands keep the widths of the messages and frames that carry them. An operand of a `Fin`
or `BitVec` type keeps its range by its type; the checks are for those that do not. A well-formed command may still be refused
by its meaning: COUNT 0 of a READ, for one, fits its field and is answered BAD_FORMAT (R443).
-/
namespace Sys2Proof

open Sys2Proof.Machine

/-- REQ_ID is 32 bits (R442). -/
def reqOk (req : Req) : Bool := req.id < 2 ^ 32

/-- A CAN identifier has 11 or 29 bits, and a frame carries 0 to 8 data bytes or, in FD format, also 12, 16, 20, 24, 32, 48 or 64
(R377). -/
def canFrameOk (f : CanFrame) : Bool :=
  f.id < (if f.ext then 2 ^ 29 else 2 ^ 11)
    && (f.data.length ≤ 8 || f.fd && [12, 16, 20, 24, 32, 48, 64].contains f.data.length)

/-- The fields of an Icxon header and the payload of at most 1,024 bytes (R414), received on port A, B or C (R413). -/
def icxRxOk (rx : IcxRx) : Bool :=
  let f := rx.frame
  f.port < 3 && f.type < 256 && f.flags < 256 && f.domain < 256 && f.src < 256 && f.dst < 256 && f.ttl < 2 ^ 16
    && f.frame < 2 ^ 32 && f.epoch < 2 ^ 32 && f.tag < 2 ^ 32 && f.payload.length ≤ 1024

/-- The command's operands fit the messages and frames that carry them. Besides the checks above: at most twelve readbacks of
analog outputs (R314), twenty-four signatures of BIST units (R530), 192 GNSS channels (R103) on two antennas (R98), an RTCM frame of
at most 1,029 bytes (R114), a descriptor of 32 bytes (R189), twenty-four channels of a bank (R320), eight pairs (R342), nine sensors
(R524), partitions 0 to 6 (R483), and the fields of R442 and R443. -/
def Instr.wellFormed : Instr → Bool
  | .releaseStrobe readbacks => readbacks.length ≤ 12
  | .memoryScrub find => memoryHolds find.memory find.addr
  | .startUpBist sigs => sigs.length ≤ 24
  | .modeReq req _ _ _ => reqOk req
  | .sstopReqEnter req _ => reqOk req
  | .sstopReqReset req => reqOk req
  | .restartReq req _ => reqOk req
  | .modeTblend req _ => reqOk req
  | .acqPass _ found => found.all (· < 192)
  | .gtSnapshotPublish _ ma _ residuals fixes _ _ => ma.length ≤ 2 && fixes.length ≤ 2 && residuals.all (·.1 < 192)
  | .rtcmFrame _ frame => frame.length ≤ 1029
  | .coldStart req => reqOk req
  | .rtkReset req => reqOk req
  | .refSelect req _ => reqOk req
  | .anchor req _ _ => reqOk req
  | .refCmdResetModel req _ _ => reqOk req
  | .solveSubmit _ desc _ => desc.length == 32
  | .slvTest req _ => reqOk req
  | .spApply req => reqOk req
  | .spMove req => reqOk req
  | .tuneSel req _ => reqOk req
  | .joyDemand req _ _ _ => reqOk req
  | .joyRelease req => reqOk req
  | .trackCommit req _ => reqOk req
  | .trackClear req => reqOk req
  | .thrEnable req _ => reqOk req
  | .srvClearFault req _ => reqOk req
  | .resetProfile req _ => reqOk req
  | .setBaseline req _ => reqOk req
  | .storeNow req _ => reqOk req
  | .learnRun req _ _ _ => reqOk req
  | .testMove req _ _ => reqOk req
  | .testStop req _ => reqOk req
  | .arm req => reqOk req
  | .trcStop req => reqOk req
  | .force req => reqOk req
  | .sigCmdStart req _ => reqOk req
  | .sigCmdStop req _ => reqOk req
  | .sigCmdSync req => reqOk req
  | .chCfg req _ => reqOk req
  | .chDelay req _ => reqOk req
  | .outValue req _ => reqOk req
  | .linkReply _ _ pins _ currents _ => pins.length ≤ 24 && currents.length ≤ 24
  | .outOn req _ _ => reqOk req
  | .outOff req _ _ => reqOk req
  | .bankOverload _ currents _ => currents.length ≤ 24
  | .fioClearFault req _ _ => reqOk req
  | .scCycle _ _ _ _ currents _ => currents.length ≤ 8
  | .proofBegin req => reqOk req
  | .pairTestHs req _ => reqOk req
  | .pairTestLs req _ => reqOk req
  | .estopTest req _ => reqOk req
  | .proofEnd req => reqOk req
  | .faultReset req _ _ _ => reqOk req
  | .alarmTest req => reqOk req
  | .canTxSubmit _ _ frame _ => canFrameOk frame
  | .canRxFrame _ frame _ _ _ => canFrameOk frame
  | .recover req _ => reqOk req
  | .tcpConnect _ tcpPort addr _ => tcpPort < 2 ^ 16 && addr < 2 ^ 32
  | .icxForward rx => icxRxOk rx
  | .sync rx => icxRxOk rx
  | .exchange rx => icxRxOk rx
  | .vote rx => icxRxOk rx
  | .command rx => icxRxOk rx
  | .result rx => icxRxOk rx
  | .sstop rx => icxRxOk rx
  | .join rx => icxRxOk rx
  | .state rx => icxRxOk rx
  | .extCap rx => icxRxOk rx
  | .extDemand rx => icxRxOk rx
  | .handover req => reqOk req
  | .setMember req _ => reqOk req
  | .hello req method name pw => reqOk req && method < 256 && name.length < 256 && pw.length < 256
  | .resume req session _ => reqOk req && session < 256
  | .read req _ count => reqOk req && count < 2 ^ 16
  | .write req pairs => reqOk req && pairs.length ≤ 129
  | .bulkRead req _ _ _ length => reqOk req && length < 2 ^ 16
  | .bulkWrite req _ _ _ data => reqOk req && data.length ≤ 1028
  | .subscribe req _ => reqOk req
  | .account req op role name pw => reqOk req && op < 256 && role < 256 && name.length < 256 && pw.length < 256
  | .password req old new => reqOk req && old.length < 256 && new.length < 256
  | .keepalive req => reqOk req
  | .close req => reqOk req
  | .badMessage _ header payload => header.length ≤ 16 && payload.length < 2 ^ 16
  | .unknownMessage req type => reqOk req && type < 256
  | .sesCmdClose req _ => reqOk req
  | .installCert req => reqOk req
  | .useFactory req => reqOk req
  | .unlock req => reqOk req
  | .timCmdResetModel req => reqOk req
  | .aqfWriteSubmit _ key _ _ => key.part ≤ 6
  | .aqfRead key _ => key.part ≤ 6
  | .thermalSweep readings => readings.length ≤ 9
  | .bistPartial req => reqOk req
  | .bistFull req _ => reqOk req
  | .bistDone sigs => sigs.length ≤ 24
  | .logClear req _ => reqOk req
  | .exportPrepare req => reqOk req
  | .importCommit req _ => reqOk req
  | .importAbort req => reqOk req
  | .archiveTrace req => reqOk req
  | .archiveDelete req _ => reqOk req
  | .confirm req _ => reqOk req
  | .writeKey req _ => reqOk req
  | .discard req => reqOk req
  | .frameInstant m => m.latch.all (·.channel < 192)
  | .servoTick _ => true
  | .tickAbandoned _ => true
  | .tickGuard _ => true
  | .servoFault _ _ => true
  | .srvFaultCleared _ _ => true
  | .engineLost _ _ => true
  | .stageDeadline _ _ => true
  | .tagCompletion _ _ => true
  | .syncPortWord _ _ _ => true
  | .boot => true
  | .journalReplay _ _ => true
  | .keyRead _ => true
  | .imageValidation => true
  | .domainSwitchOn _ => true
  | .learnedStateLoad => true
  | .gnssStart _ => true
  | .startComplete => true
  | .suRetry => true
  | .modeFallback => true
  | .antOpen _ _ _ => true
  | .antShort _ _ => true
  | .antSupplyRetry _ _ => true
  | .antRestored _ _ _ => true
  | .frontEndReady _ => true
  | .acqIdle => true
  | .acqPowerOn => true
  | .channelSearchTimeout _ => true
  | .channelPullIn _ _ _ => true
  | .channelPullInTimeout _ => true
  | .channelTrackLoss _ _ _ => true
  | .ambiguitySearchDone _ _ _ _ => true
  | .hdgWrongFix => true
  | .fixLost _ => true
  | .solutionRevalidate _ => true
  | .corrStale => true
  | .corrSwitch => true
  | .jamDetect _ _ _ _ _ => true
  | .gnssWake _ => true
  | .gnssWakeEnd => true
  | .fusionInputCut _ => true
  | .fusedSnapshotPublish _ => true
  | .fusSkip => true
  | .refMasked _ => true
  | .refRestored _ => true
  | .referenceDisagree _ => true
  | .disagreeCleared _ => true
  | .obsPosReset _ => true
  | .settled => true
  | .innovationSample _ => true
  | .consistencyCheck _ => true
  | .kernelUpdate _ => true
  | .modelStore => true
  | .sentenceReceived _ _ _ _ => true
  | .portSilent _ => true
  | .sentenceTransmit _ _ => true
  | .bind _ _ _ => true
  | .release _ _ => true
  | .cancel _ _ => true
  | .solveDispatch _ => true
  | .solveResume _ => true
  | .subjobComplete _ => true
  | .solveComplete _ => true
  | .expired _ => true
  | .allocationStage _ => true
  | .deadline => true
  | .mpcStart => true
  | .conseqCycleStart => true
  | .joyStale => true
  | .busStale _ => true
  | .extGroupStale _ => true
  | .profileStore => true
  | .profileSnapshot => true
  | .chFault _ _ _ _ => true
  | .chFaultCleared _ _ _ _ => true
  | .shuntReconnect _ => true
  | .channelSettled _ => true
  | .syncInEdge _ => true
  | .outTimeout _ => true
  | .outFault _ _ _ _ _ => true
  | .outCleared _ _ => true
  | .fieldLinkFrame _ _ => true
  | .linkTimeout _ => true
  | .linkLost _ => true
  | .inputEdge _ _ _ _ => true
  | .fieldLow _ _ _ => true
  | .fieldHigh _ _ _ => true
  | .fieldLost _ _ _ => true
  | .fieldRestored _ _ _ => true
  | .overcurrent _ _ _ _ => true
  | .ocRetry _ => true
  | .ocCleanPeriod _ => true
  | .stuckHigh _ _ _ _ => true
  | .stuckHighClear _ _ => true
  | .openLoad _ _ _ => true
  | .openLoadClear _ _ _ => true
  | .estop _ _ _ => true
  | .estopRelease _ _ => true
  | .tpFault _ _ => true
  | .tpFaultCleared _ _ _ => true
  | .discrepancy _ => true
  | .hsTestPulse _ _ => true
  | .lsTestPulse _ _ => true
  | .torqueRemoved _ => true
  | .weirTimer _ => true
  | .contactorFault _ => true
  | .scLost _ => true
  | .weirLost _ => true
  | .mirrorStale => true
  | .pairSupplyFault _ _ => true
  | .pairTestEnd _ _ _ _ => true
  | .alarmTestEnd => true
  | .proofOverdue => true
  | .canFrameStart _ => true
  | .canFrameEnd _ _ => true
  | .canCancel _ _ => true
  | .canRecovered _ => true
  | .mirrorEnd _ => true
  | .linkDown _ => true
  | .linkUp _ _ => true
  | .ethRxFrame _ _ => true
  | .s450Datagram _ _ _ _ => true
  | .portUp _ _ => true
  | .portDown _ _ _ => true
  | .exchangeSend _ => true
  | .voteSend => true
  | .voteEvaluation => true
  | .txnTimeout _ => true
  | .joinRetry => true
  | .delay _ _ => true
  | .icxDelayProbe _ => true
  | .extDemandStale => true
  | .domainFormation => true
  | .partition => true
  | .timeSkew => true
  | .fusDisagree _ => true
  | .tlsHandshake _ o _ => (o.versions ++ o.suites ++ o.groups ++ o.sigAlgs).all (· < 2 ^ 16)
  | .connectionTimeout _ => true
  | .authCheckComplete _ => true
  | .transportLost _ => true
  | .idleTimeout _ => true
  | .detachedExpiry _ => true
  | .lockoutEnd _ => true
  | .lockoutDecay _ => true
  | .referenceOffset _ _ => true
  | .timeUnlock => true
  | .holdoverEnter => true
  | .timeStep => true
  | .timeJumpResolve => true
  | .timeDegraded => true
  | .carafeSample _ => true
  | .carafeDaily => true
  | .carafeStore => true
  | .ppsOut => true
  | .tcxoFault _ => true
  | .aqfWriteCommit _ _ => true
  | .journalDrain _ _ _ _ _ => true
  | .wearRelocation _ _ _ _ => true
  | .powerFailWarning _ => true
  | .flushDone => true
  | .powerRelease _ _ => true
  | .powerReset _ => true
  | .inputLow _ _ _ _ => true
  | .inputRestored _ _ _ => true
  | .domainFault _ _ _ => true
  | .dormantSwitchOffTimeout => true
  | .sweepEnd => true
  | .throttleEnforced => true
  | .bgSlice _ _ _ => true
  | .sedimentFlush _ => true
  | .suppressed _ => true
  | .logFault _ => true
  | .keySwapped _ _ _ => true
  | .keyWritten => true
  | .keyWriteFail _ _ => true
  | .outputStaging _ => true
  | .canErrorDetected _ _ => true
  | .modeDomainSwitchOn => true
  | .suResetMonitor => true
  | .tlsKeyUpdate _ => true

end Sys2Proof
end

