-- ==== Sys2Proof/Certificates/Slice0/Obligations.lean ====
section
/-!
DEFINITION. The statements about the model: what a step and reset leave, what each command answers (a clause for each command, on the
states and operands its clause names), what each leaves alone (`State.told`, `State.served`), and rules of the spec.
-/
set_option autoImplicit false
open Sys2Proof Sys2Proof.Machine

/-- For every command c and state s, step on s with c in front of its queue is exec of c on s with the queue's rest (log 4). -/
def Obligations.StepTakesFront : Prop :=
  ∀ (c : Instr) (rest : List Instr) (s : State), step { s with pending := c :: rest } = exec c { s with pending := rest }

/-- With nothing pending, step answers the same state. The spec has no tick row; idling is the model's choice of log 4. -/
def Obligations.StepIdles : Prop :=
  ∀ s : State, s.pending = [] → step s = .next s

/-- At reset every register whose table gives its fields numbers reads as those numbers: block by block the ones at zero, then the others, among them
MODE_STATUS in start phase 1 (R95), the WIDE margin of 10 % (R38, R58), SLACK_MIN at its largest value (R58), and DR_LIMIT, MODE_TBLEND and START_MODE
at the defaults of R95 while no image is loaded. Image, kept and factory values are not stated (logs 9 and 34). -/
def Obligations.ResetRegisters : Prop :=
  (∀ o ∈ ([0x204, 0x208, 0x20C, 0x210, 0x214, 0x218, 0x21C, 0x220, 0x224, 0x228, 0x22C, 0x230, 0x238, 0x23C, 0x240, 0x244, 0x104, 0x108, 0x10C,
    0x110, 0x118, 0x11C, 0x120, 0x130, 0x134, 0x138, 0x20, 0x24] : List Nat), regRead State.reset (0x00010000 + o) = some 0) ∧
  (∀ o ∈ ([0x14, 0x18, 0x1C, 0x20, 0x24, 0x28, 0x2C, 0x30, 0x34, 0x38, 0x3C, 0x40, 0x44, 0x48, 0x4C, 0x50, 0x54, 0x58, 0x5C, 0x64, 0x68, 0x6C, 0x90,
    0x94] : List Nat), regRead State.reset (0x00080000 + o) = some 0) ∧
  (∀ o ∈ ([0x10, 0x14, 0x18, 0x1C, 0x20, 0x24, 0x28, 0x2C, 0x30, 0x34, 0x38, 0x3C, 0x40, 0x44, 0x48, 0x4C, 0x50, 0x54, 0x58, 0x5C, 0x60, 0x64, 0x68,
    0x6C, 0x74, 0x78, 0x7C, 0x80, 0x84, 0x90, 0x94, 0x98, 0xA0, 0xA8, 0xC4, 0xC8] : List Nat), regRead State.reset (0x000A0000 + o) = some 0) ∧
  (∀ o ∈ ([0x10, 0x14, 0x18, 0x1C, 0x20, 0x24, 0x28, 0x2C, 0x30, 0x34, 0x38, 0x3C, 0x50, 0x54, 0x58, 0x5C, 0x60, 0x64, 0x6C, 0x70, 0x74, 0x78, 0x7C,
    0x80, 0x84, 0x88, 0x8C] : List Nat), regRead State.reset (0x000C0000 + o) = some 0) ∧
  (∀ o ∈ ([0x14, 0x18, 0x1C, 0x20, 0x24, 0x28, 0x2C, 0x30, 0x34, 0x38, 0x3C, 0x40, 0x44, 0x48, 0x4C, 0x50, 0x54, 0x58, 0x60, 0x68, 0x6C, 0x70, 0x74,
    0x78, 0x7C, 0x80, 0x84, 0x88, 0x8C, 0x90, 0x98, 0x9C, 0xA0, 0xA4, 0xA8, 0xAC, 0xB4, 0xB8, 0xBC, 0xC0, 0xC8, 0xCC, 0xD0, 0xD4, 0xDC, 0xE8, 0xEC,
    0xF0, 0xF4, 0xF8, 0xFC] : List Nat), regRead State.reset (0x000D0000 + o) = some 0) ∧
  (∀ o ∈ ([0x10, 0x14, 0x18, 0x1C, 0x20, 0x24, 0x28, 0x2C, 0x30, 0x34, 0x38, 0x3C, 0x40, 0x44, 0x4C, 0x50, 0x54, 0x58, 0x5C, 0x60, 0x64, 0x68, 0x6C,
    0x70, 0x74, 0x78, 0x80, 0x84, 0x88, 0x8C, 0x90, 0x94, 0x98] : List Nat), regRead State.reset (0x000E0000 + o) = some 0) ∧
  (∀ o ∈ ([0x10, 0x14, 0x1C, 0x20, 0x24, 0x28, 0x2C, 0x30, 0x44, 0x48, 0x4C, 0x50, 0x54, 0x58, 0x5C, 0x60, 0x68, 0x6C, 0x70, 0x74, 0x78,
    0x7C] : List Nat), regRead State.reset (0x00100000 + o) = some 0) ∧
  (∀ o ∈ ([0x10, 0x14, 0x18, 0x1C, 0x20, 0x24, 0x28, 0x2C, 0x30, 0x34, 0x38, 0x3C, 0x40, 0x44, 0x48, 0x4C, 0x50, 0x54, 0x58, 0x5C, 0x64, 0x68, 0x6C,
    0x70, 0x74, 0x78, 0x80, 0x84] : List Nat), regRead State.reset (0x00110000 + o) = some 0) ∧
  (∀ o ∈ ([0x14, 0x18, 0x1C, 0x20, 0x24, 0x28, 0x2C, 0x30, 0x38, 0x40, 0x48, 0x4C, 0x54, 0x58, 0x5C, 0x60, 0x64, 0x68, 0x6C, 0x7C, 0x80,
    0x84] : List Nat), regRead State.reset (0x00120000 + o) = some 0) ∧
  (∀ o ∈ ([0x10, 0x14, 0x1C, 0x20, 0x24, 0x28, 0x2C, 0x30, 0x34, 0x38, 0x3C, 0x40, 0x44, 0x48, 0x4C, 0x54, 0x58, 0x5C, 0x60, 0x64] : List Nat),
    regRead State.reset (0x00140000 + o) = some 0) ∧
  (∀ o ∈ ([0x10, 0x14, 0x1C, 0x20, 0x24, 0x28, 0x2C, 0x30, 0x34] : List Nat), regRead State.reset (0x00150000 + o) = some 0) ∧
  (∀ o ∈ ([0x10, 0x14, 0x2C, 0x30, 0x34, 0x38, 0x3C, 0x40, 0x44, 0x48] : List Nat), regRead State.reset (0x00160000 + o) = some 0) ∧
  (∀ o ∈ ([0x14, 0x18, 0x24, 0x28, 0x2C, 0x30, 0x34, 0x38, 0x3C, 0x40, 0x48, 0x4C, 0x50, 0x54, 0x58] : List Nat), regRead State.reset (0x00180000 +
    o) = some 0) ∧
  (∀ o ∈ ([0x14, 0x18, 0x1C, 0x20, 0x24, 0x28, 0x2C, 0x30, 0x34, 0x3C, 0x40, 0x44] : List Nat), regRead State.reset (0x00170000 + o) = some 0) ∧
  (∀ o ∈ ([0x1C, 0x20, 0x24, 0x28, 0x2C, 0x34, 0x40, 0x44, 0x48, 0x4C, 0x54, 0x58, 0x5C] : List Nat), regRead State.reset (0x00090000 + o) = some 0) ∧
  (∀ o ∈ ([0x10, 0x14, 0x18, 0x20, 0x38, 0x3C, 0x40, 0x44, 0x48, 0x4C, 0x50, 0x58, 0x5C, 0x60, 0x68, 0x6C] : List Nat),
    regRead State.reset (0x001A0000 + o) = some 0) ∧
  (∀ o ∈ ([0x20, 0x24, 0x28, 0x3C, 0x40, 0x44] : List Nat), regRead State.reset (0x001B0000 + o) = some 0) ∧
  (∀ o ∈ ([0x10, 0x14, 0x18, 0x1C, 0x20, 0x28, 0x2C, 0x30] : List Nat), regRead State.reset (0x00020000 + o) = some 0) ∧
  (∀ o ∈ ([0x14, 0x20, 0x24, 0x2C, 0x30, 0x34] : List Nat), regRead State.reset (0x00030000 + o) = some 0) ∧
  (∀ o ∈ ([0x14, 0x18, 0x1C, 0x20, 0x24, 0x28, 0x2C, 0x30, 0x34, 0x38, 0x3C, 0x40] : List Nat), regRead State.reset (0x00040000 + o) = some 0) ∧
  (∀ o ∈ ([0x14, 0x18, 0x1C, 0x2C, 0x30, 0x34, 0x38, 0x3C, 0x40, 0x44, 0x48, 0x4C, 0x50, 0x54, 0x58, 0x5C] : List Nat),
    regRead State.reset (0x001C0000 + o) = some 0) ∧
  ∀ p ∈ ([(0x00010200, 0xA), (0x00010234, 0xFFFFFFFF), (0x00010100, 0x10007), (0x00010114, 0x17), (0x00080060, 0xFFFF0003), (0x000A008C, 0xFFFFFFFF),
    (0x000A009C, 0x3F800000), (0x000D0064, 0xFFFF), (0x000E0048, 0xFFFF), (0x000E007C, 0x320), (0x00120010, 0x10), (0x00120044, 0xFFFFFFFF),
    (0x00120078, 0xFFFF0000), (0x00140050, 0xFFFF0080), (0x00180044, 0xFFFF0000), (0x00090010, 0x30), (0x00090030, 0xFFFFFFFF), (0x001B002C, 0x1000),
    (0x00020024, 0x1), (0x00030010, 0x5), (0x0003001C, 0x10), (0x00030028, 0x5), (0x00040010, 0x1), (0x00010124, 0x40A00000), (0x00010128,
    0x41F00000), (0x0001012C, 0x1)] : List (Nat × Nat)), regRead State.reset p.1 = some (BitVec.ofNat 32 p.2)

/-- State.reset has tables of the sizes the spec gives, an empty queue of commands, and a frame instant that is a whole multiple of 20 ms. -/
def Obligations.ResetMeetsInvariants : Prop :=
  Sized State.reset ∧ State.reset.pending = [] ∧ State.reset.tim.frameAt % 20000000 = 0

/-- If every waiting command is well-formed and a step answers a next state, every command that waits there is well-formed: a command neither adds to
the queue nor changes it. -/
def Obligations.QueueWellFormed : Prop :=
  ∀ s t : State, (∀ c ∈ s.pending, c.wellFormed = true) → step s = .next t → ∀ c ∈ t.pending, c.wellFormed = true

/-- If the tables of a state have the sizes of Sized (32 block headers, 16 engines, 512 solver slots, 32 sessions, 48 field channels and the others it
lists) and a step answers a next state, they have them there. -/
def Obligations.SizesKept : Prop :=
  ∀ s t : State, Sized s → step s = .next t → Sized t

/-- If the instant of the current frame is a whole multiple of 20,000,000 ns and a step answers a next state, it is one there. -/
def Obligations.FrameInstantAligned : Prop :=
  ∀ s t : State, s.tim.frameAt % 20000000 = 0 → step s = .next t → t.tim.frameAt % 20000000 = 0

/-- A step that answers a next state leaves the serial number, the variant and the firmware version of the module as they are, restarts included. -/
def Obligations.IdentityKept : Prop :=
  ∀ s t : State, step s = .next t → t.sup.serial = s.sup.serial ∧ t.sup.variantF = s.sup.variantF ∧ t.sup.fwVersion = s.sup.fwVersion

/-- A command that answers a next state and is neither FRAME_INSTANT, which applies an accepted request, nor MODE_FALLBACK, nor one that restarts the
module (POWER_RESET, FLUSH_DONE, SU_RESET_MONITOR), leaves the mode as it is: a missed deadline, CONTROL_LOST, a power-fail warning, a temperature
band or a takeover is no mode change. -/
def Obligations.ModeKept : Prop :=
  ∀ (c : Instr) (s t : State), exec c s = .next t →
    t.sup.mode = s.sup.mode ∨ (∃ m, c = .frameInstant m) ∨ c = .modeFallback ∨
      (∃ v, c = .powerReset v) ∨ c = .flushDone ∨ c = .suResetMonitor

/-- A command that answers a next state and is not one that restarts the module (POWER_RESET, FLUSH_DONE, SU_RESET_MONITOR) leaves module time at or
after what it was. When a command advances module time is the model's choice of log 7. -/
def Obligations.TimeNeverDecreases : Prop :=
  ∀ (c : Instr) (s t : State), exec c s = .next t → s.tim.now ≤ t.tim.now ∨
    (∃ v, c = .powerReset v) ∨ c = .flushDone ∨ c = .suResetMonitor

/-- What the commands of the field channels do: a clause for each command, on the states and operands it names (operands and times: logs 5 and 7). -/
def Obligations.CompleteField : Prop :=
  -- FIELD_LINK_FRAME (R321)
  (∀ (bank : Fin 2) (ch : Fin 48) (s : State), Sized s → linkRuns s bank.val = true → (s.fio.bank bank.val).applied = false →
      bankOf ch.val = bank.val → (s.fio.bank bank.val).sentAt ≠ some s.linkInstant →
      ∃ t, exec (.fieldLinkFrame bank true) s = .next t ∧
        (t.fio.bank bank.val).lastValid = s.now ∧
        t.fio.chan ch.val = applyOutput s.now { s.fio.bank bank.val with lastValid := s.now, sentAt := some s.linkInstant, goodFrames := 0 }
          { s.fio.chan ch.val with
            carried := (s.fio.chan ch.val).cmd, blocked := (s.fio.chan ch.val).blocked || (s.fio.chan ch.val).returned, returned := false }) ∧
  -- LINK_REPLY (R321)
  (∀ (bank : Fin 2) (j : Fin 24) (pins : List F32) (demag : BitVec 24) (currents : List F32) (supply : F32) (s : State), Sized s →
      linkRuns s bank.val = true → (s.fio.bank bank.val).applied = false → (s.fio.bank bank.val).replyAt ≠ some s.linkInstant →
      ∃ t, exec (.linkReply bank true pins demag currents supply) s = .next t ∧
        (t.fio.bank bank.val).supply = f32Val supply ∧ t.fio.chan (24 * bank.val + j.val) =
          replyChan (!(s.fio.bank bank.val).link) (f32Val (pins.getD j.val 0)) (f32Val (currents.getD j.val 0)) (demag.getLsbD j.val)
            (s.fio.chan (24 * bank.val + j.val))) ∧
  -- LINK_TIMEOUT (R338)
  (∀ (bank : Fin 2) (s : State), Sized s → bankLive s bank.val = true → (s.fio.bank bank.val).applied = false →
      s.fio.linkTimeout * 1000000 ≤ s.now - (s.fio.bank bank.val).lastValid →
      ∃ t, exec (.linkTimeout bank) s = .next t ∧ (t.fio.bank bank.val).applied = true ∧ (t.fio.bank bank.val).safeAt = s.now) ∧
  -- LINK_LOST (R338)
  (∀ (bank : Fin 2) (s : State), Sized s → linkRuns s bank.val = true → (s.fio.bank bank.val).safe = false →
      s.fio.linkTimeout * 1000000 ≤ s.now - (s.fio.bank bank.val).lastValid →
      ∃ t, exec (.linkLost bank) s = .next t ∧
        (t.fio.bank bank.val).safe = true ∧ (t.fio.bank bank.val).link = false ∧
        (t.fio.bank bank.val).linkLosses = satInc 16 (s.fio.bank bank.val).linkLosses) ∧
  -- INPUT_EDGE (R327)
  (∀ (ch : Fin 48) (volts : F32) (level : Bool) (heldUs backUs : Nat) (s : State), Sized s → linkRuns s (bankOf ch.val) = true →
      (s.fio.chan ch.val).cfg.dir = .input → (s.fio.chan ch.val).now = !level →
      pinLevel (s.fio.chan ch.val).cfg.type3 (s.fio.chan ch.val).comp (f32Val volts) = level → (s.fio.chan ch.val).cfg.filter * 1000 ≤ heldUs →
      (s.fio.bank (bankOf ch.val)).applied = false → (s.fio.bank (bankOf ch.val)).safe = false →
      ∃ t, exec (.inputEdge ch volts heldUs backUs) s = .next t ∧
        (t.fio.chan ch.val).now = level ∧ (t.fio.chan ch.val).edges = satInc 32 (s.fio.chan ch.val).edges ∧
        (t.fio.chan ch.val).edgeAt = (s.now - backUs * 1000) / 250000 * 250000) ∧
  -- FIELD_LOW (R330)
  (∀ (bank : Fin 2) (volts : F32) (us : Nat) (s : State), Sized s → s.domOn (8 + bank.val) = true → (s.fio.bank bank.val).phase = .normal →
      f32Val volts < 18 → 10000 ≤ us →
      ∃ t, exec (.fieldLow bank volts us) s = .next t ∧
        (t.fio.bank bank.val).phase = .fieldLow ∧ (t.fio.bank bank.val).awayAt = s.now ∧ (t.fio.bank bank.val).supply = f32Val volts) ∧
  -- FIELD_HIGH (R330)
  (∀ (bank : Fin 2) (volts : F32) (us : Nat) (s : State), Sized s → s.domOn (8 + bank.val) = true → (s.fio.bank bank.val).phase = .normal →
      32 < f32Val volts → 10000 ≤ us →
      ∃ t, exec (.fieldHigh bank volts us) s = .next t ∧
        (t.fio.bank bank.val).phase = .fieldHigh ∧ (t.fio.bank bank.val).awayAt = s.now ∧ (t.fio.bank bank.val).supply = f32Val volts) ∧
  -- FIELD_LOST (R330)
  (∀ (bank : Fin 2) (ch : Fin 48) (volts : F32) (us : Nat) (s : State), Sized s → s.domOn (8 + bank.val) = true →
      (s.fio.bank bank.val).phase = .normal → f32Val volts < 14 → 1000 ≤ us → bankOf ch.val = bank.val → (s.fio.chan ch.val).cfg.dir = .output →
      ∃ t, exec (.fieldLost bank volts us) s = .next t ∧
        (t.fio.bank bank.val).phase = .fieldLost ∧ (t.fio.chan ch.val).act = false ∧ (t.fio.chan ch.val).fieldLost = true) ∧
  -- FIELD_RESTORED (R331)
  (∀ (bank : Fin 2) (volts : F32) (us : Nat) (s : State), Sized s → s.domOn (8 + bank.val) = true → (s.fio.bank bank.val).phase = .fieldLow →
      18 ≤ f32Val volts → 100000 ≤ us →
      ∃ t, exec (.fieldRestored bank volts us) s = .next t ∧ (t.fio.bank bank.val).phase = .normal ∧ (t.fio.bank bank.val).supply = f32Val volts) ∧
  -- OVERCURRENT (R332)
  (∀ (ch : Fin 48) (thermal : Bool) (amps : F32) (us : Nat) (s : State), Sized s → bankLive s (bankOf ch.val) = true →
      (s.fio.chan ch.val).cfg.dir = .output → (s.fio.chan ch.val).act = true → thermal = true ∨ 5000 ≤ us →
      ∃ t, exec (.overcurrent ch thermal amps us) s = .next t ∧
        (t.fio.chan ch.val).act = false ∧ (t.fio.chan ch.val).trips = satInc 32 (s.fio.chan ch.val).trips ∧
        (t.fio.chan ch.val).retryWait = decide ((s.fio.chan ch.val).retries < 3) ∧
        ((t.fio.chan ch.val).latched = true ↔ 3 ≤ (s.fio.chan ch.val).retries ∨ (s.fio.chan ch.val).latched = true)) ∧
  -- OC_RETRY (R332)
  (∀ (ch : Fin 48) (s : State), Sized s → bankLive s (bankOf ch.val) = true → (s.fio.chan ch.val).cfg.dir = .output →
      (s.fio.chan ch.val).retryWait = true → (s.fio.chan ch.val).retryDue = false → (s.fio.chan ch.val).retryPaused = none →
      (s.fio.chan ch.val).retryAt ≤ s.now → (s.fio.chan ch.val).blocked = false → fioBarred (s.fio.bank (bankOf ch.val)) (s.fio.chan ch.val) = false →
      fioWanted (s.fio.bank (bankOf ch.val)) (s.fio.chan ch.val) = true →
      ∃ t, exec (.ocRetry ch) s = .next t ∧
        (t.fio.chan ch.val).act = true ∧ (t.fio.chan ch.val).retryWait = false ∧ (t.fio.chan ch.val).ocFault = false) ∧
  -- OC_CLEAN_PERIOD (R332)
  (∀ (ch : Fin 48) (s : State), Sized s → bankLive s (bankOf ch.val) = true → (s.fio.chan ch.val).act = true →
      10000000000 ≤ s.now - (s.fio.chan ch.val).onSince →
      ∃ t, exec (.ocCleanPeriod ch) s = .next t ∧ (t.fio.chan ch.val).retries = 0) ∧
  -- BANK_OVERLOAD (R333)
  (∀ (bank : Fin 2) (ch : Fin 48) (currents : List F32) (us : Nat) (s : State), Sized s → bankLive s bank.val = true → 100000 ≤ us →
      6 < outputCurrent bank.val currents s →
      largestOutput bank.val (fun c => f32Val (currents.getD (c - 24 * bank.val) 0)) (fun c => (s.fio.chan c).cfg.dir == .output &&
        (s.fio.chan c).act && !(s.fio.chan c).cfg.essential) = some ch.val →
      ∃ t, exec (.bankOverload bank currents us) s = .next t ∧
        (t.fio.bank bank.val).overload = true ∧ (t.fio.chan ch.val).act = false ∧ (t.fio.chan ch.val).trips = satInc 32 (s.fio.chan ch.val).trips) ∧
  -- STUCK_HIGH (R334)
  (∀ (ch : Fin 48) (volts : F32) (us demagUs : Nat) (s : State), Sized s → bankLive s (bankOf ch.val) = true → (s.fio.chan ch.val).cfg.dir = .output →
      fioWanted (s.fio.bank (bankOf ch.val)) (s.fio.chan ch.val) = false → (s.fio.bank (bankOf ch.val)).phase ≠ .fieldLost → 19 / 2 ≤ f32Val volts →
      10000 ≤ us → 5000 ≤ demagUs →
      ∃ t, exec (.stuckHigh ch volts us demagUs) s = .next t ∧ (t.fio.chan ch.val).stuckHigh = true) ∧
  -- STUCK_HIGH_CLEAR (R334)
  (∀ (ch : Fin 48) (us : Nat) (s : State), Sized s → fioWanted (s.fio.bank (bankOf ch.val)) (s.fio.chan ch.val) = false → 1000000 ≤ us →
      ∃ t, exec (.stuckHighClear ch us) s = .next t ∧ (t.fio.chan ch.val).stuckHigh = false) ∧
  -- OPEN_LOAD (R335)
  (∀ (ch : Fin 48) (amps : F32) (us : Nat) (s : State), Sized s → bankLive s (bankOf ch.val) = true → (s.fio.chan ch.val).cfg.dir = .output →
      (s.fio.chan ch.val).cfg.openDet = true → fioWanted (s.fio.bank (bankOf ch.val)) (s.fio.chan ch.val) = true → (s.fio.chan ch.val).act = true →
      f32Val amps < 1 / 200 → 100000 ≤ us →
      ∃ t, exec (.openLoad ch amps us) s = .next t ∧ (t.fio.chan ch.val).openLoad = true) ∧
  -- OPEN_LOAD_CLEAR (R335)
  (∀ (ch : Fin 48) (amps : F32) (us : Nat) (s : State), Sized s → 7 / 1000 ≤ f32Val amps → 1000000 ≤ us →
      ∃ t, exec (.openLoadClear ch amps us) s = .next t ∧ (t.fio.chan ch.val).openLoad = false)

/-- What the commands of the safety channel do: a clause for each command, on the states and operands it names (operands and times: logs 5 and 7).
After SC_CYCLE the WRITEs whose pairs it accepted go on (`settle`, CompleteRegisterAccess). -/
def Obligations.CompleteSafety : Prop :=
  -- SC_CYCLE (R342)
  (∀ (us : Nat) (pinsP pinsN cf : BitVec 8) (currents : List F32) (supply : F32) (k : Fin 8) (s : State), Sized s → s.scRuns = true →
      ∃ t, t = scCycle us pinsP pinsN cf currents supply s ∧ exec (.scCycle us pinsP pinsN cf currents supply) s = .next (settle t) ∧
        t.tim.scAt = s.nextCycle ∧ t.saf.supply = f32Val supply ∧ (t.saf.p k.val).pinP = pinsP.getLsbD k.val ∧
        (t.saf.p k.val).pinN = pinsN.getLsbD k.val ∧ (t.saf.p k.val).cf = cf.getLsbD k.val ∧ t.saf.entries = [] ∧ t.saf.resetReq = none) ∧
  -- ESTOP (R348)
  (∀ (input : Fin 2) (lowA lowB : Nat) (s : State), Sized s → s.domOn 11 = true → 12 ≤ lowA ∨ 12 ≤ lowB →
      (s.saf.e input.val).active = false → s.scRuns = true →
      ∃ t, exec (.estop input lowA lowB) s = .next t ∧
        (t.saf.e input.val).active = true ∧ (t.saf.e input.val).closedA = decide (lowA < 12) ∧
        (t.saf.e input.val).closedB = decide (lowB < 12) ∧ t.saf.entries = s.saf.entries ∧
        (t.saf.e input.val).samples = (s.saf.e input.val).samples ++ [(decide (12 ≤ lowA), decide (12 ≤ lowB))]) ∧
  -- ESTOP_RELEASE (R350)
  (∀ (input : Fin 2) (us : Nat) (s : State), Sized s → s.domOn 11 = true → (s.saf.e input.val).active = true → (s.saf.e input.val).disc = false →
      100000 ≤ us →
      ∃ t, exec (.estopRelease input us) s = .next t ∧
        (t.saf.e input.val).active = false ∧ (t.saf.e input.val).closedA = true ∧ (t.saf.e input.val).closedB = true) ∧
  -- TP_FAULT (R349)
  (∀ (input : Fin 2) (chB : Bool) (s : State), Sized s → s.domOn 11 = true →
      ∃ t, exec (.tpFault input chB) s = .next t ∧ (if chB then (t.saf.e input.val).tpfB else (t.saf.e input.val).tpfA) = true) ∧
  -- TP_FAULT_CLEARED (R349)
  (∀ (input : Fin 2) (chB : Bool) (us : Nat) (s : State), Sized s → s.domOn 11 = true → 10000000 ≤ us →
      (if chB then (s.saf.e input.val).tpfB else (s.saf.e input.val).tpfA) = true →
      ∃ t, exec (.tpFaultCleared input chB us) s = .next t ∧ (if chB then (t.saf.e input.val).tpfB else (t.saf.e input.val).tpfA) = false) ∧
  -- DISCREPANCY (R349)
  (∀ (input : Fin 2) (s : State), Sized s → s.domOn 11 = true → (s.saf.e input.val).active = true →
      (s.saf.e input.val).closedA ≠ (s.saf.e input.val).closedB → (s.saf.e input.val).disc = false →
      s.saf.esDisc * 1000000 < s.now - (s.saf.e input.val).oddAt →
      ∃ t, exec (.discrepancy input) s = .next t ∧ (t.saf.e input.val).disc = true) ∧
  -- HS_TEST_PULSE (R353)
  (∀ (pair : Fin 8) (s : State), Sized s → s.scRuns = true → (s.saf.p pair.val).on = true → (s.saf.p pair.val).testing = none →
      s.removalDue pair.val (nextOffset s.now (125 * pair.val)) = false → nextOffset s.now (125 * pair.val) ≤ s.tim.frameAt + 20000000 →
      (s.saf.p pair.val).hsAt ≠ some (nextOffset s.now (125 * pair.val)) →
      ∃ t, exec (.hsTestPulse pair true) s = .next t ∧
        t.now = max s.now (nextOffset s.now (125 * pair.val)) ∧ (t.saf.p pair.val).hsFails = 0 ∧ (t.saf.p pair.val).hsPulse = some t.now) ∧
  -- LS_TEST_PULSE (R353)
  (∀ (pair : Fin 8) (s : State), Sized s → s.weirRuns = true → (s.saf.p pair.val).on = true → (s.saf.p pair.val).testing = none →
      s.removalDue pair.val (nextOffset s.now ((500 + 125 * pair.val) % 1000)) = false →
      nextOffset s.now ((500 + 125 * pair.val) % 1000) ≤ s.tim.frameAt + 20000000 →
      (s.saf.p pair.val).lsAt ≠ some (nextOffset s.now ((500 + 125 * pair.val) % 1000)) →
      ∃ t, exec (.lsTestPulse pair true) s = .next t ∧
        t.now = max s.now (nextOffset s.now ((500 + 125 * pair.val) % 1000)) ∧ (t.saf.p pair.val).lsFails = 0 ∧
        (t.saf.p pair.val).lsPulse = some t.now) ∧
  -- TORQUE_REMOVED (R362)
  (∀ (thr : Fin 16) (pair : Fin 8) (s : State), Sized s → s.scRuns = true → (s.saf.t thr.val).pair = some pair.val → (s.saf.t thr.val).due ≠ 0 →
      (s.saf.t thr.val).phase ≠ .removed → (s.saf.p pair.val).hsStuck = false →
      ∃ t, exec (.torqueRemoved thr) s = .next t ∧
        (t.saf.t thr.val).phase = .removed ∧ (t.saf.t thr.val).endCause = (s.saf.t thr.val).due ∧ (t.saf.p pair.val).hs = false) ∧
  -- WEIR_TIMER (R364)
  (∀ (pair : Fin 8) (thr : Fin 16) (a : Nat) (s : State), Sized s → s.weirRuns = true → (s.saf.p pair.val).weirAt = some a →
      (s.saf.p pair.val).tWeir * 1000000 ≤ s.now - a → (s.saf.p pair.val).on = true → (s.saf.p pair.val).lsStuck = false →
      (s.saf.t thr.val).pair = some pair.val →
      ∃ t, exec (.weirTimer pair) s = .next t ∧ (t.saf.p pair.val).ls = false ∧ (t.saf.p pair.val).weirAt = none ∧ (t.saf.t thr.val).phase = .removed) ∧
  -- CONTACTOR_FAULT (R352)
  (∀ (pair : Fin 8) (lvl : Bool) (a : Nat) (s : State), Sized s → s.domOn 11 = true → (s.saf.p pair.val).cfExpect = some (lvl, a) →
      (s.saf.p pair.val).tCf * 1000000 ≤ s.now - a →
      ∃ t, exec (.contactorFault pair) s = .next t ∧ (t.saf.p pair.val).cfFault = true ∧ (t.saf.p pair.val).cfExpect = none) ∧
  -- SC_LOST (R345)
  (∀ (violations : Nat) (s : State), s.weirRuns = true → s.saf.scLost = false → 3 ≤ violations →
      ∃ t, exec (.scLost violations) s = .next t ∧
        t.saf.scLost = true ∧ t.saf.hold = true ∧ t.sup.held = true ∧ t.saf.wdViolations = satAdd 32 s.saf.wdViolations violations) ∧
  -- WEIR_LOST (R345)
  (∀ (cause : Fin 3) (s : State), s.scRuns = true → s.saf.weirLost = false →
      ∃ t, exec (.weirLost cause) s = .next t ∧ t.saf.weirLost = true ∧ t.saf.hold = true ∧ t.sup.held = true) ∧
  -- MIRROR_STALE (R366)
  (∀ (a : Nat) (s : State), s.scRuns = true → s.saf.mirrorStale = false → s.saf.mirrorAt = some a → 100000000 ≤ s.now - a →
      ∃ t, exec .mirrorStale s = .next t ∧ t.saf.mirrorStale = true ∧ t.saf.alarmOpen = true) ∧
  -- PAIR_SUPPLY_FAULT (R347)
  (∀ (volts : F32) (us : Nat) (s : State), s.weirRuns = true → s.saf.supplyBad = false → f32Val volts < 18 → 1000 ≤ us →
      ∃ t, exec (.pairSupplyFault volts us) s = .next t ∧ t.saf.supplyBad = true ∧ t.saf.entered.getLsbD 4 = true) ∧
  -- PAIR_TEST_END (R373)
  (∀ (pair : Fin 8) (hs : Bool) (a : Nat) (s : State), Sized s → (s.saf.p pair.val).testing = some (hs, a) → 1000000000 ≤ s.now - a →
      s.saf.proof = .running → s.saf.scOk = true → s.saf.weirOk = true → (s.saf.p pair.val).cfFault = false →
      ∃ t, exec (.pairTestEnd pair true true true) s = .next t ∧
        (t.saf.p pair.val).testing = none ∧ (if hs then (t.saf.p pair.val).hs else (t.saf.p pair.val).ls) = true ∧
        (if hs then t.saf.hsPass.getLsbD pair.val else t.saf.lsPass.getLsbD pair.val) = true) ∧
  -- ALARM_TEST_END (R368)
  (∀ (a : Nat) (s : State), s.saf.alarmTest = some a → a ≤ s.now →
      ∃ t, exec .alarmTestEnd s = .next t ∧ t.saf.alarmTest = none ∧ (s.saf.proof = .running → t.saf.alarmPass = true) ∧ t.saf.alarmOpen = t.alarmOn) ∧
  -- PROOF_OVERDUE (R372)
  (∀ (s : State), s.domOn 11 = true → s.saf.proofLast = 0 → s.saf.overdueAt = none →
      ∃ t, exec .proofOverdue s = .next t ∧ t.saf.overdue = true ∧ t.saf.overdueAt = some s.now)

/-- What the commands of the CAN ports do: a clause for each command, on the states and operands it names (operands and times: logs 5 and 7). -/
def Obligations.CompleteCan : Prop :=
  -- CAN_TX_SUBMIT (R378)
  (∀ (port : Fin 4) (engine : Fin 16) (frame : CanFrame) (gate : TxGate) (s : State), Sized s → (s.can.port port.val).refusal frame = none →
      ∃ t, exec (.canTxSubmit port engine frame gate) s = .next t ∧
        (∃ e ∈ (t.can.port port.val).tx, e.frame = frame ∧ e.phase = .pending ∧ e.gateAt = s.gateTime gate ∧ e.tag = s.newTag 0x14 engine.val) ∧
        (t.can.port port.val).nextOrder = (s.can.port port.val).nextOrder + 1) ∧
  -- CAN_FRAME_START (R380)
  (∀ (port : Fin 4) (e : TxEntry) (s : State), Sized s → (s.can.port port.val).onBus = true → (s.can.port port.val).listens = false →
      (s.can.port port.val).tx.all (fun x => x.phase == .pending) = true → (s.can.port port.val).first s.now = some e →
      ∃ t, exec (.canFrameStart port) s = .next t ∧
        (t.can.port port.val).tx = (s.can.port port.val).tx.map fun x => if x.order == e.order then { x with phase := .transmitting } else x) ∧
  -- CAN_FRAME_END (R378)
  (∀ (port : Fin 4) (e : TxEntry) (s : State), Sized s → (s.can.port port.val).onBus = true →
      (s.can.port port.val).tx.find? (fun x => x.phase == .transmitting) = some e → e.cancelHeld = false →
      ∃ t, exec (.canFrameEnd port .sent) s = .next t ∧
        (t.can.port port.val).txCount = satInc 32 (s.can.port port.val).txCount ∧ (t.can.port port.val).tec = (s.can.port port.val).tec - 1 ∧
        (e.tag, TxStatus.sent, s.now) ∈ (t.can.port port.val).done) ∧
  -- CAN_CANCEL (R382)
  (∀ (port : Fin 4) (tag : Word) (e : TxEntry) (s : State), Sized s → (s.can.port port.val).tx.find? (fun x => x.tag.word == tag.toNat) = some e →
      e.phase = .pending →
      ∃ t, exec (.canCancel port tag) s = .next t ∧
        (t.can.port port.val).cancelled = satInc 16 (s.can.port port.val).cancelled ∧
        (t.can.port port.val).tx = (s.can.port port.val).tx.filter (fun x => x.order != e.order) ∧
        (e.tag, TxStatus.cancelled, s.now) ∈ (t.can.port port.val).done) ∧
  -- CAN_RX_FRAME (R383)
  (∀ (port : Fin 4) (frame : CanFrame) (held backUs : Nat) (k : LuqIn) (s : State), Sized s → (s.can.port port.val).onBus = true →
      (frame.fd = true → (s.can.port port.val).isFd = true) → (s.can.port port.val).route frame = some k → held < 256 →
      luqCause s.image.dirCount k frame.data = none → aliveCheck s port.val (k.key frame.data) (k.alive frame.data) = .fresh →
      ∃ t, exec (.canRxFrame port frame false held backUs) s = .next t ∧
        (t.can.port port.val).rxCount = satInc 32 (s.can.port port.val).rxCount ∧ 
        (t.can.port port.val).rx = (s.can.port port.val).rx.drop ((s.can.port port.val).rx.length - held) ++
          [{ frame := frame, port := port.val, at_ := s.now - backUs * 1000 }] ∧
        (∀ i : Fin 16, k = .thrFb i.val → (t.can.fbOf i.val).at_ = some (s.now - backUs * 1000) ∧
          (t.can.fbOf i.val).status = byteAt frame.data 6)) ∧
  -- CAN_RECOVERED (R386)
  (∀ (port : Fin 4) (s : State), Sized s → (s.can.port port.val).phase = .busOff → (s.can.port port.val).recovering = true →
      ∃ t, exec (.canRecovered port) s = .next t ∧
        (t.can.port port.val).phase = .errorActive ∧ (t.can.port port.val).tec = 0 ∧ (t.can.port port.val).rec_ = 0 ∧
        (t.can.port port.val).recovering = false) ∧
  -- MIRROR_END (R387)
  (∀ (port : Fin 4) (s : State), Sized s → (s.can.port port.val).mirrored = true → (s.can.port port.val).phase = .errorActive →
      1000000000 ≤ s.now - (s.can.port port.val).activeAt →
      ∃ t, exec (.mirrorEnd port) s = .next t ∧ (t.can.port port.val).mirrored = false) ∧
  -- CAN_ERROR_DETECTED (R385)
  (∀ (port : Fin 4) (dominant : Bool) (s : State), Sized s → (s.can.port port.val).onBus = true → (s.can.port port.val).listens = false →
      ∃ t, exec (.canErrorDetected port dominant) s = .next t ∧
        (t.can.port port.val).errFrames = satInc 32 (s.can.port port.val).errFrames ∧
        (t.can.port port.val).rec_ = min 255 ((s.can.port port.val).rec_ + if dominant then 8 else 1))

/-- What the commands of the serial and Ethernet ports do: a clause for each command, on the states and operands it names (operands and times: logs 5
and 7). -/
def Obligations.CompleteSerialEthernet : Prop :=
  -- SENTENCE_RECEIVED (R400)
  (∀ (port : Fin 4) (line body : Bytes) (backUs : Nat) (s : State), Sized s → s.engineRuns 13 = true → (s.ser.port port.val).mode = 1 →
      (s.ser.port port.val).listens = true → line.length ≤ 82 → sentenceOf line = some body → (s.ser.port port.val).cfg.mru = false →
      s.boundSlots port.val (parseSentence body) ≠ [] →
      ∃ t, exec (.sentenceReceived port line backUs false) s = .next t ∧
        (t.ser.port port.val).rx = satInc 32 (s.ser.port port.val).rx ∧ (t.ser.port port.val).lastRx = s.now ∧ (t.ser.port port.val).silent = false ∧
        (t.ser.port port.val).rxErrors = (s.ser.port port.val).rxErrors) ∧
  -- PORT_SILENT (R402)
  (∀ (port : Fin 4) (s : State), Sized s → s.engineRuns 13 = true → (s.ser.port port.val).mode ≠ 0 → (s.ser.port port.val).silent = false →
      (s.ser.port port.val).quietSince + (s.ser.port port.val).cfg.silence * 1000000000 ≤ s.now →
      ∃ t, exec (.portSilent port) s = .next t ∧ (t.ser.port port.val).silent = true ∧ (t.ser.port port.val).silentAt = s.now ∧ t.fus = s.fus) ∧
  -- SENTENCE_TRANSMIT (R403)
  (∀ (iface : Fin 6) (kind : Fin 5) (s : State), Sized s → iface.val < 4 → s.engineRuns 13 = true → (s.ser.port iface.val).talks = true →
      s.sentenceDue kind.val ((s.ser.port iface.val).cfg.rates.getD kind.val 0) ((s.ser.port iface.val).formedAt.getD kind.val none) = true →
      (s.ser.port iface.val).formedAt.length = 5 → (s.ser.port iface.val).busyUntil ≤ s.now →
      s.now < s.fus.snap.tov + sentencePeriod kind.val ((s.ser.port iface.val).cfg.rates.getD kind.val 0) →
      ∃ t, exec (.sentenceTransmit iface kind) s = .next t ∧
        (t.ser.port iface.val).tx = satInc 32 (s.ser.port iface.val).tx ∧
        (t.ser.port iface.val).sent.getLast? = some (s.now, frameSentence (s.bodyOf kind.val (leBytes 2 (s.ser.port iface.val).cfg.talker))) ∧
        (t.ser.port iface.val).formedAt.getD kind.val none = some s.fus.snap.tov ∧ t.eth = s.eth ∧ t.fus = s.fus) ∧
  -- LINK_DOWN (R405)
  (∀ (port : Fin 2) (s : State), Sized s → s.domOn 10 = true → (s.eth.ports.getD port.val {}).link = true →
      ∃ t, exec (.linkDown port) s = .next t ∧ (t.eth.ports.getD port.val {}).link = false ∧ (t.eth.ports.getD port.val {}).speed = 0 ∧ t.ser = s.ser) ∧
  -- LINK_UP (R405)
  (∀ (port : Fin 2) (gigabit : Bool) (s : State), Sized s → s.domOn 10 = true → (s.eth.ports.getD port.val {}).link = false →
      ∃ t, exec (.linkUp port gigabit) s = .next t ∧
        (t.eth.ports.getD port.val {}).link = true ∧ (t.eth.ports.getD port.val {}).speed = (if gigabit then 2 else 1) ∧ t.ser = s.ser) ∧
  -- ETH_RX_FRAME (R406)
  (∀ (port : Fin 2) (s : State), Sized s → s.ethUp port.val = true → (s.eth.ports.getD port.val {}).second = s.now / 1000000000 →
      (s.eth.ports.getD port.val {}).frames < 20000 →
      ∃ t, exec (.ethRxFrame port .arp) s = .next t ∧
        (t.eth.ports.getD port.val {}).rxFrames = satInc 32 (s.eth.ports.getD port.val {}).rxFrames ∧
        (t.eth.ports.getD port.val {}).txFrames = satInc 32 (s.eth.ports.getD port.val {}).txFrames ∧
        (t.eth.ports.getD port.val {}).rxDropped = (s.eth.ports.getD port.val {}).rxDropped ∧ t.ses = s.ses ∧ t.log = s.log) ∧
  -- TCP_CONNECT (R406)
  (∀ (port : Fin 2) (addr id : Nat) (s : State), Sized s → s.ethUp port.val = true → (s.eth.ports.getD port.val {}).second = s.now / 1000000000 →
      (s.eth.ports.getD port.val {}).frames < 20000 → s.ses.conns.any (fun c => c.id == id) = false →
      (s.ses.conns.filter fun c => c.session.isNone).length < 40 → s.saf.ioFail = false → s.fullBist = false →
      ∃ t, exec (.tcpConnect port 4816 addr id) s = .next t ∧
        t.ses.conns = s.ses.conns ++ [{ id := id, addr := addr, port := port.val, accepted := s.now }] ∧ t.ses.sessions = s.ses.sessions) ∧
  -- S450_DATAGRAM (R407)
  (∀ (port : Fin 2) (group : Fin 16) (payload tag line src body : Bytes) (backUs : Nat) (s : State), Sized s → s.ethUp port.val = true →
      (s.eth.ports.getD port.val {}).second = s.now / 1000000000 → (s.eth.ports.getD port.val {}).frames < 20000 →
      (s.eth.ports.getD port.val {}).joined.contains group.val = true → payload.take 6 = ascii "UdPbC" ++ [0] → s450Lines payload.length (payload.drop 6) = [(tag, line)] →
      (tagParams tag).find? (fun e => e.1 == 0x73) = some (0x73, src) →
      (tagParams tag).any (fun e => e.1 == 0x64 && e.2 != (s.eth.ports.getD port.val {}).cfg.sysId) = false → line.length ≤ 82 →
      sentenceOf line = some body → s.s450Slots port.val group.val src (parseSentence body) ≠ [] →
      ∃ t, exec (.s450Datagram port group payload backUs) s = .next t ∧
        (t.eth.ports.getD port.val {}).rxFrames = satInc 32 (s.eth.ports.getD port.val {}).rxFrames ∧
        (t.eth.ports.getD port.val {}).s450Rx = satInc 32 (s.eth.ports.getD port.val {}).s450Rx ∧
        (t.eth.ports.getD port.val {}).s450Sentence = (s.eth.ports.getD port.val {}).s450Sentence ∧ t.ser.ports = s.ser.ports)

/-- What the commands of the store and the recorder do: a clause for each command, on the states and operands it names (operands and times: logs 5 and
7). -/
def Obligations.CompleteStore : Prop :=
  -- AQF_WRITE_SUBMIT (R486)
  (∀ (engine : Fin 16) (key : StoreKey) (size : Nat) (data : StoreData) (s : State), s.suRuns = true → key.part < 7 →
      (refreshBudget s).noTag size = none → (makeRoom key size (refreshBudget s)).admission key (classOf key.part) size = none →
      ∃ t, exec (.aqfWriteSubmit engine key size data) s = .next t ∧
        (∃ w ∈ t.aqf.writes, w.tag = s.newTag 0x1A engine.val ∧ w.key = key ∧ w.cls = classOf key.part ∧ w.size = size ∧ w.data = data) ∧
        t.aqf.writes.length = s.aqf.writes.length + 1 ∧ s.newTag 0x1A engine.val ∈ t.tags.open_) ∧
  -- AQF_WRITE_COMMIT (R487)
  (∀ (tag : Word) (w : StoreWrite) (b : Bytes) (s : State), s.suRuns = true → s.aqf.write tag.toNat = some w → s.mayCommit w = true →
      w.data = .bytes b →
      ∃ t, exec (.aqfWriteCommit tag false) s = .next t ∧
        (∃ o ∈ t.aqf.objs, o.key = w.key ∧ o.size = w.size ∧ o.data = w.data ∧ o.crcOk = true ∧ o.inJournal = decide (w.size ≤ 32768)) ∧
        (∀ x ∈ t.aqf.writes, x ∈ s.aqf.writes ∧ x.tag.same w.tag = false) ∧ (w.key, w.tag, StoreResult.ok, s.now) ∈ t.aqf.done) ∧
  -- AQF_READ (R489)
  (∀ (key : StoreKey) (block : Nat) (o : StoreObj) (s : State), s.aqf.phase = .ready → s.domOn 7 = true →
      s.aqf.objs.find? (fun x => x.key == key) = some o → o.inJournal = false →
      ∃ t, exec (.aqfRead key (.uncorrectable block)) s = .next t ∧
        t.aqf.mediaErrors = satInc 32 s.aqf.mediaErrors ∧ (∀ x ∈ t.aqf.objs, x.key = key → x.crcOk = false) ∧ t.aqf.journal = s.aqf.journal) ∧
  -- AQF_READ of a readable object, from the journal or from flash (R489)
  (∀ (key : StoreKey) (o : StoreObj) (s : State), s.aqf.phase ≠ .mounting → s.aqf.phase ≠ .failed →
      s.aqf.objs.find? (fun x => x.key == key) = some o → (o.inJournal = true ∨ (s.domOn 7 = true ∧ o.crcOk = true)) →
      ∃ t, exec (.aqfRead key .none_) s = .next t ∧
        t.aqf.reads = { key := key, result := .ok, obj := some o, at_ := s.now } :: s.aqf.reads ∧ t.aqf.objs = s.aqf.objs ∧
        t.aqf.journal = s.aqf.journal ∧ t.log = s.log) ∧
  -- JOURNAL_DRAIN (R490)
  (∀ (pages extra : Nat) (erases : Erases) (eraseMean : F32) (s : State), s.flashFree = true →
      ∃ t, exec (.journalDrain pages extra erases eraseMean .none_) s = .next t ∧
        t.aqf.journal = s.aqf.journal - min pages (s.aqf.journal / 4096) * 4096 ∧
        t.aqf.lifeBytes = s.aqf.lifeBytes + min pages (s.aqf.journal / 4096) * 4096 + extra ∧ t.aqf.eraseMax = max s.aqf.eraseMax erases.most ∧
        t.log = s.log) ∧
  -- WEAR_RELOCATION (R491)
  (∀ (bytes block : Nat) (erases : Erases) (eraseMean : F32) (s : State), s.flashFree = true → s.aqf.uneven = true → s.aqf.phase = .ready → 5 < s.aqf.spare →
      ∃ t, exec (.wearRelocation bytes erases eraseMean (.erase block)) s = .next t ∧
        t.aqf.lifeBytes = s.aqf.lifeBytes + bytes ∧ t.aqf.spare = s.aqf.spare - 1 ∧ t.aqf.retired = satInc 16 s.aqf.retired ∧
        t.aqf.mediaErrors = satInc 32 s.aqf.mediaErrors ∧ t.aqf.phase = .ready) ∧
  -- WEAR_RELOCATION of readable data (R491)
  (∀ (bytes : Nat) (erases : Erases) (eraseMean : F32) (s : State), s.flashFree = true → s.aqf.uneven = true →
      ∃ t, exec (.wearRelocation bytes erases eraseMean .none_) s = .next t ∧
        t.aqf.lifeBytes = s.aqf.lifeBytes + bytes ∧ t.aqf.eraseMax = max s.aqf.eraseMax erases.most ∧ t.aqf.eraseMean = f32Val eraseMean ∧
        t.aqf.objs = s.aqf.objs ∧ t.aqf.journal = s.aqf.journal ∧ t.aqf.spare = s.aqf.spare ∧ t.log = s.log) ∧
  -- SEDIMENT_FLUSH (R502)
  (∀ (s : State), s.flushTrigger = true → s.aqf.phase = .ready → s.aqf.flushing = false →
      s.aqf.writes.length < 64 → s.aqf.journal + s.aqf.reserved + (32 * s.log.unflushed + 64) + 160 * 1024 ≤ ringSize → s.log.logFault = false →
      ∃ t, exec (.sedimentFlush false) s = .next t ∧
        t.log.flushed = s.log.seq ∧ t.log.failSince = none ∧ t.log.flushTotal = satInc 32 s.log.flushTotal ∧
        t.aqf.journal = s.aqf.journal + 32 * s.log.unflushed + 64) ∧
  -- SUPPRESSED (R503)
  (∀ (code : BitVec 16) (s : State), 0 < (bucketAt s.log (s.eventEntry code.toNat) s.now).supp →
      0 < (bucketAt s.log (s.eventEntry code.toNat) s.now).tokens → s.log.unflushed < 4096 →
      ∃ t, exec (.suppressed code) s = .next t ∧
        t.log.seq = (s.log.seq + 1) % 2 ^ 32 ∧
        (∃ r ∈ t.log.buffer, r.code = 0x1B11 ∧ r.seq = t.log.seq ∧ r.time = (bucketAt s.log (s.eventEntry code.toNat) s.now).suppLast)) ∧
  -- LOG_FAULT (R508)
  (∀ (s : State), s.log.logFault = false → s.log.bufferEcc = true →
      ∃ t, exec (.logFault 1) s = .next t ∧ t.log.logFault = true ∧ t.log.volatileOnly = true ∧ t.log.faultCause = 1) ∧
  -- TAG_COMPLETION (R55)
  (∀ (tag : Word) (status : Fin 4) (o : Tag) (s : State), s.tags.open_.find? (tagOf tag.toNat).same = some o →
      ∃ t, exec (.tagCompletion tag status) s = .next t ∧
        t.tags.completed = (o, tagStatusOf status.val, s.now) :: s.tags.completed ∧
        t.tags.open_ = s.tags.open_.filter (fun x => !x.same (tagOf tag.toNat)) ∧ t.log = s.log)

/-- What the commands of the start-up and the self-test do: a clause for each command, on the states and operands it names (operands and times: logs 5
and 7). -/
def Obligations.CompleteStartTest : Prop :=
  -- BOOT (R77)
  (∀ (s : State), s.pwr.resetHeld = false → s.pwr.supply = .normal → s.sup.startPhase = 1 → s.sup.suRetryAt = none →
      ∃ t, exec .boot s = .next t ∧
        t.sup.startPhase = 2 ∧ t.aqf.marker = false ∧ (s.aqf.marker = true → s.aqf.markerRestart = false → t.sup.resetCause = 1)) ∧
  -- JOURNAL_REPLAY (R498)
  (∀ (transactions : Nat) (headerGood : Bool) (s : State), s.inPhase 2 = true →
      ∃ t, exec (.journalReplay transactions headerGood) s = .next t ∧
        t.sup.startPhase = 3 ∧ t.aqf.replayed = sat 32 transactions ∧ t.aqf.rebuilt = !headerGood ∧ t.aqf.writes = s.aqf.writes) ∧
  -- KEY_READ (R542)
  (∀ (found : KeyRead) (s : State), s.inPhase 3 = true → s.cfg.keyPresent = false → (s.pwr.domFault.getLsbD 7) = false →
      ∃ t, exec (.keyRead found) s = .next t ∧
        t.sup.startPhase = 5 ∧ t.sup.noImage = true ∧ t.cfg.errCause = 1 ∧ t.cfg.image = none ∧ t.domOn 7 = true) ∧
  -- KEY_READ of a key whose image reads without fault (R542, R545 to R548, R550)
  (∀ (found : KeyRead) (s : State), s.inPhase 3 = true → s.cfg.keyPresent = true → found.jedec ≠ 0 → found.jedec ≠ 0xFFFFFF →
      s.pwr.domFault.getLsbD 7 = false → (readImage (keyView s.cfg.keyBytes found.pulledAt)).2.fail = none →
      ∃ t, exec (.keyRead found) s = .next t ∧
        t.sup.startPhase = 4 ∧ t.domOn 7 = true ∧ t.cfg.jedec = found.jedec.toNat ∧
        t.cfg.header = (readImage (keyView s.cfg.keyBytes found.pulledAt)).1 ∧
        t.cfg.records = (readImage (keyView s.cfg.keyBytes found.pulledAt)).2.records ∧
        t.cfg.check = crc32c (readImage (keyView s.cfg.keyBytes found.pulledAt)).2.covered) ∧
  -- IMAGE_VALIDATION (R549)
  (∀ (im : Image) (s : State), s.inPhase 4 = true → validate s.sup.variantF s.icx.memberId s.cfg.records = (im, none) →
      ∃ t, exec .imageValidation s = .next t ∧
        t.sup.startPhase = 5 ∧ t.cfg.image = some im ∧ (s.cfg.confirmed.any (fun c => c.1 == s.cfg.check) = false → t.sup.locked = true)) ∧
  -- DOMAIN_SWITCH_ON (R77)
  (∀ (latchBad : Bool) (s : State), s.inPhase 5 = true → s.pwr.domFault = 0 →
      ∃ t, exec (.domainSwitchOn latchBad) s = .next t ∧ t.sup.startPhase = 6 ∧ [1, 2, 3, 4, 5, 6, 8, 9, 10, 11, 12].all t.domOn = true) ∧
  -- LEARNED_STATE_LOAD (R290)
  (∀ (h : HotStart) (o : StoreObj) (s : State), s.inPhase 7 = true → s.aqf.phase ≠ .failed → s.domOn 7 = true →
      s.aqf.objs.find? (fun x => x.key == hotKey) = some o → o.data = .hotStart h → o.crcOk = true →
      ∃ t, exec .learnedStateLoad s = .next t ∧ t.sup.startPhase = 8 ∧ t.gns.hot = h ∧ t.aqf.objs = s.aqf.objs) ∧
  -- START_COMPLETE (R82)
  (∀ (s : State), s.inPhase 8 = true →
      ∃ t, exec .startComplete s = .next t ∧
        t.sup.startPhase = 0 ∧ t.sup.pendMode = some { target := s.firstMode, cause := if s.sup.noImage then 7 else 1 } ∧
        t.sup.startTime = sat 32 (msOf (s.tim.frameAt + 20000000 - s.sup.startAt))) ∧
  -- START_UP_BIST (R532)
  (∀ (s : State), Sized s → s.sup.startPhase = 6 → s.suRuns = true → s.pwr.supply = .normal →
      ∃ t, exec (.startUpBist (partSigs.map fun n => BitVec.ofNat 32 n)) s = .next t ∧
        t.sup.startPhase = 7 ∧ t.bst.pass = true ∧ t.bst.state = 2 ∧ t.bst.kind = 0 ∧ t.bst.failedMask = s.bst.failedMask) ∧
  -- BG_SLICE (R534)
  (∀ (unit : Fin 24) (s : State), Sized s → s.takesSlice unit.val = true → (s.bst.units.getD unit.val {}).slice + 1 < slicesOf unit.val →
      ∃ t, exec (.bgSlice unit true 0) s = .next t ∧
        (t.bst.units.getD unit.val {}).slice = (s.bst.units.getD unit.val {}).slice + 1 ∧ (t.bst.units.getD unit.val {}).repeat_ = false ∧
        t.bst.failedMask = s.bst.failedMask ∧ t.log = s.log) ∧
  -- BIST_DONE (R533)
  (∀ (s : State), Sized s → s.bst.state = 1 → s.bst.kind = 2 → s.suRuns = true →
      ∃ t, exec (.bistDone (fullSigs.map fun n => BitVec.ofNat 32 n)) s = .next t ∧
        t.bst.state = 2 ∧ t.bst.pass = true ∧ t.bst.passMask = 0xFFFFFF ∧ t.bst.devSig = crc64 (fullSigs.flatMap fun n => leBytes 4 n))

/-- What the commands of the engines, the thermal supervision and the key do: A domain switch's trip level is a free value within 10 % of its nominal
one (log 28). a clause for each command, on the states and operands it names (operands and times: logs 5 and 7). -/
def Obligations.CompleteSupervision : Prop :=
  -- ENGINE_LOST (R32)
  (∀ (engine : Fin 16) (frames : Nat) (s : State), Sized s → engine.val < 14 → 2 ≤ frames → s.domOn (engineDomain engine.val) = true →
      s.suRuns = true → (s.sup.engines.getD engine.val {}).lost = false →
      ∃ t, exec (.engineLost engine frames) s = .next t ∧
        (t.sup.engines.getD engine.val {}).lost = true ∧ (∀ x ∈ t.tags.open_, x.engine ≠ engine.val) ∧
        (∀ x ∈ s.tags.open_, x.engine = engine.val → (x, TagStatus.abandoned, s.now) ∈ t.tags.completed) ∧
        (8 ≤ engine.val → engine.val ≠ 12 → t.sup.held = true)) ∧
  -- STAGE_DEADLINE (R47)
  (∀ (stage : Fin 9) (lateNs : Nat) (s : State), Sized s → stage.val < 6 → s.sup.stageDone.getLsbD stage.val = false →
      s.sup.stageMissed.getLsbD stage.val = false → s.suRuns = true → s.stagesRun = true →
      ∃ t, exec (.stageDeadline stage lateNs) s = .next t ∧
        t.sup.dlStatus.getLsbD stage.val = true ∧ t.sup.stageMissed.getLsbD stage.val = true ∧
        t.sup.dlCount.getD stage.val 0 = satInc 32 (s.sup.dlCount.getD stage.val 0) ∧ t.now = max s.now (s.tim.frameAt + stageLimit stage.val)) ∧
  -- SYNC_PORT_WORD (R41)
  (∀ (port : Fin 6) (dropped : Nat) (s : State), Sized s → 0 < dropped →
      ∃ t, exec (.syncPortWord port dropped none) s = .next t ∧
        (t.hdr.getD 1 {}).lastCode = 0x0115 ∧ (t.hdr.getD 1 {}).lastInst = port.val ∧ t.sig = s.sig ∧ t.sup = s.sup) ∧
  -- SYNC_PORT_WORD, a sample of the modulator island into the fabric (R41)
  (∀ (chan : Fin 16) (raw : F32) (backUs : Nat) (s : State), Sized s → (s.sig.chan chan.val).phase ≠ .stopped →
      ∃ t, exec (.syncPortWord 1 0 (some (chan, raw, backUs))) s = .next t ∧
        (t.sig.chan chan.val).raw = f32Val raw ∧ (t.sig.chan chan.val).stamp = (s.sig.chan chan.val).stampAt (s.now - backUs * 1000) ∧
        (t.sig.chan chan.val).value = f32Val raw * (s.sig.chan chan.val).scale + (s.sig.chan chan.val).offset ∧
        (t.sig.chan chan.val).valid = ((s.sig.chan chan.val).phase == .running) ∧ t.sup = s.sup) ∧
  -- MEMORY_SCRUB (R43)
  (∀ (find : MemFind) (s : State), s.memoryOn find.memory = true → memoryHolds find.memory find.addr = true → s.suRuns = true → s.rowRetired find.memory find.addr = false →
      find.memory ≠ 14 → find.uncorrectable = false →
      ∃ t, exec (.memoryScrub find) s = .next t ∧
        t.sup.eccCorr = satInc 32 s.sup.eccCorr ∧ t.sup.eccUncorr = s.sup.eccUncorr ∧ t.tags = s.tags ∧ t.cfg = s.cfg) ∧
  -- SU_RETRY (R80)
  (∀ (at_ : Nat) (s : State), s.sup.suRetryAt = some at_ → s.pwr.resetHeld = false → s.sup.suRetries < 3 →
      ∃ t, exec .suRetry s = .next t ∧ t.sup.suRetries = s.sup.suRetries + 1 ∧ t.sup.suRetryAt = none ∧ t.now = max s.now at_ ∧ t.sup.startAt = t.now) ∧
  -- DOMAIN_FAULT (R523)
  (∀ (dom : Fin 13) (amps : F32) (us : Nat) (s : State), 100 ≤ us → s.domOn dom.val = true → f32Finite amps = true →
      tripLevel dom.val * clampQ (9/10) (11/10) (Config.tripFactor dom.val) < f32Val amps → dom.val ≠ 0 →
      ∃ t, exec (.domainFault dom amps us) s = .next t ∧ t.pwr.domFault.getLsbD dom.val = true ∧ t.domOn dom.val = false) ∧
  -- SU_RESET_MONITOR (R32)
  (∀ (s : State), s.pwr.resetHeld = false → s.sup.suRetryAt = none →
      ∃ t, exec .suResetMonitor s = .next t ∧
        t.sup.suRetryAt = some (t.now + 1000000000) ∧ t.sup.resetCause = 3 ∧ t.sup.suRetries = s.sup.suRetries ∧ t.sup.mode = .start ∧
        t.sup.startPhase = 1 ∧ t.log.seq = s.log.seq ∧ t.aqf.objs = s.aqf.objs ∧
        t.cfg.keyBytes = if s.cfg.writing then [] else s.cfg.keyBytes) ∧
  -- MODE_FALLBACK (R71)
  (∀ (since : Nat) (s : State), s.stagesRun = true → s.sup.mode = .autoPos → s.standsBack = false → s.fus.posBad = some since → s.fus.hdgBad = none →
      nsOf s.scalars.drLimit < s.now - since → s.fus.snap.hdgValid = true → s.now ≠ s.tim.frameAt →
      ∃ t, exec .modeFallback s = .next t ∧ t.sup.fallDue = some (2, msOf (s.now - since)) ∧ t.sup.mode = .autoPos ∧ t.ctl = s.ctl) ∧
  -- THERMAL_SWEEP (R525)
  (∀ (readings : List (Fin 4 × F32)) (s : State), Sized s → s.suRuns = true → s.stagesRun = true → s.thm.sweepAt ≠ some s.tim.frameAt →
      s.tim.frameAt % (s.scalars.sweepMs * 1000000) = 0 → readings.length = 9 →
      (∀ r ∈ readings, r.1 = 0 ∧ f32Finite r.2 = true ∧ -55 ≤ f32Val r.2 ∧ f32Val r.2 ≤ 150) →
      ∃ t, exec (.thermalSweep readings) s = .next t ∧
        t.thm.sweepAt = some s.tim.frameAt ∧ t.thm.sweep = readings.map (fun r => some (f32Val r.2)) ∧ (∀ x ∈ t.thm.sensors, x.fault = false) ∧
        t.now = max s.now (s.tim.frameAt + 2000000)) ∧
  -- SWEEP_END (R526)
  (∀ (at_ : Nat) (s : State), s.suRuns = true → s.thm.sweep ≠ [] → s.thm.sweepAt = some at_ →
      (({ s with
        thm := { s.thm with sensors := s.thm.sensors.mapIdx fun i x => countReading (s.thm.sweep.getD i none) x } } : State).moduleBand) = .warm →
      s.thm.band = .normal →
      ∃ t, exec .sweepEnd s = .next t ∧
        t.thm.band = .warm ∧ t.thm.bandChanges = satInc 32 s.thm.bandChanges ∧ t.sup.marginNext = .standard ∧
        t.thm.refreshMs = min s.thm.refreshMs 32 ∧ t.thm.sweep = [] ∧ t.now = max s.now (at_ + 6500000) ∧ t.thm.req = false) ∧
  -- THROTTLE_ENFORCED (R528)
  (∀ (g : Nat) (s : State), s.thm.graceEnd = some g → s.suRuns = true → s.thm.band.tooHot = true → g ≤ s.tim.frameAt → s.thm.enforced = false →
      ∃ t, exec .throttleEnforced s = .next t ∧
        t.thm.enforced = true ∧ t.thm.enforcedAt = s.now ∧ t.thm.graceEnd = none ∧ t.thm.throttleCount = satInc 32 s.thm.throttleCount) ∧
  -- KEY_SWAPPED (R543)
  (∀ (content : Bytes) (protected_ : Bool) (s : State), s.cfg.keyPresent = true → s.suRuns = true → s.cfg.phase3Done = true → s.cfg.writing = true →
      ∃ t, exec (.keySwapped false content protected_) s = .next t ∧
        t.cfg.keyPresent = false ∧ t.cfg.keyBytes = [] ∧ t.cfg.keySwapped = true ∧ t.cfg.phase = .failed ∧ t.cfg.image = s.cfg.image) ∧
  -- KEY_WRITTEN (R566)
  (∀ (s : State), s.cfg.writing = true → s.cfg.keyPresent = true → s.cfg.keyProtected = false → s.domOn 7 = true →
      s.cfg.stagedLen ≤ s.cfg.staged.length →
      ∃ t, exec .keyWritten s = .next t ∧
        t.cfg.phase = .done ∧ t.cfg.pct = 100 ∧ t.cfg.keyBytes.take s.cfg.stagedLen = s.cfg.staged.take s.cfg.stagedLen ∧ t.cfg.image = s.cfg.image ∧
        t.cfg.check = s.cfg.check) ∧
  -- KEY_WRITE_FAIL (R567)
  (∀ (phase : Fin 6) (s : State), s.cfg.writing = true →
      ∃ t, exec (.keyWriteFail 3 phase) s = .next t ∧
        t.cfg.phase = .failed ∧ t.cfg.keyBytes = [] ∧ t.cfg.staged = s.cfg.staged ∧ t.cfg.image = s.cfg.image)

/-- What the commands of the control frame do: a clause for each command, on the states and operands it names (operands and times: logs 5 and 7). -/
def Obligations.CompleteFrame : Prop :=
  -- FRAME_INSTANT (R45)
  (∀ (m : Measured) (s : State), s.suRuns = true → s.stepDue = false →
      ∃ t, exec (.frameInstant m) s = .next t ∧
        t.tim.frameAt = s.tim.frameAt + 20000000 ∧ t.tim.strobed = false ∧ t.tim.step = none ∧ t.sup.fabRate = f32Val m.rate ∧
        t.sup.reqTaken = false ∧ t.sup.margin = s.sup.marginNext ∧ t.pwr.vRail = f32Val m.vRail ∧ t.pwr.draw = f32Val m.draw) ∧
  -- RELEASE_STROBE (R46)
  (∀ (readbacks : List F32) (l : List (Rat × Nat)) (s : State), s.suRuns = true → s.tim.strobed = false → s.stagesRun = true → s.ctl.staged = some l →
      ∃ t, exec (.releaseStrobe readbacks) s = .next t ∧
        t.tim.strobed = true ∧ t.ctl.staged = none ∧ t.now = max s.now (s.tim.frameAt + 16000000) ∧
        (t.saf.thr.map fun x => x.released) = (List.range s.saf.thr.length).map fun i => (l.getD i (0, 0)).1) ∧
  -- TIME_STEP (R466)
  (∀ (d : Nat) (s : State), s.suRuns = true → s.tim.step = some d → s.stepDue = true →
      ∃ t, exec .timeStep s = .next t ∧
        t.now = s.tim.frameAt + 20000000 + d ∧ t.tim.step = none ∧ t.tim.skipUntil = some (t.tim.frameAt + 20000000) ∧
        t.tim.frameAt = (s.tim.frameAt + 20000000 + d) / 20000000 * 20000000 ∧ t.tim.stepCount = satInc 32 s.tim.stepCount ∧ t.tim.lastStepSize = d ∧
        t.tim.offset = s.tim.offset ∧ t.tim.applied = (d : Rat)) ∧
  -- OUTPUT_STAGING (R45)
  (∀ (us : Nat) (s : State), s.stagesRun = true → s.sup.mode ≠ .start → s.sup.stageDone.getLsbD 5 = false →
      s.engineRuns (if s.sup.mode = .dormant then 13 else 9) = true →
      ∃ t, exec (.outputStaging us) s = .next t ∧ t.sup.stageDone.getLsbD 5 = true ∧ t.ctl.staged = some ((List.range 16).map s.stagedThr))

/-- What the commands of the servo ticks and profiles do: a clause for each command, on the states and operands it names (operands and times: logs 5
and 7). -/
def Obligations.CompleteServo : Prop :=
  -- SERVO_TICK (R266)
  (∀ (us : Nat) (s : State), s.tickDue = true → us < 1000 →
      ∃ t, exec (.servoTick us) s = .next t ∧
        t.tim.tickAt = s.tickInstant ∧ t.now = max s.now s.tickInstant ∧ t.srv.tickMax = max s.srv.tickMax us ∧ t.srv.staged = true ∧
        t.srv.overruns = s.srv.overruns) ∧
  -- TICK_ABANDONED (R268)
  (∀ (lateNs : Nat) (s : State), s.tickDue = true →
      ∃ t, exec (.tickAbandoned lateNs) s = .next t ∧
        t.tim.tickAt = s.tickInstant ∧ t.srv.overruns = satInc 32 s.srv.overruns ∧ t.srv.staged = false ∧ t.sup.dlStatus.getLsbD 8 = true) ∧
  -- TICK_GUARD (R269)
  (∀ (ticks : Nat) (s : State), Sized s → s.svRuns = false → s.srv.guard = false → 3 ≤ ticks →
      ∃ t, exec (.tickGuard ticks) s = .next t ∧
        t.srv.guard = true ∧ t.srv.guards = satInc 32 s.srv.guards ∧ t.srv.staged = false ∧
        (∀ path i pitch, t.slewOut path i pitch = .stop) ∧ (t.hdr.getD 14 {}).lastCode = 0x0E12) ∧
  -- SERVO_FAULT (R277)
  (∀ (thr : Fin 16) (pitch : Bool) (c : ThrCfg) (n : Nat) (s : State), Sized s → s.thrCfg thr.val = some c → s.svRuns = true →
      c.hasServo pitch = true → ((s.srv.t thr.val).axis pitch).fault = 0 →
      (modAxis thr.val pitch (fun a => watchAxis c pitch s.now (readAxis s thr.val c pitch s.now a)) s).faultNow thr.val c pitch s.now = n → n ≠ 0 →
      ∃ t, exec (.servoFault thr pitch) s = .next t ∧
        ((t.srv.t thr.val).axis pitch).fault = n ∧ ((t.srv.t thr.val).axis pitch).state = .stop ∧ ((t.srv.t thr.val).axis pitch).staged = .stop ∧
        (t.hdr.getD 14 {}).lastCode = 0x0E10) ∧
  -- SRV_FAULT_CLEARED (R278)
  (∀ (thr : Fin 16) (pitch : Bool) (c : ThrCfg) (since : Nat) (s : State), Sized s → s.thrCfg thr.val = some c → s.svRuns = true →
      ((s.srv.t thr.val).axis pitch).fault ≠ 0 → ((s.srv.t thr.val).axis pitch).fault ≠ 3 → ((s.srv.t thr.val).axis pitch).fault ≠ 4 →
      s.faultGone thr.val c pitch s.now = true → ((s.srv.t thr.val).axis pitch).clearSince = some since → since + 1000000000 ≤ s.now →
      ∃ t, exec (.srvFaultCleared thr pitch) s = .next t ∧
        ((t.srv.t thr.val).axis pitch).fault = 0 ∧ ((t.srv.t thr.val).axis pitch).state = .stop ∧ ((t.srv.t thr.val).axis pitch).dwellFree = true) ∧
  -- PROFILE_STORE (R289)
  (∀ (s : State), s.srv.storeAt < s.now / 600000000000 → s.svRuns = true → s.srv.thr.all (fun t => !t.dirty && !t.storeQueued && t.owed.isEmpty) = true →
      ∃ t, exec .profileStore s = .next t ∧ t.srv.storeAt = s.now / 600000000000 ∧ t.srv.thr = s.srv.thr ∧ t.aqf = s.aqf ∧ t.tags = s.tags) ∧
  -- PROFILE_STORE of a profile that has learned (R289)
  (∀ (i : Nat) (c : ThrCfg) (s : State), Sized s → s.thrusters = [i] → s.thrCfg i = some c → (s.srv.t i).dirty = true →
      (s.srv.t i).owed = [] → s.srv.thr.all (fun t => t.storing.isNone) = true → s.srv.storeAt < s.now / 600000000000 → s.svRuns = true → s.aqf.phase = .ready →
      s.aqf.importPending = false → s.aqf.writes.length < 64 → 24640 + 4194304 ≤ s.aqf.budget →
      s.aqf.journal + s.aqf.reserved + entryBytes 24640 + 192 * 1024 ≤ ringSize → s.partUsed 1 + 24640 ≤ partSize 1 →
      ∃ t, exec .profileStore s = .next t ∧ t.srv.storeAt = s.now / 600000000000 ∧ (t.srv.t i).dirty = false ∧
        ∃ w ∈ t.aqf.writes, w.key = profileKey c.tag 0 0 ∧ w.cls = 2 ∧ w.size = 24640 ∧ (t.srv.t i).storing = some w.tag.word) ∧
  -- PROFILE_SNAPSHOT (R289)
  (∀ (i : Nat) (c : ThrCfg) (s : State), Sized s → s.thrusters = [i] → s.thrCfg i = some c → c.azKind = 1 → s.srv.snapAt < s.now / 7776000000000000 →
      s.svRuns = true →
      ∃ t, exec .profileSnapshot s = .next t ∧
        t.srv.snapAt = s.now / 7776000000000000 ∧ (t.srv.t i).snaps = keepLast 8 ((s.srv.t i).snaps ++ [s.profileRecord i c 2]) ∧
        (t.srv.t i).work = (s.srv.t i).work)

/-- What the commands of the supply do: a clause for each command, on the states and operands it names (operands and times: logs 5 and 7). -/
def Obligations.CompletePower : Prop :=
  -- POWER_FAIL_WARNING (R518)
  (∀ (volts : F32) (s : State), s.pwr.resetHeld = false → f32Finite volts = true → f32Val volts < 33 / 2 → s.pwr.supply = .normal →
      s.aqf.flushing = false →
      ∃ t, exec (.powerFailWarning volts) s = .next t ∧
        t.pwr.supply = .warning ∧ t.pwr.vRail = f32Val volts ∧ t.pwr.warnAt = s.now ∧ t.pwr.shed = true ∧ t.srv.shed = true ∧ t.domOn 3 = false ∧
        t.aqf.flushing = true ∧ t.aqf.suspended = true ∧ t.aqf.savedTime = s.now ∧ t.cfg.writing = false) ∧
  -- FLUSH_DONE (R496)
  (∀ (s : State), s.aqf.flushing = true → s.sup.restarting = false →
      ∃ t, exec .flushDone s = .next t ∧
        t.aqf.flushing = false ∧ t.aqf.marker = true ∧ t.aqf.markerRestart = s.aqf.flushRestart ∧ t.aqf.flushCount = satInc 32 s.aqf.flushCount ∧
        (s.log.logFault = false → t.log.flushed = s.aqf.flushCut)) ∧
  -- POWER_RELEASE (R519)
  (∀ (volts : F32) (ms : Nat) (s : State), 50 ≤ ms → f32Finite volts = true → 35 / 2 ≤ f32Val volts → s.pwr.resetHeld = false →
     s.pwr.supply ≠ .normal →
      ∃ t, exec (.powerRelease volts ms) s = .next t ∧
        t.pwr.supply = .normal ∧ t.pwr.shed = false ∧ t.srv.shed = false ∧ t.pwr.vRail = f32Val volts ∧ t.pwr.dipCount = satInc 32 s.pwr.dipCount ∧
        t.aqf.suspended = false ∧ t.aqf.marker = false ∧ (∀ w ∈ t.aqf.writes, w.begun = true)) ∧
  -- POWER_RESET (R516)
  (∀ (volts : F32) (s : State), f32Finite volts = true → f32Val volts < 14 → s.pwr.resetHeld = false →
      ∃ t, exec (.powerReset volts) s = .next t ∧
        t.pwr.resetHeld = true ∧ t.pwr.vRail = f32Val volts ∧ t.pwr.domOn = State.reset.pwr.domOn ∧ t.sup.mode = .start ∧ t.sup.resetCause = 0 ∧
        t.now = s.aqf.savedTime ∧ t.aqf.objs = s.aqf.objs) ∧
  -- INPUT_LOW (R520)
  (∀ (input : Fin 2) (volts vRail : F32) (ms : Nat) (s : State), s.suRuns = true → 100 ≤ ms → f32Finite volts = true → f32Val volts < 18 →
      18 ≤ f32Val vRail → (s.pwr.inLowAt.getD input.val none) = none → s.pwr.inLow.length = 2 → s.pwr.inLowAt.length = 2 →
      ∃ t, exec (.inputLow input volts vRail ms) s = .next t ∧
        t.pwr.inLow.getD input.val false = true ∧ t.pwr.inLowAt.getD input.val none = some s.now ∧ t.pwr.domOn = s.pwr.domOn) ∧
  -- INPUT_RESTORED (R520)
  (∀ (input : Fin 2) (volts : F32) (ms : Nat) (s : State), s.suRuns = true → 1000 ≤ ms → f32Finite volts = true → 18 ≤ f32Val volts →
      s.pwr.inLow.getD input.val false = true → s.pwr.inLowAt.length = 2 →
      ∃ t, exec (.inputRestored input volts ms) s = .next t ∧
        t.pwr.inLow.getD input.val false = false ∧ t.pwr.inLowAt.getD input.val none = none ∧ t.pwr.domOn = s.pwr.domOn) ∧
  -- DORMANT_SWITCH_OFF_TIMEOUT (R522)
  (∀ (since : Nat) (s : State), s.pwr.dormantSince = some since → s.sup.mode = .dormant → since + 10000000000 ≤ s.tim.frameAt + 20000000 →
      s.gns.wakeAt = none →
      ∃ t, exec .dormantSwitchOffTimeout s = .next t ∧
        t.domOn 4 = false ∧ t.domOn 6 = false ∧ t.pwr.dormantSince = none ∧ t.now = max s.now (since + 10000000000) ∧
        (∀ w ∈ t.aqf.writes, w.key.part ≠ 1 ∧ w.key.part ≠ 3)) ∧
  -- MODE_DOMAIN_SWITCH_ON (R522)
  (∀ (d : Nat) (ds : List Nat) (s : State), s.pwr.onQueue = d :: ds → s.pwr.onAt + 10000000 ≤ s.tim.frameAt + 20000000 → d < 13 →
      s.pwr.domFault.getLsbD d = false →
      ∃ t, exec .modeDomainSwitchOn s = .next t ∧
        t.domOn d = true ∧ t.pwr.onQueue = ds ∧ t.pwr.onAt = s.pwr.onAt + 10000000 ∧ t.now = max s.now (s.pwr.onAt + 10000000))

/-- What the commands of the time base do: a clause for each command, on the states and operands it names (operands and times: logs 5 and 7). -/
def Obligations.CompleteTimeBase : Prop :=
  -- REFERENCE_OFFSET (R464)
  (∀ (domain : Bool) (ns : Int) (s : State), domain = s.refDomain → s.tim.measured = some (domain, ns) → s.tim.state = .slewing → ns.natAbs ≤ 1000 →
      s.tim.tcxoFault = false →
      ∃ t, exec (.referenceOffset domain ns) s = .next t ∧
        t.tim.state = .locked ∧ t.tim.offset = ns ∧ t.tim.offsetAt = some s.now ∧ t.tim.confirmed = true ∧ t.tim.steer = steerOf true (ns : Rat) ∧
        t.tim.step = none) ∧
  -- TIME_UNLOCK (R462)
  (∀ (s : State), s.tim.state = .locked → 5 ≤ s.tim.unlockRun →
      ∃ t, exec .timeUnlock s = .next t ∧
        t.tim.state = .slewing ∧ t.tim.unlockRun = 0 ∧ t.tim.steer = steerOf false (s.tim.offset : Rat) ∧ t.log = s.log) ∧
  -- HOLDOVER_ENTER (R462)
  (∀ (s : State), s.tim.state = .locked → 1000000000 ≤ s.now - s.tim.lastMeasured →
      ∃ t, exec .holdoverEnter s = .next t ∧
        t.tim.state = .holdover ∧ t.tim.steer = 0 ∧ t.tim.holdAt = s.now ∧ t.tim.step = none ∧ t.tim.suspects = []) ∧
  -- TIME_JUMP_RESOLVE (R467)
  (∀ (first : Nat × Int) (ps : List (Rat × Rat)) (s : State), s.tim.suspects.head? = some first → 60000000000 ≤ s.now - first.1 →
      ps = (s.tim.suspects.map fun e => (secOf (e.1 - first.1), (e.2 : Rat))) →
      ps.all (fun p => decide (absQ (p.2 - ((fitLine ps).1 + (fitLine ps).2 * p.1)) ≤ 1000)) = true →
      ∃ t, exec .timeJumpResolve s = .next t ∧
        t.tim.suspects = [] ∧ t.tim.offsetAt = some s.now ∧ t.tim.offset = roundEven ((fitLine ps).1 + (fitLine ps).2 * secOf (s.now - first.1))) ∧
  -- TIME_DEGRADED (R468)
  (∀ (c : Nat) (s : State), s.degradedCause = some c → s.tim.degraded = false →
      ∃ t, exec .timeDegraded s = .next t ∧ t.tim.degraded = true ∧ t.tim.degradedCause = c ∧ t.tim.state = s.tim.state) ∧
  -- CARAFE_SAMPLE (R470)
  (∀ (ppb : F32) (i : Nat) (s : State), carafeBin s.tcxoSensor.temp = some i → s.gns.sols.any (fun x => x.valid) = true →
      (s.tim.meanDrift (s.now / 1000000000)).map f32Of = some ppb → s.tcxoHot = false →
      s.tim.tcxoFault = false → s.now / 1000000000 ≠ s.tim.sampledAt → i < s.tim.model.bins.length →
      ∃ t, exec (.carafeSample ppb) s = .next t ∧
        (t.tim.model.bins.getD i (0, 0)).2 = min 65535 ((s.tim.model.bins.getD i (0, 0)).2 + 1) ∧ t.tim.dayCount = s.tim.dayCount + 1 ∧
        t.tim.modelDirty = true ∧ t.tim.sampledAt = s.now / 1000000000 ∧ t.log = s.log) ∧
  -- CARAFE_DAILY (R471)
  (∀ (s : State), s.tim.dailyAt < s.now / 86400000000000 → 0 < s.tim.dayCount →
      ∃ t, exec .carafeDaily s = .next t ∧
        t.tim.model.days = min 65535 (s.tim.model.days + 1) ∧ t.tim.dayCount = 0 ∧ t.tim.daySum = 0 ∧ t.tim.dailyAt = s.now / 86400000000000 ∧
        (t.tim.model.daily.getLast?.map fun e => e.1) = some (s.tim.model.age s.now)) ∧
  -- CARAFE_STORE (R473)
  (∀ (u : State) (s : State), s.tim.hourAt < s.now / 3600000000000 → s.tim.modelDirty = true →
      u = refreshBudget (s.modTim fun b => { b with hourAt := s.now / 3600000000000 }) → u.noTag 1040 = none →
      (makeRoom carafeKey 1040 u).admission carafeKey 2 1040 = none →
      ∃ t, exec .carafeStore s = .next t ∧
        t.tim.hourAt = s.now / 3600000000000 ∧ t.tim.modelDirty = false ∧ t.tim.model = s.tim.model ∧
        (∃ w ∈ t.aqf.writes, w.key = carafeKey ∧ w.size = 1040 ∧ w.data = .carafe s.tim.model.record)) ∧
  -- PPS_OUT (R475)
  (∀ (s : State), s.tim.confirmed = true → s.now % 1000000000 = 0 → s.tim.ppsAt < s.now → s.now ≤ s.tim.frameAt + 20000000 →
      ∃ t, exec .ppsOut s = .next t ∧ t.tim.ppsHigh = true ∧ t.tim.ppsAt = s.now ∧ t.tim.ppsCount = satInc 32 s.tim.ppsCount ∧ t.now = s.now) ∧
  -- TCXO_FAULT (R479)
  (∀ (deviation : Bool) (s : State), s.tim.tcxoFault = false →
      ∃ t, exec (.tcxoFault deviation) s = .next t ∧
        t.tim.tcxoFault = true ∧ t.tim.steer = 0 ∧ t.tim.step = none ∧ t.tim.holdAt = s.now ∧ (∀ a ∈ t.gns.ants, a.feOn = false) ∧
        (s.tim.state ≠ .free → t.tim.state = .holdover))

/-- What the commands of the GNSS antennas, search and channels do: a clause for each command, on the states and operands it names (operands and
times: logs 5 and 7). -/
def Obligations.CompleteGnssReceive : Prop :=
  -- GNSS_START (R125)
  (∀ (above : List (Nat × Nat)) (s : State), s.sup.startPhase = 8 → s.pwr.supply = .normal → s.gns.starting = false → s.gns.ttff = 0xFFFF → s.engineRuns 12 = true →
      (s.bst.units.getD 12 {}).result = 1 → (s.bst.units.getD 17 {}).result = 1 →
      ∃ t, exec (.gnssStart above) s = .next t ∧
        t.gns.starting = true ∧ t.gns.startKind = s.startKindOf above s.timeHeld ∧ t.gns.startWake = false ∧
        t.gns.asleep = false ∧ t.log = s.log) ∧
  -- ANT_OPEN (R99)
  (∀ (ant : Fin 2) (ma : F32) (ms : Nat) (s : State), Sized s → s.supplyMarkedOff ant.val = false → (s.gns.ant ant.val).supplyOn = true →
      (s.gns.ant ant.val).phase ≠ .open_ → f32Val ma < 3 → 100 ≤ ms →
      ∃ t, exec (.antOpen ant ma ms) s = .next t ∧
        (t.gns.ant ant.val).phase = .open_ ∧ (t.gns.ant ant.val).current = f32Val ma ∧ (t.hdr.getD 8 {}).lastCode = 0x0810 ∧
        (t.hdr.getD 8 {}).lastInst = ant.val ∧ t.gns.chans = s.gns.chans) ∧
  -- ANT_SHORT (R99)
  (∀ (ant : Fin 2) (ma : F32) (s : State), Sized s → s.supplyMarkedOff ant.val = false → (s.gns.ant ant.val).supplyOn = true →
      (s.gns.ant ant.val).phase ≠ .short → 120 < f32Val ma →
      ∃ t, exec (.antShort ant ma) s = .next t ∧
        (t.gns.ant ant.val).phase = .short ∧ (t.gns.ant ant.val).supplyOn = false ∧ (t.gns.ant ant.val).retryAt = s.now ∧
        (∀ i ∈ antChans ant.val, (t.gns.chan i).phase = .idle) ∧ (∀ r ∈ t.gns.queue, antOf r.chan ≠ ant.val ∨ 192 ≤ r.chan)) ∧
  -- ANT_SUPPLY_RETRY (R99)
  (∀ (ant : Fin 2) (ma : F32) (s : State), Sized s → (s.gns.ant ant.val).phase = .short → (s.gns.ant ant.val).supplyOn = false →
      5000000000 ≤ s.now - (s.gns.ant ant.val).retryAt →
      ∃ t, exec (.antSupplyRetry ant ma) s = .next t ∧
        (t.gns.ant ant.val).supplyOn = decide (f32Val ma ≤ 120) ∧ (t.gns.ant ant.val).retryAt = s.now ∧ (t.gns.ant ant.val).current = f32Val ma ∧
        (t.gns.ant ant.val).phase = .short ∧ t.log = s.log) ∧
  -- ANT_RESTORED (R99)
  (∀ (ant : Fin 2) (ma : F32) (ms : Nat) (s : State), Sized s → (s.gns.ant ant.val).phase = .open_ → (s.gns.ant ant.val).supplyOn = true →
      3 ≤ f32Val ma → f32Val ma ≤ 120 → 1000 ≤ ms →
      ∃ t, exec (.antRestored ant ma ms) s = .next t ∧
        (t.gns.ant ant.val).phase = .ok ∧ (t.gns.ant ant.val).assignAt = s.tim.frameAt + 20000000 ∧ (t.hdr.getD 8 {}).lastCode = 0x0812) ∧
  -- FRONT_END_READY (R98)
  (∀ (ant : Fin 2) (s : State), Sized s → (s.gns.ant ant.val).feOn = false → (s.gns.ant ant.val).feSince.isSome = true →
      s.domOn (1 + ant.val) = true → s.tim.tcxoFault = false →
      ∃ t, exec (.frontEndReady ant) s = .next t ∧
        (t.gns.ant ant.val).feOn = true ∧ (t.gns.ant ant.val).feSince = none ∧
        (s.gns.starting = true → s.gns.startAt = none → t.gns.startAt = some s.now)) ∧
  -- ACQ_PASS (R101)
  (∀ (windows : Nat) (found : List Nat) (r : SearchReq) (s : State), Sized s → s.domOn 3 = true → s.gns.queue = [r] → 1 ≤ r.prio → r.prio ≤ 5 →
      r.cells ≤ 16384 → r.chan < 192 → found.contains r.chan = true → (s.gns.chan r.chan).phase = .search →
      ∃ t, exec (.acqPass windows found) s = .next t ∧
        (t.gns.chan r.chan).phase = .pullIn ∧ (t.gns.chan r.chan).since = s.now ∧ t.gns.queue = [] ∧ t.gns.queueEmptyAt = s.now ∧ s.now ∈ t.gns.passes) ∧
  -- ACQ_IDLE (R102)
  (∀ (s : State), s.domOn 3 = true → s.gns.queue = [] → 10000000000 ≤ s.now - s.gns.queueEmptyAt → s.sup.mode ≠ .start →
      ∃ t, exec .acqIdle s = .next t ∧ t.domOn 3 = false ∧ t.gns.acqWanted = false ∧ t.gns.chans = s.gns.chans ∧ t.log = s.log) ∧
  -- ACQ_POWER_ON (R102)
  (∀ (s : State), s.domOn 3 = false → s.gns.queue ≠ [] → s.grantPd3 = true →
      ∃ t, exec .acqPowerOn s = .next t ∧ t.domOn 3 = true ∧ t.gns.acqWanted = false ∧ t.gns.queue = s.gns.queue) ∧
  -- CHANNEL_SEARCH_TIMEOUT (R105)
  (∀ (ch : Fin 192) (s : State), Sized s → (s.gns.chan ch.val).phase = .search →
      (if (s.gns.chan ch.val).prio ≤ 3 then 10000000000 else 30000000000) ≤ s.now - (s.gns.chan ch.val).since →
      ∃ t, exec (.channelSearchTimeout ch) s = .next t ∧ (t.gns.chan ch.val).phase = .idle ∧ (∀ r ∈ t.gns.queue, r.chan ≠ ch.val) ∧ t.log = s.log) ∧
  -- CHANNEL_PULL_IN (R105)
  (∀ (ch : Fin 192) (lockMs : Nat) (s : State), Sized s → (s.gns.chan ch.val).phase = .pullIn → 200 ≤ lockMs →
      ∃ t, exec (.channelPullIn ch lockMs true) s = .next t ∧
        (t.gns.chan ch.val).phase = .track ∧ (t.gns.chan ch.val).since = s.now ∧ t.gns.queue = s.gns.queue) ∧
  -- CHANNEL_PULL_IN_TIMEOUT (R105)
  (∀ (ch : Fin 192) (s : State), Sized s → (s.gns.chan ch.val).phase = .pullIn → 1000000000 ≤ s.now - (s.gns.chan ch.val).since →
      ∃ t, exec (.channelPullInTimeout ch) s = .next t ∧
        (t.gns.chan ch.val).phase = .search ∧ (t.gns.chan ch.val).prio = 1 ∧ { prio := 1, chan := ch.val, cells := 384, at_ := s.now } ∈ t.gns.queue) ∧
  -- CHANNEL_TRACK_LOSS (R105)
  (∀ (ch : Fin 192) (weakMs unlockMs : Nat) (s : State), Sized s → (s.gns.chan ch.val).phase = .track → 500 ≤ weakMs ∨ 100 ≤ unlockMs →
      ∃ t, exec (.channelTrackLoss ch weakMs unlockMs) s = .next t ∧
        (t.gns.chan ch.val).phase = .search ∧ (t.gns.chan ch.val).prValid = false ∧ (t.gns.chan ch.val).cpValid = false ∧
        (t.gns.chan ch.val).lockTime = 0 ∧ { prio := 1, chan := ch.val, cells := 384, at_ := s.now } ∈ t.gns.queue)

/-- What the commands of the GNSS solutions do: a clause for each command, on the states and operands it names (operands and times: logs 5 and 7). -/
def Obligations.CompleteGnssSolve : Prop :=
  -- GT_SNAPSHOT_PUBLISH (R110)
  (∀ (us : Nat) (ma : List F32) (sky : List SkySig) (residuals : List (Nat × Rat)) (fixes : List (Option FixIn)) (ego : EgoIn) (nav : NavIn) (s : State),
      s.stagesRun = true → s.engineRuns 12 = true → s.sup.mode ≠ .dormant → us ≤ 600 → s.now ≤ s.tim.frameAt + us * 1000 →
      s.gns.snapFrame ≠ some s.frame →
      ∃ t, exec (.gtSnapshotPublish us ma sky residuals fixes ego nav) s = .next t ∧
        t.gns.snapFrame = some t.frame ∧ t.now = s.tim.frameAt + us * 1000 ∧ t.sup.stageDone.getLsbD 0 = true ∧ t.sup.dlCount = s.sup.dlCount ∧
        t.gns.afterStep = false) ∧
  -- AMBIGUITY_SEARCH_DONE (R113)
  (∀ (ratio : F32) (ndd : Nat) (fix : AmbFix) (s : State), 3 ≤ f32Val ratio → 5 ≤ ndd → s.gns.hdgPhase = .float →
      s.gns.excluded ≠ some fix.ints → f32Finite fix.len = true → s.lengthFits (f32Val fix.len) = true →
      ∃ t, exec (.ambiguitySearchDone 0 ratio ndd fix) s = .next t ∧
        t.gns.hdgFixReady = true ∧ t.gns.hdgFoundAt = s.frame ∧ t.gns.ints = fix.ints ∧ t.gns.excluded = none ∧ t.gns.hdgPhase = .float ∧ t.gns.rtkReady = s.gns.rtkReady) ∧
  -- HDG_WRONG_FIX (R119)
  (∀ (s : State), s.gns.hdgPhase = .fixed → s.gns.lengthFails = 3 →
      ∃ t, exec .hdgWrongFix s = .next t ∧
        t.gns.hdgPhase = .none ∧ t.gns.excluded = some s.gns.ints ∧ t.gns.lengthFails = 0 ∧ t.gns.yawValid = false ∧ t.gns.sols = s.gns.sols) ∧
  -- FIX_LOST (R113)
  (∀ (ant : Fin 2) (since : Nat) (s : State), Sized s → s.gns.sols.length = 2 → (s.gns.sol ant.val).noneSince = some since →
      (s.gns.sol ant.val).lost = false → 1000000000 ≤ s.now - since →
      ∃ t, exec (.fixLost ant) s = .next t ∧
        (t.gns.sol ant.val).lost = true ∧ (t.gns.sol ant.val).noneSince = none ∧ (t.hdr.getD 8 {}).lastCode = 0x0814) ∧
  -- SOLUTION_REVALIDATE (R116)
  (∀ (ant : Fin 2) (until_ : Nat) (s : State), s.gns.sols.length = 2 → (s.gns.sol ant.val).jumpUntil = some until_ → until_ ≤ s.now →
      (s.gns.sol ant.val).type ≠ 0 → (jumpOf (s.gns.sol ant.val) (s.gns.sol ant.val).pos (s.gns.sol ant.val).sigma).2 = false →
      (s.gns.sol ant.val).pdop ≤ s.scalars.pdopMax →
      ∃ t, exec (.solutionRevalidate ant) s = .next t ∧
        (t.gns.sol ant.val).valid = true ∧ (t.gns.sol ant.val).jumpUntil = none ∧
        (t.gns.sol ant.val).carried = some ((s.gns.sol ant.val).pos, s.tim.frameAt) ∧ (t.gns.sol ant.val).lost = false) ∧
  -- RTCM_FRAME (R114)
  (∀ (source : Fin 2) (frame : Bytes) (s : State), s.corrAssigned source.val = true → beNat ((frame.drop (3 + bitsAt frame 14 10)).take 3) ≠ crc24q (frame.take (3 +
     bitsAt frame 14 10)) →
      ∃ t, exec (.rtcmFrame source frame) s = .next t ∧
        t.gns.crcFail = satInc 16 s.gns.crcFail ∧ t.gns.corr = s.gns.corr ∧ t.ser = s.ser ∧ t.log = s.log) ∧
  (∀ (source : Fin 2) (body : Bytes) (s : State), s.corrAssigned source.val = true → body.length < 1024 →
      ∃ t, exec (.rtcmFrame source (rtcmOf body)) s = .next t ∧
        t.gns.crcFail = s.gns.crcFail ∧
        (¬ [1005, 1006, 1033, 1074, 1075, 1077, 1094, 1095, 1097, 1124, 1125, 1127].contains (bitsAt body 0 12) →
          t.gns.unsupported = satInc 16 s.gns.unsupported ∧ t.gns.corr = s.gns.corr) ∧
        (bitsAt body 0 12 = 1005 → s.gns.corr.length = 2 →
          (t.gns.corr.getD source.val {}).station = bitsAt body 12 12 ∧ t.gns.unsupported = s.gns.unsupported ∧
          (t.gns.corr.getD source.val {}).base = some { x := (toSigned 38 (bitsAt body 34 38) : Rat) / 10000
                                                        y := (toSigned 38 (bitsAt body 74 38) : Rat) / 10000
                                                        z := (toSigned 38 (bitsAt body 114 38) : Rat) / 10000 })) ∧
  -- CORR_STALE (R115)
  (∀ (s : State), s.gns.corrActive ≠ 0 → s.corrChoice = 0 →
      ∃ t, exec .corrStale s = .next t ∧ t.gns.corrActive = 0 ∧ t.gns.corrStale = true ∧ t.gns.rtkFixed = [false, false] ∧ t.gns.corr = s.gns.corr) ∧
  -- CORR_SWITCH (R115)
  (∀ (s : State), s.corrChoice ≠ 0 → s.corrChoice ≠ s.gns.corrActive →
      ∃ t, exec .corrSwitch s = .next t ∧ t.gns.corrActive = s.corrChoice ∧ t.gns.corrStale = false ∧ t.gns.corr = s.gns.corr) ∧
  -- JAM_DETECT (R128)
  (∀ (ant : Fin 2) (upper lower : F32) (weak ms : Nat) (s : State), Sized s → (s.gns.ant ant.val).jam = false →
      10 < f32Val upper ∨ 10 < f32Val lower →
      0 < ((antChans ant.val).filter fun i => (s.gns.chan i).phase == .track).length →
      ((antChans ant.val).filter fun i => (s.gns.chan i).phase == .track).length ≤ 2 * weak → 1000 ≤ ms →
      ∃ t, exec (.jamDetect ant upper lower weak ms) s = .next t ∧
        (t.gns.ant ant.val).jam = true ∧ (t.hdr.getD 8 {}).lastCode = 0x081C ∧ t.gns.chans = s.gns.chans) ∧
  -- GNSS_WAKE (R124)
  (∀ (above : List (Nat × Nat)) (s : State), s.sup.mode = .dormant → s.gns.wakeAt = none → s.tim.frameAt % 900000000000 = 0 → s.now = s.tim.frameAt →
      s.pwr.domFault = 0 →
      ∃ t, exec (.gnssWake above) s = .next t ∧
        t.gns.wakeAt = some s.now ∧ t.gns.wakes = satInc 16 s.gns.wakes ∧ t.gns.startWake = true ∧ t.gns.wakeFix = false ∧
        [1, 2, 3, 4].all t.domOn = true) ∧
  -- GNSS_WAKE_END (R124)
  (∀ (at_ : Nat) (s : State), s.gns.wakeAt = some at_ → at_ + 10000000000 ≤ s.now →
      ∃ t, exec .gnssWakeEnd s = .next t ∧
        t.gns.wakeAt = none ∧ t.gns.asleep = true ∧ [1, 2, 3, 4].all (fun d => !t.domOn d) = true ∧ t.gns.queue = [] ∧
        (s.gns.wakeFix = true → t.gns.wakesNoFix = s.gns.wakesNoFix))

/-- What the commands of the reference fusion do: a clause for each command, on the states and operands it names (operands and times: logs 5 and 7).
After FUSION_INPUT_CUT the WRITEs whose pairs it accepted go on (`settle`, CompleteRegisterAccess). -/
def Obligations.CompleteFusion : Prop :=
  -- FUSION_INPUT_CUT (R151)
  (∀ (us : Nat) (s : State), s.fcRuns = true → s.fus.cutAt = none → s.fus.published = false → 1000 ≤ us → us ≤ 20000 →
      ∃ t, t = inputCut us s ∧ exec (.fusionInputCut us) s = .next (settle t) ∧
        t.fus.cutAt = some (s.tim.frameAt + 1000000) ∧ t.now = max s.now (s.tim.frameAt + us * 1000) ∧ (t.fus.formed.map fun f => f.tov) = some s.tim.frameAt ∧
        (t.fus.formed.map fun f => f.frame) = some (frameOf s.tim.frameAt)) ∧
  -- FUSED_SNAPSHOT_PUBLISH (R167)
  (∀ (us : Nat) (f : FusedSnap) (s : State), s.fus.published = false → s.fcRuns = true → s.fus.formed = some f → f.frame = s.frame →
      s.sup.mode ≠ .dormant → s.fus.obs.hdgGate = none → s.fus.obs.posGate = none →
      ∃ t, exec (.fusedSnapshotPublish us) s = .next t ∧
        t.fus.snap = f ∧ t.fus.published = true ∧ t.fus.formed = none ∧ t.sup.stageDone.getLsbD 1 = true) ∧
  -- FUS_SKIP (R166)
  (∀ (f : FusedSnap) (s : State), s.fus.formed = some f → f.frame ≠ s.frame →
      ∃ t, exec .fusSkip s = .next t ∧
        t.fus.formed = none ∧ t.fus.skip = satInc 32 s.fus.skip ∧ t.fus.snap = s.fus.snap ∧ t.fus.obs = s.fus.obsSaved.getD s.fus.obs) ∧
  -- REF_MASKED (R154)
  (∀ (slot : Fin 12) (s : State), Sized s → (s.fus.ref slot.val).voteDue = some true → (s.fus.ref slot.val).mask ≠ .vote →
      ∃ t, exec (.refMasked slot) s = .next t ∧
        (t.fus.ref slot.val).mask = .vote ∧ (t.fus.ref slot.val).vote = true ∧ (t.fus.ref slot.val).contrib = false ∧
        (t.fus.ref slot.val).conf = (s.fus.ref slot.val).conf - 64 ∧ (t.hdr.getD 10 {}).lastCode = 0x0A10) ∧
  -- REF_RESTORED (R155)
  (∀ (slot : Fin 12) (s : State), Sized s → (s.fus.ref slot.val).voteDue = some false →
      ∃ t, exec (.refRestored slot) s = .next t ∧
        (t.fus.ref slot.val).mask = .none ∧ (t.fus.ref slot.val).vote = false ∧ (t.fus.ref slot.val).contrib = true ∧
        (t.fus.ref slot.val).conf = (s.fus.ref slot.val).conf) ∧
  -- REFERENCE_DISAGREE (R157)
  (∀ (hdg : Bool) (lead other : Nat) (d : Rat) (s : State), (s.watch hdg).setDue = some (lead, other, d) →
      ∃ t, exec (.referenceDisagree hdg) s = .next t ∧
        (t.watch hdg).degraded = true ∧ (t.watch hdg).leader = lead ∧ (t.watch hdg).setDue = none ∧ t.watch (!hdg) = s.watch (!hdg)) ∧
  -- DISAGREE_CLEARED (R157)
  (∀ (hdg : Bool) (cause : Nat) (s : State), (s.watch hdg).clearDue = some cause →
      ∃ t, exec (.disagreeCleared hdg) s = .next t ∧ (t.watch hdg).degraded = false ∧ (t.watch hdg).clearDue = none ∧ t.watch (!hdg) = s.watch (!hdg)) ∧
  -- OBS_POS_RESET (R163)
  (∀ (h : Rat) (s : State), s.fus.obs.hdgGate = some h → persists s.fus.obs.hdgGateSince s.fus.obs.at_ 1000000000 = true →
      ∃ t, exec (.obsPosReset true) s = .next t ∧
        t.fus.obs.x.psi = h ∧ t.fus.obs.hdgGate = none ∧ t.fus.obs.hdgGateSince = none ∧ t.fus.obs.x.n = s.fus.obs.x.n ∧ t.fus.obs.cov = s.fus.obs.cov) ∧
  -- SETTLED (R162)
  (∀ (s : State), s.fus.obs.started = true → s.fus.obs.settling = true → 60000000000 ≤ s.now - s.fus.obs.startAt →
      ∃ t, exec .settled s = .next t ∧ t.fus.obs.settling = false ∧ t.fus.obs.x = s.fus.obs.x ∧ t.fus.refs = s.fus.refs) ∧
  -- INNOVATION_SAMPLE (R168)
  (∀ (slot : Fin 12) (sec : Nat) (s : State), Sized s → s.fusSecond = some sec → (s.refCfg slot.val).isSome = true →
      (s.fus.ref slot.val).sampledAt ≠ sec → s.learns slot.val = true →
      ∃ t, exec (.innovationSample slot) s = .next t ∧
        (t.fus.ref slot.val).samples = satInc 16 (s.fus.ref slot.val).samples ∧ (t.fus.ref slot.val).learning = true ∧
        (t.fus.ref slot.val).sampledAt = sec ∧ (t.fus.ref slot.val).dirty = true ∧
        (t.fus.ref slot.val).model.seconds = (s.fus.ref slot.val).model.seconds + 1) ∧
  -- CONSISTENCY_CHECK (R158)
  (∀ (slot : Fin 12) (sec : Nat) (d : Rat) (s : State), Sized s → s.fusSecond = some sec → (s.fus.ref slot.val).dSq = some d →
      (s.fus.ref slot.val).contrib = true → (s.fus.ref slot.val).checkedAt ≠ sec →
      ∃ t, exec (.consistencyCheck slot) s = .next t ∧
        (t.fus.ref slot.val).checks = (decide (d ≤ (49 / 20) * (49 / 20)) :: (s.fus.ref slot.val).checks).take 600 ∧
        (t.fus.ref slot.val).conf = (if d ≤ 4 then min 255 ((s.fus.ref slot.val).conf + 1) else (s.fus.ref slot.val).conf) ∧ t.log = s.log) ∧
  -- KERNEL_UPDATE (R169)
  (∀ (slot : Fin 12) (s : State), Sized s → (s.refCfg slot.val).isSome = true → (s.fus.ref slot.val).kernelAt < s.now / 600000000000 →
      s.engineRuns 8 = true → 300 ≤ (s.fus.ref slot.val).samples → finiteUpdate (s.fus.ref slot.val) = true →
      centralBin (decide (8 ≤ slot.val)) (largestBin (decide (8 ≤ slot.val)) (newHist (s.fus.ref slot.val))) = true →
      ∃ t, exec (.kernelUpdate slot) s = .next t ∧
        (t.fus.ref slot.val).modelNext = some { (s.fus.ref slot.val).model with
          hist := newHist (s.fus.ref slot.val), scale := newScale (s.fus.ref slot.val),
          kernel := newKernel (decide (8 ≤ slot.val)) (newHist (s.fus.ref slot.val)) } ∧
        (t.fus.ref slot.val).samples = 0 ∧ (t.fus.ref slot.val).model = (s.fus.ref slot.val).model) ∧
  -- MODEL_STORE (R171)
  (∀ (s : State), s.fus.storedHour < s.now / 3600000000000 → s.engineRuns 8 = true → s.fus.refs.all (fun r => !r.dirty) = true →
      s.now / 2592000000000000 ≤ s.fus.storedPeriod →
      ∃ t, exec .modelStore s = .next t ∧ t.fus.storedHour = s.now / 3600000000000 ∧ t.fus.refs = s.fus.refs ∧ t.aqf = s.aqf) ∧
  -- MODEL_STORE of a changed model (R171)
  (∀ (k : Nat) (c : RefCfg) (s : State), Sized s → k < 12 → s.refCfg k = some c → (∀ j : Nat, j ≠ k → s.refCfg j = none) → (s.fus.ref k).dirty = true →
      s.fus.storedHour < s.now / 3600000000000 → s.now / 2592000000000000 ≤ s.fus.storedPeriod → s.engineRuns 8 = true → s.aqf.phase = .ready →
      s.aqf.importPending = false → s.aqf.writes.length < 64 → 2112 + 4194304 ≤ s.aqf.budget →
      s.aqf.journal + s.aqf.reserved + entryBytes 2112 + 192 * 1024 ≤ ringSize → s.partUsed 3 + 2112 ≤ partSize 3 →
      ∃ t, exec .modelStore s = .next t ∧ t.fus.storedHour = s.now / 3600000000000 ∧ (t.fus.ref k).dirty = false ∧
        ∃ w ∈ t.aqf.writes, w.key = modelKey c.tag 0 0 ∧ w.cls = 2 ∧ w.size = 2112 ∧ w.data = .refModel (s.modelOf k))

/-- What the commands of the solver array do: a clause for each command, on the states and operands it names (operands and times: logs 5 and 7). -/
def Obligations.CompleteSolver : Prop :=
  -- SOLVE_SUBMIT (R191)
  (∀ (desc packet : Bytes) (s : State), Sized s → s.engineRuns 9 = true → s.slv.queue = [] → leAt desc 6 2 = 0 →
      s.submitCheck .cc0 {
        slot := leAt desc 0 2 % 512, cold := decide (byteAt desc 2 % 2 = 1), mapFrom := decide (byteAt desc 2 / 2 % 2 = 1),
        forceSchedule := decide (byteAt desc 2 / 4 % 2 = 1), srcSlot := leAt desc 4 2 % 512, frame := leAt desc 8 4, latestStart := leAt desc 12 8 }
      0 [] = 0 →
      ∃ t, exec (.solveSubmit 0 desc packet) s = .next t ∧
        (t.slv.slot (leAt desc 0 2 % 512)).phase = .queued ∧ (t.slv.slot (leAt desc 0 2 % 512)).tag = s.newTag 0x0C 9 ∧
        s.newTag 0x0C 9 ∈ t.tags.open_ ∧ t.slv.mailbox = 0 ∧ (t.slv.slot (leAt desc 0 2 % 512)).data = (s.slv.slot (leAt desc 0 2 % 512)).data) ∧
  -- BIND (R186)
  (∀ (owner : Fin 3) (slot : Fin 512) (struct : Fin 256) (c : StructCfg) (s : State), Sized s → s.engineRuns (slotOwnerOf owner.val).engine = true →
      s.slv.queue = [] → s.domOn 5 = true → (s.slv.slot slot.val).owner = slotOwnerOf owner.val → (s.slv.slot slot.val).phase ≠ .queued →
      (s.slv.slot slot.val).phase ≠ .running → s.structAt struct.val = some c → c.cls = (s.slv.slot slot.val).cls →
      ∃ t, exec (.bind owner slot struct) s = .next t ∧
        (t.slv.slot slot.val).phase = .bound ∧ (t.slv.slot slot.val).struct = struct.val ∧ (t.slv.slot slot.val).data = c.defaults ∧
        (t.slv.slot slot.val).iterate = none ∧ t.slv.mailbox = 0) ∧
  -- RELEASE (R185)
  (∀ (owner : Fin 3) (slot : Fin 512) (s : State), Sized s → s.engineRuns (slotOwnerOf owner.val).engine = true → s.slv.queue = [] →
      s.domOn 5 = true → (s.slv.slot slot.val).owner = slotOwnerOf owner.val → (s.slv.slot slot.val).phase = .bound →
      ∃ t, exec (.release owner slot) s = .next t ∧
        (t.slv.slot slot.val).phase = .free ∧ (t.slv.slot slot.val).owner = (s.slv.slot slot.val).owner ∧
        (t.slv.slot slot.val).cls = (s.slv.slot slot.val).cls ∧ (t.slv.slot slot.val).warm = none ∧ t.slv.mailbox = 0) ∧
  -- CANCEL (R196)
  (∀ (owner : Fin 3) (slot : Fin 512) (s : State), Sized s → s.engineRuns (slotOwnerOf owner.val).engine = true → s.slv.queue = [] →
      s.domOn 5 = true → (s.slv.slot slot.val).owner = slotOwnerOf owner.val → (s.slv.slot slot.val).phase = .queued → s.ctl.mpcStart = none →
      s.ctl.cycleAt = none → owner = 1 →
      ∃ t, exec (.cancel owner slot) s = .next t ∧
        (t.slv.slot slot.val).phase = .bound ∧ t.slv.mailbox = 0 ∧ ((t.slv.slot slot.val).last.map fun r => r.status) = some .cancelled ∧
        ((t.slv.slot slot.val).last.map fun r => r.tag) = some (s.slv.slot slot.val).tag) ∧
  -- SOLVE_DISPATCH (R193)
  (∀ (engine : Fin 8) (slot : Nat) (s : State), Sized s → slot < 512 → s.nextWork engine.val = some (slot, false) →
      (s.slv.engine engine.val).slot = none → (List.range engine.val).any (fun f => (s.slv.engine f).slot.isNone && s.offer f (slot, false)) = false →
      ∃ t, exec (.solveDispatch engine) s = .next t ∧
        (t.slv.slot slot).phase = .running ∧ (t.slv.slot slot).engine = engine.val ∧ (t.slv.slot slot).start = (s.startOf slot).1 ∧
        (t.slv.slot slot).dispatched = s.now ∧ (t.slv.engine engine.val).slot = some slot ∧ (t.slv.engine engine.val).busyFrom = s.now) ∧
  -- SOLVE_RESUME (R194)
  (∀ (engine : Fin 8) (slot : Nat) (s : State), Sized s → slot < 512 → s.slv.engines.length = 8 → (s.slv.engine engine.val).held = some slot →
      (s.slv.engine engine.val).slot = none → s.slv.avail.getLsbD engine.val = true → s.queuedWork.any (fun w => (s.slv.slot w.1).cls == 0) = false →
      ∃ t, exec (.solveResume engine) s = .next t ∧
        (t.slv.engine engine.val).slot = some slot ∧ (t.slv.engine engine.val).held = none ∧ (t.slv.slot slot).yielded = false ∧ t.log = s.log ∧
        t.tags = s.tags) ∧
  -- SUBJOB_COMPLETE (R212)
  (∀ (engine : Fin 8) (slot : Nat) (s : State), Sized s → slot < 512 → s.slv.queue = [] → (s.slv.engine engine.val).slot = some slot →
      (s.slv.engine engine.val).subjob = true → (s.slv.slot slot).engine ≠ engine.val → (s.slv.slot slot).subjobs ≠ 0 →
      ∃ t, exec (.subjobComplete engine) s = .next t ∧
        (t.slv.engine engine.val).slot = none ∧ (t.slv.engine engine.val).subjob = false ∧
        (t.slv.engine engine.val).solves = satInc 32 (s.slv.engine engine.val).solves ∧ (t.slv.slot slot).rounds = (s.slv.slot slot).rounds) ∧
  -- SOLVE_COMPLETE (R197)
  (∀ (slot : Fin 512) (s : State), Sized s → s.slv.queue = [] → (s.slv.slot slot.val).phase = .running → (s.slv.slot slot.val).yielded = false →
      s.roundsDone slot.val = true → (s.slv.slot slot.val).owner = .cc1 → (s.slv.slot slot.val).cls = 2 → s.ctl.cycleAt = none →
      ∃ t, exec (.solveComplete slot) s = .next t ∧
        (t.slv.slot slot.val).phase = .bound ∧ ((t.slv.slot slot.val).last.map fun r => r.tag) = some (s.slv.slot slot.val).tag ∧
        t.slv.solves = satInc 32 s.slv.solves ∧ (∀ e ∈ t.slv.engines, e.slot ≠ some slot.val) ∧ t.slv.queue = []) ∧
  -- EXPIRED (R195)
  (∀ (slot : Fin 512) (d : Descriptor) (s : State), Sized s → s.slv.queue = [] → (s.slv.slot slot.val).phase = .queued →
      (s.slv.slot slot.val).desc = some d → d.latestStart ≠ 0 → d.latestStart < s.now → (s.slv.slot slot.val).owner = .cc1 →
      (s.slv.slot slot.val).cls = 1 → s.ctl.mpcStart = none →
      ∃ t, exec (.expired slot) s = .next t ∧
        (t.slv.slot slot.val).phase = .bound ∧ t.slv.expired = satInc 32 s.slv.expired ∧
        ((t.slv.slot slot.val).last.map fun r => r.status) = some .expired)

/-- What the commands of the allocation and the consequence analysis do: a clause for each command, on the states and operands it names (operands and
times: logs 5 and 7). -/
def Obligations.CompleteAllocation : Prop :=
  -- ALLOCATION_STAGE (R247)
  (∀ (us : Nat) (s : State), s.stagesRun = true → s.sup.mode ≠ .start → s.fus.published = true → s.ctl.allocFrame ≠ some s.frame →
      s.awaitsLead us = false → s.engineRuns 9 = true →
      ∃ t, exec (.allocationStage us) s = .next t ∧
        t.ctl.allocFrame = some (s.atFrame us).frame ∧ t.ctl.allocStart = (s.atFrame us).now ∧
        ((s.sup.mode = .service ∨ s.sup.mode = .dormant) → t.ctl.law = .none ∧ t.ctl.allocDone = true ∧ t.ctl.root = {} ∧ t.tags = s.tags) ∧
        (s.sup.mode = .standby → s.slv.availCount = 0 → (s.atFrame us).now ≤ s.tim.frameAt + 12000000 → t.ctl.law ≠ .none ∧
          t.ctl.fallbackAlloc = true ∧ t.ctl.allocDone = true)) ∧
  -- JOY_STALE (R235)
  (∀ (s : State), s.engineRuns 9 = true → (refreshJoy s).sup.mode = .joystick → (refreshJoy s).ctl.joy.stale = false →
      (refreshJoy s).joySince + nsOf s.scalars.joyMaxAge < s.now →
      ∃ t, exec .joyStale s = .next t ∧
        t.ctl.joy.stale = true ∧ t.ctl.joy.owner = none ∧ t.ctl.joy.value = (refreshJoy s).ctl.joy.value ∧ t.ctl.law = s.ctl.law) ∧
  -- BUS_STALE (R242)
  (∀ (bus : Fin 8) (c : BusCfg) (s : State), s.ctl.buses.length = 8 → s.engineRuns 9 = true → lookupK s.image.buses bus.val = some c →
      s.busFresh bus.val c = false → (s.ctl.buses.getD bus.val {}).stale = false →
      ∃ t, exec (.busStale bus) s = .next t ∧
        (t.ctl.buses.getD bus.val {}).stale = true ∧ (t.ctl.buses.getD bus.val {}).avail = c.fallback ∧ t.ctl.thr = s.ctl.thr) ∧
  -- EXT_GROUP_STALE (R251)
  (∀ (group : Fin 64) (c : GroupCfg) (s : State), s.ctl.groups.length = 64 → s.engineRuns 9 = true → s.groupCfg group.val = some c →
      c.external = true → s.extOld group.val = true → (s.ctl.group group.val).stale = false →
      ∃ t, exec (.extGroupStale group) s = .next t ∧
        (t.ctl.group group.val).stale = true ∧ (t.ctl.group group.val).extSat = false ∧
        (t.ctl.group group.val).facets = s.image.dirs.map (fun _ => 0) ∧ t.ctl.thr = s.ctl.thr) ∧
  -- MPC_START (R239)
  (∀ (i : Nat) (s u : State), Sized s → s.stagesRun = true → s.tim.frameAt % 100000000 = 0 → s.ctl.mpcAt ≠ some s.tim.frameAt →
      mpcMode s.sup.mode = true → s.mpcSuspended = false → s.engineRuns 10 = true → s.fus.published = true → s.ctlSnap.posValid = true →
      s.ctlSnap.hdgValid = true → s.mpcSlot = some i → (s.slv.slot i).phase = .bound → (s.slv.slot i).struct = s.mpcStructNow →
      u = (s.atFrame 3000).modCtl (fun b => { b with mpcAt := some s.tim.frameAt }) →
      u.submitCheck .cc1 {
        slot := i, frame := u.frame, latestStart := u.now + 10000000 }
      (deltasTo (u.slv.slot i).data (u.mpcData i)).length (deltasTo (u.slv.slot i).data (u.mpcData i)) = 0 →
      ∃ t, exec .mpcStart s = .next t ∧
        t.ctl.mpcAt = some s.tim.frameAt ∧ t.ctl.mpcStart = some (u.ctlSnap.tov, u.now) ∧ (t.slv.slot i).phase = .queued ∧
        (t.slv.slot i).data = (deltasTo (u.slv.slot i).data (u.mpcData i)).foldl (fun v e => v.set e.1 (e.2.getD 0)) (u.slv.slot i).data ∧
        t.ctl.root = s.ctl.root) ∧
  -- CONSEQ_CYCLE_START (R258)
  (∀ (s : State), s.stagesRun = true → s.tim.frameAt % s.conseqPeriod = 0 → s.ctl.conseqAt ≠ some s.tim.frameAt → mpcMode s.sup.mode = true →
      s.mpcSuspended = false → s.engineRuns 10 = true → s.ctl.cycleAt = none → s.fus.obs.started = true → s.fus.published = true →
      s.ctlSnap.posValid = true → s.ctlSnap.hdgValid = true → s.failGroups ≠ [] →
      ∃ t, exec .conseqCycleStart s = .next t ∧
        t.ctl.conseqAt = some s.tim.frameAt ∧ t.ctl.cycleSnap = (s.atFrame 3000).ctlSnap ∧ t.ctl.root = s.ctl.root ∧ t.ctl.law = s.ctl.law)

/-- What the commands of the analog channels do: a clause for each command, on the states and operands it names (operands and times: logs 5 and 7). -/
def Obligations.CompleteSignal : Prop :=
  -- CH_FAULT (R301)
  (∀ (ch : Fin 16) (code : Fin 6) (raw : F32) (count : Nat) (s : State), Sized s → (s.sig.chan ch.val).phase = .running →
      ainFaulty (s.sig.chan ch.val).range code.val (f32Val raw) count = true → (s.sig.chan ch.val).present.getLsbD code.val = false →
      (s.sig.chan ch.val).told.getLsbD code.val = false →
      ∃ t, exec (.chFault ch code raw count) s = .next t ∧
        (t.sig.chan ch.val).phase = .fault ∧ (t.sig.chan ch.val).present = setBit (s.sig.chan ch.val).present code.val true ∧
        (t.sig.chan ch.val).raw = (s.sig.chan ch.val).raw ∧ (t.sig.chan ch.val).faults = satInc 32 (s.sig.chan ch.val).faults ∧
        (t.sig.chan ch.val).valid = false ∧
        t.sig.outs = s.sig.outs) ∧
  -- CH_FAULT_CLEARED (R301)
  (∀ (ch : Fin 16) (code : Fin 6) (raw : F32) (us : Nat) (s : State), Sized s → (s.sig.chan ch.val).phase = .fault →
      (s.sig.chan ch.val).present = setBit 0 code.val true → code.val ≠ 4 → code.val ≠ 5 →
      ainHealthy (s.sig.chan ch.val).range code.val (f32Val raw) = true → 100000 ≤ us →
      ∃ t, exec (.chFaultCleared ch code raw us) s = .next t ∧
        (t.sig.chan ch.val).phase = .running ∧ (t.sig.chan ch.val).present = 0 ∧ (t.sig.chan ch.val).faults = (s.sig.chan ch.val).faults ∧
        t.sig.outs = s.sig.outs) ∧
  -- SHUNT_RECONNECT (R301)
  (∀ (ch : Fin 16) (t0 : Nat) (s : State), Sized s → (s.sig.chan ch.val).tripAt = some t0 → t0 + 1000000000 ≤ s.now →
      ∃ t, exec (.shuntReconnect ch) s = .next t ∧
        (t.sig.chan ch.val).tripAt = none ∧ (t.sig.chan ch.val).joinAt = s.now ∧ (t.sig.chan ch.val).phase = (s.sig.chan ch.val).phase ∧ t.log = s.log) ∧
  -- CHANNEL_SETTLED (R307)
  (∀ (ch : Fin 16) (s : State), Sized s → (s.sig.chan ch.val).phase = .settling → (s.sig.chan ch.val).startAt + (s.sig.chan ch.val).settleNs ≤ s.now →
      (s.sig.chan ch.val).present = 0 →
      ∃ t, exec (.channelSettled ch) s = .next t ∧
        (t.sig.chan ch.val).phase = .running ∧ (t.sig.chan ch.val).present = 0 ∧ (t.sig.chan ch.val).faults = (s.sig.chan ch.val).faults ∧
        t.sig.outs = s.sig.outs) ∧
  -- SYNC_IN_EDGE (R311)
  (∀ (edge : PulseEdge) (s : State), s.domOn 12 = true → s.sig.edgeAt = none → s.sig.syncLast = none → s.sig.syncEn = true →
      1000 ≤ edge.width → s.sig.syncFalling = edge.falling → s.bst.failedMask.getLsbD 18 = false →
      ∃ t, exec (.syncInEdge edge) s = .next t ∧
        t.sig.syncLast = some s.now ∧ t.sig.edgeAt = some s.now ∧ t.sig.syncAccepted = satInc 16 s.sig.syncAccepted ∧
        t.sig.syncIgnored = s.sig.syncIgnored ∧
        t.sig.ins.map (·.phase) = s.sig.ins.mapIdx (fun i c => if i < 16 ∧ c.classF = false ∧ c.phase ≠ .stopped then .settling else c.phase)) ∧
  -- OUT_TIMEOUT (R315)
  (∀ (out : Fin 12) (s : State), Sized s → s.domOn 12 = true → (s.sig.out out.val).src ≠ .unused → (s.sig.out out.val).present.getLsbD 4 = false →
      s.sup.mode ≠ .start → s.sup.mode ≠ .dormant → (s.sig.out out.val).stagedAt + (s.sig.out out.val).timeout * 1000000 ≤ s.now →
      (s.sig.out out.val).safeHold = true →
      ∃ t, exec (.outTimeout out) s = .next t ∧
        (t.sig.out out.val).present = setBit (s.sig.out out.val).present 4 true ∧ (t.sig.out out.val).safe = true ∧ (t.sig.out out.val).staged = false ∧
        (t.sig.out out.val).code = (s.sig.out out.val).code ∧ t.sig.ins = s.sig.ins) ∧
  -- OUT_FAULT (R316)
  (∀ (out : Fin 12) (code : Fin 4) (readback : F32) (limit : Bool) (frames : Nat) (s : State), Sized s → s.domOn 12 = true →
      (s.sig.out out.val).src ≠ .unused → (s.sig.out out.val).present.getLsbD code.val = false → 3 ≤ frames →
      aoutFaulty (s.sig.out out.val) code.val (f32Val readback) limit = true →
      ∃ t, exec (.outFault out code readback limit frames) s = .next t ∧
        (t.sig.out out.val).present = setBit (s.sig.out out.val).present code.val true ∧ (t.sig.out out.val).readback = f32Val readback ∧ (t.sig.out out.val).code = (s.sig.out out.val).code ∧
        t.sig.ins = s.sig.ins) ∧
  -- OUT_CLEARED (R316)
  (∀ (out : Fin 12) (us : Nat) (s : State), Sized s → (s.sig.out out.val).fault ≠ 0 → (s.sig.out out.val).fault ≠ 4 → 1000000 ≤ us →
      ∃ t, exec (.outCleared out us) s = .next t ∧
        (t.sig.out out.val).present = setBit (s.sig.out out.val).present (s.sig.out out.val).fault false ∧ (t.sig.out out.val).code = (s.sig.out out.val).code ∧ t.sig.ins = s.sig.ins)

/-- What the frames of a domain do: a clause for each command, on the states and operands it names (operands and times: logs 5 and 7). The group of a
subordinate domain's slot is a constant the spec leaves open (log 26). After ICX_FORWARD and RESULT the WRITEs whose pairs they accepted go on
(`settle`, CompleteRegisterAccess). -/
def Obligations.CompleteDomainFrames : Prop :=
  -- ICX_FORWARD (R416)
  (∀ (d : DomainCfg) (rx : IcxRx) (s : State), s.domOn 10 = true → (s.icx.port rx.frame.port).phase = .up → rx.frame.good = true →
      s.icx.cfg = some d → rx.frame.domain = d.domain → rx.frame.src ≠ s.selfIndex → s.subordinate = false → 1 < rx.frame.ttl → rx.frame.type ≠ 0x09 →
      rx.frame.dst ≠ s.selfIndex → rx.frame.dst ≠ 0xFF →
      ∃ t, t = receiveIcx rx s ∧ exec (.icxForward rx) s = .next (settle t) ∧
        t.icx.ports.map (·.out) = s.icx.ports.mapIdx (fun i p => if i ≠ rx.frame.port ∧ p.phase = .up then p.out ++ [{ rx.frame.onward (rx.hopNs +
          (s.icx.port rx.frame.port).delay) with
          port := i }] else p.out) ∧
        t.icx.seen = s.icx.seen ∧ t.icx.role = s.icx.role ∧ t.log = s.log) ∧
  -- SYNC (R422)
  (∀ (d : DomainCfg) (rx : IcxRx) (s : State), Received d rx.frame s → rx.frame.type = 0x01 → rx.frame.src = s.icx.lead → s.icx.role ≠ .lead →
      rx.frame.payload.length = 12 →
      ∃ t, exec (.sync rx) s = .next t ∧
        t.icx.timeOffset = max (-2147483648) (min 2147483647 (((leAt rx.frame.payload 0 8 + leAt rx.frame.payload 8 4 +
          (s.icx.port rx.frame.port).delay : Nat) : Int) - ((s.now - rx.backNs : Nat) : Int))) ∧
        t.icx.lead = s.icx.lead ∧ t.ctl = s.ctl) ∧
  -- EXCHANGE (R425)
  (∀ (d : DomainCfg) (rx : IcxRx) (s : State), Sized s → Received d rx.frame s → rx.frame.type = 0x02 → rx.frame.payload.length = 88 →
      snapFinite rx.frame.payload = true → s.now - rx.backNs ≤ s.tim.frameAt + 6000000 → serialLater s.frame rx.frame.frame = false →
      ∃ t, exec (.exchange rx) s = .next t ∧
        (t.icx.m rx.frame.src).exchAt = some s.now ∧ (t.icx.m rx.frame.src).heard = some rx.frame.frame ∧
        (t.icx.m rx.frame.src).snap = some (snapOfBytes rx.frame.payload, rx.frame.frame) ∧ (t.icx.m rx.frame.src).mode = byteAt rx.frame.payload 73 ∧
        (t.icx.m rx.frame.src).health = leAt rx.frame.payload 74 2 ∧ (t.icx.m rx.frame.src).check = leAt rx.frame.payload 76 4 ∧
        (t.icx.m rx.frame.src).offset = toSigned 32 (leAt rx.frame.payload 80 4) ∧ t.fus = s.fus ∧ t.ctl = s.ctl) ∧
  -- VOTE (R426)
  (∀ (d : DomainCfg) (rx : IcxRx) (s : State), Sized s → Received d rx.frame s → rx.frame.type = 0x03 → rx.frame.payload.length = 168 →
      s.now - rx.backNs ≤ s.tim.frameAt + 15000000 →
      ∃ t, exec (.vote rx) s = .next t ∧
        (t.icx.m rx.frame.src).vote = some { voteOf rx.frame.frame rx.frame.payload with blend := rx.frame.blend } ∧ (t.icx.m rx.frame.src).heard = some rx.frame.frame ∧
        t.ctl = s.ctl) ∧
  -- COMMAND (R429)
  (∀ (d : DomainCfg) (rx : IcxRx) (o : DomainOrder) (s : State), Received d rx.frame s → rx.frame.type = 0x04 → rx.frame.cmd = some (.effect o) →
      s.inDomain = true → s.icx.role ≠ .lead → serialLater o.frame s.frame = true →
      ∃ t, exec (.command rx) s = .next t ∧ t.icx.cmds = s.icx.cmds ++ [o] ∧ t.ctl = s.ctl) ∧
  -- RESULT (R417)
  (∀ (d : DomainCfg) (rx : IcxRx) (x : IcxTxn) (s : State), Received d rx.frame s → rx.frame.type = 0x05 →
      s.icx.txns.find? (fun y => y.waitsFor (leAt rx.frame.payload 0 4) rx.frame.src) = some x → x.type = 0x07 → x.left = [] →
        leAt rx.frame.payload 4 4 = 0 →
      ∃ t, t = receiveType 5 rx s ∧ exec (.result rx) s = .next (settle t) ∧
        t.icx.joinOk = true ∧ t.icx.txns = s.icx.txns.filter (fun y => y.tag != x.tag) ∧ t.icx.phase = s.icx.phase ∧ t.ctl = s.ctl) ∧
  -- SSTOP (R435)
  (∀ (d : DomainCfg) (rx : IcxRx) (s : State), Received d rx.frame s → rx.frame.type = 0x06 →
      ∃ t, exec (.sstop rx) s = .next t ∧
        t.saf.entries = s.saf.entries ++ [{ cause := 5, mask := BitVec.ofNat 16 (leAt rx.frame.payload 4 4) }] ∧ t.saf.pairs = s.saf.pairs ∧
        t.ctl = s.ctl) ∧
  -- JOIN (R420)
  (∀ (d : DomainCfg) (rx : IcxRx) (i : Nat) (s : State), Sized s → Received d rx.frame s → rx.frame.type = 0x07 → s.icx.role = .lead →
      rx.frame.tag ≠ 0 → byteAt rx.frame.payload 0 % 8 = i → leAt rx.frame.payload 1 4 = s.cfg.check → s.indexHeld i = false →
      (s.icx.m i).offset.natAbs ≤ 2000 → s.icx.txns.length < 256 →
      ∃ t, exec (.join rx) s = .next t ∧
        (t.icx.m i).phase = .joining ∧ (t.icx.m i).check = s.cfg.check ∧ (t.icx.m i).transfer = some (0, statePartCount) ∧
        t.icx.txns.length = s.icx.txns.length + 1 ∧ t.icx.phase = s.icx.phase ∧ t.ctl = s.ctl) ∧
  -- STATE (R420)
  (∀ (d : DomainCfg) (rx : IcxRx) (k n : Nat) (x : StateXfer) (s : State), Received d rx.frame s → rx.frame.type = 0x08 →
      rx.frame.part = some (k, n, x) → s.icx.phase = .joining →
      ∃ t, exec (.state rx) s = .next t ∧
        t.icx.partsGot = k + 1 ∧ t.icx.xfer = (if k + 1 = n then some x else s.icx.xfer) ∧ t.icx.sent.length = s.icx.sent.length + 1 ∧ t.ctl = s.ctl ∧
        t.sup = s.sup) ∧
  -- EXT_CAP (R437)
  (∀ (d : DomainCfg) (rx : IcxRx) (c : GroupCfg) (s : State), Received d rx.frame s → rx.frame.type = 0x0A →
      s.groupCfg (Config.extGroupOfSlot rx.frame.src) = some c → c.external = true → c.extIcxon = true →
      rx.frame.payload.length = 4 * s.image.dirCount + 1 →
      (List.range s.image.dirCount).all (fun i => f32Finite (f32At rx.frame.payload (4 * i)) && decide (0 ≤ ratAt rx.frame.payload (4 * i))) = true →
      ∃ t, exec (.extCap rx) s = .next t ∧
        t.ctl.groups = updAt s.ctl.groups (Config.extGroupOfSlot rx.frame.src) (fun x => { x with
          extFacets := (List.range s.image.dirCount).map (fun i => ratAt rx.frame.payload (4 * i)), extAt := some s.now,
          extSat := byteAt rx.frame.payload (4 * s.image.dirCount) % 2 == 1 }) ∧
        t.ctl.thr = s.ctl.thr ∧ t.log = s.log) ∧
  -- EXT_DEMAND (R437)
  (∀ (d : DomainCfg) (rx : IcxRx) (s : State), s.domOn 10 = true → (s.icx.port rx.frame.port).phase = .up → rx.frame.good = true →
      s.icx.cfg = some d → s.subordinate = true → rx.frame.domain = d.parent → d.parent ≠ d.domain → rx.frame.src ≠ d.parentSlot →
      rx.frame.type = 0x0B → rx.frame.dst = d.parentSlot → rx.frame.payload.length = 13 →
      [0, 4, 8].all (fun i => f32Finite (f32At rx.frame.payload i)) = true →
      ∃ t, exec (.extDemand rx) s = .next t ∧
        t.icx.extDemand = some ({
          surge := ratAt rx.frame.payload 0, sway := ratAt rx.frame.payload 4, yaw := ratAt rx.frame.payload 8 },
        byteAt rx.frame.payload 12 % 2 == 1, s.frame) ∧
        t.ctl = s.ctl)

/-- What the timed commands of a domain do: a clause for each command, on the states and operands it names (operands and times: logs 5 and 7). -/
def Obligations.CompleteDomainTimes : Prop :=
  -- DEADLINE (R254)
  (∀ (s : State), s.allocOwed = true → s.engineRuns 9 = true →
      ∃ t, exec .deadline s = .next t ∧
        t.ctl.deadline = true ∧ t.ctl.dlRun = satInc 8 s.ctl.dlRun ∧ t.ctl.dlMiss = satInc 32 s.ctl.dlMiss ∧ t.ctl.allocDone = true ∧
        t.ctl.lost = (s.ctl.lost || decide (satInc 8 s.ctl.dlRun = 10))) ∧
  -- PORT_UP (R413)
  (∀ (port : Fin 3) (us : Nat) (s : State), Sized s → s.domOn 10 = true → s.linkAllowed = true →
      (s.icx.port port.val).phase = .down → 10000 ≤ us →
      ∃ t, exec (.portUp port us) s = .next t ∧
        (t.icx.port port.val).phase = .up ∧ (t.icx.port port.val).delay = (s.icx.port port.val).delay ∧ t.icx.members = s.icx.members) ∧
  -- PORT_DOWN (R413)
  (∀ (port : Fin 3) (cause : Fin 3) (count : Nat) (s : State), Sized s → s.domOn 10 = true → (s.icx.port port.val).phase = .up →
      (if cause.val = 2 then 16 else 100) ≤ count →
      ∃ t, exec (.portDown port cause count) s = .next t ∧ (t.icx.port port.val).phase = .down ∧ t.icx.members = s.icx.members) ∧
  -- EXCHANGE_SEND (R424)
  (∀ (us : Nat) (s u : State), s.domOn 10 = true → s.inDomain = true → s.stagesRun = true → s.fus.published = true → s.icx.exchSent ≠ some s.frame →
      s.subordinate = false → u = s.atFrame (max us 3000) →
      ∃ t, exec (.exchangeSend us) s = .next t ∧
        t.icx.exchSent = some u.frame ∧ t.icx.sent = s.icx.sent ++ [(u.icxFrame 0x02 0xFF 0 false u.exchange).withCrc] ∧ t.sup.stageDone.getLsbD 2 = true ∧
        t.ctl = s.ctl) ∧
  -- VOTE_SEND (R426)
  (∀ (s u : State), Sized s → s.domOn 10 = true → s.votes = true → s.stagesRun = true → s.icx.voteSent ≠ some s.frame → s.sup.mode ≠ .start →
      s.selfIndex < 8 → u = s.atFrame 12000 →
      ∃ t, exec .voteSend s = .next t ∧
        t.icx.voteSent = some u.frame ∧ (t.icx.m s.selfIndex).vote = some (u.ownVote (if s.icx.role = .lead then u.naming else none)) ∧
        t.icx.sent.length = s.icx.sent.length + 1 ∧ t.ctl = s.ctl) ∧
  -- VOTE_EVALUATION (R427)
  (∀ (s u : State), s.domOn 10 = true → s.inDomain = true → s.stagesRun = true → s.icx.voteDone ≠ some s.frame → s.sup.mode ≠ .start →
      u = s.atFrame 15000 →
      ∃ t, exec .voteEvaluation s = .next t ∧
        t.icx.voteDone = some u.frame ∧ t.icx.voters = u.voterList.length ∧
        t.icx.miscompares = satAdd 32 s.icx.miscompares (u.disagreements u.voterList) ∧ t.sup.stageDone.getLsbD 4 = true) ∧
  -- TXN_TIMEOUT (R417)
  (∀ (tag : Word) (x : IcxTxn) (s : State), s.icx.txns.find? (fun y => y.tag == tag.toNat) = some x → x.sentAt + 40000000 ≤ s.now →
      ∃ t, exec (.txnTimeout tag) s = .next t ∧
        t.icx.txns = s.icx.txns.filter (fun y => y.tag != x.tag) ∧ t.icx.txnTimeouts = satInc 16 s.icx.txnTimeouts ∧ t.ctl = s.ctl ∧ t.fus = s.fus) ∧
  -- JOIN_RETRY (R420)
  (∀ (t0 : Nat) (s : State), s.icx.joinRetryAt = some t0 → s.mayJoin = true → t0 ≤ s.now → s.icx.txns.length < 256 → s.icx.lead < 8 →
      ∃ t, exec .joinRetry s = .next t ∧
        t.icx.joinRetryAt = none ∧ t.icx.txns = s.icx.txns ++ [{ tag := (s.newTag 0x18 13).word, type := 0x07, dst := s.icx.lead, sentAt := s.now }] ∧
        s.newTag 0x18 13 ∈ t.tags.open_ ∧ t.ctl = s.ctl) ∧
  -- DELAY (R415)
  (∀ (port : Fin 3) (roundTripNs : Nat) (s : State), Sized s → s.domOn 10 = true → (s.icx.port port.val).phase = .up →
      ∃ t, exec (.delay port roundTripNs) s = .next t ∧
        (t.icx.port port.val).delay = roundTripNs / 2 ∧ (t.icx.port port.val).phase = .up ∧ t.log = s.log) ∧
  -- ICX_DELAY_PROBE (R415)
  (∀ (port : Fin 3) (s : State), Sized s → s.domOn 10 = true → (s.icx.port port.val).phase = .up → (s.icx.port port.val).probeAt = none →
      ∃ t, exec (.icxDelayProbe port) s = .next t ∧
        (t.icx.port port.val).probeAt = some s.now ∧
        (t.icx.port port.val).out = (s.icx.port port.val).out ++ [({ s.icxFrame 0x09 0xFF 0 false [] with
          port := port.val, flags := b2n (port.val == 1) } : IcxFrame).withCrc] ∧
        t.icx.sent.length = s.icx.sent.length + 1) ∧
  -- EXT_DEMAND_STALE (R437)
  (∀ (d : Demand) (v : Bool) (n : Nat) (s : State), s.icx.extDemand = some (d, v, n) → s.subordinate = true → s.icx.extStale = false →
      (v = false ∨ 2 < (serialDiff s.frame n).toNat) →
      ∃ t, exec .extDemandStale s = .next t ∧ t.icx.extStale = true ∧ t.icx.extDemand = s.icx.extDemand ∧ t.ctl = s.ctl) ∧
  -- DOMAIN_FORMATION (R421)
  (∀ (t0 : Nat) (s : State), s.icx.joinSince = some t0 → s.domOn 10 = true → s.icx.phase = .joining → s.icx.leadKnown = false →
      t0 + 2000000000 ≤ s.now → s.lowerJoins = false →
      ∃ t, exec .domainFormation s = .next t ∧
        t.icx.role = .lead ∧ t.icx.phase = .member ∧ t.icx.lead = s.selfIndex ∧ t.icx.epoch = 1 ∧ t.icx.leadKnown = true ∧ t.ctl = s.ctl) ∧
  -- PARTITION (R433)
  (∀ (w : Nat) (s : State), s.icx.phase = .member → s.icx.role ≠ .lead → 3 ≤ s.icx.leadMissed → s.icx.witnessAt = some w → s.now ≤ w + 40000000 →
      ∃ t, exec .partition s = .next t ∧ t.icx.phase = .isolated ∧ t.icx.role = .none_ ∧ t.icx.isolatedAt = s.now ∧ t.icx.xfer = none ∧ t.ctl = s.ctl) ∧
  -- TIME_SKEW (R422)
  (∀ (s : State), s.inDomain = true → 10 ≤ s.icx.skewRun → s.icx.skewed = false →
      ∃ t, exec .timeSkew s = .next t ∧ t.icx.skewed = true ∧ t.icx.timeOffset = s.icx.timeOffset ∧ t.tim = s.tim) ∧
  -- FUS_DISAGREE (R425)
  (∀ (heading : Bool) (t0 : Nat) (s : State), s.icx.disagreeSince.getD (b2n heading) none = some t0 → s.follows = true → t0 + 2000000000 < s.now →
      s.icx.disagreeTold = [false, false] →
      ∃ t, exec (.fusDisagree heading) s = .next t ∧
        t.icx.disagreeTold.getD (b2n heading) false = true ∧ t.icx.disagreeSince = s.icx.disagreeSince ∧ t.fus = s.fus)

/-- What the commands of the sessions do: a clause for each command, on the states and operands it names (operands and times: logs 5 and 7). -/
def Obligations.CompleteSession : Prop :=
  -- TLS_HANDSHAKE (R440)
  (∀ (conn : Nat) (offer : TlsOffer) (cert : Option ClientCert) (c : Conn) (s : State), s.ioRuns = true → s.ses.conn conn = some c → c.tls = false →
      s.tcpRoom conn = true → offer.common = true → offer.proves = true →
      ∃ t, exec (.tlsHandshake conn offer cert) s = .next t ∧
        (∃ x, t.ses.conn conn = some x ∧ x.tls = true ∧ x.cert = cert ∧ x.session = c.session ∧ x.suite ∈ offer.suitesOk ∧ x.group ∈ offer.groupsOk ∧
          x.presented = s.deviceCert) ∧ t.ses.sent = s.ses.sent ∧ t.ses.sessions = s.ses.sessions) ∧
  -- CONNECTION_TIMEOUT (R441)
  (∀ (conn : Nat) (c : Conn) (s : State), s.ses.conn conn = some c →
      ((c.tls = false ∧ c.accepted + 10000000000 ≤ s.now) ∨ (c.hello = false ∧ c.accepted + 30000000000 ≤ s.now)) →
      ∃ t, exec (.connectionTimeout conn) s = .next t ∧
        t.ses.conns = s.ses.conns.filter (fun x => x.id != conn) ∧ t.ses.sessions = s.ses.sessions ∧ t.log = s.log) ∧
  -- HELLO (R445)
  (∀ (req : Req) (name password : Bytes) (c : Conn) (role k : Nat) (s : State), Sized s → s.ioRuns = true → s.ses.conn req.conn = some c →
      c.tls = true → c.session = none → s.ses.checks.any (fun x => x.conn == req.conn) = false → name.length ≤ 32 → password.length ≤ 64 →
      s.tcpRoom req.conn = true →
      s.lockedOut c.addr = false → c.cert.bind s.certRole = some role → s.ses.freeIndex role = some k →
      ∃ t, exec (.hello req 0 name password) s = .next t ∧
        (t.ses.session k).phase = .open_ ∧ (t.ses.session k).role = role ∧ (t.ses.session k).method = 0 ∧ (t.ses.session k).conn = req.conn ∧
        (t.ses.session k).source = c.addr ∧ (t.ses.session k).cert = c.cert ∧ (t.ses.conn req.conn).map (·.session) = some (some k) ∧
        t.ses.sources = s.ses.sources.filter (fun x => x.addr != c.addr) ∧ t.ses.sent.head? = some (reply req.conn 0x01 req.id 0 0 (t.helloPayload k))) ∧
  -- AUTH_CHECK_COMPLETE (R450)
  (∀ (conn : Nat) (k : AuthCheck) (a : Nat × Account) (c : Conn) (j : Nat) (s : State), Sized s → s.ioRuns = true →
      s.ses.checks.find? (fun x => x.conn == conn) = some k → s.ses.conn conn = some c → s.accountFor k.name k.password = some a →
      s.ses.freeIndex a.2.role = some j →
      ∃ t, exec (.authCheckComplete conn) s = .next t ∧
        (t.ses.session j).phase = .open_ ∧ (t.ses.session j).role = a.2.role ∧ (t.ses.session j).method = 1 ∧ (t.ses.session j).conn = conn ∧
        (t.ses.session j).name = a.2.name ∧ (t.ses.session j).cert = none ∧ t.ses.checks = s.ses.checks.filter (fun x => x.conn != conn) ∧
        t.ses.sent.head? = some (reply conn 0x01 k.reqId 0 0 (t.helloPayload j))) ∧
  -- RESUME (R447)
  (∀ (req : Req) (session : Nat) (token : BitVec 128) (c : Conn) (s : State), Sized s → s.ioRuns = true → s.ses.conn req.conn = some c →
      c.tls = true → c.session = none → s.ses.checks.any (fun x => x.conn == req.conn) = false →
      s.tcpRoom req.conn = true → s.lockedOut c.addr = false → session < 32 → (s.ses.session session).phase = .detached →
      (s.ses.session session).token = token.toNat → ((s.ses.session session).method ≠ 0 ∨ (s.ses.session session).cert = c.cert) →
      ∃ t, exec (.resume req session token) s = .next t ∧
        (t.ses.session session).phase = .open_ ∧ (t.ses.session session).conn = req.conn ∧
        (t.ses.session session).highest = (s.ses.session session).highest ∧ (t.ses.session session).cache = (s.ses.session session).cache ∧
        (t.ses.session session).outstanding = (s.ses.session session).outstanding ∧ (t.ses.session session).mask = (s.ses.session session).mask ∧
        t.ses.sent.head? = some (reply req.conn 0x02 req.id 0 0 (t.helloPayload session))) ∧
  -- SUBSCRIBE (R448)
  (∀ (req : Req) (i : Nat) (mask : Word) (s : State), Sized s → Ready req i 0 s →
      ∃ t, exec (.subscribe req mask) s = .next t ∧
        (t.ses.session i).mask = mask.toNat ∧ (t.ses.session i).push = (s.ses.session i).push ∧ (t.ses.session i).phase = .open_ ∧
        t.ses.sent.head? = some (reply req.conn 0x30 req.id 0 0 [])) ∧
  -- ACCOUNT (R450)
  (∀ (req : Req) (i : Nat) (op role k : Nat) (l : List (Nat × Account)) (name password : Bytes) (s : State), Sized s → Ready req i 3 s → StoreRoom s →
      accountOp op role name password (s.taken req i) = .inr (k, l) →
      ∃ t, exec (.account req op role name password) s = .next t ∧
        t.ses.accounts = l ∧ t.ses.clogSeq = (s.ses.clogSeq + 1) % 2 ^ 32 ∧ t.ses.sent.head? = some (reply req.conn 0x40 req.id 0 0 [])) ∧
  -- PASSWORD (R450)
  (∀ (req : Req) (i : Nat) (old new : Bytes) (k : Nat) (a : Account) (s : State), Sized s → Ready req i 0 s → StoreRoom s → passwordOk old = true → passwordOk new = true →
      (s.ses.session i).method = 1 → s.ses.accounts.find? (fun x => x.2.name == (s.ses.session i).name) = some (k, a) → a.hash = pbkdf2 old a.salt →
      ∃ t, exec (.password req old new) s = .next t ∧
        t.ses.accounts = insertK s.ses.accounts k (newPassword new a (s.taken req i)) ∧ t.ses.clogSeq = (s.ses.clogSeq + 1) % 2 ^ 32 ∧
        t.ses.sent.head? = some (reply req.conn 0x41 req.id 0 0 [])) ∧
  -- KEEPALIVE (R443)
  (∀ (req : Req) (i : Nat) (s : State), Sized s → Ready req i 0 s →
      ∃ t, exec (.keepalive req) s = .next t ∧
        (t.ses.session i).lastMsg = s.now ∧ (t.ses.session i).mask = (s.ses.session i).mask ∧ t.ctl = s.ctl ∧ t.log = s.log ∧
        t.ses.sent.head? = some (reply req.conn 0x7E req.id 0 0 [])) ∧
  -- CLOSE (R447)
  (∀ (req : Req) (i : Nat) (s : State), Sized s → Ready req i 0 s →
      ∃ t, exec (.close req) s = .next t ∧
        (t.ses.session i).phase = .free ∧ (t.ses.session i).cache = [] ∧ (t.ses.session i).outstanding = [] ∧
        t.ses.waiting = s.ses.waiting.filter (fun w => w.session != i) ∧ t.ses.sent.head? = some (reply req.conn 0x7F req.id 0 0 [])) ∧
  -- BAD_MESSAGE (R442)
  (∀ (conn n : Nat) (header payload : Bytes) (c : Conn) (s : State), malformed header payload = true → reqIdOf header = some n →
      s.ioRuns = true → s.ses.conn conn = some c → s.tcpRoom conn = true →
      (c.session = none ∨ ((s.ses.session (c.session.getD 0)).phase = .open_ ∧ (s.ses.session (c.session.getD 0)).conn = conn)) →
      ∃ t, exec (.badMessage conn header payload) s = .next t ∧
        t.ses.conn conn = none ∧ t.ses.sent.head? = some (reply conn (byteAt header 3) n 8 0 []) ∧ t.ses.accounts = s.ses.accounts) ∧
  -- UNKNOWN_MESSAGE (R443)
  (∀ (req : Req) (i : Nat) (type : Nat) (s : State), Sized s → Ready req i 0 s →
      ∃ t, exec (.unknownMessage req type) s = .next t ∧
        (t.ses.session i).lastMsg = s.now ∧ t.ctl = s.ctl ∧ t.log = s.log ∧ t.ses.sent.head? = some (reply req.conn type req.id 9 0 [])) ∧
  -- TRANSPORT_LOST (R447)
  (∀ (conn i : Nat) (c : Conn) (s : State), Sized s → s.ses.conn conn = some c → c.session = some i → i < 32 → (s.ses.session i).phase = .open_ →
      (s.ses.session i).conn = conn →
      ∃ t, exec (.transportLost conn) s = .next t ∧
        (t.ses.session i).phase = .detached ∧ (t.ses.session i).detachedAt = s.now ∧ (t.ses.session i).role = (s.ses.session i).role ∧
        (t.ses.session i).outstanding = (s.ses.session i).outstanding ∧ t.ses.conn conn = none ∧ t.ses.sent = s.ses.sent) ∧
  -- IDLE_TIMEOUT (R447)
  (∀ (i : Fin 32) (s : State), Sized s → (s.ses.session i.val).phase = .open_ →
      (s.ses.session i.val).lastMsg + s.scalars.idleTimeout * 1000000000 ≤ s.now →
      ∃ t, exec (.idleTimeout i) s = .next t ∧
        (t.ses.session i.val).phase = .detached ∧ (t.ses.session i.val).detachedAt = s.now ∧ t.ses.conn (s.ses.session i.val).conn = none ∧
        t.ses.sent = s.ses.sent) ∧
  -- DETACHED_EXPIRY (R447)
  (∀ (i : Fin 32) (s : State), Sized s → (s.ses.session i.val).phase = .detached → (s.ses.session i.val).detachedAt + 60000000000 ≤ s.now →
      ∃ t, exec (.detachedExpiry i) s = .next t ∧
        (t.ses.session i.val).phase = .free ∧ (t.ses.session i.val).cache = [] ∧ (t.ses.session i.val).outstanding = [] ∧ t.ses.sent = s.ses.sent) ∧
  -- LOCKOUT_END (R452)
  (∀ (source : Word) (x : AuthSource) (t0 : Nat) (s : State), s.ses.source source.toNat = some x → x.until_ = some t0 → t0 ≤ s.now →
      ∃ t, exec (.lockoutEnd source) s = .next t ∧
        t.ses.source source.toNat = some { x with until_ := none, fails := 0 } ∧ t.lockedOut source.toNat = false ∧ t.ses.sessions = s.ses.sessions ∧
        t.log = s.log) ∧
  -- LOCKOUT_DECAY (R452)
  (∀ (source : Word) (x : AuthSource) (s : State), s.ses.source source.toNat = some x → x.until_ = none → x.lastFail + dayNs ≤ s.now →
      ∃ t, exec (.lockoutDecay source) s = .next t ∧ t.ses.source source.toNat = none ∧ t.ses.sessions = s.ses.sessions ∧ t.log = s.log) ∧
  -- TLS_KEY_UPDATE (R440)
  (∀ (conn : Nat) (c : Conn) (s : State), s.ses.conn conn = some c → c.tls = true → s.tcpRoom conn = true →
      ∃ t, exec (.tlsKeyUpdate conn) s = .next t ∧
        t.ses.conn conn = some { c with keyUpdates := c.keyUpdates + 1 } ∧ t.ses.sessions = s.ses.sessions ∧ t.log = s.log)

/-- What the requests to SUP, GNS, FUS and SLV do: a clause for each command, on the states and operands it names (operands and times: logs 5 and 7).
-/
def Obligations.CompleteModeReferenceRequests : Prop :=
  -- MODE_REQ (R73)
  (∀ (req : Req) (i : Nat) (mode : Fin 8) (hdgHold : Bool) (useSetpoint : Bool) (m : Mode) (s : State), Sized s →
      Ready req i (if mode.val = 5 then 2 else 1) s → s.regStatus 0x00010104 = 0 → s.inDomain = false → modeOf mode.val = some m →
      s.modeVerdict (some m) hdgHold = 0 → s.sup.mode ≠ .dormant →
      ∃ t, exec (.modeReq req mode hdgHold useSetpoint) s = .next t ∧
        t.sup.pendMode = some { target := m, hdgHold := hdgHold, useSetpoint := useSetpoint } ∧
        t.sup.mode = s.sup.mode ∧ t.sup.reqTaken = true ∧ t.sup.resCode = 0 ∧ t.sup.resMode = mode.val ∧
        t.ses.sent.head? = some (writeResponse req.conn req.id 1 0 0)) ∧
  -- SSTOP_REQ_ENTER (R63)
  (∀ (req : Req) (i : Nat) (scope : Byte) (s : State), Sized s → Ready req i 1 s → s.regStatus 0x00010108 = 0 →
      ∃ t, exec (.sstopReqEnter req scope) s = .next t ∧
        t.saf.entries = (if s.scRuns then s.saf.entries ++ [{ cause := 2, mask := s.saf.scopeMask scope.toNat, session := i }] else s.saf.entries) ∧
        t.sup.resCode = 0 ∧ t.ctl = s.ctl ∧
        t.ses.sent.head? = some (writeResponse req.conn req.id 1 0 0)) ∧
  -- SSTOP_REQ_RESET (R65)
  (∀ (req : Req) (i : Nat) (s : State), Sized s → Ready req i 1 s → s.regStatus 0x00010108 = 0 → s.inDomain = false → s.scRuns = true →
      s.icx.resetWait = none →
      ∃ t, exec (.sstopReqReset req) s = .next t ∧
        t.saf.resetReq = some i ∧ t.saf.entries = s.saf.entries ∧ t.ses.sent = s.ses.sent ∧
        t.ses.waiting.any (fun x => x.conn == req.conn && x.session == i && x.reqId == req.id) = true) ∧
  -- RESTART_REQ (R83)
  (∀ (req : Req) (i : Nat) (key : Word) (s : State), Sized s → Ready req i 2 s → s.regStatus 0x00010138 = 0 → key = 0x0000A55A →
      releasesThrust s.sup.mode = false → s.aqf.flushing = false →
      ∃ t, exec (.restartReq req key) s = .next t ∧
        t.sup.restarting = true ∧ t.aqf.flushing = true ∧ t.aqf.flushRestart = true ∧ t.ses.sent.head? = some (writeResponse req.conn req.id 1 0 0)) ∧
  -- MODE_TBLEND (R93)
  (∀ (req : Req) (i : Nat) (seconds : F32) (s : State), Sized s → Ready req i 1 s → s.regStatus 0x00010124 = 0 → s.inDomain = false →
      f32Finite seconds = true → 0 ≤ f32Val seconds → f32Val seconds ≤ 30 → s.sup.noImage = false →
      ∃ t, exec (.modeTblend req seconds) s = .next t ∧
        t.sup.tBlend = f32Val seconds ∧ t.ctl = s.ctl ∧ t.ses.sent.head? = some (writeResponse req.conn req.id 1 0 0)) ∧
  -- COLD_START (R127)
  (∀ (req : Req) (i : Nat) (s : State), Sized s → Ready req i 2 s → s.regStatus 0x00080094 = 0 → s.sup.mode = .service →
      ∃ t, exec (.coldStart req) s = .next t ∧
        t.gns.startKind = 3 ∧ t.gns.startWake = false ∧ t.gns.ttff = 0xFFFF ∧ t.gns.starting = true ∧ t.gns.hot = {} ∧
        t.ses.sent.head? = some (writeResponse req.conn req.id 1 0 0)) ∧
  -- RTK_RESET (R127)
  (∀ (req : Req) (i : Nat) (s : State), Sized s → Ready req i 2 s → s.regStatus 0x00080094 = 0 →
      ∃ t, exec (.rtkReset req) s = .next t ∧
        t.gns.rtkFixed = [false, false] ∧ t.gns.rtkReady = [false, false] ∧ t.gns.hdgFixReady = false ∧ t.gns.hot = s.gns.hot ∧
        t.ses.sent.head? = some (writeResponse req.conn req.id 1 0 0)) ∧
  -- REF_SELECT (R132)
  (∀ (req : Req) (i : Nat) (mask : BitVec 12) (s : State), Sized s → Ready req i 1 s → s.regStatus 0x000A0070 = 0 → s.inDomain = false →
      s.sup.mode ≠ .autoPos → s.sup.mode ≠ .autoTrack →
      ∃ t, exec (.refSelect req mask) s = .next t ∧
        t.fus.refs = s.fus.refs.mapIdx (fun k r => { r with enableNext := mask.getLsbD k, voteEnds := r.voteEnds || !mask.getLsbD k }) ∧ t.fus.snap = s.fus.snap ∧
        t.ses.sent.head? = some (writeResponse req.conn req.id 1 0 0)) ∧
  -- ANCHOR (R136)
  (∀ (req : Req) (i : Nat) (slot : Fin 16) (heading : Bool) (k : Nat) (c : RefCfg) (s : State), Sized s → Ready req i 1 s →
      s.regStatus 0x000A0074 = 0 → s.inDomain = false → k = (if heading then 8 + slot.val else slot.val) → slot.val ≤ (if heading then 3 else 7) →
      s.refCfg k = some c → relativeType c.type = true →
      ∃ t, exec (.anchor req slot heading) s = .next t ∧
        (t.fus.ref k).anchor = none ∧ (t.fus.ref k).anchorCmds = (s.fus.ref k).anchorCmds ++ [(s.now, i, req.id)] ∧ t.ses.sent = s.ses.sent ∧
        t.ses.waiting.any (fun x => x.conn == req.conn && x.session == i && x.reqId == req.id) = true) ∧
  -- REF_CMD_RESET_MODEL (R172)
  (∀ (req : Req) (i : Nat) (slot : Fin 16) (heading : Bool) (k : Nat) (s : State), Sized s → Ready req i 2 s → s.regStatus 0x000A0074 = 0 →
      s.inDomain = false → (s.sup.mode = .standby ∨ s.sup.mode = .service) → k = (if heading then 8 + slot.val else slot.val) →
      slot.val ≤ (if heading then 3 else 7) → (s.refCfg k).isSome = true →
      ∃ t, exec (.refCmdResetModel req slot heading) s = .next t ∧
        (t.fus.ref k).model = defaultModel k ∧ (t.fus.ref k).isDefault = true ∧ (t.fus.ref k).dirty = true ∧
        (t.fus.ref k).anchor = (s.fus.ref k).anchor ∧ t.ses.sent.head? = some (writeResponse req.conn req.id 1 0 0)) ∧
  -- SLV_TEST (R219)
  (∀ (req : Req) (i : Nat) (engine : Fin 8) (s : State), Sized s → Ready req i 2 s → s.regStatus 0x000C0084 = 0 → s.testAllowed engine.val = true →
      ∃ t, exec (.slvTest req engine) s = .next t ∧
        t.slv.testResult = 3 ∧ t.slv.testEngine = engine.val ∧ t.ctl = s.ctl ∧ t.ses.sent.head? = some (writeResponse req.conn req.id 1 0 0))

/-- What the requests to CTL do: a clause for each command, on the states and operands it names (operands and times: logs 5 and 7). -/
def Obligations.CompleteControlRequests : Prop :=
  -- SP_APPLY (R230)
  (∀ (req : Req) (i : Nat) (s : State), Sized s → Ready req i 1 s → s.regStatus 0x000D0058 = 0 → s.inDomain = false → s.ctlSnap.posValid = true →
      s.scalars.spMaxDist * s.scalars.spMaxDist ≥
        ((s.planeOf (s.geoOf s.ctl.spLat s.ctl.spLon)).1 - s.ctlSnap.posN) * ((s.planeOf (s.geoOf s.ctl.spLat s.ctl.spLon)).1 - s.ctlSnap.posN) +
        ((s.planeOf (s.geoOf s.ctl.spLat s.ctl.spLon)).2 - s.ctlSnap.posE) * ((s.planeOf (s.geoOf s.ctl.spLat s.ctl.spLon)).2 - s.ctlSnap.posE) →
      ∃ t, exec (.spApply req) s = .next t ∧
        t.ctl.spStored = some ({ pos := s.geoOf s.ctl.spLat s.ctl.spLon, hdg := s.ctl.spHdg }, s.frame) ∧
        t.ctl.spNext = (if s.sup.mode = .autoPos then some { pos := s.geoOf s.ctl.spLat s.ctl.spLon, hdg := s.ctl.spHdg } else s.ctl.spNext) ∧
        t.ses.sent.head? = some (writeResponse req.conn req.id 1 0 0)) ∧
  -- SP_MOVE (R230)
  (∀ (req : Req) (i : Nat) (p : Setpoint) (g : Geo) (s : State), Sized s → Ready req i 1 s → s.regStatus 0x000D0058 = 0 → s.inDomain = false →
      s.moveBase = some p → g = { ofPlane p.pos { x := s.ctl.spMoveN, y := s.ctl.spMoveE, z := 0 } with h := p.pos.h } → s.ctlSnap.posValid = true →
      s.scalars.spMaxDist * s.scalars.spMaxDist ≥ ((s.planeOf g).1 - s.ctlSnap.posN) * ((s.planeOf g).1 - s.ctlSnap.posN) +
        ((s.planeOf g).2 - s.ctlSnap.posE) * ((s.planeOf g).2 - s.ctlSnap.posE) →
      ∃ t, exec (.spMove req) s = .next t ∧
        t.ctl.spStored = some ({ pos := g, hdg := s.ctl.spHdg }, s.frame) ∧
        t.ctl.spNext = (if s.sup.mode = .autoPos then some { pos := g, hdg := s.ctl.spHdg } else s.ctl.spNext) ∧
        t.ses.sent.head? = some (writeResponse req.conn req.id 1 0 0)) ∧
  -- TUNE_SEL (R227)
  (∀ (req : Req) (i : Nat) (set : Fin 8) (s : State), Sized s → Ready req i 1 s → s.regStatus 0x000D005C = 0 → s.inDomain = false →
      (lookupK s.image.tunes set.val).isSome = true →
      ∃ t, exec (.tuneSel req set) s = .next t ∧
        t.ctl.tuneNext = some (set.val, i) ∧ t.ctl.tune = s.ctl.tune ∧ t.ses.sent.head? = some (writeResponse req.conn req.id 1 0 0)) ∧
  -- JOY_DEMAND (R235)
  (∀ (req : Req) (i : Nat) (surge : BitVec 10) (sway : BitVec 10) (yaw : BitVec 10) (s : State), Sized s → Ready req i 1 s →
      s.regStatus 0x000D0060 = 0 → s.inDomain = false → s.scalars.joySource = 0 → s.sup.mode = .joystick → (s.joyOwner = none ∨ s.joyOwner = some i) →
      ∃ t, exec (.joyDemand req surge sway yaw) s = .next t ∧
        t.ctl.joy.owner = some i ∧ t.ctl.joy.stale = false ∧
        t.ctl.joy.value = some ({
          surge := ((max surge.toInt (-511) : Int) : Rat) / 511, sway := ((max sway.toInt (-511) : Int) : Rat) / 511,
          yaw := ((max yaw.toInt (-511) : Int) : Rat) / 511 }, s.now) ∧
        t.ses.sent.head? = some (writeResponse req.conn req.id 1 0 0)) ∧
  -- JOY_RELEASE (R235)
  (∀ (req : Req) (i : Nat) (s : State), Sized s → Ready req i 1 s → s.regStatus 0x000D0060 = 0 → s.inDomain = false → s.scalars.joySource = 0 →
      s.sup.mode = .joystick → s.joyOwner = some i →
      ∃ t, exec (.joyRelease req) s = .next t ∧
        t.ctl.joy.owner = none ∧ t.ctl.joy.value = s.ctl.joy.value ∧ t.ses.sent.head? = some (writeResponse req.conn req.id 1 0 0)) ∧
  -- TRACK_COMMIT (R231)
  (∀ (req : Req) (i : Nat) (count : Fin 128) (s : State), Sized s → Ready req i 1 s → s.regStatus 0x000D008C = 0 → s.inDomain = false →
      ∃ t, exec (.trackCommit req count) s = .next t ∧
        t.ctl.trackNext = (if s.trackOk count.val then some (s.ctl.staging.take count.val, i) else s.ctl.trackNext) ∧ t.ctl.track = s.ctl.track ∧
        t.ses.sent.head? = some (if s.trackOk count.val then writeResponse req.conn req.id 1 0 0 else writeResponse req.conn req.id 0 7 1)) ∧
  -- TRACK_CLEAR (R231)
  (∀ (req : Req) (i : Nat) (s : State), Sized s → Ready req i 1 s → s.regStatus 0x000D008C = 0 → s.inDomain = false → s.sup.mode ≠ .autoTrack →
      ∃ t, exec (.trackClear req) s = .next t ∧
        t.ctl.trackNext = some ([], i) ∧ t.ctl.track = s.ctl.track ∧ t.ses.sent.head? = some (writeResponse req.conn req.id 1 0 0)) ∧
  -- THR_ENABLE (R241)
  (∀ (req : Req) (i : Nat) (mask : BitVec 16) (s : State), Sized s → Ready req i 1 s → s.regStatus 0x000D00E4 = 0 → s.inDomain = false →
      releasesThrust s.sup.mode = false →
      ∃ t, exec (.thrEnable req mask) s = .next t ∧
        t.ctl.thrEnable = mask ∧ t.ctl.thr = s.ctl.thr ∧ t.ses.sent.head? = some (writeResponse req.conn req.id 1 0 0))

/-- What the requests to SRV do: a clause for each command, on the states and operands it names (operands and times: logs 5 and 7). -/
def Obligations.CompleteServoRequests : Prop :=
  -- SRV_CLEAR_FAULT (R278)
  (∀ (req : Req) (i : Nat) (thruster : Fin 16) (c : ThrCfg) (s : State), Sized s → Ready req i 1 s → s.regStatus 0x000E006C = 0 →
      s.thrCfg thruster.val = some c → (s.srv.t thruster.val).az.fault = 3 → s.faultGone thruster.val c false s.now = true →
      ∃ t, exec (.srvClearFault req thruster) s = .next t ∧
        (t.srv.t thruster.val).az.fault = 0 ∧ (t.srv.t thruster.val).az.state = .stop ∧ t.srv.cmdResult = 0 ∧ t.srv.cmdAction = 1 ∧
        t.srv.cmdSession = i ∧ t.ses.sent.head? = some (writeResponse req.conn req.id 1 0 0)) ∧
  -- RESET_PROFILE (R293)
  (∀ (req : Req) (i : Nat) (thruster : Fin 16) (c : ThrCfg) (s : State), Sized s → Ready req i 2 s → s.regStatus 0x000E006C = 0 →
      s.thrCfg thruster.val = some c → c.azKind = 1 → (s.sup.mode = .standby ∨ s.sup.mode = .service) →
      ∃ t, exec (.resetProfile req thruster) s = .next t ∧
        (t.srv.t thruster.val).work = {
          thruster := thruster.val, tag := (s.srv.t thruster.val).work.tag, struct := (s.srv.t thruster.val).work.struct } ∧
        (t.srv.t thruster.val).ff = false ∧ (t.srv.t thruster.val).loaded = false ∧ t.srv.cmdResult = 0 ∧
        t.ses.sent.head? = some (writeResponse req.conn req.id 1 0 0)) ∧
  -- SET_BASELINE (R291)
  (∀ (req : Req) (i : Nat) (thruster : Fin 16) (c : ThrCfg) (s : State), Sized s → Ready req i 3 s → s.regStatus 0x000E006C = 0 →
      s.thrCfg thruster.val = some c → c.azKind = 1 → (s.sup.mode = .standby ∨ s.sup.mode = .service) → (s.srv.t thruster.val).ff = true →
      ∃ t, exec (.setBaseline req thruster) s = .next t ∧
        (t.srv.t thruster.val).base = some (s.profileRecord thruster.val c 1) ∧ (t.srv.t thruster.val).work = (s.srv.t thruster.val).work ∧
        t.srv.cmdResult = 0 ∧ t.ses.sent.head? = some (writeResponse req.conn req.id 1 0 0)) ∧
  -- STORE_NOW (R293)
  (∀ (req : Req) (i : Nat) (thruster : Fin 16) (c : ThrCfg) (s : State), Sized s → Ready req i 2 s → s.regStatus 0x000E006C = 0 →
      s.thrCfg thruster.val = some c → c.azKind = 1 → s.srv.thr.any (fun x => x.storing.isSome) = true →
      ∃ t, exec (.storeNow req thruster) s = .next t ∧
        (t.srv.t thruster.val).storeQueued = true ∧ t.srv.cmdResult = 0 ∧ t.srv.cmdAction = 4 ∧
        t.ses.sent.head? = some (writeResponse req.conn req.id 1 0 0)) ∧
  -- LEARN_RUN (R294)
  (∀ (req : Req) (i : Nat) (thruster : Fin 16) (passes : Fin 32768) (ccw : Bool) (c : ThrCfg) (s : State), Sized s → Ready req i 2 s →
      s.regStatus 0x000E006C = 0 → s.thrCfg thruster.val = some c → c.azKind = 1 → s.sup.mode = .service → 1 ≤ passes.val → passes.val ≤ 100 →
      (s.srv.t thruster.val).az.fault = 0 → (s.srv.t thruster.val).pitch.fault = 0 → s.srv.test = none →
      ∃ t, exec (.learnRun req thruster passes ccw) s = .next t ∧
        t.srv.test = some (thruster.val, .learnRun passes.val ccw) ∧ t.srv.progress = 0 ∧ t.srv.runCcw = ccw ∧ t.srv.cmdResult = 0 ∧
        t.ses.sent.head? = some (writeResponse req.conn req.id 1 0 0)) ∧
  -- TEST_MOVE (R293)
  (∀ (req : Req) (i : Nat) (thruster : Fin 16) (target : BitVec 16) (c : ThrCfg) (s : State), Sized s → Ready req i 2 s → s.regStatus 0x000E006C = 0 →
      s.thrCfg thruster.val = some c → c.azKind = 1 → s.sup.mode = .service → (s.srv.t thruster.val).az.fault = 0 →
      (s.srv.t thruster.val).pitch.fault = 0 → s.srv.test = none →
      ∃ t, exec (.testMove req thruster target) s = .next t ∧
        t.srv.test = some (thruster.val, .testMove target.toNat) ∧ t.srv.testThr = thruster.val ∧ t.srv.cmdResult = 0 ∧
        t.ses.sent.head? = some (writeResponse req.conn req.id 1 0 0)) ∧
  -- TEST_STOP (R293)
  (∀ (req : Req) (i : Nat) (thruster : Fin 16) (s : State), Sized s → Ready req i 2 s → s.regStatus 0x000E006C = 0 → s.sup.mode = .service →
      s.underTest thruster.val = true →
      ∃ t, exec (.testStop req thruster) s = .next t ∧
        t.srv.test = none ∧ t.srv.testThr = thruster.val ∧ t.srv.cmdResult = 0 ∧ t.ses.sent.head? = some (writeResponse req.conn req.id 1 0 0)) ∧
  -- ARM (R296)
  (∀ (req : Req) (i : Nat) (s : State), Sized s → Ready req i 2 s → s.regStatus 0x000E0078 = 0 → s.srv.trace.phase = .idle →
      s.srv.shed = false → s.thm.enforced = false → s.thm.armFrom ≤ s.now →
      ∃ t, exec (.arm req) s = .next t ∧
        t.srv.trace.phase = .armed ∧ t.srv.trace.len = 0 ∧ t.srv.trace.trigSeen = false ∧
        t.ses.sent.head? = some (writeResponse req.conn req.id 1 0 0)) ∧
  -- TRC_STOP (R296)
  (∀ (req : Req) (i : Nat) (s : State), Sized s → Ready req i 2 s → s.regStatus 0x000E0078 = 0 → s.srv.trace.phase = .armed →
      ∃ t, exec (.trcStop req) s = .next t ∧
        t.srv.trace.phase = .done ∧ t.srv.trace.len = s.srv.trace.len ∧ t.ses.sent.head? = some (writeResponse req.conn req.id 1 0 0)) ∧
  -- FORCE (R296)
  (∀ (req : Req) (i : Nat) (s : State), Sized s → Ready req i 2 s → s.regStatus 0x000E0078 = 0 → s.srv.trace.phase = .armed →
     s.srv.trace.prePct < 100 →
      ∃ t, exec (.force req) s = .next t ∧
        t.srv.trace.phase = .triggered ∧ t.srv.trace.left = 65536 * (100 - s.srv.trace.prePct) / 100 ∧ t.srv.trace.trigAt = s.now ∧
        t.ses.sent.head? = some (writeResponse req.conn req.id 1 0 0))

/-- What the requests to SIG and FIO do: a clause for each command, on the states and operands it names (operands and times: logs 5 and 7). -/
def Obligations.CompleteInputOutputRequests : Prop :=
  -- SIG_CMD_START (R307)
  (∀ (req : Req) (i : Nat) (mask : BitVec 16) (s : State), Sized s → Ready req i 2 s → s.regStatus 0x00100028 = 0 → s.sup.mode = .service →
      s.bst.failedMask.getLsbD 18 = false →
      ∃ t, exec (.sigCmdStart req mask) s = .next t ∧
        t.sig.ins.map (·.phase) = s.sig.ins.mapIdx (fun k c => if k < 16 ∧ c.used = true ∧ c.phase = .stopped ∧ mask.getLsbD k = true then
          .settling else c.phase) ∧
        t.sig.cmdResult = 0 ∧ t.sig.cmdSession = i ∧ t.sig.outs = s.sig.outs ∧ t.ses.sent.head? = some (writeResponse req.conn req.id 1 0 0)) ∧
  -- SIG_CMD_STOP (R307)
  (∀ (req : Req) (i : Nat) (mask : BitVec 16) (s : State), Sized s → Ready req i 2 s → s.regStatus 0x00100028 = 0 → s.sup.mode = .service →
      ∃ t, exec (.sigCmdStop req mask) s = .next t ∧
        t.sig.ins.map (·.phase) = s.sig.ins.mapIdx (fun k c => if k < 16 ∧ mask.getLsbD k = true then .stopped else c.phase) ∧ t.sig.cmdResult = 0 ∧
        t.sig.outs = s.sig.outs ∧ t.ses.sent.head? = some (writeResponse req.conn req.id 1 0 0)) ∧
  -- SIG_CMD_SYNC (R310)
  (∀ (req : Req) (i : Nat) (s : State), Sized s → Ready req i 2 s → s.regStatus 0x00100028 = 0 → s.bst.failedMask.getLsbD 18 = false →
      ∃ t, exec (.sigCmdSync req) s = .next t ∧
        t.sig.ins.map (·.phase) = s.sig.ins.mapIdx (fun k c => if k < 16 ∧ c.classF = false ∧ c.phase ≠ .stopped then .settling else c.phase) ∧
        t.sig.syncLast = some s.now ∧ t.sig.syncAccepted = satInc 16 s.sig.syncAccepted ∧
        t.ses.sent.head? = some (writeResponse req.conn req.id 1 0 0)) ∧
  -- CH_CFG (R306)
  (∀ (req : Req) (i : Nat) (value : Word) (c : AinChan) (s : State), Sized s → Ready req i 2 s → s.regStatus 0x00100034 = 0 → s.sup.mode = .service →
      s.sig.chSel < 16 → (s.sig.chan s.sig.chSel).phase = .stopped → c = ainOfWord value (s.sig.chan s.sig.chSel) → c.range < 4 → 1 ≤ c.rate →
      c.rate ≤ 80000 → (c.classF = true ∨ gridRate c.rate = true) →
      ∃ t, exec (.chCfg req value) s = .next t ∧
        (t.sig.chan s.sig.chSel) = { c with
          used := true, delay := if c.classF ∧ delayOk c.rate (s.sig.chan s.sig.chSel).delay = true then (s.sig.chan s.sig.chSel).delay else 0
          delayNext := (s.sig.chan s.sig.chSel).delayNext.filter fun d => c.classF && delayOk c.rate d } ∧ t.sig.cmdResult = 0 ∧
        t.sig.outs = s.sig.outs ∧ t.ses.sent.head? = some (writeResponse req.conn req.id 1 0 0)) ∧
  -- CH_DELAY (R313)
  (∀ (req : Req) (i : Nat) (eighths : BitVec 12) (s : State), Sized s → Ready req i 2 s → s.regStatus 0x00100038 = 0 →
      (s.sup.mode = .standby ∨ s.sup.mode = .service) → s.sig.chSel < 16 → (s.sig.chan s.sig.chSel).classF = true →
      delayOk (s.sig.chan s.sig.chSel).rate eighths.toNat = true →
      ∃ t, exec (.chDelay req eighths) s = .next t ∧
        (t.sig.chan s.sig.chSel).delayNext = some eighths.toNat ∧ (t.sig.chan s.sig.chSel).delay = (s.sig.chan s.sig.chSel).delay ∧
        t.sig.cmdResult = 0 ∧ t.ses.sent.head? = some (writeResponse req.conn req.id 1 0 0)) ∧
  -- OUT_VALUE (R314)
  (∀ (req : Req) (i : Nat) (value : F32) (s : State), Sized s → Ready req i 1 s → s.regStatus 0x00100068 = 0 → f32Finite value = true →
      s.sup.mode ≠ .dormant → s.sig.outSel < 12 → (s.sig.out s.sig.outSel).src = .session →
      ∃ t, exec (.outValue req value) s = .next t ∧
        (t.sig.out s.sig.outSel).value = f32Val value ∧ (t.sig.out s.sig.outSel).staged = true ∧ (t.sig.out s.sig.outSel).stagedAt = s.now ∧
        (t.sig.out s.sig.outSel).code = (s.sig.out s.sig.outSel).code ∧ t.sig.ins = s.sig.ins ∧
        t.ses.sent.head? = some (writeResponse req.conn req.id 1 0 0)) ∧
  -- OUT_ON (R325)
  (∀ (req : Req) (i : Nat) (bankB : Bool) (mask : BitVec 24) (s : State), Sized s → Ready req i 1 s →
      s.regStatus (if bankB then 0x0011004C else 0x00110044) = 0 → s.sup.mode ≠ .dormant →
      (List.range 24).all (fun k => !mask.getLsbD k || ((s.fio.chan ((if bankB then 24 else 0) + k)).cfg.dir == .output &&
        (s.fio.chan ((if bankB then 24 else 0) + k)).cfg.src == .session)) = true →
      ∃ t, exec (.outOn req bankB mask) s = .next t ∧
        (List.range 24).all (fun k => (t.fio.chan ((if bankB then 24 else 0) + k)).session == (if mask.getLsbD k then true else
          (s.fio.chan ((if bankB then 24 else 0) + k)).session)) = true ∧
        t.fio.cmdResult = 0 ∧ t.fio.banks = s.fio.banks ∧ t.ses.sent.head? = some (writeResponse req.conn req.id 1 0 0)) ∧
  -- OUT_OFF (R325)
  (∀ (req : Req) (i : Nat) (bankB : Bool) (mask : BitVec 24) (s : State), Sized s → Ready req i 1 s →
      s.regStatus (if bankB then 0x00110050 else 0x00110048) = 0 → s.sup.mode ≠ .dormant →
      (List.range 24).all (fun k => !mask.getLsbD k || ((s.fio.chan ((if bankB then 24 else 0) + k)).cfg.dir == .output &&
        (s.fio.chan ((if bankB then 24 else 0) + k)).cfg.src == .session)) = true →
      ∃ t, exec (.outOff req bankB mask) s = .next t ∧
        (List.range 24).all (fun k => (t.fio.chan ((if bankB then 24 else 0) + k)).session == (if mask.getLsbD k then false else
          (s.fio.chan ((if bankB then 24 else 0) + k)).session)) = true ∧
        t.fio.cmdResult = 0 ∧ t.fio.banks = s.fio.banks ∧ t.ses.sent.head? = some (writeResponse req.conn req.id 1 0 0)) ∧
  -- FIO_CLEAR_FAULT (R336)
  (∀ (req : Req) (i : Nat) (channel : Fin 64) (all : Bool) (s : State), Sized s → Ready req i 1 s → s.regStatus 0x00110054 = 0 → channel.val < 48 →
      ∃ t, exec (.fioClearFault req channel all) s = .next t ∧
        (t.fio.chan channel.val).latched = false ∧ (t.fio.chan channel.val).blocked = false ∧ t.fio.cmdResult = 0 ∧ t.fio.banks = s.fio.banks ∧
        t.ses.sent.head? = some (writeResponse req.conn req.id 1 0 0))

/-- What the requests to SAF, CAN and ICX do: a clause for each command, on the states and operands it names (operands and times: logs 5 and 7). -/
def Obligations.CompleteSafetyDomainRequests : Prop :=
  -- PROOF_BEGIN (R373)
  (∀ (req : Req) (i : Nat) (s : State), Sized s → Ready req i 2 s → s.regStatus 0x0012007C = 0 → s.sup.mode = .service → s.saf.alarmTest = none →
      s.saf.pairs.any (fun p => p.testing.isSome) = false →
      ∃ t, exec (.proofBegin req) s = .next t ∧
        t.saf.proof = .running ∧ t.saf.hsPass = 0 ∧ t.saf.lsPass = 0 ∧ t.saf.esPass = 0 ∧ t.saf.discPass = 0 ∧ t.saf.alarmPass = false ∧
        t.saf.cmdResult = 0 ∧ t.ses.sent.head? = some (writeResponse req.conn req.id 1 0 0)) ∧
  -- PAIR_TEST_HS (R373)
  (∀ (req : Req) (i : Nat) (pair : Fin 8) (s : State), Sized s → Ready req i 2 s → s.regStatus 0x0012007C = 0 → s.sup.mode = .service →
      s.saf.alarmTest = none → s.saf.pairs.any (fun p => p.testing.isSome) = false → s.saf.proof = .running → (s.saf.p pair.val).on = true →
      s.pairTestBarred pair.val = false →
      ∃ t, exec (.pairTestHs req pair) s = .next t ∧
        (t.saf.p pair.val).testing = some (true, s.now) ∧ (t.saf.p pair.val).ls = (s.saf.p pair.val).ls ∧ t.saf.cmdResult = 0 ∧
        t.saf.proof = .running ∧ t.ses.sent.head? = some (writeResponse req.conn req.id 1 0 0)) ∧
  -- PAIR_TEST_LS (R373)
  (∀ (req : Req) (i : Nat) (pair : Fin 8) (s : State), Sized s → Ready req i 2 s → s.regStatus 0x0012007C = 0 → s.sup.mode = .service →
      s.saf.alarmTest = none → s.saf.pairs.any (fun p => p.testing.isSome) = false → s.saf.proof = .running → (s.saf.p pair.val).on = true →
      s.pairTestBarred pair.val = false →
      ∃ t, exec (.pairTestLs req pair) s = .next t ∧
        (t.saf.p pair.val).testing = some (false, s.now) ∧ (t.saf.p pair.val).hs = (s.saf.p pair.val).hs ∧ t.saf.cmdResult = 0 ∧
        t.saf.proof = .running ∧ t.ses.sent.head? = some (writeResponse req.conn req.id 1 0 0)) ∧
  -- ESTOP_TEST (R373)
  (∀ (req : Req) (i : Nat) (input : Fin 2) (s : State), Sized s → Ready req i 2 s → s.regStatus 0x0012007C = 0 → s.sup.mode = .service →
      s.saf.alarmTest = none → s.saf.pairs.any (fun p => p.testing.isSome) = false → s.saf.proof = .running →
      ∃ t, exec (.estopTest req input) s = .next t ∧
        t.saf.esTest = some { input := input.val } ∧ t.saf.cmdResult = 0 ∧ t.saf.proof = .running ∧
        t.ses.sent.head? = some (writeResponse req.conn req.id 1 0 0)) ∧
  -- PROOF_END (R373)
  (∀ (req : Req) (i : Nat) (s : State), Sized s → Ready req i 2 s → s.regStatus 0x0012007C = 0 → s.sup.mode = .service → s.saf.alarmTest = none →
      s.saf.pairs.any (fun p => p.testing.isSome) = false → s.saf.proof = .running →
      ∃ t, exec (.proofEnd req) s = .next t ∧
        t.saf.proof = (if s.saf.proofPassed then .pass else .fail) ∧ t.saf.proofLast = (if s.saf.proofPassed then s.now else s.saf.proofLast) ∧
        t.saf.esTest = none ∧ t.saf.cmdResult = 0 ∧ t.ses.sent.head? = some (writeResponse req.conn req.id 1 0 0)) ∧
  -- FAULT_RESET (R349)
  (∀ (req : Req) (i : Nat) (pair : Fin 8) (all : Bool) (input : Fin 2) (s : State), Sized s → Ready req i 1 s → s.regStatus 0x0012007C = 0 →
      s.saf.alarmTest = none → s.saf.pairs.any (fun p => p.testing.isSome) = false →
      ∃ t, exec (.faultReset req pair all input) s = .next t ∧
        (t.saf.p pair.val).cfFault = ((s.saf.p pair.val).cfFault && (s.saf.p pair.val).cf == (s.saf.p pair.val).on) ∧
        (t.saf.p pair.val).on = (s.saf.p pair.val).on ∧ t.saf.cmdResult = 0 ∧ t.ses.sent.head? = some (writeResponse req.conn req.id 1 0 0)) ∧
  -- ALARM_TEST (R368)
  (∀ (req : Req) (i : Nat) (s : State), Sized s → Ready req i 2 s → s.regStatus 0x0012007C = 0 → (s.sup.mode = .standby ∨ s.sup.mode = .service) →
      s.saf.alarmTest = none → s.saf.pairs.any (fun p => p.testing.isSome) = false →
      ∃ t, exec (.alarmTest req) s = .next t ∧
        t.saf.alarmTest = some (s.now + 2000000000) ∧ t.saf.cmdResult = 0 ∧ t.saf.pairs = s.saf.pairs ∧
        t.ses.sent.head? = some (writeResponse req.conn req.id 1 0 0)) ∧
  -- RECOVER (R386)
  (∀ (req : Req) (i : Nat) (port : Fin 4) (s : State), Sized s → Ready req i 2 s → s.regStatus 0x0014005C = 0 →
     (s.can.port port.val).phase = .busOff →
      ∃ t, exec (.recover req port) s = .next t ∧
        (t.can.port port.val).recovering = true ∧ (t.can.port port.val).phase = .busOff ∧ t.can.cmdResult = 0 ∧
        t.ses.sent.head? = some (writeResponse req.conn req.id 1 0 0)) ∧
  -- HANDOVER (R430)
  (∀ (req : Req) (i : Nat) (s : State), Sized s → Ready req i 1 s → s.regStatus 0x00180050 = 0 → s.inDomain = true → s.icx.role = .lead →
      s.successor.isSome = true →
      ∃ t, exec (.handover req) s = .next t ∧
        t.icx.handCause = some 0 ∧ t.icx.role = .lead ∧ t.icx.cmdResult = 0 ∧ t.ses.sent.head? = some (writeResponse req.conn req.id 1 0 0)) ∧
  -- SET_MEMBER (R419)
  (∀ (req : Req) (i : Nat) (index : Fin 8) (s : State), Sized s → Ready req i 3 s → s.regStatus 0x00180050 = 0 → s.sup.mode = .service → StoreRoom s →
      ∃ t, exec (.setMember req index) s = .next t ∧
        t.icx.memberId = some index.val ∧ t.icx.phase = s.icx.phase ∧ t.icx.cmdResult = 0 ∧
        t.ses.sent.head? = some (writeResponse req.conn req.id 1 0 0))

/-- What the requests to SES, TIM, BST, LOG, AQF and CFG do: What a certificate's bytes hold is a free value (log 27). a clause for each command, on
the states and operands it names (operands and times: logs 5 and 7). -/
def Obligations.CompleteStoreRequests : Prop :=
  -- SES_CMD_CLOSE (R447)
  (∀ (req : Req) (i : Nat) (session : Fin 32) (s : State), Sized s → Ready req i 2 s → s.regStatus 0x00170040 = 0 → session.val ≠ i →
      (s.ses.session session.val).phase ≠ .free →
      ∃ t, exec (.sesCmdClose req session) s = .next t ∧
        (t.ses.session session.val).phase = .free ∧ (t.ses.session session.val).outstanding = [] ∧ (t.ses.session i).phase = .open_ ∧
        t.ses.cmdResult = 0 ∧ t.ses.sent.head? = some (writeResponse req.conn req.id 1 0 0)) ∧
  -- INSTALL_CERT (R455)
  (∀ (req : Req) (i : Nat) (d : Bytes) (ok : Bool) (s : State), Sized s → Ready req i 3 s → s.regStatus 0x00170040 = 0 → s.ses.siteStage = some d →
      StoreRoom s → ok = (Config.certParses d && Config.certDeviceKey d) →
      ∃ t, exec (.installCert req) s = .next t ∧
        t.ses.siteCert = (if ok then some d else s.ses.siteCert) ∧ t.ses.siteStage = (if ok then none else s.ses.siteStage) ∧
        t.ses.sent.head? = some (if ok then writeResponse req.conn req.id 1 0 0 else writeResponse req.conn req.id 0 7 (if Config.certParses d then
          2 else 3))) ∧
  -- USE_FACTORY (R455)
  (∀ (req : Req) (i : Nat) (s : State), Sized s → Ready req i 3 s → s.regStatus 0x00170040 = 0 → StoreRoom s →
      ∃ t, exec (.useFactory req) s = .next t ∧
        t.ses.siteCert = none ∧ t.ses.cmdResult = 0 ∧ t.ses.accounts = s.ses.accounts ∧ t.ses.sent.head? = some (writeResponse req.conn req.id 1 0 0)) ∧
  -- UNLOCK (R452)
  (∀ (req : Req) (i : Nat) (s : State), Sized s → Ready req i 3 s → s.regStatus 0x00170040 = 0 →
      ∃ t, exec (.unlock req) s = .next t ∧
        t.ses.sources = [] ∧ t.ses.cmdResult = 0 ∧ t.ses.accounts = s.ses.accounts ∧ t.ses.sent.head? = some (writeResponse req.conn req.id 1 0 0)) ∧
  -- TIM_CMD_RESET_MODEL (R474)
  (∀ (req : Req) (i : Nat) (s : State), Sized s → Ready req i 2 s → s.regStatus 0x00090058 = 0 → s.sup.mode = .service →
      ∃ t, exec (.timCmdResetModel req) s = .next t ∧
        t.tim.model = { serial := s.sup.serial % 2 ^ 32, started := s.now } ∧ t.tim.modelDirty = true ∧ t.tim.cmdResult = 0 ∧
        t.ses.sent.head? = some (writeResponse req.conn req.id 1 0 0)) ∧
  -- BIST_PARTIAL (R532)
  (∀ (req : Req) (i : Nat) (s : State), Sized s → Ready req i 2 s → s.regStatus 0x0004003C = 0 → (s.sup.mode = .standby ∨ s.sup.mode = .service) →
      (s.bst.state ≠ 1 ∨ s.bst.kind = 0) →
      ∃ t, exec (.bistPartial req) s = .next t ∧
        t.bst.state = 1 ∧ t.bst.kind = 1 ∧ t.bst.pass = false ∧ t.bst.passMask = 0 ∧ t.bst.cmdResult = 0 ∧
        t.ses.sent.head? = some (writeResponse req.conn req.id 1 0 0)) ∧
  -- BIST_FULL (R533)
  (∀ (req : Req) (i : Nat) (key : Byte) (s : State), Sized s → Ready req i 2 s → s.regStatus 0x0004003C = 0 → s.sup.mode = .service →
      (s.bst.state ≠ 1 ∨ s.bst.kind = 0) → key = 0x5A → s.srv.test = none → s.saf.proof ≠ .running →
      ∃ t, exec (.bistFull req key) s = .next t ∧
        t.bst.state = 1 ∧ t.bst.kind = 2 ∧ t.bst.restartNeeded = true ∧ t.ses.sessions.all (fun x => x.phase == .free) = true ∧ t.cfg.staged = [] ∧
        t.ses.sent.head? = some (writeResponse req.conn req.id 1 0 0)) ∧
  -- LOG_CLEAR (R507)
  (∀ (req : Req) (i : Nat) (key : Byte) (s : State), Sized s → Ready req i 3 s → s.regStatus 0x001B0040 = 0 →
      (s.sup.mode = .standby ∨ s.sup.mode = .service) → key = 0xA5 → s.log.logFault = false → StoreRoom s →
      ∃ t, exec (.logClear req key) s = .next t ∧
        (∃ r, t.log.durable = [r] ∧ r.code = 0x1B10 ∧ t.log.flushed = r.seq ∧ t.log.oldest = r.seq) ∧ t.log.lastWords = [] ∧ t.log.epoch = (s.log.epoch + 1) % 65536 ∧ t.log.clearTime = s.now ∧ t.log.cmdResult = 0 ∧
        t.ses.sent.head? = some (writeResponse req.conn req.id 1 0 0)) ∧
  -- EXPORT_PREPARE (R510)
  (∀ (req : Req) (i : Nat) (s : State), Sized s → Ready req i 2 s → s.regStatus 0x001A0068 = 0 → s.sup.mode = .service →
      ∃ t, exec (.exportPrepare req) s = .next t ∧
        t.aqf.export_ = some s.learnedObjs ∧ t.aqf.exportHdr = (s.sup.serial % 2 ^ 32, s.now, s.cfg.check) ∧ t.aqf.cmdResult = 0 ∧
        t.ses.sent.head? = some (writeResponse req.conn req.id 1 0 0)) ∧
  -- IMPORT_COMMIT (R511)
  (∀ (req : Req) (i : Nat) (mask : Fin 8) (s : State), Sized s → Ready req i 2 s → s.regStatus 0x001A0068 = 0 → s.sup.mode = .service →
      s.aqf.phase = .ready → s.domOn 7 = true → s.aqf.suspended = false → s.aqf.importPending = false → (s.importCheck mask.val).isRight = true →
      s.aqf.writes.length < 64 → s.importRoom = true →
      ∃ t, exec (.importCommit req mask) s = .next t ∧
        t.aqf.importPending = true ∧ t.aqf.cmdResult = 0 ∧ t.aqf.cmdAction = 2 ∧ t.aqf.import_ = s.aqf.import_ ∧
        t.ses.sent.head? = some (writeResponse req.conn req.id 1 0 0)) ∧
  -- IMPORT_ABORT (R511)
  (∀ (req : Req) (i : Nat) (s : State), Sized s → Ready req i 2 s → s.regStatus 0x001A0068 = 0 → s.sup.mode = .service →
      ∃ t, exec (.importAbort req) s = .next t ∧
        t.aqf.import_ = [] ∧ t.aqf.importLen = 0 ∧ t.aqf.objs = s.aqf.objs ∧ t.aqf.cmdResult = 0 ∧
        t.ses.sent.head? = some (writeResponse req.conn req.id 1 0 0)) ∧
  -- ARCHIVE_TRACE (R512)
  (∀ (req : Req) (i : Nat) (s : State), Sized s → Ready req i 2 s → s.regStatus 0x001A0068 = 0 → s.srv.trace.phase = .done → s.srv.trace.len ≠ 0 →
      s.aqf.archiving = false →
      ∃ t, exec (.archiveTrace req) s = .next t ∧
        t.aqf.nextArch = (s.aqf.nextArch + 1) % 65536 ∧ t.aqf.cmdResult = 0 ∧ t.aqf.cmdAction = 4 ∧ t.srv.trace = s.srv.trace ∧
        t.ses.sent.head? = some (writeResponse req.conn req.id 1 0 0)) ∧
  -- ARCHIVE_DELETE (R512)
  (∀ (req : Req) (i : Nat) (entry : BitVec 16) (s : State), Sized s → Ready req i 2 s → s.regStatus 0x001A0068 = 0 →
      s.aqf.archives.contains entry.toNat = true →
      ∃ t, exec (.archiveDelete req entry) s = .next t ∧
        t.aqf.objs = s.aqf.objs.filter (fun o => !(o.key.part == 5 && o.key.tag == entry.toNat)) ∧ t.aqf.archives.contains entry.toNat = false ∧
        t.aqf.cmdResult = 0 ∧ t.ses.sent.head? = some (writeResponse req.conn req.id 1 0 0)) ∧
  -- CONFIRM (R568)
  (∀ (req : Req) (i : Nat) (p0Ok : Bool) (s : State), Sized s → Ready req i 3 s → s.regStatus 0x001C004C = 0 →
      (s.sup.mode = .standby ∨ s.sup.mode = .service) → s.sup.noImage = false → s.cfg.written = false → s.cfg.confirmValue = s.cfg.check →
        StoreRoom s →
      ∃ t, exec (.confirm req p0Ok) s = .next t ∧
        t.cfg.confirmed = some (s.cfg.check, s.now) ∧ t.cfg.volatile = !p0Ok ∧
        t.cfg.p0Record = (if p0Ok then some (s.cfg.check, s.now) else s.cfg.p0Record) ∧
        t.sup.lockClearing = (if s.sup.locked then some i else s.sup.lockClearing) ∧ t.sup.locked = s.sup.locked ∧ t.cfg.cmdResult = 0 ∧
        t.ses.sent.head? = some (writeResponse req.conn req.id 1 0 0)) ∧
  -- WRITE_KEY (R566)
  (∀ (req : Req) (i : Nat) (key : Byte) (f : Option ImgFail) (c : Nat) (s : State), Sized s → Ready req i 2 s → s.regStatus 0x001C004C = 0 →
      s.sup.mode = .service → key = 0xC5 → s.cfg.stagedLen ≠ 0 → s.cfg.writing = false → s.stagedCheck = (f, c) →
      ∃ t, exec (.writeKey req key) s = .next t ∧
        t.cfg.phase = (if f.isNone then .check else s.cfg.phase) ∧ t.cfg.written = (f.isNone || s.cfg.written) ∧
        t.cfg.cmdResult = (if f.isNone then 0 else 5) ∧ t.cfg.stagedCheck = (if f.isNone then c else s.cfg.stagedCheck) ∧
        t.ses.sent.head? = some (if f.isNone then writeResponse req.conn req.id 1 0 0 else writeResponse req.conn req.id 0 7 5)) ∧
  -- DISCARD (R565)
  (∀ (req : Req) (i : Nat) (s : State), Sized s → Ready req i 2 s → s.regStatus 0x001C004C = 0 → s.cfg.writing = false →
      ∃ t, exec (.discard req) s = .next t ∧
        t.cfg.staged = [] ∧ t.cfg.stagedLen = 0 ∧ t.cfg.keyBytes = s.cfg.keyBytes ∧ t.cfg.cmdResult = 0 ∧
        t.ses.sent.head? = some (writeResponse req.conn req.id 1 0 0))

/-- What READ, WRITE, BULK_READ and BULK_WRITE do: a clause for each command, on the states and operands it names (operands and times: logs 5 and 7),
and what becomes of a WRITE whose waiting pair has been accepted (`settle`). -/
def Obligations.CompleteRegisterAccess : Prop :=
  -- READ (R443)
  (∀ (req : Req) (i : Nat) (addr : Word) (count : Nat) (s : State), Sized s → Ready req i 0 s → 1 ≤ count → count ≤ 64 →
      (readAddrs addr.toNat count).all (fun a => s.regStatus a == 0) = true →
      ∃ t, exec (.read req addr count) s = .next t ∧
        t.ses.sent.head? = some (reply req.conn 0x10 req.id 0 0 (leBytes 4 s.frame ++ (readAddrs addr.toNat count).flatMap (fun a =>
          leBytes 4 ((regRead (s.taken req i) a).getD 0).toNat))) ∧
        t.aqf = s.aqf) ∧
  -- WRITE (R456)
  (∀ (req : Req) (i : Nat) (pairs : List (Word × Word)) (v : Word) (w : Word) (s : State), Sized s → Ready req i 0 s →
      pairs = [(0x00170014, v), (0x00160014, w)] → s.regStatus 0x00170014 = 0 → s.regStatus 0x00160014 = 0 →
      ∃ t, exec (.write req pairs) s = .next t ∧
        t.ses.sel = v.toNat % 32 ∧ t.eth.sel = w.toNat % 2 ∧ t.ses.clog = s.ses.clog ∧ t.ses.sent.head? = some (writeResponse req.conn req.id 2 0 0)) ∧
  -- a WRITE whose waiting pair has been accepted goes on, and where no pair follows it answers with STATUS 0 and all its pairs (R456)
  (∀ (s : State), (∀ x ∈ s.ses.waiting, x.ready = false) → settle s = s) ∧
  (∀ (x : Waiting) (s : State), s.ses.waiting = [x] → x.ready = true → x.rest = [] →
      settle s = beginFull (respond x.session (writeResponse x.conn x.reqId (x.before + 1) 0 0) (dropWait x s))) ∧
  -- BULK_READ (R454)
  (∀ (req : Req) (i : Nat) (object : Byte) (index : BitVec 16) (offset : Word) (length : Nat) (s : State), Sized s →
      Ready req i (readRole object.toNat) s → 1 ≤ length → length ≤ 1024 → object.toNat ≤ 8 → object ≠ 3 → object ≠ 4 → object ≠ 5 →
      ∃ t, exec (.bulkRead req object index offset length) s = .next t ∧
        t.ses.sent.head? = some (reply req.conn 0x20 req.id 0 0 ((s.taken req i).objectBytes object.toNat index.toNat offset.toNat length)) ∧
        t.aqf = s.aqf) ∧
  -- BULK_WRITE (R454)
  (∀ (req : Req) (i : Nat) (object : Byte) (index : BitVec 16) (offset : Word) (data : Bytes) (s : State), Sized s → Ready req i 2 s →
      1 ≤ data.length → data.length ≤ 1024 → object = 5 → index = 0 → s.sup.mode = .service → s.cfg.writing = false →
      offset.toNat + data.length ≤ objectRoom 5 →
      ∃ t, exec (.bulkWrite req object index offset data) s = .next t ∧
        t.cfg.staged = pokeBytes s.cfg.staged offset.toNat data ∧ t.cfg.stagedLen = max s.cfg.stagedLen (offset.toNat + data.length) ∧
        t.ses.sent.head? = some (reply req.conn 0x21 req.id 0 0 (leBytes 2 data.length ++ zeros 2)))

/-- What the commands of the field and analog channels leave alone: each clause gives the fields its command may change, on every state and all
operands; every other field is the one before, but for what raising an event (`State.told`) or taking up a request (`State.served`) changes. -/
def Obligations.FrameFieldSignal : Prop :=
  -- FIELD_LINK_FRAME
  (∀ (bank : Fin 2) (crcOk : Bool) (s : State),
      ∃ t, exec (.fieldLinkFrame bank crcOk) s = .next t ∧ t = { s.told t with
        fio := { s.fio with banks := t.fio.banks, chans := t.fio.chans } } ∧ ∀ k, k ≠ bank.val →
      t.fio.banks[k]? = s.fio.banks[k]?) ∧
  -- LINK_REPLY
  (∀ (bank : Fin 2) (crcOk : Bool) (pins : List F32) (demag : BitVec 24) (currents : List F32) (supply : F32) (s : State),
      ∃ t, exec (.linkReply bank crcOk pins demag currents supply) s = .next t ∧ t = { s.told t with
        fio := { s.fio with banks := t.fio.banks, chans := t.fio.chans } } ∧ ∀ k, k ≠ bank.val →
      t.fio.banks[k]? = s.fio.banks[k]?) ∧
  -- LINK_TIMEOUT
  (∀ (bank : Fin 2) (s : State),
      ∃ t, exec (.linkTimeout bank) s = .next t ∧ t = { s.told t with
        fio := { s.fio with banks := t.fio.banks, chans := t.fio.chans } } ∧ ∀ k, k ≠ bank.val →
      t.fio.banks[k]? = s.fio.banks[k]?) ∧
  -- LINK_LOST
  (∀ (bank : Fin 2) (s : State),
      ∃ t, exec (.linkLost bank) s = .next t ∧ t = { s.told t with
        fio := { s.fio with banks := t.fio.banks, chans := t.fio.chans } } ∧ ∀ k, k ≠ bank.val →
      t.fio.banks[k]? = s.fio.banks[k]?) ∧
  -- INPUT_EDGE
  (∀ (ch : Fin 48) (volts : F32) (heldUs : Nat) (backUs : Nat) (s : State),
      ∃ t, exec (.inputEdge ch volts heldUs backUs) s = .next t ∧ t = { s.told t with fio := { s.fio with chans := t.fio.chans } } ∧ ∀ k, k ≠ ch.val →
      t.fio.chans[k]? = s.fio.chans[k]?) ∧
  -- FIELD_LOW
  (∀ (bank : Fin 2) (volts : F32) (us : Nat) (s : State),
      ∃ t, exec (.fieldLow bank volts us) s = .next t ∧ t = { s.told t with fio := { s.fio with banks := t.fio.banks } } ∧ ∀ k, k ≠ bank.val →
      t.fio.banks[k]? = s.fio.banks[k]?) ∧
  -- FIELD_HIGH
  (∀ (bank : Fin 2) (volts : F32) (us : Nat) (s : State),
      ∃ t, exec (.fieldHigh bank volts us) s = .next t ∧ t = { s.told t with fio := { s.fio with banks := t.fio.banks } } ∧ ∀ k, k ≠ bank.val →
      t.fio.banks[k]? = s.fio.banks[k]?) ∧
  -- FIELD_LOST
  (∀ (bank : Fin 2) (volts : F32) (us : Nat) (s : State),
      ∃ t, exec (.fieldLost bank volts us) s = .next t ∧ t = { s.told t with
        fio := { s.fio with banks := t.fio.banks, chans := t.fio.chans } } ∧ ∀ k, k ≠ bank.val →
      t.fio.banks[k]? = s.fio.banks[k]?) ∧
  -- FIELD_RESTORED
  (∀ (bank : Fin 2) (volts : F32) (us : Nat) (s : State),
      ∃ t, exec (.fieldRestored bank volts us) s = .next t ∧ t = { s.told t with
        fio := { s.fio with banks := t.fio.banks, chans := t.fio.chans } } ∧ ∀ k, k ≠ bank.val →
      t.fio.banks[k]? = s.fio.banks[k]?) ∧
  -- OVERCURRENT
  (∀ (ch : Fin 48) (thermal : Bool) (amps : F32) (us : Nat) (s : State),
      ∃ t, exec (.overcurrent ch thermal amps us) s = .next t ∧ t = { s.told t with fio := { s.fio with chans := t.fio.chans } } ∧ ∀ k, k ≠ ch.val →
      t.fio.chans[k]? = s.fio.chans[k]?) ∧
  -- OC_RETRY
  (∀ (ch : Fin 48) (s : State),
      ∃ t, exec (.ocRetry ch) s = .next t ∧ t = { s.told t with fio := { s.fio with chans := t.fio.chans } } ∧ ∀ k, k ≠ ch.val →
      t.fio.chans[k]? = s.fio.chans[k]?) ∧
  -- OC_CLEAN_PERIOD
  (∀ (ch : Fin 48) (s : State),
      ∃ t, exec (.ocCleanPeriod ch) s = .next t ∧ t = { s with fio := { s.fio with chans := t.fio.chans } } ∧ ∀ k, k ≠ ch.val →
      t.fio.chans[k]? = s.fio.chans[k]?) ∧
  -- BANK_OVERLOAD
  (∀ (bank : Fin 2) (currents : List F32) (us : Nat) (s : State),
      ∃ t, exec (.bankOverload bank currents us) s = .next t ∧ t = { s.told t with
        fio := { s.fio with banks := t.fio.banks, chans := t.fio.chans } } ∧ ∀ k, k ≠ bank.val →
      t.fio.banks[k]? = s.fio.banks[k]?) ∧
  -- STUCK_HIGH
  (∀ (ch : Fin 48) (volts : F32) (us : Nat) (demagUs : Nat) (s : State),
      ∃ t, exec (.stuckHigh ch volts us demagUs) s = .next t ∧ t = { s.told t with fio := { s.fio with chans := t.fio.chans } } ∧ ∀ k, k ≠ ch.val →
      t.fio.chans[k]? = s.fio.chans[k]?) ∧
  -- STUCK_HIGH_CLEAR
  (∀ (ch : Fin 48) (us : Nat) (s : State),
      ∃ t, exec (.stuckHighClear ch us) s = .next t ∧ t = { s.told t with fio := { s.fio with chans := t.fio.chans } } ∧ ∀ k, k ≠ ch.val →
      t.fio.chans[k]? = s.fio.chans[k]?) ∧
  -- OPEN_LOAD
  (∀ (ch : Fin 48) (amps : F32) (us : Nat) (s : State),
      ∃ t, exec (.openLoad ch amps us) s = .next t ∧ t = { s.told t with fio := { s.fio with chans := t.fio.chans } } ∧ ∀ k, k ≠ ch.val →
      t.fio.chans[k]? = s.fio.chans[k]?) ∧
  -- OPEN_LOAD_CLEAR
  (∀ (ch : Fin 48) (amps : F32) (us : Nat) (s : State),
      ∃ t, exec (.openLoadClear ch amps us) s = .next t ∧ t = { s.told t with fio := { s.fio with chans := t.fio.chans } } ∧ ∀ k, k ≠ ch.val →
      t.fio.chans[k]? = s.fio.chans[k]?) ∧
  -- CH_FAULT
  (∀ (ch : Fin 16) (code : Fin 6) (raw : F32) (count : Nat) (s : State),
      ∃ t, exec (.chFault ch code raw count) s = .next t ∧ t = { s.told t with sig := { s.sig with ins := t.sig.ins } } ∧ ∀ k, k ≠ ch.val →
      t.sig.ins[k]? = s.sig.ins[k]?) ∧
  -- CH_FAULT_CLEARED
  (∀ (ch : Fin 16) (code : Fin 6) (raw : F32) (us : Nat) (s : State),
      ∃ t, exec (.chFaultCleared ch code raw us) s = .next t ∧ t = { s.told t with sig := { s.sig with ins := t.sig.ins } } ∧ ∀ k, k ≠ ch.val →
      t.sig.ins[k]? = s.sig.ins[k]?) ∧
  -- SHUNT_RECONNECT
  (∀ (ch : Fin 16) (s : State), ∃ t, exec (.shuntReconnect ch) s = .next t ∧ t = { s with sig := { s.sig with ins := t.sig.ins } } ∧ ∀ k, k ≠ ch.val →
      t.sig.ins[k]? = s.sig.ins[k]?) ∧
  -- CHANNEL_SETTLED
  (∀ (ch : Fin 16) (s : State),
      ∃ t, exec (.channelSettled ch) s = .next t ∧ t = { s.told t with sig := { s.sig with ins := t.sig.ins } } ∧ ∀ k, k ≠ ch.val →
      t.sig.ins[k]? = s.sig.ins[k]?) ∧
  -- SYNC_IN_EDGE
  (∀ (edge : PulseEdge) (s : State),
      ∃ t, exec (.syncInEdge edge) s = .next t ∧
        t = { s.told t with
          tim := { s.tim with syncOutAt := t.tim.syncOutAt },
          sig := { s.sig with
            ins := t.sig.ins, syncAccepted := t.sig.syncAccepted, syncIgnored := t.sig.syncIgnored, syncLast := t.sig.syncLast,
            edgeAt := t.sig.edgeAt } }) ∧
  -- OUT_TIMEOUT
  (∀ (out : Fin 12) (s : State),
      ∃ t, exec (.outTimeout out) s = .next t ∧ t = { s.told t with
        sig := { s.sig with outs := t.sig.outs, clamps := t.sig.clamps } } ∧ ∀ k, k ≠ out.val →
      t.sig.outs[k]? = s.sig.outs[k]?) ∧
  -- OUT_FAULT
  (∀ (out : Fin 12) (code : Fin 4) (readback : F32) (limit : Bool) (frames : Nat) (s : State),
      ∃ t, exec (.outFault out code readback limit frames) s = .next t ∧ t = { s.told t with
        sig := { s.sig with outs := t.sig.outs } } ∧ ∀ k, k ≠ out.val →
      t.sig.outs[k]? = s.sig.outs[k]?) ∧
  -- OUT_CLEARED
  (∀ (out : Fin 12) (us : Nat) (s : State),
      ∃ t, exec (.outCleared out us) s = .next t ∧ t = { s.told t with sig := { s.sig with outs := t.sig.outs } } ∧ ∀ k, k ≠ out.val →
      t.sig.outs[k]? = s.sig.outs[k]?)

/-- What the commands of the CAN, serial and Ethernet ports leave alone: each clause gives the fields its command may change, on every state and all
operands; every other field is the one before, but for what raising an event (`State.told`) or taking up a request (`State.served`) changes. -/
def Obligations.FrameBuses : Prop :=
  -- CAN_TX_SUBMIT
  (∀ (port : Fin 4) (engine : Fin 16) (frame : CanFrame) (gate : TxGate) (s : State),
      ∃ t, exec (.canTxSubmit port engine frame gate) s = .next t ∧ t = { s.told t with
        tags := t.tags, can := { s.can with ports := t.can.ports } } ∧ ∀ k, k ≠ port.val → some k ≠ s.can.mirrorOf port.val frame →
      t.can.ports[k]? = s.can.ports[k]?) ∧
  -- CAN_FRAME_START
  (∀ (port : Fin 4) (s : State),
      ∃ t, exec (.canFrameStart port) s = .next t ∧ t = { s with can := { s.can with ports := t.can.ports } } ∧ ∀ k, k ≠ port.val →
      t.can.ports[k]? = s.can.ports[k]?) ∧
  -- CAN_FRAME_END
  (∀ (port : Fin 4) (how : CanEnd) (s : State),
      ∃ t, exec (.canFrameEnd port how) s = .next t ∧
        t = { s.told t with tags := t.tags, can := { s.can with ports := t.can.ports, mirrors := t.can.mirrors } }) ∧
  -- CAN_CANCEL
  (∀ (port : Fin 4) (tag : Word) (s : State),
      ∃ t, exec (.canCancel port tag) s = .next t ∧ t = { s.told t with
        tags := { s.tags with open_ := t.tags.open_, completed := t.tags.completed, orphans := t.tags.orphans },
        can := { s.can with ports := t.can.ports } } ∧ ∀ k, k ≠ port.val →
      t.can.ports[k]? = s.can.ports[k]?) ∧
  -- CAN_RX_FRAME
  (∀ (port : Fin 4) (frame : CanFrame) (remote : Bool) (held : Nat) (backUs : Nat) (s : State),
      ∃ t, exec (.canRxFrame port frame remote held backUs) s = .next t ∧
        t = { s.told t with
          tags := t.tags, ctl := { s.ctl with joy := t.ctl.joy, groups := t.ctl.groups, buses := t.ctl.buses },
          saf := { s.saf with thr := t.saf.thr, mirrorAt := t.saf.mirrorAt }, can := t.can,
          icx := { s.icx with
            rejoinTo := t.icx.rejoinTo, rejoin := t.icx.rejoin, witnessAt := t.icx.witnessAt, witnessFrame := t.icx.witnessFrame, foreignLead := t.icx.foreignLead },
          free := t.free }) ∧
  -- CAN_RECOVERED
  (∀ (port : Fin 4) (s : State),
      ∃ t, exec (.canRecovered port) s = .next t ∧
        t = { s.told t with tags := t.tags, can := { s.can with ports := t.can.ports, mirrors := t.can.mirrors } }) ∧
  -- MIRROR_END
  (∀ (port : Fin 4) (s : State),
      ∃ t, exec (.mirrorEnd port) s = .next t ∧ t = { s.told t with can := { s.can with ports := t.can.ports } }) ∧
  -- CAN_ERROR_DETECTED
  (∀ (port : Fin 4) (dominant : Bool) (s : State),
      ∃ t, exec (.canErrorDetected port dominant) s = .next t ∧
        t = { s.told t with tags := t.tags, can := { s.can with ports := t.can.ports, mirrors := t.can.mirrors } }) ∧
  -- SENTENCE_RECEIVED
  (∀ (port : Fin 4) (line : Bytes) (backUs : Nat) (framing : Bool) (s : State),
      ∃ t, exec (.sentenceReceived port line backUs framing) s = .next t ∧
        t = { s.told t with
          fus := { s.fus with
            mruCut := t.fus.mruCut, motion := t.fus.motion, refs := t.fus.refs, mruVal := t.fus.mruVal, originWanted := t.fus.originWanted, origin := t.fus.origin, originNext := t.fus.originNext,
            cutAt := t.fus.cutAt, lateCount := t.fus.lateCount, olderCount := t.fus.olderCount },
          ser := t.ser }) ∧
  -- PORT_SILENT
  (∀ (port : Fin 4) (s : State),
      ∃ t, exec (.portSilent port) s = .next t ∧ t = { s.told t with ser := { s.ser with ports := t.ser.ports } } ∧ ∀ k, k ≠ port.val →
      t.ser.ports[k]? = s.ser.ports[k]?) ∧
  -- SENTENCE_TRANSMIT
  (∀ (iface : Fin 6) (kind : Fin 5) (s : State),
      ∃ t, exec (.sentenceTransmit iface kind) s = .next t ∧
        t = { s.told t with ser := { s.ser with ports := t.ser.ports }, eth := { s.eth with ports := t.eth.ports } }) ∧
  -- LINK_DOWN
  (∀ (port : Fin 2) (s : State),
      ∃ t, exec (.linkDown port) s = .next t ∧ t = { s.told t with eth := { s.eth with ports := t.eth.ports } } ∧ ∀ k, k ≠ port.val →
      t.eth.ports[k]? = s.eth.ports[k]?) ∧
  -- LINK_UP
  (∀ (port : Fin 2) (gigabit : Bool) (s : State),
      ∃ t, exec (.linkUp port gigabit) s = .next t ∧ t = { s.told t with eth := { s.eth with ports := t.eth.ports } } ∧ ∀ k, k ≠ port.val →
      t.eth.ports[k]? = s.eth.ports[k]?) ∧
  -- ETH_RX_FRAME
  (∀ (port : Fin 2) (frame : EthRx) (s : State),
      ∃ t, exec (.ethRxFrame port frame) s = .next t ∧ t = { s.told t with eth := { s.eth with ports := t.eth.ports } } ∧ ∀ k, k ≠ port.val →
      t.eth.ports[k]? = s.eth.ports[k]?) ∧
  -- TCP_CONNECT
  (∀ (port : Fin 2) (tcpPort : Nat) (addr : Nat) (id : Nat) (s : State),
      ∃ t, exec (.tcpConnect port tcpPort addr id) s = .next t ∧ t = { s.told t with
        eth := { s.eth with ports := t.eth.ports }, ses := { (s.told t).ses with conns := t.ses.conns, waiting := t.ses.waiting } } ∧
      ∀ k, k ≠ port.val →
      t.eth.ports[k]? = s.eth.ports[k]?) ∧
  -- S450_DATAGRAM
  (∀ (port : Fin 2) (group : Fin 16) (payload : Bytes) (backUs : Nat) (s : State),
      ∃ t, exec (.s450Datagram port group payload backUs) s = .next t ∧
        t = { s.told t with
          fus := { s.fus with
            mruCut := t.fus.mruCut, motion := t.fus.motion, refs := t.fus.refs, originWanted := t.fus.originWanted, origin := t.fus.origin, originNext := t.fus.originNext,
            cutAt := t.fus.cutAt, lateCount := t.fus.lateCount, olderCount := t.fus.olderCount },
          ser := { s.ser with gst := t.ser.gst }, eth := { s.eth with ports := t.eth.ports } })

/-- What the commands of the safety channel and the servo loops leave alone: each clause gives the fields its command may change, on every state and
all operands; every other field is the one before, but for what raising an event (`State.told`) or taking up a request (`State.served`) changes.
The clause of SC_CYCLE is about the state before the WRITEs whose pairs it accepted go on
(`settle`, CompleteRegisterAccess). -/
def Obligations.FrameSafetyServo : Prop :=
  -- SC_CYCLE
  (∀ (us : Nat) (pinsP : BitVec 8) (pinsN : BitVec 8) (cf : BitVec 8) (currents : List F32) (supply : F32) (s : State),
      ∃ t, t = scCycle us pinsP pinsN cf currents supply s ∧ exec (.scCycle us pinsP pinsN cf currents supply) s = .next (settle t) ∧
        t = { s.told t with
          eth := { s.eth with ports := t.eth.ports }, tags := t.tags, sup := t.sup,
          tim := { s.tim with now := t.tim.now, scAt := t.tim.scAt }, sig := { s.sig with outs := t.sig.outs }, saf := t.saf, ses := t.ses,
          icx := t.icx, aqf := t.aqf }) ∧
  -- ESTOP
  (∀ (input : Fin 2) (lowA : Nat) (lowB : Nat) (s : State),
      ∃ t, exec (.estop input lowA lowB) s = .next t ∧
        t = { s.told t with
          saf := { s.saf with
            pairs := t.saf.pairs, estops := t.saf.estops, esTest := t.saf.esTest, entered := t.saf.entered, entryTime := t.saf.entryTime } }) ∧
  -- ESTOP_RELEASE
  (∀ (input : Fin 2) (us : Nat) (s : State),
      ∃ t, exec (.estopRelease input us) s = .next t ∧
        t = { s.told t with saf := { s.saf with estops := t.saf.estops, esPass := t.saf.esPass, esTest := t.saf.esTest } }) ∧
  -- TP_FAULT
  (∀ (input : Fin 2) (chB : Bool) (s : State),
      ∃ t, exec (.tpFault input chB) s = .next t ∧ t = { s.told t with
        saf := { s.saf with estops := t.saf.estops, alarmOpen := t.saf.alarmOpen } } ∧ ∀ k, k ≠ input.val →
      t.saf.estops[k]? = s.saf.estops[k]?) ∧
  -- TP_FAULT_CLEARED
  (∀ (input : Fin 2) (chB : Bool) (us : Nat) (s : State),
      ∃ t, exec (.tpFaultCleared input chB us) s = .next t ∧ t = { s.told t with
        saf := { s.saf with estops := t.saf.estops, alarmOpen := t.saf.alarmOpen } } ∧ ∀ k, k ≠ input.val →
      t.saf.estops[k]? = s.saf.estops[k]?) ∧
  -- DISCREPANCY
  (∀ (input : Fin 2) (s : State),
      ∃ t, exec (.discrepancy input) s = .next t ∧ t = { s.told t with
        saf := { s.saf with estops := t.saf.estops, alarmOpen := t.saf.alarmOpen, discPass := t.saf.discPass } } ∧ ∀ k, k ≠ input.val →
      t.saf.estops[k]? = s.saf.estops[k]?) ∧
  -- HS_TEST_PULSE
  (∀ (pair : Fin 8) (ok : Bool) (s : State),
      ∃ t, exec (.hsTestPulse pair ok) s = .next t ∧ t = { s.told t with
        free := t.free, tim := { s.tim with now := t.tim.now }, saf := { s.saf with pairs := t.saf.pairs, alarmOpen := t.saf.alarmOpen } } ∧ ∀ k, k ≠ pair.val →
      t.saf.pairs[k]? = s.saf.pairs[k]?) ∧
  -- LS_TEST_PULSE
  (∀ (pair : Fin 8) (ok : Bool) (s : State),
      ∃ t, exec (.lsTestPulse pair ok) s = .next t ∧ t = { s.told t with
        free := t.free, tim := { s.tim with now := t.tim.now }, saf := { s.saf with pairs := t.saf.pairs, alarmOpen := t.saf.alarmOpen } } ∧ ∀ k, k ≠ pair.val →
      t.saf.pairs[k]? = s.saf.pairs[k]?) ∧
  -- TORQUE_REMOVED
  (∀ (thr : Fin 16) (s : State),
      ∃ t, exec (.torqueRemoved thr) s = .next t ∧
        t = { s.told t with
          saf := { s.saf with pairs := t.saf.pairs, thr := t.saf.thr, esPass := t.saf.esPass, esTest := t.saf.esTest } }) ∧
  -- WEIR_TIMER
  (∀ (pair : Fin 8) (s : State),
      ∃ t, exec (.weirTimer pair) s = .next t ∧
        t = { s.told t with
          saf := { s.saf with pairs := t.saf.pairs, thr := t.saf.thr, esPass := t.saf.esPass, esTest := t.saf.esTest } }) ∧
  -- CONTACTOR_FAULT
  (∀ (pair : Fin 8) (s : State),
      ∃ t, exec (.contactorFault pair) s = .next t ∧ t = { s.told t with
        saf := { s.saf with pairs := t.saf.pairs, alarmOpen := t.saf.alarmOpen } } ∧ ∀ k, k ≠ pair.val →
      t.saf.pairs[k]? = s.saf.pairs[k]?) ∧
  -- SC_LOST
  (∀ (violations : Nat) (s : State),
      ∃ t, exec (.scLost violations) s = .next t ∧
        t = { s.told t with
          sup := { s.sup with held := t.sup.held },
          saf := { s.saf with
            scOk := t.saf.scOk, scLost := t.saf.scLost, alarmOpen := t.saf.alarmOpen, hold := t.saf.hold, wdViolations := t.saf.wdViolations } }) ∧
  -- WEIR_LOST
  (∀ (cause : Fin 3) (s : State),
      ∃ t, exec (.weirLost cause) s = .next t ∧
        t = { s.told t with
          sup := { s.sup with held := t.sup.held },
          saf := { s.saf with weirOk := t.saf.weirOk, weirLost := t.saf.weirLost, alarmOpen := t.saf.alarmOpen, hold := t.saf.hold } }) ∧
  -- MIRROR_STALE
  (∀ (s : State),
      ∃ t, exec .mirrorStale s = .next t ∧ t = { s.told t with saf := { s.saf with alarmOpen := t.saf.alarmOpen, mirrorStale := t.saf.mirrorStale } }) ∧
  -- PAIR_SUPPLY_FAULT
  (∀ (volts : F32) (us : Nat) (s : State),
      ∃ t, exec (.pairSupplyFault volts us) s = .next t ∧
        t = { s.told t with sup := { s.sup with held := t.sup.held }, saf := t.saf, icx := { s.icx with ports := t.icx.ports, sent := t.icx.sent } }) ∧
  -- PAIR_TEST_END
  (∀ (pair : Fin 8) (readbackOk : Bool) (cfHighOk : Bool) (cfLowOk : Bool) (s : State),
      ∃ t, exec (.pairTestEnd pair readbackOk cfHighOk cfLowOk) s = .next t ∧ t = { s.told t with
        saf := { s.saf with pairs := t.saf.pairs, hsPass := t.saf.hsPass, lsPass := t.saf.lsPass, alarmOpen := t.saf.alarmOpen } } ∧ ∀ k, k ≠ pair.val →
      t.saf.pairs[k]? = s.saf.pairs[k]?) ∧
  -- ALARM_TEST_END
  (∀ (s : State),
      ∃ t, exec .alarmTestEnd s = .next t ∧
        t = { s.told t with saf := { s.saf with alarmOpen := t.saf.alarmOpen, alarmTest := t.saf.alarmTest, alarmPass := t.saf.alarmPass } }) ∧
  -- PROOF_OVERDUE
  (∀ (s : State),
      ∃ t, exec .proofOverdue s = .next t ∧ t = { s.told t with saf := { s.saf with overdue := t.saf.overdue, overdueAt := t.saf.overdueAt } }) ∧
  -- SERVO_TICK
  (∀ (us : Nat) (s : State),
      ∃ t, exec (.servoTick us) s = .next t ∧
        t = { s.told t with
          tags := t.tags,
          sup := { s.sup with dlStatus := t.sup.dlStatus, dlCount := t.sup.dlCount, stageMissed := t.sup.stageMissed, slackMin := t.sup.slackMin },
          tim := { s.tim with tickEdge := t.tim.tickEdge, now := t.tim.now, tickAt := t.tim.tickAt }, srv := t.srv,
          sig := { s.sig with outs := t.sig.outs, clamps := t.sig.clamps }, fio := { s.fio with chans := t.fio.chans },
          can := { s.can with ports := t.can.ports, azSeq := t.can.azSeq, azSlew := t.can.azSlew } }) ∧
  -- TICK_ABANDONED
  (∀ (lateNs : Nat) (s : State),
      ∃ t, exec (.tickAbandoned lateNs) s = .next t ∧
        t = { s.told t with
          sup := { s.sup with dlStatus := t.sup.dlStatus, dlCount := t.sup.dlCount, stageMissed := t.sup.stageMissed, slackMin := t.sup.slackMin },
          tim := { s.tim with tickEdge := t.tim.tickEdge, now := t.tim.now, tickAt := t.tim.tickAt }, srv := t.srv,
          sig := { s.sig with outs := t.sig.outs, clamps := t.sig.clamps }, fio := { s.fio with chans := t.fio.chans } }) ∧
  -- TICK_GUARD
  (∀ (ticks : Nat) (s : State),
      ∃ t, exec (.tickGuard ticks) s = .next t ∧
        t = { s.told t with
          srv := { s.srv with guards := t.srv.guards, noRelease := t.srv.noRelease, guard := t.srv.guard, staged := t.srv.staged },
          sig := { s.sig with outs := t.sig.outs, clamps := t.sig.clamps }, fio := { s.fio with chans := t.fio.chans } }) ∧
  -- SERVO_FAULT
  (∀ (thr : Fin 16) (pitch : Bool) (s : State),
      ∃ t, exec (.servoFault thr pitch) s = .next t ∧ t = { s.told t with srv := { s.srv with thr := t.srv.thr } } ∧ ∀ k, k ≠ thr.val →
      t.srv.thr[k]? = s.srv.thr[k]?) ∧
  -- SRV_FAULT_CLEARED
  (∀ (thr : Fin 16) (pitch : Bool) (s : State),
      ∃ t, exec (.srvFaultCleared thr pitch) s = .next t ∧ t = { s.told t with srv := { s.srv with thr := t.srv.thr } } ∧ ∀ k, k ≠ thr.val →
      t.srv.thr[k]? = s.srv.thr[k]?) ∧
  -- PROFILE_STORE
  (∀ (s : State),
      ∃ t, exec .profileStore s = .next t ∧
        t = { s.told t with
          tags := t.tags, srv := { s.srv with thr := t.srv.thr, storeAt := t.srv.storeAt },
          aqf := { s.aqf with
            budgetLow := t.aqf.budgetLow, writes := t.aqf.writes, writesPeak := t.aqf.writesPeak, done := t.aqf.done, budget := t.aqf.budget,
            budgetCredit := t.aqf.budgetCredit, budgetAt := t.aqf.budgetAt, refBudget := t.aqf.refBudget, refOther := t.aqf.refOther,
            objs := t.aqf.objs } }) ∧
  -- PROFILE_SNAPSHOT
  (∀ (s : State),
      ∃ t, exec .profileSnapshot s = .next t ∧
        t = { s.told t with
          tags := t.tags, srv := { s.srv with thr := t.srv.thr, snapAt := t.srv.snapAt },
          aqf := { s.aqf with
            budgetLow := t.aqf.budgetLow, writes := t.aqf.writes, writesPeak := t.aqf.writesPeak, done := t.aqf.done, budget := t.aqf.budget,
            budgetCredit := t.aqf.budgetCredit, budgetAt := t.aqf.budgetAt, refBudget := t.aqf.refBudget, refOther := t.aqf.refOther,
            objs := t.aqf.objs } })

/-- What the commands of the GNSS baseband leave alone: each clause gives the fields its command may change, on every state and all operands; every
other field is the one before, but for what raising an event (`State.told`) or taking up a request (`State.served`) changes. -/
def Obligations.FrameGnss : Prop :=
  -- GNSS_START
  (∀ (above : List (Nat × Nat)) (s : State),
      ∃ t, exec (.gnssStart above) s = .next t ∧
        t = { s with
          gns := { s.gns with
            asleep := t.gns.asleep, startKind := t.gns.startKind, startWake := t.gns.startWake, ttff := t.gns.ttff, starting := t.gns.starting,
            startAt := t.gns.startAt, timeWait := t.gns.timeWait } }) ∧
  -- ANT_OPEN
  (∀ (ant : Fin 2) (ma : F32) (ms : Nat) (s : State),
      ∃ t, exec (.antOpen ant ma ms) s = .next t ∧ t = { s.told t with gns := { s.gns with ants := t.gns.ants } } ∧ ∀ k, k ≠ ant.val →
      t.gns.ants[k]? = s.gns.ants[k]?) ∧
  -- ANT_SHORT
  (∀ (ant : Fin 2) (ma : F32) (s : State),
      ∃ t, exec (.antShort ant ma) s = .next t ∧
        t = { s.told t with
          gns := { s.gns with
            ants := t.gns.ants, chans := t.gns.chans, queue := t.gns.queue, queueEmptyAt := t.gns.queueEmptyAt, sols := t.gns.sols,
            hdgPhase := t.gns.hdgPhase, ndd := t.gns.ndd, baseline := t.gns.baseline, lengthFails := t.gns.lengthFails,
            hdgFixReady := t.gns.hdgFixReady, velValid := t.gns.velValid, yawValid := t.gns.yawValid } }) ∧
  -- ANT_SUPPLY_RETRY
  (∀ (ant : Fin 2) (ma : F32) (s : State),
      ∃ t, exec (.antSupplyRetry ant ma) s = .next t ∧ t = { s with gns := { s.gns with ants := t.gns.ants } } ∧ ∀ k, k ≠ ant.val →
      t.gns.ants[k]? = s.gns.ants[k]?) ∧
  -- ANT_RESTORED
  (∀ (ant : Fin 2) (ma : F32) (ms : Nat) (s : State),
      ∃ t, exec (.antRestored ant ma ms) s = .next t ∧ t = { s.told t with gns := { s.gns with ants := t.gns.ants } } ∧ ∀ k, k ≠ ant.val →
      t.gns.ants[k]? = s.gns.ants[k]?) ∧
  -- FRONT_END_READY
  (∀ (ant : Fin 2) (s : State),
      ∃ t, exec (.frontEndReady ant) s = .next t ∧
        t = { s.told t with
          tim := { s.tim with
            state := t.tim.state, step := t.tim.step, tcxoFault := t.tim.tcxoFault, steer := t.tim.steer, holdAt := t.tim.holdAt,
            suspects := t.tim.suspects, suspect := t.tim.suspect },
          gns := { s.gns with ants := t.gns.ants, startAt := t.gns.startAt } }) ∧
  -- ACQ_PASS
  (∀ (windows : Nat) (found : List Nat) (s : State),
      ∃ t, exec (.acqPass windows found) s = .next t ∧
        t = { s with gns := { s.gns with chans := t.gns.chans, queue := t.gns.queue, queueEmptyAt := t.gns.queueEmptyAt, passes := t.gns.passes } }) ∧
  -- ACQ_IDLE
  (∀ (s : State),
      ∃ t, exec .acqIdle s = .next t ∧ t = { s with pwr := { s.pwr with domOn := t.pwr.domOn }, gns := { s.gns with acqWanted := t.gns.acqWanted } }) ∧
  -- ACQ_POWER_ON
  (∀ (s : State),
      ∃ t, exec .acqPowerOn s = .next t ∧
        t = { s with pwr := { s.pwr with domOn := t.pwr.domOn }, gns := { s.gns with acqWanted := t.gns.acqWanted } }) ∧
  -- CHANNEL_SEARCH_TIMEOUT
  (∀ (ch : Fin 192) (s : State),
      ∃ t, exec (.channelSearchTimeout ch) s = .next t ∧
        t = { s with gns := { s.gns with chans := t.gns.chans, queue := t.gns.queue, queueEmptyAt := t.gns.queueEmptyAt } }) ∧
  -- CHANNEL_PULL_IN
  (∀ (ch : Fin 192) (lockMs : Nat) (sync : Bool) (s : State),
      ∃ t, exec (.channelPullIn ch lockMs sync) s = .next t ∧ t = { s with gns := { s.gns with chans := t.gns.chans } } ∧ ∀ k, k ≠ ch.val →
      t.gns.chans[k]? = s.gns.chans[k]?) ∧
  -- CHANNEL_PULL_IN_TIMEOUT
  (∀ (ch : Fin 192) (s : State),
      ∃ t, exec (.channelPullInTimeout ch) s = .next t ∧
        t = { s with gns := { s.gns with chans := t.gns.chans, queue := t.gns.queue, acqWanted := t.gns.acqWanted } }) ∧
  -- CHANNEL_TRACK_LOSS
  (∀ (ch : Fin 192) (weakMs : Nat) (unlockMs : Nat) (s : State),
      ∃ t, exec (.channelTrackLoss ch weakMs unlockMs) s = .next t ∧
        t = { s with gns := { s.gns with chans := t.gns.chans, queue := t.gns.queue, acqWanted := t.gns.acqWanted } }) ∧
  -- GT_SNAPSHOT_PUBLISH
  (∀ (us : Nat) (ma : List F32) (sky : List SkySig) (residuals : List (Nat × Rat)) (fixes : List (Option FixIn)) (ego : EgoIn) (nav : NavIn) (s : State),
      ∃ t, exec (.gtSnapshotPublish us ma sky residuals fixes ego nav) s = .next t ∧
        t = { s.told t with tags := t.tags, sup := t.sup, tim := { s.tim with measured := t.tim.measured, driftLast := t.tim.driftLast, drift := t.tim.drift, now := t.tim.now }, gns := t.gns, fus := t.fus, aqf := t.aqf }) ∧
  -- AMBIGUITY_SEARCH_DONE
  (∀ (search : Fin 3) (ratio : F32) (ndd : Nat) (fix : AmbFix) (s : State),
      ∃ t, exec (.ambiguitySearchDone search ratio ndd fix) s = .next t ∧
        t = { s with
          gns := { s.gns with
            excluded := t.gns.excluded, ints := t.gns.ints, hdgFixReady := t.gns.hdgFixReady, hdgFoundAt := t.gns.hdgFoundAt
            rtkReady := t.gns.rtkReady, rtkFoundAt := t.gns.rtkFoundAt } }) ∧
  -- HDG_WRONG_FIX
  (∀ (s : State),
      ∃ t, exec .hdgWrongFix s = .next t ∧
        t = { s.told t with
          gns := { s.gns with
            hdgPhase := t.gns.hdgPhase, ndd := t.gns.ndd, baseline := t.gns.baseline, lengthFails := t.gns.lengthFails, excluded := t.gns.excluded,
            hdgFixReady := t.gns.hdgFixReady, yawValid := t.gns.yawValid } }) ∧
  -- FIX_LOST
  (∀ (ant : Fin 2) (s : State),
      ∃ t, exec (.fixLost ant) s = .next t ∧ t = { s.told t with gns := { s.gns with sols := t.gns.sols } }) ∧
  -- SOLUTION_REVALIDATE
  (∀ (ant : Fin 2) (s : State),
      ∃ t, exec (.solutionRevalidate ant) s = .next t ∧
        t = { s.told t with
          gns := { s.gns with
            hot := t.gns.hot, sols := t.gns.sols, ttff := t.gns.ttff, starting := t.gns.starting, startAt := t.gns.startAt, wakeFix := t.gns.wakeFix }
          }) ∧
  -- RTCM_FRAME
  (∀ (source : Fin 2) (frame : Bytes) (s : State),
      ∃ t, exec (.rtcmFrame source frame) s = .next t ∧
        t = { s.told t with
          eth := { s.eth with ports := t.eth.ports }, gns := { s.gns with
            rtkFixed := t.gns.rtkFixed, rtkReady := t.gns.rtkReady, corr := t.gns.corr, crcFail := t.gns.crcFail, unsupported := t.gns.unsupported },
          ser := { s.ser with ports := t.ser.ports } }) ∧
  -- CORR_STALE
  (∀ (s : State),
      ∃ t, exec .corrStale s = .next t ∧
        t = { s.told t with
          gns := { s.gns with rtkFixed := t.gns.rtkFixed, rtkReady := t.gns.rtkReady, corrActive := t.gns.corrActive, corrStale := t.gns.corrStale } }) ∧
  -- CORR_SWITCH
  (∀ (s : State),
      ∃ t, exec .corrSwitch s = .next t ∧
        t = { s.told t with
          gns := { s.gns with rtkFixed := t.gns.rtkFixed, rtkReady := t.gns.rtkReady, corrActive := t.gns.corrActive, corrStale := t.gns.corrStale } }) ∧
  -- JAM_DETECT
  (∀ (ant : Fin 2) (upper : F32) (lower : F32) (weak : Nat) (ms : Nat) (s : State),
      ∃ t, exec (.jamDetect ant upper lower weak ms) s = .next t ∧ t = { s.told t with gns := { s.gns with ants := t.gns.ants } }) ∧
  -- GNSS_WAKE
  (∀ (above : List (Nat × Nat)) (s : State),
      ∃ t, exec (.gnssWake above) s = .next t ∧ t = { s.told t with pwr := { s.pwr with domOn := t.pwr.domOn }, tim := t.tim, gns := t.gns }) ∧
  -- GNSS_WAKE_END
  (∀ (s : State),
      ∃ t, exec .gnssWakeEnd s = .next t ∧
        t = { s.told t with
          tags := t.tags, pwr := { s.pwr with domOn := t.pwr.domOn }, gns := t.gns,
          aqf := { s.aqf with
            budgetLow := t.aqf.budgetLow, writes := t.aqf.writes, writesPeak := t.aqf.writesPeak, done := t.aqf.done, budget := t.aqf.budget,
            budgetCredit := t.aqf.budgetCredit, budgetAt := t.aqf.budgetAt, refBudget := t.aqf.refBudget, refOther := t.aqf.refOther,
            objs := t.aqf.objs } })

/-- What the commands of the reference fusion and the time base leave alone: each clause gives the fields its command may change, on every state and
all operands; every other field is the one before, but for what raising an event (`State.told`) or taking up a request (`State.served`) changes.
The clause of FUSION_INPUT_CUT is about the state before the WRITEs whose pairs it accepted go on
(`settle`, CompleteRegisterAccess). -/
def Obligations.FrameFusionTime : Prop :=
  -- FUSION_INPUT_CUT
  (∀ (us : Nat) (s : State),
      ∃ t, t = inputCut us s ∧ exec (.fusionInputCut us) s = .next (settle t) ∧
        t = { s.told t with
          eth := { s.eth with ports := t.eth.ports }, tags := t.tags,
          tim := { s.tim with now := t.tim.now }, fus := t.fus, ses := t.ses, aqf := t.aqf }) ∧
  -- FUSED_SNAPSHOT_PUBLISH
  (∀ (us : Nat) (s : State),
      ∃ t, exec (.fusedSnapshotPublish us) s = .next t ∧
        t = { s.told t with
          sup := { s.sup with
            dlStatus := t.sup.dlStatus, dlCount := t.sup.dlCount, stageDone := t.sup.stageDone, stageMissed := t.sup.stageMissed,
            slackMin := t.sup.slackMin },
          tim := { s.tim with now := t.tim.now },
          fus := { s.fus with
            snapOrigin := t.fus.snapOrigin, refs := t.fus.refs, snap := t.fus.snap, published := t.fus.published, formed := t.fus.formed, obs := t.fus.obs,
            obsSaved := t.fus.obsSaved, posWatch := t.fus.posWatch, hdgWatch := t.fus.hdgWatch } }) ∧
  -- FUS_SKIP
  (∀ (s : State),
      ∃ t, exec .fusSkip s = .next t ∧
        t = { s with fus := { s.fus with formed := t.fus.formed, obs := t.fus.obs, obsSaved := t.fus.obsSaved, skip := t.fus.skip } }) ∧
  -- REF_MASKED
  (∀ (slot : Fin 12) (s : State),
      ∃ t, exec (.refMasked slot) s = .next t ∧ t = { s.told t with fus := { s.fus with refs := t.fus.refs } } ∧ ∀ k, k ≠ slot.val →
      t.fus.refs[k]? = s.fus.refs[k]?) ∧
  -- REF_RESTORED
  (∀ (slot : Fin 12) (s : State),
      ∃ t, exec (.refRestored slot) s = .next t ∧ t = { s.told t with fus := { s.fus with refs := t.fus.refs } } ∧ ∀ k, k ≠ slot.val →
      t.fus.refs[k]? = s.fus.refs[k]?) ∧
  -- REFERENCE_DISAGREE
  (∀ (hdg : Bool) (s : State),
      ∃ t, exec (.referenceDisagree hdg) s = .next t ∧
        t = { s.told t with fus := { s.fus with posWatch := t.fus.posWatch, hdgWatch := t.fus.hdgWatch } }) ∧
  -- DISAGREE_CLEARED
  (∀ (hdg : Bool) (s : State),
      ∃ t, exec (.disagreeCleared hdg) s = .next t ∧
        t = { s.told t with fus := { s.fus with posWatch := t.fus.posWatch, hdgWatch := t.fus.hdgWatch } }) ∧
  -- OBS_POS_RESET
  (∀ (hdg : Bool) (s : State),
      ∃ t, exec (.obsPosReset hdg) s = .next t ∧ t = { s.told t with fus := { s.fus with formed := t.fus.formed, obs := t.fus.obs } }) ∧
  -- SETTLED
  (∀ (s : State),
      ∃ t, exec .settled s = .next t ∧ t = { s.told t with fus := { s.fus with obs := t.fus.obs } }) ∧
  -- INNOVATION_SAMPLE
  (∀ (slot : Fin 12) (s : State),
      ∃ t, exec (.innovationSample slot) s = .next t ∧ t = { s with fus := { s.fus with refs := t.fus.refs } }) ∧
  -- CONSISTENCY_CHECK
  (∀ (slot : Fin 12) (s : State),
      ∃ t, exec (.consistencyCheck slot) s = .next t ∧ t = { s with fus := { s.fus with refs := t.fus.refs } }) ∧
  -- KERNEL_UPDATE
  (∀ (slot : Fin 12) (s : State),
      ∃ t, exec (.kernelUpdate slot) s = .next t ∧ t = { s.told t with fus := { s.fus with refs := t.fus.refs } } ∧ ∀ k, k ≠ slot.val →
      t.fus.refs[k]? = s.fus.refs[k]?) ∧
  -- MODEL_STORE
  (∀ (s : State),
      ∃ t, exec .modelStore s = .next t ∧
        t = { s.told t with
          tags := t.tags, fus := { s.fus with refs := t.fus.refs, storedHour := t.fus.storedHour, storedPeriod := t.fus.storedPeriod },
          aqf := { s.aqf with
            budgetLow := t.aqf.budgetLow, writes := t.aqf.writes, writesPeak := t.aqf.writesPeak, done := t.aqf.done, budget := t.aqf.budget,
            budgetCredit := t.aqf.budgetCredit, budgetAt := t.aqf.budgetAt, refBudget := t.aqf.refBudget, refOther := t.aqf.refOther,
            objs := t.aqf.objs } }) ∧
  -- REFERENCE_OFFSET
  (∀ (domain : Bool) (ns : Int) (s : State),
      ∃ t, exec (.referenceOffset domain ns) s = .next t ∧
        t = { s.told t with
          tim := { s.tim with
            overAt := t.tim.overAt, measured := t.tim.measured, state := t.tim.state, confirmed := t.tim.confirmed, step := t.tim.step, offset := t.tim.offset, offsetAt := t.tim.offsetAt,
            steer := t.tim.steer, yEst := t.tim.yEst, applied := t.tim.applied, unlockRun := t.tim.unlockRun, slewStart := t.tim.slewStart,
            bigSlew := t.tim.bigSlew, suspects := t.tim.suspects, suspect := t.tim.suspect } }) ∧
  -- TIME_UNLOCK
  (∀ (s : State),
      ∃ t, exec .timeUnlock s = .next t ∧
        t = { s with tim := { s.tim with state := t.tim.state, steer := t.tim.steer, unlockRun := t.tim.unlockRun, slewStart := t.tim.slewStart } }) ∧
  -- HOLDOVER_ENTER
  (∀ (s : State),
      ∃ t, exec .holdoverEnter s = .next t ∧
        t = { s.told t with
          tim := { s.tim with
            state := t.tim.state, step := t.tim.step, steer := t.tim.steer, yEst := t.tim.yEst, unlockRun := t.tim.unlockRun, holdAt := t.tim.holdAt,
            bigSlew := t.tim.bigSlew, suspects := t.tim.suspects, suspect := t.tim.suspect } }) ∧
  -- TIME_JUMP_RESOLVE
  (∀ (s : State),
      ∃ t, exec .timeJumpResolve s = .next t ∧
        t = { s.told t with
          tim := { s.tim with
            overAt := t.tim.overAt, state := t.tim.state, confirmed := t.tim.confirmed, step := t.tim.step, offset := t.tim.offset, offsetAt := t.tim.offsetAt,
            steer := t.tim.steer, yEst := t.tim.yEst, applied := t.tim.applied, unlockRun := t.tim.unlockRun, slewStart := t.tim.slewStart,
            bigSlew := t.tim.bigSlew, suspects := t.tim.suspects, suspect := t.tim.suspect } }) ∧
  -- TIME_DEGRADED
  (∀ (s : State),
      ∃ t, exec .timeDegraded s = .next t ∧
        t = { s.told t with tim := { s.tim with degraded := t.tim.degraded, degradedCause := t.tim.degradedCause } }) ∧
  -- CARAFE_SAMPLE
  (∀ (ppb : F32) (s : State),
      ∃ t, exec (.carafeSample ppb) s = .next t ∧
        t = { s.told t with
          tim := { s.tim with
            state := t.tim.state, step := t.tim.step, tcxoFault := t.tim.tcxoFault, steer := t.tim.steer, holdAt := t.tim.holdAt,
            suspects := t.tim.suspects, suspect := t.tim.suspect, model := t.tim.model, modelDirty := t.tim.modelDirty, sampledAt := t.tim.sampledAt, daySum := t.tim.daySum,
            dayCount := t.tim.dayCount },
          gns := { s.gns with ants := t.gns.ants } }) ∧
  -- CARAFE_DAILY
  (∀ (s : State),
      ∃ t, exec .carafeDaily s = .next t ∧
        t = { s with
          tim := { s.tim with
            model := t.tim.model, modelDirty := t.tim.modelDirty, dailyAt := t.tim.dailyAt, daySum := t.tim.daySum, dayCount := t.tim.dayCount } }) ∧
  -- CARAFE_STORE
  (∀ (s : State),
      ∃ t, exec .carafeStore s = .next t ∧
        t = { s.told t with
          tags := t.tags, tim := { s.tim with modelDirty := t.tim.modelDirty, hourAt := t.tim.hourAt },
          aqf := { s.aqf with
            budgetLow := t.aqf.budgetLow, writes := t.aqf.writes, writesPeak := t.aqf.writesPeak, done := t.aqf.done, budget := t.aqf.budget,
            budgetCredit := t.aqf.budgetCredit, budgetAt := t.aqf.budgetAt, refBudget := t.aqf.refBudget, refOther := t.aqf.refOther,
            objs := t.aqf.objs } }) ∧
  -- PPS_OUT
  (∀ (s : State),
      ∃ t, exec .ppsOut s = .next t ∧
        t = { s with tim := { s.tim with now := t.tim.now, ppsHigh := t.tim.ppsHigh, ppsAt := t.tim.ppsAt, ppsCount := t.tim.ppsCount } }) ∧
  -- TCXO_FAULT
  (∀ (deviation : Bool) (s : State),
      ∃ t, exec (.tcxoFault deviation) s = .next t ∧
        t = { s.told t with
          tim := { s.tim with
            state := t.tim.state, step := t.tim.step, tcxoFault := t.tim.tcxoFault, steer := t.tim.steer, holdAt := t.tim.holdAt,
            suspects := t.tim.suspects, suspect := t.tim.suspect },
          gns := { s.gns with ants := t.gns.ants } })

/-- What the commands of the solver array and the allocation leave alone: each clause gives the fields its command may change, on every state and all
operands; every other field is the one before, but for what raising an event (`State.told`) or taking up a request (`State.served`) changes. -/
def Obligations.FrameSolverAllocation : Prop :=
  -- SOLVE_SUBMIT
  (∀ (owner : Fin 3) (desc : Bytes) (packet : Bytes) (s : State),
      ∃ t, exec (.solveSubmit owner desc packet) s = .next t ∧
        t = { s.told t with
          tags := { s.tags with open_ := t.tags.open_, nextSeq := t.tags.nextSeq, peak := t.tags.peak }, sup := t.sup,
          tim := { s.tim with now := t.tim.now }, slv := t.slv, ctl := t.ctl }) ∧
  -- BIND
  (∀ (owner : Fin 3) (slot : Fin 512) (struct : Fin 256) (s : State),
      ∃ t, exec (.bind owner slot struct) s = .next t ∧
        t = { s.told t with
          tags := { s.tags with open_ := t.tags.open_, nextSeq := t.tags.nextSeq, peak := t.tags.peak }, sup := t.sup,
          tim := { s.tim with now := t.tim.now }, slv := t.slv, ctl := t.ctl }) ∧
  -- RELEASE
  (∀ (owner : Fin 3) (slot : Fin 512) (s : State),
      ∃ t, exec (.release owner slot) s = .next t ∧
        t = { s.told t with
          tags := { s.tags with open_ := t.tags.open_, nextSeq := t.tags.nextSeq, peak := t.tags.peak }, sup := t.sup,
          tim := { s.tim with now := t.tim.now }, slv := t.slv, ctl := t.ctl }) ∧
  -- CANCEL
  (∀ (owner : Fin 3) (slot : Fin 512) (s : State),
      ∃ t, exec (.cancel owner slot) s = .next t ∧
        t = { s.told t with
          tags := t.tags,
          sup := { s.sup with
            dlStatus := t.sup.dlStatus, dlCount := t.sup.dlCount, stageDone := t.sup.stageDone, stageMissed := t.sup.stageMissed,
            slackMin := t.sup.slackMin, conseqRun := t.sup.conseqRun, mpcWarm := t.sup.mpcWarm },
          tim := { s.tim with now := t.tim.now }, slv := t.slv, ctl := t.ctl, free := t.free }) ∧
  -- SOLVE_DISPATCH
  (∀ (engine : Fin 8) (s : State),
      ∃ t, exec (.solveDispatch engine) s = .next t ∧
        t = { s.told t with
          sup := { s.sup with mpcWarm := t.sup.mpcWarm },
          slv := { s.slv with
            engines := t.slv.engines, slots := t.slv.slots, mpcPath := t.slv.mpcPath, nWarm := t.slv.nWarm, nMapped := t.slv.nMapped,
            nCold := t.slv.nCold },
          free := t.free }) ∧
  -- SOLVE_RESUME
  (∀ (engine : Fin 8) (s : State),
      ∃ t, exec (.solveResume engine) s = .next t ∧ t = { s with slv := { s.slv with engines := t.slv.engines, slots := t.slv.slots } }) ∧
  -- SUBJOB_COMPLETE
  (∀ (engine : Fin 8) (s : State),
      ∃ t, exec (.subjobComplete engine) s = .next t ∧
        t = { s.told t with
          tags := { s.tags with open_ := t.tags.open_, nextSeq := t.tags.nextSeq, peak := t.tags.peak }, sup := t.sup,
          tim := { s.tim with now := t.tim.now }, slv := t.slv, ctl := t.ctl, free := t.free }) ∧
  -- SOLVE_COMPLETE
  (∀ (slot : Fin 512) (s : State),
      ∃ t, exec (.solveComplete slot) s = .next t ∧
        t = { s.told t with
          tags := t.tags,
          sup := { s.sup with
            dlStatus := t.sup.dlStatus, dlCount := t.sup.dlCount, stageDone := t.sup.stageDone, stageMissed := t.sup.stageMissed,
            slackMin := t.sup.slackMin, conseqRun := t.sup.conseqRun, mpcWarm := t.sup.mpcWarm },
          tim := { s.tim with now := t.tim.now }, slv := t.slv, ctl := t.ctl, free := t.free }) ∧
  -- EXPIRED
  (∀ (slot : Fin 512) (s : State),
      ∃ t, exec (.expired slot) s = .next t ∧
        t = { s.told t with
          tags := t.tags,
          sup := { s.sup with
            dlStatus := t.sup.dlStatus, dlCount := t.sup.dlCount, stageDone := t.sup.stageDone, stageMissed := t.sup.stageMissed,
            slackMin := t.sup.slackMin, conseqRun := t.sup.conseqRun, mpcWarm := t.sup.mpcWarm },
          tim := { s.tim with now := t.tim.now }, slv := t.slv, ctl := t.ctl, free := t.free }) ∧
  -- ALLOCATION_STAGE
  (∀ (us : Nat) (s : State),
      ∃ t, exec (.allocationStage us) s = .next t ∧
        t = { s.told t with
          tags := { s.tags with open_ := t.tags.open_, nextSeq := t.tags.nextSeq, peak := t.tags.peak }, sup := t.sup,
          tim := { s.tim with now := t.tim.now }, fus := { s.fus with origin := t.fus.origin, originNext := t.fus.originNext },
          slv := { s.slv with slots := t.slv.slots, refused := t.slv.refused, mailbox := t.slv.mailbox }, ctl := t.ctl,
          icx := { s.icx with ownState := t.icx.ownState } }) ∧
  -- JOY_STALE
  (∀ (s : State),
      ∃ t, exec .joyStale s = .next t ∧ t = { s.told t with ctl := { s.ctl with joy := t.ctl.joy } }) ∧
  -- BUS_STALE
  (∀ (bus : Fin 8) (s : State),
      ∃ t, exec (.busStale bus) s = .next t ∧ t = { s.told t with ctl := { s.ctl with buses := t.ctl.buses } } ∧ ∀ k, k ≠ bus.val →
      t.ctl.buses[k]? = s.ctl.buses[k]?) ∧
  -- EXT_GROUP_STALE
  (∀ (group : Fin 64) (s : State),
      ∃ t, exec (.extGroupStale group) s = .next t ∧ t = { s.told t with ctl := { s.ctl with groups := t.ctl.groups } } ∧ ∀ k, k ≠ group.val →
      t.ctl.groups[k]? = s.ctl.groups[k]?) ∧
  -- MPC_START
  (∀ (s : State),
      ∃ t, exec .mpcStart s = .next t ∧
        t = { s.told t with
          tags := { s.tags with open_ := t.tags.open_, nextSeq := t.tags.nextSeq, peak := t.tags.peak },
          sup := { s.sup with dlStatus := t.sup.dlStatus, dlCount := t.sup.dlCount, stageMissed := t.sup.stageMissed, slackMin := t.sup.slackMin },
          tim := { s.tim with now := t.tim.now }, slv := { s.slv with slots := t.slv.slots, refused := t.slv.refused, mailbox := t.slv.mailbox },
          ctl := { s.ctl with mpcStart := t.ctl.mpcStart, mpcLate := t.ctl.mpcLate, mpcAt := t.ctl.mpcAt } }) ∧
  -- CONSEQ_CYCLE_START
  (∀ (s : State),
      ∃ t, exec .conseqCycleStart s = .next t ∧
        t = { s.told t with tags := t.tags, sup := t.sup, tim := { s.tim with now := t.tim.now }, slv := t.slv, ctl := t.ctl, free := t.free })

/-- What the commands of a domain leave alone: each clause gives the fields its command may change, on every state and all operands; every other field
is the one before, but for what raising an event (`State.told`) or taking up a request (`State.served`) changes.
The clauses of ICX_FORWARD and RESULT are about the state before the WRITEs whose pairs it accepted go on
(`settle`, CompleteRegisterAccess). -/
def Obligations.FrameDomain : Prop :=
  -- ICX_FORWARD of a frame for this member, which takes it as well
  (∀ (rx : IcxRx) (s : State),
      ∃ t, t = receiveIcx rx s ∧ exec (.icxForward rx) s = .next (settle t) ∧
        t = { s.told t with
          tags := t.tags, log := t.log, sup := t.sup,
          pwr := { s.pwr with domOn := t.pwr.domOn, onQueue := t.pwr.onQueue, onAt := t.pwr.onAt, dormantSince := t.pwr.dormantSince },
          thm := { s.thm with sensorSel := t.thm.sensorSel }, bst := t.bst, tim := t.tim, gns := t.gns, fus := t.fus, slv := t.slv, ctl := t.ctl,
          srv := t.srv, sig := t.sig, fio := t.fio, saf := t.saf, can := t.can, ser := t.ser, eth := t.eth, ses := t.ses, icx := t.icx, aqf := t.aqf,
          cfg := t.cfg, free := t.free }) ∧
  -- ICX_FORWARD of a frame for another member
  (∀ (rx : IcxRx) (s : State), rx.frame.dst ≠ s.selfIndex → rx.frame.dst ≠ 0xFF →
      ∃ t, t = receiveIcx rx s ∧ exec (.icxForward rx) s = .next (settle t) ∧
        t = { s.told t with
          sup := { s.sup with hdgHold := t.sup.hdgHold, useSetpoint := t.sup.useSetpoint, pendMode := t.sup.pendMode },
          fus := { s.fus with origin := t.fus.origin, originNext := t.fus.originNext },
          ctl := { s.ctl with spUsed := t.ctl.spUsed, setpoint := t.ctl.setpoint }, icx := t.icx }) ∧
  -- SYNC
  (∀ (rx : IcxRx) (s : State),
      ∃ t, exec (.sync rx) s = .next t ∧
        t = { s.told t with
          sup := { s.sup with hdgHold := t.sup.hdgHold, useSetpoint := t.sup.useSetpoint, pendMode := t.sup.pendMode }, tim := t.tim,
          fus := { s.fus with origin := t.fus.origin, originNext := t.fus.originNext },
          ctl := { s.ctl with spUsed := t.ctl.spUsed, setpoint := t.ctl.setpoint }, icx := t.icx }) ∧
  -- EXCHANGE
  (∀ (rx : IcxRx) (s : State),
      ∃ t, exec (.exchange rx) s = .next t ∧
        t = { s.told t with
          tags := { s.tags with open_ := t.tags.open_, nextSeq := t.tags.nextSeq, peak := t.tags.peak },
          sup := { s.sup with hdgHold := t.sup.hdgHold, useSetpoint := t.sup.useSetpoint, pendMode := t.sup.pendMode },
          fus := { s.fus with origin := t.fus.origin, originNext := t.fus.originNext },
          ctl := { s.ctl with spUsed := t.ctl.spUsed, setpoint := t.ctl.setpoint }, icx := t.icx }) ∧
  -- VOTE
  (∀ (rx : IcxRx) (s : State),
      ∃ t, exec (.vote rx) s = .next t ∧
        t = { s.told t with
          sup := { s.sup with hdgHold := t.sup.hdgHold, useSetpoint := t.sup.useSetpoint, pendMode := t.sup.pendMode },
          fus := { s.fus with origin := t.fus.origin, originNext := t.fus.originNext },
          ctl := { s.ctl with spUsed := t.ctl.spUsed, setpoint := t.ctl.setpoint }, icx := t.icx }) ∧
  -- COMMAND
  (∀ (rx : IcxRx) (s : State),
      ∃ t, exec (.command rx) s = .next t ∧
        t = { s.told t with
          tags := t.tags, log := t.log, sup := t.sup,
          pwr := { s.pwr with domOn := t.pwr.domOn, onQueue := t.pwr.onQueue, onAt := t.pwr.onAt, dormantSince := t.pwr.dormantSince },
          thm := { s.thm with sensorSel := t.thm.sensorSel }, bst := t.bst, tim := t.tim, gns := t.gns, fus := t.fus, slv := t.slv, ctl := t.ctl,
          srv := t.srv, sig := t.sig, fio := t.fio, saf := t.saf, can := t.can, ser := t.ser, eth := t.eth, ses := t.ses, icx := t.icx, aqf := t.aqf,
          cfg := t.cfg, free := t.free }) ∧
  -- RESULT
  (∀ (rx : IcxRx) (s : State),
      ∃ t, t = receiveType 5 rx s ∧ exec (.result rx) s = .next (settle t) ∧
        t = { s.told t with
          tags := t.tags, sup := t.sup, fus := { s.fus with origin := t.fus.origin, originNext := t.fus.originNext },
          ctl := { s.ctl with spUsed := t.ctl.spUsed, setpoint := t.ctl.setpoint }, ses := t.ses, icx := t.icx, aqf := t.aqf }) ∧
  -- SSTOP
  (∀ (rx : IcxRx) (s : State),
      ∃ t, exec (.sstop rx) s = .next t ∧
        t = { s.told t with
          sup := { s.sup with hdgHold := t.sup.hdgHold, useSetpoint := t.sup.useSetpoint, pendMode := t.sup.pendMode },
          fus := { s.fus with origin := t.fus.origin, originNext := t.fus.originNext },
          ctl := { s.ctl with spUsed := t.ctl.spUsed, setpoint := t.ctl.setpoint }, saf := { s.saf with entries := t.saf.entries }, icx := t.icx }) ∧
  -- JOIN
  (∀ (rx : IcxRx) (s : State),
      ∃ t, exec (.join rx) s = .next t ∧
        t = { s.told t with
          tags := { s.tags with open_ := t.tags.open_, nextSeq := t.tags.nextSeq, peak := t.tags.peak },
          sup := { s.sup with hdgHold := t.sup.hdgHold, useSetpoint := t.sup.useSetpoint, pendMode := t.sup.pendMode },
          fus := { s.fus with origin := t.fus.origin, originNext := t.fus.originNext },
          ctl := { s.ctl with spUsed := t.ctl.spUsed, setpoint := t.ctl.setpoint }, icx := t.icx }) ∧
  -- STATE
  (∀ (rx : IcxRx) (s : State),
      ∃ t, exec (.state rx) s = .next t ∧
        t = { s.told t with
          sup := { s.sup with
            hdgHold := t.sup.hdgHold, useSetpoint := t.sup.useSetpoint, pendMode := t.sup.pendMode, blend := t.sup.blend, tBlend := t.sup.tBlend },
          fus := { s.fus with refs := t.fus.refs, origin := t.fus.origin, originNext := t.fus.originNext }, ctl := t.ctl, icx := t.icx }) ∧
  -- EXT_CAP
  (∀ (rx : IcxRx) (s : State),
      ∃ t, exec (.extCap rx) s = .next t ∧
        t = { s.told t with
          sup := { s.sup with hdgHold := t.sup.hdgHold, useSetpoint := t.sup.useSetpoint, pendMode := t.sup.pendMode },
          fus := { s.fus with origin := t.fus.origin, originNext := t.fus.originNext },
          ctl := { s.ctl with spUsed := t.ctl.spUsed, setpoint := t.ctl.setpoint, groups := t.ctl.groups }, icx := t.icx }) ∧
  -- EXT_DEMAND
  (∀ (rx : IcxRx) (s : State),
      ∃ t, exec (.extDemand rx) s = .next t ∧
        t = { s.told t with
          sup := { s.sup with hdgHold := t.sup.hdgHold, useSetpoint := t.sup.useSetpoint, pendMode := t.sup.pendMode },
          fus := { s.fus with origin := t.fus.origin, originNext := t.fus.originNext },
          ctl := { s.ctl with spUsed := t.ctl.spUsed, setpoint := t.ctl.setpoint }, icx := t.icx }) ∧
  -- DEADLINE
  (∀ (s : State),
      ∃ t, exec .deadline s = .next t ∧
        t = { s.told t with
          tim := { s.tim with now := t.tim.now }, sup := { s.sup with holdAz := t.sup.holdAz },
          ctl := { s.ctl with
            deadline := t.ctl.deadline, thrShown := t.ctl.thrShown, groupShown := t.ctl.groupShown, busShown := t.ctl.busShown, handed := t.ctl.handed, lost := t.ctl.lost, lostFrame := t.ctl.lostFrame, holdLast := t.ctl.holdLast, dlRun := t.ctl.dlRun,
            metRun := t.ctl.metRun, thr := t.ctl.thr, groups := t.ctl.groups, allocFrame := t.ctl.allocFrame, allocDone := t.ctl.allocDone,
            buses := t.ctl.buses, dlMiss := t.ctl.dlMiss } }) ∧
  -- PORT_UP
  (∀ (port : Fin 3) (us : Nat) (s : State),
      ∃ t, exec (.portUp port us) s = .next t ∧ t = { s.told t with icx := { s.icx with ports := t.icx.ports } } ∧ ∀ k, k ≠ port.val →
      t.icx.ports[k]? = s.icx.ports[k]?) ∧
  -- PORT_DOWN
  (∀ (port : Fin 3) (cause : Fin 3) (count : Nat) (s : State),
      ∃ t, exec (.portDown port cause count) s = .next t ∧ t = { s.told t with icx := { s.icx with ports := t.icx.ports } } ∧ ∀ k, k ≠ port.val →
      t.icx.ports[k]? = s.icx.ports[k]?) ∧
  -- EXCHANGE_SEND
  (∀ (us : Nat) (s : State),
      ∃ t, exec (.exchangeSend us) s = .next t ∧
        t = { s.told t with
          sup := { s.sup with
            dlStatus := t.sup.dlStatus, dlCount := t.sup.dlCount, stageDone := t.sup.stageDone, stageMissed := t.sup.stageMissed,
            slackMin := t.sup.slackMin },
          tim := { s.tim with now := t.tim.now }, icx := { s.icx with members := t.icx.members, ports := t.icx.ports, exchSent := t.icx.exchSent, sent := t.icx.sent } }) ∧
  -- VOTE_SEND
  (∀ (s : State),
      ∃ t, exec .voteSend s = .next t ∧
        t = { s with
          tim := { s.tim with now := t.tim.now },
          icx := { s.icx with
            followDue := t.icx.followDue, ports := t.icx.ports, members := t.icx.members, handCause := t.icx.handCause, namedCause := t.icx.namedCause, named := t.icx.named,
            voteSent := t.icx.voteSent, sent := t.icx.sent } }) ∧
  -- VOTE_EVALUATION
  (∀ (s : State),
      ∃ t, exec .voteEvaluation s = .next t ∧
        t = { s.told t with
          tags := { s.tags with open_ := t.tags.open_, nextSeq := t.tags.nextSeq, peak := t.tags.peak }, sup := t.sup,
          tim := { s.tim with now := t.tim.now }, ctl := t.ctl, icx := t.icx }) ∧
  -- TXN_TIMEOUT
  (∀ (tag : Word) (s : State),
      ∃ t, exec (.txnTimeout tag) s = .next t ∧
        t = { s.told t with
          eth := { s.eth with ports := t.eth.ports }, tags := t.tags,
          sup := { s.sup with resCode := t.sup.resCode, resMode := t.sup.resMode, resSession := t.sup.resSession, resFrame := t.sup.resFrame },
          ses := t.ses, icx := t.icx, aqf := t.aqf }) ∧
  -- JOIN_RETRY
  (∀ (s : State),
      ∃ t, exec .joinRetry s = .next t ∧
        t = { s with
          tags := { s.tags with open_ := t.tags.open_, nextSeq := t.tags.nextSeq, peak := t.tags.peak },
          icx := { s.icx with joinTried := t.icx.joinTried, ports := t.icx.ports, txns := t.icx.txns, txnFull := t.icx.txnFull, joinRetryAt := t.icx.joinRetryAt, sent := t.icx.sent } }) ∧
  -- DELAY
  (∀ (port : Fin 3) (roundTripNs : Nat) (s : State),
      ∃ t, exec (.delay port roundTripNs) s = .next t ∧ t = { s with icx := { s.icx with ports := t.icx.ports } } ∧ ∀ k, k ≠ port.val →
      t.icx.ports[k]? = s.icx.ports[k]?) ∧
  -- ICX_DELAY_PROBE
  (∀ (port : Fin 3) (s : State),
      ∃ t, exec (.icxDelayProbe port) s = .next t ∧ t = { s with icx := { s.icx with ports := t.icx.ports, sent := t.icx.sent } }) ∧
  -- EXT_DEMAND_STALE
  (∀ (s : State),
      ∃ t, exec .extDemandStale s = .next t ∧ t = { s.told t with icx := { s.icx with extStale := t.icx.extStale } }) ∧
  -- DOMAIN_FORMATION
  (∀ (s : State),
      ∃ t, exec .domainFormation s = .next t ∧
        t = { s.told t with
          icx := { s.icx with
            role := t.icx.role, phase := t.icx.phase, epoch := t.icx.epoch, lead := t.icx.lead, leadKnown := t.icx.leadKnown,
            leadBySilence := t.icx.leadBySilence, follow := t.icx.follow, timeOffset := t.icx.timeOffset, members := t.icx.members,
            joinSince := t.icx.joinSince } }) ∧
  -- PARTITION
  (∀ (s : State),
      ∃ t, exec .partition s = .next t ∧
        t = { s.told t with
          icx := { s.icx with
            role := t.icx.role, phase := t.icx.phase, follow := t.icx.follow, members := t.icx.members, adoptedLast := t.icx.adoptedLast,
            partsGot := t.icx.partsGot, xfer := t.icx.xfer, healRun := t.icx.healRun, isolatedAt := t.icx.isolatedAt } }) ∧
  -- TIME_SKEW
  (∀ (s : State),
      ∃ t, exec .timeSkew s = .next t ∧ t = { s.told t with icx := { s.icx with skewed := t.icx.skewed } }) ∧
  -- FUS_DISAGREE
  (∀ (heading : Bool) (s : State),
      ∃ t, exec (.fusDisagree heading) s = .next t ∧ t = { s.told t with icx := { s.icx with disagreeTold := t.icx.disagreeTold } })

/-- What the commands of the sessions leave alone: each clause gives the fields its command may change, on every state and all operands; every other
field is the one before, but for what raising an event (`State.told`) or taking up a request (`State.served`) changes. -/
def Obligations.FrameSession : Prop :=
  -- TLS_HANDSHAKE
  (∀ (conn : Nat) (offer : TlsOffer) (cert : Option ClientCert) (s : State),
      ∃ t, exec (.tlsHandshake conn offer cert) s = .next t ∧
        t = { s.told t with
          eth := { s.eth with ports := t.eth.ports }, ses := { (s.told t).ses with
            conns := t.ses.conns, checks := t.ses.checks, sources := t.ses.sources, authFails := t.ses.authFails, lockouts := t.ses.lockouts },
          free := t.free }) ∧
  -- CONNECTION_TIMEOUT
  (∀ (conn : Nat) (s : State),
      ∃ t, exec (.connectionTimeout conn) s = .next t ∧
        t = { s.told t with
          ses := { (s.told t).ses with
            sessions := t.ses.sessions, conns := t.ses.conns, checks := t.ses.checks, sources := t.ses.sources, authFails := t.ses.authFails,
            lockouts := t.ses.lockouts, sent := t.ses.sent },
          free := t.free }) ∧
  -- HELLO
  (∀ (req : Req) (method : Nat) (name : Bytes) (password : Bytes) (s : State),
      ∃ t, exec (.hello req method name password) s = .next t ∧
        t = { s.told t with
          eth := { s.eth with ports := t.eth.ports }, ses := { (s.told t).ses with
            sessions := t.ses.sessions, conns := t.ses.conns, checks := t.ses.checks, sources := t.ses.sources, authFails := t.ses.authFails,
            lockouts := t.ses.lockouts, sent := t.ses.sent },
          free := t.free }) ∧
  -- AUTH_CHECK_COMPLETE
  (∀ (conn : Nat) (s : State),
      ∃ t, exec (.authCheckComplete conn) s = .next t ∧
        t = { s.told t with
          eth := { s.eth with ports := t.eth.ports }, ses := { (s.told t).ses with
            sessions := t.ses.sessions, conns := t.ses.conns, checks := t.ses.checks, sources := t.ses.sources, authFails := t.ses.authFails,
            lockouts := t.ses.lockouts, sent := t.ses.sent },
          free := t.free }) ∧
  -- RESUME
  (∀ (req : Req) (session : Nat) (token : BitVec 128) (s : State),
      ∃ t, exec (.resume req session token) s = .next t ∧
        t = { s.told t with
          eth := { s.eth with ports := t.eth.ports }, ses := { (s.told t).ses with
            sessions := t.ses.sessions, conns := t.ses.conns, checks := t.ses.checks, sources := t.ses.sources, authFails := t.ses.authFails,
            lockouts := t.ses.lockouts, sent := t.ses.sent },
          free := t.free }) ∧
  -- SUBSCRIBE
  (∀ (req : Req) (mask : Word) (s : State),
      ∃ t, exec (.subscribe req mask) s = .next t ∧ t = s.served t) ∧
  -- ACCOUNT
  (∀ (req : Req) (op : Nat) (role : Nat) (name : Bytes) (password : Bytes) (s : State),
      ∃ t, exec (.account req op role name password) s = .next t ∧
        t = { s.served t with ctl := { s.ctl with joy := t.ctl.joy }, ses := { (s.served t).ses with accounts := t.ses.accounts }, free := t.free }) ∧
  -- PASSWORD
  (∀ (req : Req) (old : Bytes) (new : Bytes) (s : State),
      ∃ t, exec (.password req old new) s = .next t ∧
        t = { s.served t with
          ses := { (s.served t).ses with
            sources := t.ses.sources, accounts := t.ses.accounts, authFails := t.ses.authFails, lockouts := t.ses.lockouts },
          free := t.free }) ∧
  -- KEEPALIVE
  (∀ (req : Req) (s : State),
      ∃ t, exec (.keepalive req) s = .next t ∧ t = s.served t) ∧
  -- CLOSE
  (∀ (req : Req) (s : State),
      ∃ t, exec (.close req) s = .next t ∧ t = { s.served t with ctl := { s.ctl with joy := t.ctl.joy } }) ∧
  -- BAD_MESSAGE
  (∀ (conn : Nat) (header payload : Bytes) (s : State),
      ∃ t, exec (.badMessage conn header payload) s = .next t ∧
        t = { s.told t with
          eth := { s.eth with ports := t.eth.ports }, ses := { (s.told t).ses with sessions := t.ses.sessions, conns := t.ses.conns, checks := t.ses.checks, sent := t.ses.sent } }) ∧
  -- UNKNOWN_MESSAGE
  (∀ (req : Req) (type : Nat) (s : State),
      ∃ t, exec (.unknownMessage req type) s = .next t ∧ t = s.served t) ∧
  -- TRANSPORT_LOST
  (∀ (conn : Nat) (s : State),
      ∃ t, exec (.transportLost conn) s = .next t ∧
        t = { s.told t with ses := { (s.told t).ses with sessions := t.ses.sessions, conns := t.ses.conns, checks := t.ses.checks } }) ∧
  -- IDLE_TIMEOUT
  (∀ (session : Fin 32) (s : State),
      ∃ t, exec (.idleTimeout session) s = .next t ∧
        t = { s.told t with ses := { (s.told t).ses with sessions := t.ses.sessions, conns := t.ses.conns, checks := t.ses.checks } }) ∧
  -- DETACHED_EXPIRY
  (∀ (session : Fin 32) (s : State),
      ∃ t, exec (.detachedExpiry session) s = .next t ∧ t = { s.served t with ctl := { s.ctl with joy := t.ctl.joy } }) ∧
  -- LOCKOUT_END
  (∀ (source : Word) (s : State),
      ∃ t, exec (.lockoutEnd source) s = .next t ∧ t = { s with ses := { s.ses with sources := t.ses.sources } }) ∧
  -- LOCKOUT_DECAY
  (∀ (source : Word) (s : State),
      ∃ t, exec (.lockoutDecay source) s = .next t ∧ t = { s with ses := { s.ses with sources := t.ses.sources } }) ∧
  -- TLS_KEY_UPDATE
  (∀ (conn : Nat) (s : State),
      ∃ t, exec (.tlsKeyUpdate conn) s = .next t ∧
        t = { s.told t with eth := { s.eth with ports := t.eth.ports }, ses := { (s.told t).ses with conns := t.ses.conns } })

/-- What the requests to SUP, GNS, FUS, SLV, CTL and SRV leave alone: each clause gives the fields its command may change, on every state and all
operands; every other field is the one before, but for what raising an event (`State.told`) or taking up a request (`State.served`) changes. -/
def Obligations.FrameControlRequests : Prop :=
  -- MODE_REQ
  (∀ (req : Req) (mode : Fin 8) (hdgHold : Bool) (useSetpoint : Bool) (s : State),
      ∃ t, exec (.modeReq req mode hdgHold useSetpoint) s = .next t ∧
        t = { s.served t with
          sup := t.sup, pwr := { s.pwr with domOn := t.pwr.domOn, onQueue := t.pwr.onQueue, onAt := t.pwr.onAt, dormantSince := t.pwr.dormantSince },
          tim := t.tim, gns := { s.gns with ants := t.gns.ants, acqWanted := t.gns.acqWanted },
          fus := { s.fus with origin := t.fus.origin, originNext := t.fus.originNext },
          slv := { s.slv with avail := t.slv.avail, slots := t.slv.slots, mpcPath := t.slv.mpcPath, schedSig := t.slv.schedSig },
          ctl := { s.ctl with spUsed := t.ctl.spUsed, setpoint := t.ctl.setpoint }, srv := { s.srv with thr := t.srv.thr }, sig := t.sig,
          fio := { s.fio with banks := t.fio.banks, chans := t.fio.chans, linkTimeout := t.fio.linkTimeout }, saf := t.saf,
          can := { s.can with ports := t.can.ports, classes := t.can.classes }, ser := t.ser, eth := t.eth, icx := t.icx,
          cfg := { s.cfg with check := t.cfg.check, phase := t.cfg.phase } }) ∧
  -- SSTOP_REQ_ENTER
  (∀ (req : Req) (scope : Byte) (s : State),
      ∃ t, exec (.sstopReqEnter req scope) s = .next t ∧
        t = { s.served t with
          sup := t.sup, saf := { s.saf with thr := t.saf.thr, entries := t.saf.entries, resetReq := t.saf.resetReq, entered := t.saf.entered },
          icx := t.icx }) ∧
  -- SSTOP_REQ_RESET
  (∀ (req : Req) (s : State),
      ∃ t, exec (.sstopReqReset req) s = .next t ∧
        t = { s.served t with
          sup := t.sup, saf := { s.saf with thr := t.saf.thr, entries := t.saf.entries, resetReq := t.saf.resetReq, entered := t.saf.entered },
          icx := t.icx }) ∧
  -- RESTART_REQ
  (∀ (req : Req) (key : Word) (s : State),
      ∃ t, exec (.restartReq req key) s = .next t ∧
        t = { s.served t with
          sup := { s.sup with restarting := t.sup.restarting }
          srv := { s.srv with thr := t.srv.thr }, aqf := t.aqf }) ∧
  -- MODE_TBLEND
  (∀ (req : Req) (seconds : F32) (s : State),
      ∃ t, exec (.modeTblend req seconds) s = .next t ∧
        t = { s.served t with
          sup := { s.sup with pendMode := t.sup.pendMode, tBlend := t.sup.tBlend },
          icx := { s.icx with ports := t.icx.ports, txns := t.icx.txns, txnFull := t.icx.txnFull, cmds := t.icx.cmds, sent := t.icx.sent } }) ∧
  -- COLD_START
  (∀ (req : Req) (s : State),
      ∃ t, exec (.coldStart req) s = .next t ∧ t = { s.served t with gns := t.gns, aqf := { (s.served t).aqf with objs := t.aqf.objs } }) ∧
  -- RTK_RESET
  (∀ (req : Req) (s : State),
      ∃ t, exec (.rtkReset req) s = .next t ∧ t = { s.served t with gns := t.gns, aqf := { (s.served t).aqf with objs := t.aqf.objs } }) ∧
  -- REF_SELECT
  (∀ (req : Req) (mask : BitVec 12) (s : State),
      ∃ t, exec (.refSelect req mask) s = .next t ∧
        t = { s.served t with
          sup := { s.sup with pendMode := t.sup.pendMode, tBlend := t.sup.tBlend }, fus := { s.fus with refs := t.fus.refs },
          icx := { s.icx with ports := t.icx.ports, txns := t.icx.txns, txnFull := t.icx.txnFull, cmds := t.icx.cmds, sent := t.icx.sent } }) ∧
  -- ANCHOR
  (∀ (req : Req) (slot : Fin 16) (heading : Bool) (s : State),
      ∃ t, exec (.anchor req slot heading) s = .next t ∧
        t = { s.served t with
          sup := { s.sup with pendMode := t.sup.pendMode, tBlend := t.sup.tBlend }, fus := { s.fus with refs := t.fus.refs },
          icx := { s.icx with ports := t.icx.ports, txns := t.icx.txns, txnFull := t.icx.txnFull, cmds := t.icx.cmds, sent := t.icx.sent } }) ∧
  -- REF_CMD_RESET_MODEL
  (∀ (req : Req) (slot : Fin 16) (heading : Bool) (s : State),
      ∃ t, exec (.refCmdResetModel req slot heading) s = .next t ∧
        t = { s.served t with
          sup := { s.sup with pendMode := t.sup.pendMode, tBlend := t.sup.tBlend }, fus := { s.fus with refs := t.fus.refs },
          icx := { s.icx with ports := t.icx.ports, txns := t.icx.txns, txnFull := t.icx.txnFull, cmds := t.icx.cmds, sent := t.icx.sent } }) ∧
  -- SLV_TEST
  (∀ (req : Req) (engine : Fin 8) (s : State),
      ∃ t, exec (.slvTest req engine) s = .next t ∧
        t = { s.served t with
          slv := { s.slv with
            slots := t.slv.slots, refused := t.slv.refused, engSel := t.slv.engSel, slotSel := t.slv.slotSel, testResult := t.slv.testResult,
            testEngine := t.slv.testEngine, mailbox := t.slv.mailbox } }) ∧
  -- SP_APPLY
  (∀ (req : Req) (s : State),
      ∃ t, exec (.spApply req) s = .next t ∧
        t = { s.served t with
          sup := { s.sup with pendMode := t.sup.pendMode, tBlend := t.sup.tBlend },
          fus := { s.fus with origin := t.fus.origin, originNext := t.fus.originNext },
          ctl := { s.ctl with spStored := t.ctl.spStored, spNext := t.ctl.spNext },
          icx := { s.icx with ports := t.icx.ports, txns := t.icx.txns, txnFull := t.icx.txnFull, cmds := t.icx.cmds, sent := t.icx.sent } }) ∧
  -- SP_MOVE
  (∀ (req : Req) (s : State),
      ∃ t, exec (.spMove req) s = .next t ∧
        t = { s.served t with
          sup := { s.sup with pendMode := t.sup.pendMode, tBlend := t.sup.tBlend },
          fus := { s.fus with origin := t.fus.origin, originNext := t.fus.originNext },
          ctl := { s.ctl with spStored := t.ctl.spStored, spNext := t.ctl.spNext },
          icx := { s.icx with ports := t.icx.ports, txns := t.icx.txns, txnFull := t.icx.txnFull, cmds := t.icx.cmds, sent := t.icx.sent } }) ∧
  -- TUNE_SEL
  (∀ (req : Req) (set : Fin 8) (s : State),
      ∃ t, exec (.tuneSel req set) s = .next t ∧
        t = { s.served t with
          sup := { s.sup with pendMode := t.sup.pendMode, tBlend := t.sup.tBlend }, ctl := { s.ctl with tuneNext := t.ctl.tuneNext },
          icx := { s.icx with ports := t.icx.ports, txns := t.icx.txns, txnFull := t.icx.txnFull, cmds := t.icx.cmds, sent := t.icx.sent } }) ∧
  -- JOY_DEMAND
  (∀ (req : Req) (surge : BitVec 10) (sway : BitVec 10) (yaw : BitVec 10) (s : State),
      ∃ t, exec (.joyDemand req surge sway yaw) s = .next t ∧
        t = { s.served t with
          sup := { s.sup with pendMode := t.sup.pendMode, tBlend := t.sup.tBlend }, ctl := { s.ctl with joy := t.ctl.joy },
          icx := { s.icx with ports := t.icx.ports, txns := t.icx.txns, txnFull := t.icx.txnFull, cmds := t.icx.cmds, sent := t.icx.sent } }) ∧
  -- JOY_RELEASE
  (∀ (req : Req) (s : State),
      ∃ t, exec (.joyRelease req) s = .next t ∧
        t = { s.served t with
          sup := { s.sup with pendMode := t.sup.pendMode, tBlend := t.sup.tBlend }, ctl := { s.ctl with joy := t.ctl.joy },
          icx := { s.icx with ports := t.icx.ports, txns := t.icx.txns, txnFull := t.icx.txnFull, cmds := t.icx.cmds, sent := t.icx.sent } }) ∧
  -- TRACK_COMMIT
  (∀ (req : Req) (count : Fin 128) (s : State),
      ∃ t, exec (.trackCommit req count) s = .next t ∧
        t = { s.served t with
          sup := { s.sup with pendMode := t.sup.pendMode, tBlend := t.sup.tBlend }, ctl := { s.ctl with trackNext := t.ctl.trackNext },
          icx := { s.icx with ports := t.icx.ports, txns := t.icx.txns, txnFull := t.icx.txnFull, cmds := t.icx.cmds, sent := t.icx.sent } }) ∧
  -- TRACK_CLEAR
  (∀ (req : Req) (s : State),
      ∃ t, exec (.trackClear req) s = .next t ∧
        t = { s.served t with
          sup := { s.sup with pendMode := t.sup.pendMode, tBlend := t.sup.tBlend }, ctl := { s.ctl with trackNext := t.ctl.trackNext },
          icx := { s.icx with ports := t.icx.ports, txns := t.icx.txns, txnFull := t.icx.txnFull, cmds := t.icx.cmds, sent := t.icx.sent } }) ∧
  -- THR_ENABLE
  (∀ (req : Req) (mask : BitVec 16) (s : State),
      ∃ t, exec (.thrEnable req mask) s = .next t ∧
        t = { s.served t with
          sup := { s.sup with pendMode := t.sup.pendMode, tBlend := t.sup.tBlend }, ctl := { s.ctl with thrEnable := t.ctl.thrEnable },
          icx := { s.icx with ports := t.icx.ports, txns := t.icx.txns, txnFull := t.icx.txnFull, cmds := t.icx.cmds, sent := t.icx.sent } }) ∧
  -- SRV_CLEAR_FAULT
  (∀ (req : Req) (thruster : Fin 16) (s : State),
      ∃ t, exec (.srvClearFault req thruster) s = .next t ∧ t = { s.served t with srv := t.srv, aqf := t.aqf }) ∧
  -- RESET_PROFILE
  (∀ (req : Req) (thruster : Fin 16) (s : State),
      ∃ t, exec (.resetProfile req thruster) s = .next t ∧ t = { s.served t with srv := t.srv, aqf := t.aqf }) ∧
  -- SET_BASELINE
  (∀ (req : Req) (thruster : Fin 16) (s : State),
      ∃ t, exec (.setBaseline req thruster) s = .next t ∧ t = { s.served t with srv := t.srv, aqf := t.aqf }) ∧
  -- STORE_NOW
  (∀ (req : Req) (thruster : Fin 16) (s : State),
      ∃ t, exec (.storeNow req thruster) s = .next t ∧ t = { s.served t with srv := t.srv, aqf := t.aqf }) ∧
  -- LEARN_RUN
  (∀ (req : Req) (thruster : Fin 16) (passes : Fin 32768) (ccw : Bool) (s : State),
      ∃ t, exec (.learnRun req thruster passes ccw) s = .next t ∧ t = { s.served t with srv := t.srv, aqf := t.aqf }) ∧
  -- TEST_MOVE
  (∀ (req : Req) (thruster : Fin 16) (target : BitVec 16) (s : State),
      ∃ t, exec (.testMove req thruster target) s = .next t ∧ t = { s.served t with srv := t.srv, aqf := t.aqf }) ∧
  -- TEST_STOP
  (∀ (req : Req) (thruster : Fin 16) (s : State),
      ∃ t, exec (.testStop req thruster) s = .next t ∧ t = { s.served t with srv := t.srv, aqf := t.aqf }) ∧
  -- ARM
  (∀ (req : Req) (s : State),
      ∃ t, exec (.arm req) s = .next t ∧ t = { s.served t with srv := { s.srv with trace := t.srv.trace } }) ∧
  -- TRC_STOP
  (∀ (req : Req) (s : State),
      ∃ t, exec (.trcStop req) s = .next t ∧ t = { s.served t with srv := { s.srv with trace := t.srv.trace } }) ∧
  -- FORCE
  (∀ (req : Req) (s : State),
      ∃ t, exec (.force req) s = .next t ∧ t = { s.served t with srv := { s.srv with trace := t.srv.trace } })

/-- What the other requests and the register accesses leave alone: each clause gives the fields its command may change, on every state and all
operands; every other field is the one before, but for what raising an event (`State.told`) or taking up a request (`State.served`) changes. -/
def Obligations.FrameOtherRequests : Prop :=
  -- SIG_CMD_START
  (∀ (req : Req) (mask : BitVec 16) (s : State),
      ∃ t, exec (.sigCmdStart req mask) s = .next t ∧
        t = { s.served t with
          tim := { s.tim with syncOutAt := t.tim.syncOutAt },
          sig := { s.sig with
            ins := t.sig.ins, syncAccepted := t.sig.syncAccepted, syncLast := t.sig.syncLast, cmdResult := t.sig.cmdResult,
            cmdSession := t.sig.cmdSession },
          free := t.free }) ∧
  -- SIG_CMD_STOP
  (∀ (req : Req) (mask : BitVec 16) (s : State),
      ∃ t, exec (.sigCmdStop req mask) s = .next t ∧
        t = { s.served t with
          tim := { s.tim with syncOutAt := t.tim.syncOutAt },
          sig := { s.sig with
            ins := t.sig.ins, syncAccepted := t.sig.syncAccepted, syncLast := t.sig.syncLast, cmdResult := t.sig.cmdResult,
            cmdSession := t.sig.cmdSession },
          free := t.free }) ∧
  -- SIG_CMD_SYNC
  (∀ (req : Req) (s : State),
      ∃ t, exec (.sigCmdSync req) s = .next t ∧
        t = { s.served t with
          tim := { s.tim with syncOutAt := t.tim.syncOutAt },
          sig := { s.sig with
            ins := t.sig.ins, syncAccepted := t.sig.syncAccepted, syncLast := t.sig.syncLast, cmdResult := t.sig.cmdResult,
            cmdSession := t.sig.cmdSession },
          free := t.free }) ∧
  -- CH_CFG
  (∀ (req : Req) (value : Word) (s : State),
      ∃ t, exec (.chCfg req value) s = .next t ∧
        t = { s.served t with sig := { s.sig with ins := t.sig.ins, cmdResult := t.sig.cmdResult, cmdSession := t.sig.cmdSession } }) ∧
  -- CH_DELAY
  (∀ (req : Req) (eighths : BitVec 12) (s : State),
      ∃ t, exec (.chDelay req eighths) s = .next t ∧
        t = { s.served t with sig := { s.sig with ins := t.sig.ins, cmdResult := t.sig.cmdResult, cmdSession := t.sig.cmdSession } }) ∧
  -- OUT_VALUE
  (∀ (req : Req) (value : F32) (s : State),
      ∃ t, exec (.outValue req value) s = .next t ∧
        t = { s.served t with sig := { s.sig with outs := t.sig.outs, cmdResult := t.sig.cmdResult, cmdSession := t.sig.cmdSession } }) ∧
  -- OUT_ON
  (∀ (req : Req) (bankB : Bool) (mask : BitVec 24) (s : State),
      ∃ t, exec (.outOn req bankB mask) s = .next t ∧
        t = { s.served t with fio := { s.fio with chans := t.fio.chans, cmdResult := t.fio.cmdResult, cmdSession := t.fio.cmdSession } }) ∧
  -- OUT_OFF
  (∀ (req : Req) (bankB : Bool) (mask : BitVec 24) (s : State),
      ∃ t, exec (.outOff req bankB mask) s = .next t ∧
        t = { s.served t with fio := { s.fio with chans := t.fio.chans, cmdResult := t.fio.cmdResult, cmdSession := t.fio.cmdSession } }) ∧
  -- FIO_CLEAR_FAULT
  (∀ (req : Req) (channel : Fin 64) (all : Bool) (s : State),
      ∃ t, exec (.fioClearFault req channel all) s = .next t ∧
        t = { s.served t with
          fio := { s.fio with chans := t.fio.chans, chSel := t.fio.chSel, cmdResult := t.fio.cmdResult, cmdSession := t.fio.cmdSession } }) ∧
  -- PROOF_BEGIN
  (∀ (req : Req) (s : State),
      ∃ t, exec (.proofBegin req) s = .next t ∧ t = { s.served t with saf := t.saf }) ∧
  -- PAIR_TEST_HS
  (∀ (req : Req) (pair : Fin 8) (s : State),
      ∃ t, exec (.pairTestHs req pair) s = .next t ∧ t = { s.served t with saf := t.saf }) ∧
  -- PAIR_TEST_LS
  (∀ (req : Req) (pair : Fin 8) (s : State),
      ∃ t, exec (.pairTestLs req pair) s = .next t ∧ t = { s.served t with saf := t.saf }) ∧
  -- ESTOP_TEST
  (∀ (req : Req) (input : Fin 2) (s : State),
      ∃ t, exec (.estopTest req input) s = .next t ∧ t = { s.served t with saf := t.saf }) ∧
  -- PROOF_END
  (∀ (req : Req) (s : State),
      ∃ t, exec (.proofEnd req) s = .next t ∧ t = { s.served t with saf := t.saf }) ∧
  -- FAULT_RESET
  (∀ (req : Req) (pair : Fin 8) (all : Bool) (input : Fin 2) (s : State),
      ∃ t, exec (.faultReset req pair all input) s = .next t ∧ t = { s.served t with saf := t.saf }) ∧
  -- ALARM_TEST
  (∀ (req : Req) (s : State),
      ∃ t, exec (.alarmTest req) s = .next t ∧ t = { s.served t with saf := t.saf }) ∧
  -- RECOVER
  (∀ (req : Req) (port : Fin 4) (s : State),
      ∃ t, exec (.recover req port) s = .next t ∧
        t = { s.served t with
          can := { s.can with ports := t.can.ports, cmdResult := t.can.cmdResult, cmdSession := t.can.cmdSession, mirrors := t.can.mirrors } }) ∧
  -- HANDOVER
  (∀ (req : Req) (s : State),
      ∃ t, exec (.handover req) s = .next t ∧
        t = { s.served t with
          icx := { s.icx with
            memberId := t.icx.memberId, sel := t.icx.sel, cmdResult := t.icx.cmdResult, cmdSession := t.icx.cmdSession, handCause := t.icx.handCause }
          }) ∧
  -- SET_MEMBER
  (∀ (req : Req) (index : Fin 8) (s : State),
      ∃ t, exec (.setMember req index) s = .next t ∧
        t = { s.served t with
          icx := { s.icx with
            memberId := t.icx.memberId, sel := t.icx.sel, cmdResult := t.icx.cmdResult, cmdSession := t.icx.cmdSession, handCause := t.icx.handCause }
          }) ∧
  -- SES_CMD_CLOSE
  (∀ (req : Req) (session : Fin 32) (s : State),
      ∃ t, exec (.sesCmdClose req session) s = .next t ∧
        t = { s.served t with
          ctl := { s.ctl with joy := t.ctl.joy },
          ses := { (s.served t).ses with
            sources := t.ses.sources, siteCert := t.ses.siteCert, siteStage := t.ses.siteStage, cmdResult := t.ses.cmdResult,
            cmdSession := t.ses.cmdSession } }) ∧
  -- INSTALL_CERT
  (∀ (req : Req) (s : State),
      ∃ t, exec (.installCert req) s = .next t ∧
        t = { s.served t with
          ctl := { s.ctl with joy := t.ctl.joy },
          ses := { (s.served t).ses with
            sources := t.ses.sources, siteCert := t.ses.siteCert, siteStage := t.ses.siteStage, cmdResult := t.ses.cmdResult,
            cmdSession := t.ses.cmdSession } }) ∧
  -- USE_FACTORY
  (∀ (req : Req) (s : State),
      ∃ t, exec (.useFactory req) s = .next t ∧
        t = { s.served t with
          ctl := { s.ctl with joy := t.ctl.joy },
          ses := { (s.served t).ses with
            sources := t.ses.sources, siteCert := t.ses.siteCert, siteStage := t.ses.siteStage, cmdResult := t.ses.cmdResult,
            cmdSession := t.ses.cmdSession } }) ∧
  -- UNLOCK
  (∀ (req : Req) (s : State),
      ∃ t, exec (.unlock req) s = .next t ∧
        t = { s.served t with
          ctl := { s.ctl with joy := t.ctl.joy },
          ses := { (s.served t).ses with
            sources := t.ses.sources, siteCert := t.ses.siteCert, siteStage := t.ses.siteStage, cmdResult := t.ses.cmdResult,
            cmdSession := t.ses.cmdSession } }) ∧
  -- TIM_CMD_RESET_MODEL
  (∀ (req : Req) (s : State),
      ∃ t, exec (.timCmdResetModel req) s = .next t ∧
        t = { s.served t with
          tim := { s.tim with
            cmdResult := t.tim.cmdResult, cmdSession := t.tim.cmdSession, model := t.tim.model, modelDirty := t.tim.modelDirty,
            daySum := t.tim.daySum, dayCount := t.tim.dayCount } }) ∧
  -- BIST_PARTIAL
  (∀ (req : Req) (s : State),
      ∃ t, exec (.bistPartial req) s = .next t ∧
        t = { s.served t with
          bst := { s.bst with
            state := t.bst.state, kind := t.bst.kind, pass := t.bst.pass, units := t.bst.units, passMask := t.bst.passMask,
            cmdResult := t.bst.cmdResult, cmdSession := t.bst.cmdSession } }) ∧
  -- BIST_FULL
  (∀ (req : Req) (key : Byte) (s : State),
      ∃ t, exec (.bistFull req key) s = .next t ∧
        t = { s.served t with
          bst := t.bst, slv := t.slv, ctl := { s.ctl with joy := t.ctl.joy }, srv := { s.srv with staged := t.srv.staged, trace := t.srv.trace },
          saf := { s.saf with pairs := t.saf.pairs },
          aqf := { (s.served t).aqf with phase := t.aqf.phase, export_ := t.aqf.export_, import_ := t.aqf.import_, importLen := t.aqf.importLen },
          cfg := { s.cfg with staged := t.cfg.staged, stagedLen := t.cfg.stagedLen, phase := t.cfg.phase }, free := t.free }) ∧
  -- LOG_CLEAR
  (∀ (req : Req) (key : Byte) (s : State),
      ∃ t, exec (.logClear req key) s = .next t ∧
        t = { s.served t with
          log := { (s.served t).log with
            epoch := t.log.epoch, flushed := t.log.flushed, oldest := t.log.oldest, durable := t.log.durable, clearTime := t.log.clearTime,
            cmdResult := t.log.cmdResult, cmdSession := t.log.cmdSession }
          aqf := { (s.served t).aqf with flushCut := t.aqf.flushCut } }) ∧
  -- EXPORT_PREPARE
  (∀ (req : Req) (s : State),
      ∃ t, exec (.exportPrepare req) s = .next t ∧ t = { s.served t with aqf := t.aqf }) ∧
  -- IMPORT_COMMIT
  (∀ (req : Req) (mask : Fin 8) (s : State),
      ∃ t, exec (.importCommit req mask) s = .next t ∧ t = { s.served t with aqf := t.aqf }) ∧
  -- IMPORT_ABORT
  (∀ (req : Req) (s : State),
      ∃ t, exec (.importAbort req) s = .next t ∧ t = { s.served t with aqf := t.aqf }) ∧
  -- ARCHIVE_TRACE
  (∀ (req : Req) (s : State),
      ∃ t, exec (.archiveTrace req) s = .next t ∧ t = { s.served t with aqf := t.aqf }) ∧
  -- ARCHIVE_DELETE
  (∀ (req : Req) (entry : BitVec 16) (s : State),
      ∃ t, exec (.archiveDelete req entry) s = .next t ∧ t = { s.served t with aqf := t.aqf }) ∧
  -- CONFIRM
  (∀ (req : Req) (p0Ok : Bool) (s : State),
      ∃ t, exec (.confirm req p0Ok) s = .next t ∧
        t = { s.served t with
          sup := { s.sup with lockClearing := t.sup.lockClearing },
          aqf := { (s.served t).aqf with
            writes := t.aqf.writes, writesPeak := t.aqf.writesPeak, done := t.aqf.done, refBudget := t.aqf.refBudget, refOther := t.aqf.refOther,
            objs := t.aqf.objs },
          cfg := t.cfg }) ∧
  -- WRITE_KEY
  (∀ (req : Req) (key : Byte) (s : State),
      ∃ t, exec (.writeKey req key) s = .next t ∧
        t = { s.served t with
          sup := { s.sup with lockClearing := t.sup.lockClearing },
          aqf := { (s.served t).aqf with
            writes := t.aqf.writes, writesPeak := t.aqf.writesPeak, done := t.aqf.done, refBudget := t.aqf.refBudget, refOther := t.aqf.refOther,
            objs := t.aqf.objs },
          cfg := t.cfg }) ∧
  -- DISCARD
  (∀ (req : Req) (s : State),
      ∃ t, exec (.discard req) s = .next t ∧
        t = { s.served t with
          sup := { s.sup with lockClearing := t.sup.lockClearing },
          aqf := { (s.served t).aqf with
            writes := t.aqf.writes, writesPeak := t.aqf.writesPeak, done := t.aqf.done, refBudget := t.aqf.refBudget, refOther := t.aqf.refOther,
            objs := t.aqf.objs },
          cfg := t.cfg }) ∧
  -- READ
  (∀ (req : Req) (addr : Word) (count : Nat) (s : State),
      ∃ t, exec (.read req addr count) s = .next t ∧
        t = { s.served t with
          log := { (s.served t).log with flushTotal := t.log.flushTotal },
          sup := { s.sup with dlCount := t.sup.dlCount, slackMin := t.sup.slackMin, eccCorr := t.sup.eccCorr, eccUncorr := t.sup.eccUncorr },
          pwr := { s.pwr with dipCount := t.pwr.dipCount },
          thm := { s.thm with bandChanges := t.thm.bandChanges, throttleCount := t.thm.throttleCount },
          bst := { s.bst with bgRounds := t.bst.bgRounds }, tim := { s.tim with stepCount := t.tim.stepCount, ppsCount := t.tim.ppsCount },
          gns := { s.gns with crcFail := t.gns.crcFail, unsupported := t.gns.unsupported, slipCount := t.gns.slipCount },
          fus := { s.fus with
            refs := t.fus.refs, originWanted := t.fus.originWanted, origin := t.fus.origin, originNext := t.fus.originNext,
            lateCount := t.fus.lateCount, olderCount := t.fus.olderCount, skip := t.fus.skip, gateCount := t.fus.gateCount },
          slv := { s.slv with
            engines := t.slv.engines, solves := t.slv.solves, numFail := t.slv.numFail, resFail := t.slv.resFail, pivReg := t.slv.pivReg,
            expired := t.slv.expired, infeas := t.slv.infeas, nWarm := t.slv.nWarm, nMapped := t.slv.nMapped, nCold := t.slv.nCold,
            nSubopt := t.slv.nSubopt, refused := t.slv.refused },
          ctl := { s.ctl with mpcFail := t.ctl.mpcFail, nodeFail := t.ctl.nodeFail, satFrames := t.ctl.satFrames, dlMiss := t.ctl.dlMiss },
          srv := { s.srv with tickMax := t.srv.tickMax, overruns := t.srv.overruns, guards := t.srv.guards },
          sig := { s.sig with ins := t.sig.ins, syncAccepted := t.sig.syncAccepted, syncIgnored := t.sig.syncIgnored, clamps := t.sig.clamps },
          fio := { s.fio with shown := t.fio.shown, banks := t.fio.banks, chans := t.fio.chans },
          saf := { s.saf with
            pairs := t.saf.pairs, cycleMax := t.saf.cycleMax, eccCorr := t.saf.eccCorr, eccUncorr := t.saf.eccUncorr,
            wdViolations := t.saf.wdViolations },
          can := { s.can with ports := t.can.ports, mirrors := t.can.mirrors }, ser := t.ser, eth := { s.eth with ports := t.eth.ports },
          ses := { (s.served t).ses with authFails := t.ses.authFails, lockouts := t.ses.lockouts },
          icx := { s.icx with
            exchLate := t.icx.exchLate, miscompares := t.icx.miscompares, takeovers := t.icx.takeovers, txnTimeouts := t.icx.txnTimeouts,
            crcErrors := t.icx.crcErrors },
          aqf := { (s.served t).aqf with
            bchCorr := t.aqf.bchCorr, mediaErrors := t.aqf.mediaErrors, refBudget := t.aqf.refBudget, refOther := t.aqf.refOther,
            flushCount := t.aqf.flushCount } }) ∧
  -- WRITE
  (∀ (req : Req) (pairs : List (Word × Word)) (s : State),
      ∃ t, exec (.write req pairs) s = .next t ∧ t = { t with pending := s.pending }) ∧
  -- BULK_READ
  (∀ (req : Req) (object : Byte) (index : BitVec 16) (offset : Word) (length : Nat) (s : State),
      ∃ t, exec (.bulkRead req object index offset length) s = .next t ∧ t = s.served t) ∧
  -- BULK_WRITE
  (∀ (req : Req) (object : Byte) (index : BitVec 16) (offset : Word) (data : Bytes) (s : State),
      ∃ t, exec (.bulkWrite req object index offset data) s = .next t ∧
        t = { s.served t with
          ses := { (s.served t).ses with siteStage := t.ses.siteStage },
          aqf := { (s.served t).aqf with import_ := t.aqf.import_, importLen := t.aqf.importLen },
          cfg := { s.cfg with staged := t.cfg.staged, stagedLen := t.cfg.stagedLen } })

/-- What the commands of the frame, the store and the supervision leave alone: each clause gives the fields its command may change, on every state and
all operands; every other field is the one before, but for what raising an event (`State.told`) or taking up a request (`State.served`) changes. -/
def Obligations.FrameSupervision : Prop :=
  -- AQF_WRITE_SUBMIT
  (∀ (engine : Fin 16) (key : StoreKey) (size : Nat) (data : StoreData) (s : State),
      ∃ t, exec (.aqfWriteSubmit engine key size data) s = .next t ∧
        t = { s.told t with
          tags := t.tags,
          aqf := { s.aqf with
            budgetLow := t.aqf.budgetLow, writes := t.aqf.writes, writesPeak := t.aqf.writesPeak, done := t.aqf.done, budget := t.aqf.budget,
            budgetCredit := t.aqf.budgetCredit, budgetAt := t.aqf.budgetAt, refBudget := t.aqf.refBudget, refOther := t.aqf.refOther,
            objs := t.aqf.objs } }) ∧
  -- AQF_WRITE_COMMIT
  (∀ (tag : Word) (media : Bool) (s : State),
      ∃ t, exec (.aqfWriteCommit tag media) s = .next t ∧
        t = { s.told t with
          tags := t.tags, pwr := { s.pwr with domOn := t.pwr.domOn, dormantSince := t.pwr.dormantSince },
          tim := { s.tim with modelDirty := t.tim.modelDirty }, fus := { s.fus with refs := t.fus.refs }, gns := t.gns, slv := t.slv, srv := { s.srv with staged := t.srv.staged, thr := t.srv.thr },
          sig := { s.sig with ins := t.sig.ins, outs := t.sig.outs, clamps := t.sig.clamps },
          fio := { s.fio with banks := t.fio.banks, chans := t.fio.chans }, saf := t.saf, can := { s.can with ports := t.can.ports },
          eth := { s.eth with ports := t.eth.ports },
          ses := { (s.told t).ses with sessions := t.ses.sessions, conns := t.ses.conns, checks := t.ses.checks, waiting := t.ses.waiting },
          icx := t.icx, aqf := t.aqf, free := t.free }) ∧
  -- AQF_READ
  (∀ (key : StoreKey) (fault : FlashFault) (s : State),
      ∃ t, exec (.aqfRead key fault) s = .next t ∧
        t = { s.told t with
          aqf := { s.aqf with
            phase := t.aqf.phase, lifeBytes := t.aqf.lifeBytes, spare := t.aqf.spare, retired := t.aqf.retired, bchCorr := t.aqf.bchCorr,
            mediaErrors := t.aqf.mediaErrors, objs := t.aqf.objs, reads := t.aqf.reads } }) ∧
  -- JOURNAL_DRAIN
  (∀ (pages : Nat) (extra : Nat) (erases : Erases) (eraseMean : F32) (fault : FlashFault) (s : State),
      ∃ t, exec (.journalDrain pages extra erases eraseMean fault) s = .next t ∧
        t = { s.told t with
          aqf := { s.aqf with
            eraseMin := t.aqf.eraseMin, phase := t.aqf.phase, journal := t.aqf.journal, lifeBytes := t.aqf.lifeBytes, eraseMax := t.aqf.eraseMax, eraseMean := t.aqf.eraseMean,
            spare := t.aqf.spare, retired := t.aqf.retired, bchCorr := t.aqf.bchCorr, mediaErrors := t.aqf.mediaErrors, objs := t.aqf.objs } }) ∧
  -- WEAR_RELOCATION
  (∀ (bytes : Nat) (erases : Erases) (eraseMean : F32) (fault : FlashFault) (s : State),
      ∃ t, exec (.wearRelocation bytes erases eraseMean fault) s = .next t ∧
        t = { s.told t with
          aqf := { s.aqf with
            eraseMin := t.aqf.eraseMin, phase := t.aqf.phase, lifeBytes := t.aqf.lifeBytes, eraseMax := t.aqf.eraseMax, eraseMean := t.aqf.eraseMean, spare := t.aqf.spare,
            retired := t.aqf.retired, bchCorr := t.aqf.bchCorr, mediaErrors := t.aqf.mediaErrors } }) ∧
  -- SEDIMENT_FLUSH
  (∀ (media : Bool) (s : State),
      ∃ t, exec (.sedimentFlush media) s = .next t ∧ t = { s.told t with tags := { s.tags with peak := t.tags.peak, orphans := t.tags.orphans, open_ := t.tags.open_, nextSeq := t.tags.nextSeq, completed := t.tags.completed }, log := t.log, aqf := t.aqf }) ∧
  -- SUPPRESSED
  (∀ (code : BitVec 16) (s : State),
      ∃ t, exec (.suppressed code) s = .next t ∧ t = s.told t) ∧
  -- LOG_FAULT
  (∀ (cause : Fin 3) (s : State),
      ∃ t, exec (.logFault cause) s = .next t ∧
        t = { s.told t with
          log := { (s.told t).log with
            bufferEcc := t.log.bufferEcc, logFault := t.log.logFault, faultCause := t.log.faultCause, volatileOnly := t.log.volatileOnly
            okFlushes := t.log.okFlushes } }) ∧
  -- TAG_COMPLETION
  (∀ (tag : Word) (status : Fin 4) (s : State),
      ∃ t, exec (.tagCompletion tag status) s = .next t ∧
        t = { s.told t with tags := { s.tags with open_ := t.tags.open_, completed := t.tags.completed, orphans := t.tags.orphans } }) ∧
  -- POWER_FAIL_WARNING
  (∀ (volts : F32) (s : State),
      ∃ t, exec (.powerFailWarning volts) s = .next t ∧
        t = { s.told t with
          tags := t.tags, pwr := t.pwr, bst := { s.bst with state := t.bst.state, units := t.bst.units }
          tim := { s.tim with modelDirty := t.tim.modelDirty }, fus := { s.fus with refs := t.fus.refs },
          gns := t.gns, slv := t.slv, srv := { s.srv with staged := t.srv.staged, thr := t.srv.thr, shed := t.srv.shed, trace := t.srv.trace },
          sig := { s.sig with ins := t.sig.ins, outs := t.sig.outs, clamps := t.sig.clamps },
          fio := { s.fio with banks := t.fio.banks, chans := t.fio.chans }, saf := t.saf, can := { s.can with ports := t.can.ports },
          eth := { s.eth with ports := t.eth.ports },
          ses := { (s.told t).ses with sessions := t.ses.sessions, conns := t.ses.conns, checks := t.ses.checks, waiting := t.ses.waiting },
          icx := t.icx, aqf := t.aqf, cfg := { s.cfg with keyBytes := t.cfg.keyBytes, phase := t.cfg.phase, pct := t.cfg.pct }, free := t.free }) ∧
  -- FLUSH_DONE
  (∀ (s : State),
      ∃ t, exec .flushDone s = .next t ∧ (t = { s.told t with log := t.log, aqf := t.aqf } ∨ s.sup.restarting = true ∧ t = resetModule 2 (endFlush s))) ∧
  -- POWER_RELEASE
  (∀ (volts : F32) (ms : Nat) (s : State),
      ∃ t, exec (.powerRelease volts ms) s = .next t ∧
        t = { s.told t with
          pwr := { s.pwr with
            supply := t.pwr.supply, shed := t.pwr.shed, vRail := t.pwr.vRail, dipCount := t.pwr.dipCount, dipMs := t.pwr.dipMs,
            dipMinCv := t.pwr.dipMinCv, resetHeld := t.pwr.resetHeld },
          srv := { s.srv with shed := t.srv.shed },
          aqf := { s.aqf with suspended := t.aqf.suspended, marker := t.aqf.marker, writes := t.aqf.writes } }) ∧
  -- POWER_RESET
  (∀ (volts : F32) (s : State),
      ∃ t, exec (.powerReset volts) s = .next t ∧ (t = s ∨ t = { resetModule 0 s with pwr := t.pwr })) ∧
  -- INPUT_LOW
  (∀ (input : Fin 2) (volts : F32) (vRail : F32) (ms : Nat) (s : State),
      ∃ t, exec (.inputLow input volts vRail ms) s = .next t ∧
        t = { s.told t with pwr := { s.pwr with inLow := t.pwr.inLow, inLowAt := t.pwr.inLowAt, vin := t.pwr.vin } }) ∧
  -- INPUT_RESTORED
  (∀ (input : Fin 2) (volts : F32) (ms : Nat) (s : State),
      ∃ t, exec (.inputRestored input volts ms) s = .next t ∧
        t = { s.told t with pwr := { s.pwr with inLow := t.pwr.inLow, inLowAt := t.pwr.inLowAt, vin := t.pwr.vin } }) ∧
  -- DORMANT_SWITCH_OFF_TIMEOUT
  (∀ (s : State),
      ∃ t, exec .dormantSwitchOffTimeout s = .next t ∧
        t = { s.told t with
          fus := { s.fus with refs := t.fus.refs }, tags := { s.tags with open_ := t.tags.open_, completed := t.tags.completed, orphans := t.tags.orphans },
          pwr := { s.pwr with domOn := t.pwr.domOn, dormantSince := t.pwr.dormantSince }, tim := { s.tim with now := t.tim.now }, gns := t.gns,
          slv := t.slv, srv := { s.srv with staged := t.srv.staged, thr := t.srv.thr }, sig := { s.sig with ins := t.sig.ins, outs := t.sig.outs, clamps := t.sig.clamps },
          fio := { s.fio with banks := t.fio.banks, chans := t.fio.chans }, saf := t.saf, can := { s.can with ports := t.can.ports },
          eth := { s.eth with ports := t.eth.ports },
          ses := { (s.told t).ses with sessions := t.ses.sessions, conns := t.ses.conns, checks := t.ses.checks, waiting := t.ses.waiting },
          icx := t.icx, aqf := { s.aqf with writes := t.aqf.writes }, free := t.free }) ∧
  -- MODE_DOMAIN_SWITCH_ON
  (∀ (s : State),
      ∃ t, exec .modeDomainSwitchOn s = .next t ∧
        t = { s.told t with
          sup := { s.sup with startFault := t.sup.startFault },
          pwr := { s.pwr with domOn := t.pwr.domOn, onQueue := t.pwr.onQueue, onAt := t.pwr.onAt }, tim := t.tim,
          gns := { s.gns with ants := t.gns.ants, acqWanted := t.gns.acqWanted },
          slv := { s.slv with avail := t.slv.avail, slots := t.slv.slots, mpcPath := t.slv.mpcPath, schedSig := t.slv.schedSig },
          srv := { s.srv with thr := t.srv.thr }, sig := t.sig,
          fio := { s.fio with shown := t.fio.shown, banks := t.fio.banks, chans := t.fio.chans, linkTimeout := t.fio.linkTimeout }, saf := t.saf,
          can := { s.can with ports := t.can.ports, classes := t.can.classes }, ser := t.ser, eth := t.eth, icx := t.icx,
          cfg := { s.cfg with check := t.cfg.check, phase := t.cfg.phase } }) ∧
  -- MODE_FALLBACK
  (∀ (s : State),
      ∃ t, exec .modeFallback s = .next t ∧
        t = { s.told t with
          tags := t.tags, sup := t.sup,
          pwr := { s.pwr with domOn := t.pwr.domOn, onQueue := t.pwr.onQueue, onAt := t.pwr.onAt, dormantSince := t.pwr.dormantSince }, tim := t.tim,
          gns := t.gns, fus := t.fus, slv := t.slv, ctl := t.ctl, srv := { s.srv with staged := t.srv.staged, thr := t.srv.thr }, sig := t.sig,
          fio := { s.fio with shown := t.fio.shown, banks := t.fio.banks, chans := t.fio.chans, linkTimeout := t.fio.linkTimeout }, saf := t.saf,
          can := { s.can with ports := t.can.ports, classes := t.can.classes }, ser := t.ser, eth := t.eth,
          ses := { (s.told t).ses with sessions := t.ses.sessions, conns := t.ses.conns, checks := t.ses.checks, waiting := t.ses.waiting },
          icx := t.icx, aqf := t.aqf, cfg := { s.cfg with check := t.cfg.check, phase := t.cfg.phase }, free := t.free }) ∧
  -- THERMAL_SWEEP
  (∀ (readings : List (Fin 4 × F32)) (s : State),
      ∃ t, exec (.thermalSweep readings) s = .next t ∧
        t = { s.told t with
          thm := { s.thm with
            sensors := t.thm.sensors, tempMax := t.thm.tempMax, tempSeen := t.thm.tempSeen, sweep := t.thm.sweep, sweepAt := t.thm.sweepAt },
          tim := { s.tim with now := t.tim.now, yEst := t.tim.yEst } }) ∧
  -- SWEEP_END
  (∀ (s : State),
      ∃ t, exec .sweepEnd s = .next t ∧
        t = { s.told t with
          tags := { s.tags with open_ := t.tags.open_, completed := t.tags.completed, orphans := t.tags.orphans },
          sup := { s.sup with marginNext := t.sup.marginNext, conseqRun := t.sup.conseqRun }, pwr := { s.pwr with domOn := t.pwr.domOn },
          thm := t.thm, tim := { s.tim with now := t.tim.now }, gns := t.gns, slv := t.slv, ctl := t.ctl,
          srv := { s.srv with staged := t.srv.staged, thr := t.srv.thr, trace := t.srv.trace },
          sig := { s.sig with ins := t.sig.ins, outs := t.sig.outs, clamps := t.sig.clamps },
          fio := { s.fio with banks := t.fio.banks, chans := t.fio.chans }, saf := t.saf, can := { s.can with ports := t.can.ports },
          eth := { s.eth with ports := t.eth.ports },
          ses := { (s.told t).ses with sessions := t.ses.sessions, conns := t.ses.conns, checks := t.ses.checks, waiting := t.ses.waiting },
          icx := t.icx, free := t.free }) ∧
  -- THROTTLE_ENFORCED
  (∀ (s : State),
      ∃ t, exec .throttleEnforced s = .next t ∧
        t = { s.told t with
          thm := { s.thm with
            enforced := t.thm.enforced, graceEnd := t.thm.graceEnd, throttleCount := t.thm.throttleCount, enforcedAt := t.thm.enforcedAt },
          srv := { s.srv with trace := t.srv.trace } }) ∧
  -- KEY_SWAPPED
  (∀ (there : Bool) (content : Bytes) (protected_ : Bool) (s : State),
      ∃ t, exec (.keySwapped there content protected_) s = .next t ∧
        t = { s.told t with
          cfg := { s.cfg with
            keyPresent := t.cfg.keyPresent, keyBytes := t.cfg.keyBytes, keyProtected := t.cfg.keyProtected, keySwapped := t.cfg.keySwapped,
            phase := t.cfg.phase, pct := t.cfg.pct } }) ∧
  -- KEY_WRITTEN
  (∀ (s : State),
      ∃ t, exec .keyWritten s = .next t ∧
        t = { s.told t with cfg := { s.cfg with keyBytes := t.cfg.keyBytes, phase := t.cfg.phase, pct := t.cfg.pct } }) ∧
  -- KEY_WRITE_FAIL
  (∀ (cause : Fin 6) (phase : Fin 6) (s : State),
      ∃ t, exec (.keyWriteFail cause phase) s = .next t ∧ t = { s.told t with cfg := { s.cfg with keyBytes := t.cfg.keyBytes, phase := t.cfg.phase, pct := t.cfg.pct } }) ∧
  -- BOOT
  (∀ (s : State),
      ∃ t, exec .boot s = .next t ∧
        t = { s.told t with
          sup := { s.sup with startPhase := t.sup.startPhase, resetCause := t.sup.resetCause },
          aqf := { s.aqf with marker := t.aqf.marker, markerRestart := t.aqf.markerRestart } }) ∧
  -- JOURNAL_REPLAY
  (∀ (transactions : Nat) (headerGood : Bool) (s : State),
      ∃ t, exec (.journalReplay transactions headerGood) s = .next t ∧
        t = { s with
          sup := { s.sup with startPhase := t.sup.startPhase },
          aqf := { s.aqf with rebuilt := t.aqf.rebuilt, replayed := t.aqf.replayed } }) ∧
  -- KEY_READ
  (∀ (found : KeyRead) (s : State),
      ∃ t, exec (.keyRead found) s = .next t ∧
        t = { s.told t with
          sup := { s.sup with noImage := t.sup.noImage, startPhase := t.sup.startPhase, startFault := t.sup.startFault },
          pwr := { s.pwr with domOn := t.pwr.domOn }, tim := t.tim, gns := { s.gns with ants := t.gns.ants, acqWanted := t.gns.acqWanted },
          slv := { s.slv with avail := t.slv.avail, slots := t.slv.slots, mpcPath := t.slv.mpcPath, schedSig := t.slv.schedSig }, sig := t.sig,
          fio := { s.fio with shown := t.fio.shown, banks := t.fio.banks, chans := t.fio.chans, linkTimeout := t.fio.linkTimeout }, saf := t.saf,
          can := { s.can with ports := t.can.ports, classes := t.can.classes }, ser := t.ser, eth := t.eth, icx := t.icx,
          tags := t.tags,
          aqf := { s.aqf with
            phase := t.aqf.phase, rebuilt := t.aqf.rebuilt, writes := t.aqf.writes, done := t.aqf.done, refOther := t.aqf.refOther },
          cfg := t.cfg }) ∧
  -- IMAGE_VALIDATION
  (∀ (s : State),
      ∃ t, exec .imageValidation s = .next t ∧
        t = { s.told t with
          sup := t.sup, fus := { s.fus with refs := t.fus.refs },
          ctl := { s.ctl with tune := t.ctl.tune, buses := t.ctl.buses, tuneNext := t.ctl.tuneNext, thrEnable := t.ctl.thrEnable }, saf := t.saf, cfg := t.cfg }) ∧
  -- DOMAIN_SWITCH_ON
  (∀ (latchBad : Bool) (s : State),
      ∃ t, exec (.domainSwitchOn latchBad) s = .next t ∧
        t = { s.told t with
          sup := { s.sup with held := t.sup.held, startPhase := t.sup.startPhase }, pwr := { s.pwr with domOn := t.pwr.domOn }, tim := t.tim,
          gns := { s.gns with ants := t.gns.ants, acqWanted := t.gns.acqWanted },
          slv := { s.slv with avail := t.slv.avail, slots := t.slv.slots, mpcPath := t.slv.mpcPath, schedSig := t.slv.schedSig }, sig := t.sig,
          fio := { s.fio with shown := t.fio.shown, banks := t.fio.banks, chans := t.fio.chans, linkTimeout := t.fio.linkTimeout }, saf := t.saf,
          can := { s.can with ports := t.can.ports, classes := t.can.classes }, ser := t.ser, eth := t.eth, icx := t.icx,
          cfg := { s.cfg with check := t.cfg.check, phase := t.cfg.phase } }) ∧
  -- LEARNED_STATE_LOAD
  (∀ (s : State),
      ∃ t, exec .learnedStateLoad s = .next t ∧
        t = { s.told t with
          tags := t.tags,
          sup := { s.sup with startPhase := t.sup.startPhase, startFault := t.sup.startFault, serial := t.sup.serial },
          tim := { s.tim with model := t.tim.model, modelDirty := t.tim.modelDirty }, gns := { s.gns with hot := t.gns.hot, leapKept := t.gns.leapKept },
          fus := { s.fus with refs := t.fus.refs }, srv := { s.srv with thr := t.srv.thr }, ses := { (s.told t).ses with accounts := t.ses.accounts },
          aqf := t.aqf }) ∧
  -- START_COMPLETE
  (∀ (s : State),
      ∃ t, exec .startComplete s = .next t ∧
        t = { s.told t with
          sup := { s.sup with
            startPhase := t.sup.startPhase, suRetries := t.sup.suRetries, pendMode := t.sup.pendMode, startTime := t.sup.startTime },
          gns := { s.gns with hdgPhase := t.gns.hdgPhase, baselineTold := t.gns.baselineTold } }) ∧
  -- START_UP_BIST, where the supervisor passes
  (∀ (sigs : List Word) (s : State), (sigs.getD 15 0).toNat = expectedSig 0 15 →
      ∃ t, exec (.startUpBist sigs) s = .next t ∧
        t = { s.told t with
          tags := t.tags, log := t.log, sup := t.sup,
          bst := t.bst, gns := t.gns, slv := t.slv, sig := { s.sig with ins := t.sig.ins, outs := t.sig.outs },
          fio := { s.fio with banks := t.fio.banks, chans := t.fio.chans }, saf := t.saf,
          ses := { (s.told t).ses with sessions := t.ses.sessions, conns := t.ses.conns, checks := t.ses.checks, waiting := t.ses.waiting },
          aqf := t.aqf, free := t.free }) ∧
  -- START_UP_BIST, where it does not and the module starts again
  (∀ (sigs : List Word) (s : State), (sigs.getD 15 0).toNat ≠ expectedSig 0 15 → s.startUpTests = true → (s.unitsRun 0).contains 15 = true →
      s.bst.failedMask.getLsbD 15 = false → s.sup.suRetryAt = none →
      ∃ t, exec (.startUpBist sigs) s = .next t ∧
        t = { resetModule 3 s with sup := t.sup, log := t.log, saf := t.saf, icx := t.icx, aqf := t.aqf, free := t.free }) ∧
  -- BG_SLICE, but a supervisor's slice that fails
  (∀ (unit : Fin 24) (good : Bool) (sig : Word) (s : State), unit.val ≠ 15 ∨ good = true →
      ∃ t, exec (.bgSlice unit good sig) s = .next t ∧
        t = { s.told t with
          tags := t.tags, log := t.log,
          sup := { s.sup with engines := t.sup.engines, held := t.sup.held, suRetries := t.sup.suRetries, suRetryAt := t.sup.suRetryAt },
          bst := t.bst, gns := t.gns, slv := t.slv, sig := { s.sig with ins := t.sig.ins, outs := t.sig.outs },
          fio := { s.fio with banks := t.fio.banks, chans := t.fio.chans }, saf := t.saf,
          ses := { (s.told t).ses with sessions := t.ses.sessions, conns := t.ses.conns, checks := t.ses.checks, waiting := t.ses.waiting },
          aqf := t.aqf, free := t.free }) ∧
  -- BG_SLICE, a supervisor's slice that fails: it is repeated, or the module starts again
  (∀ (sig : Word) (s : State),
      ∃ t, exec (.bgSlice 15 false sig) s = .next t ∧
        (t = { s.told t with bst := t.bst } ∨ t = { resetModule 3 s with sup := t.sup, log := t.log })) ∧
  -- BIST_DONE, where the supervisor passes
  (∀ (sigs : List Word) (s : State), (sigs.getD 15 0).toNat = expectedSig s.bst.kind 15 →
      ∃ t, exec (.bistDone sigs) s = .next t ∧
        t = { s.told t with
          tags := t.tags, log := t.log,
          sup := { s.sup with engines := t.sup.engines, held := t.sup.held, suRetries := t.sup.suRetries, suRetryAt := t.sup.suRetryAt },
          bst := t.bst, gns := t.gns, slv := t.slv, sig := { s.sig with ins := t.sig.ins, outs := t.sig.outs },
          fio := { s.fio with banks := t.fio.banks, chans := t.fio.chans }, saf := t.saf,
          ses := { (s.told t).ses with sessions := t.ses.sessions, conns := t.ses.conns, checks := t.ses.checks, waiting := t.ses.waiting },
          aqf := t.aqf, free := t.free }) ∧
  -- BIST_DONE, where it does not
  (∀ (sigs : List Word) (s : State), (sigs.getD 15 0).toNat ≠ expectedSig s.bst.kind 15 →
      ∃ t, exec (.bistDone sigs) s = .next t ∧
        (t = { s.told t with
          tags := t.tags, log := t.log,
          sup := { s.sup with engines := t.sup.engines, held := t.sup.held },
          bst := t.bst, gns := t.gns, slv := t.slv, sig := { s.sig with ins := t.sig.ins, outs := t.sig.outs },
          fio := { s.fio with banks := t.fio.banks, chans := t.fio.chans }, saf := t.saf,
          ses := { (s.told t).ses with sessions := t.ses.sessions, conns := t.ses.conns, checks := t.ses.checks, waiting := t.ses.waiting },
          aqf := t.aqf, free := t.free } ∨
         t = { resetModule 3 s with sup := t.sup, log := t.log, saf := t.saf, icx := t.icx, aqf := t.aqf, free := t.free })) ∧
  -- ENGINE_LOST
  (∀ (engine : Fin 16) (frames : Nat) (s : State),
      ∃ t, exec (.engineLost engine frames) s = .next t ∧
        t = { s.told t with
          tags := { s.tags with open_ := t.tags.open_, completed := t.tags.completed, orphans := t.tags.orphans },
          sup := { s.sup with engines := t.sup.engines, held := t.sup.held }, gns := t.gns, slv := t.slv,
          saf := { s.saf with alarmOpen := t.saf.alarmOpen, hold := t.saf.hold, ioFail := t.saf.ioFail },
          ses := { (s.told t).ses with sessions := t.ses.sessions, conns := t.ses.conns, checks := t.ses.checks, waiting := t.ses.waiting },
          icx := { s.icx with txns := t.icx.txns }, free := t.free }) ∧
  -- STAGE_DEADLINE
  (∀ (stage : Fin 9) (lateNs : Nat) (s : State),
      ∃ t, exec (.stageDeadline stage lateNs) s = .next t ∧
        t = { s.told t with
          tags := { s.tags with open_ := t.tags.open_, nextSeq := t.tags.nextSeq, peak := t.tags.peak },
          sup := { s.sup with dlStatus := t.sup.dlStatus, dlCount := t.sup.dlCount, stageMissed := t.sup.stageMissed, slackMin := t.sup.slackMin },
          tim := { s.tim with now := t.tim.now }, slv := { s.slv with slots := t.slv.slots, refused := t.slv.refused, mailbox := t.slv.mailbox },
          ctl := { s.ctl with mpcStart := t.ctl.mpcStart, mpcLate := t.ctl.mpcLate, mpcAt := t.ctl.mpcAt } }) ∧
  -- SYNC_PORT_WORD
  (∀ (port : Fin 6) (dropped : Nat) (sample : Option (Fin 16 × F32 × Nat)) (s : State),
      ∃ t, exec (.syncPortWord port dropped sample) s = .next t ∧
        t = { s.told t with
          saf := { s.saf with thr := t.saf.thr, mirrorAt := t.saf.mirrorAt }, fus := { s.fus with
            mruCut := t.fus.mruCut, motion := t.fus.motion, refs := t.fus.refs, originWanted := t.fus.originWanted, origin := t.fus.origin, originNext := t.fus.originNext,
            cutAt := t.fus.cutAt, lateCount := t.fus.lateCount, olderCount := t.fus.olderCount },
          sig := { s.sig with ins := t.sig.ins } }) ∧
  -- MEMORY_SCRUB
  (∀ (find : MemFind) (s : State), find.item = none →
      ∃ t, exec (.memoryScrub find) s = .next t ∧
        t = { s.told t with
          log := { (s.told t).log with bufferEcc := t.log.bufferEcc, lastWordsOk := t.log.lastWordsOk }
          tags := t.tags, sup := t.sup, tim := { s.tim with now := t.tim.now }, slv := t.slv, ctl := t.ctl,
          saf := { s.saf with entries := t.saf.entries, scInternal := t.saf.scInternal, eccCorr := t.saf.eccCorr, eccUncorr := t.saf.eccUncorr },
          cfg := { s.cfg with copyRepaired := t.cfg.copyRepaired, recordLost := t.cfg.recordLost }, free := t.free }) ∧
  -- MEMORY_SCRUB, with a work item that it ends
  (∀ (find : MemFind) (s : State),
      ∃ t, exec (.memoryScrub find) s = .next t ∧
        t = { s.told t with
          log := { (s.told t).log with bufferEcc := t.log.bufferEcc, lastWordsOk := t.log.lastWordsOk }
          tags := t.tags, sup := t.sup, tim := { s.tim with now := t.tim.now, modelDirty := t.tim.modelDirty },
          pwr := { s.pwr with domOn := t.pwr.domOn, dormantSince := t.pwr.dormantSince }, gns := t.gns, fus := t.fus, slv := t.slv, ctl := t.ctl,
          srv := { s.srv with thr := t.srv.thr }, sig := { s.sig with ins := t.sig.ins, outs := t.sig.outs, clamps := t.sig.clamps },
          fio := { s.fio with banks := t.fio.banks, chans := t.fio.chans }, saf := t.saf, can := { s.can with ports := t.can.ports },
          eth := { s.eth with ports := t.eth.ports }, ses := t.ses, icx := t.icx, aqf := t.aqf,
          cfg := { s.cfg with copyRepaired := t.cfg.copyRepaired, recordLost := t.cfg.recordLost }, free := t.free }) ∧
  -- SU_RETRY
  (∀ (s : State),
      ∃ t, exec .suRetry s = .next t ∧
        t = { s with
          sup := { s.sup with startAt := t.sup.startAt, suRetries := t.sup.suRetries, suRetryAt := t.sup.suRetryAt, upSince := t.sup.upSince },
          tim := { s.tim with now := t.tim.now } }) ∧
  -- DOMAIN_FAULT of PD0, after which the module starts again
  (∀ (amps : F32) (us : Nat) (s : State),
      ∃ t, exec (.domainFault 0 amps us) s = .next t ∧ (t = s ∨ t = { resetModule 4 s with log := t.log })) ∧
  -- DOMAIN_FAULT of another domain
  (∀ (dom : Fin 13) (amps : F32) (us : Nat) (s : State), dom.val ≠ 0 →
      ∃ t, exec (.domainFault dom amps us) s = .next t ∧
        t = { s.told t with
          tags := { s.tags with open_ := t.tags.open_, completed := t.tags.completed, orphans := t.tags.orphans }, log := t.log,
          sup := { s.sup with engines := t.sup.engines, held := t.sup.held }, pwr := { s.pwr with domOn := t.pwr.domOn, domFault := t.pwr.domFault },
          gns := t.gns, slv := t.slv, srv := { s.srv with thr := t.srv.thr },
          sig := { s.sig with ins := t.sig.ins, outs := t.sig.outs, clamps := t.sig.clamps },
          fio := { s.fio with banks := t.fio.banks, chans := t.fio.chans }, saf := t.saf, can := { s.can with ports := t.can.ports },
          eth := { s.eth with ports := t.eth.ports },
          ses := { (s.told t).ses with sessions := t.ses.sessions, conns := t.ses.conns, checks := t.ses.checks, waiting := t.ses.waiting },
          icx := t.icx, aqf := t.aqf, free := t.free }) ∧
  -- SU_RESET_MONITOR
  (∀ (s : State),
      ∃ t, exec .suResetMonitor s = .next t ∧ (t = s ∨ t = { resetModule 3 s with sup := t.sup })) ∧
  -- FRAME_INSTANT
  (∀ (m : Measured) (s : State),
      ∃ t, exec (.frameInstant m) s = .next t ∧
        t = { s.told t with
          tags := t.tags, sup := t.sup, pwr := t.pwr, thm := { s.thm with refreshMs := t.thm.refreshMs, refreshNext := t.thm.refreshNext },
          tim := t.tim, gns := t.gns, fus := t.fus, slv := t.slv, ctl := t.ctl, srv := { s.srv with staged := t.srv.staged, thr := t.srv.thr }, sig := t.sig, fio := t.fio,
          saf := t.saf, can := { s.can with ports := t.can.ports, classes := t.can.classes }, ser := t.ser, eth := t.eth, ses := t.ses, icx := t.icx,
          aqf := t.aqf, cfg := { s.cfg with check := t.cfg.check, phase := t.cfg.phase }, free := t.free }) ∧
  -- RELEASE_STROBE
  (∀ (readbacks : List F32) (s : State),
      ∃ t, exec (.releaseStrobe readbacks) s = .next t ∧
        t = { s with
          tim := { s.tim with releaseEdge := t.tim.releaseEdge, now := t.tim.now, strobed := t.tim.strobed }, ctl := { s.ctl with staged := t.ctl.staged, thr := t.ctl.thr },
          srv := { s.srv with thr := t.srv.thr }, sig := { s.sig with outs := t.sig.outs, clamps := t.sig.clamps },
          fio := { s.fio with chans := t.fio.chans }, saf := { s.saf with thr := t.saf.thr, mirrorAt := t.saf.mirrorAt },
          icx := { s.icx with ports := t.icx.ports, sent := t.icx.sent } }) ∧
  -- TIME_STEP
  (∀ (s : State),
      ∃ t, exec .timeStep s = .next t ∧
        t = { s.told t with
          tim := t.tim, gns := { s.gns with afterStep := t.gns.afterStep },
          sig := { s.sig with ins := t.sig.ins, syncAccepted := t.sig.syncAccepted, syncLast := t.sig.syncLast } }) ∧
  -- OUTPUT_STAGING
  (∀ (us : Nat) (s : State),
      ∃ t, exec (.outputStaging us) s = .next t ∧
        t = { s.told t with
          tags := t.tags,
          sup := { s.sup with
            dlStatus := t.sup.dlStatus, dlCount := t.sup.dlCount, stageDone := t.sup.stageDone, stageMissed := t.sup.stageMissed,
            slackMin := t.sup.slackMin },
          tim := { s.tim with now := t.tim.now }, ctl := { s.ctl with staged := t.ctl.staged }, sig := { s.sig with outs := t.sig.outs },
          can := { s.can with ports := t.can.ports, azSeq := t.can.azSeq, azSlew := t.can.azSlew } })

/-- For a request of a session on a module that evaluates it itself, MODE_RESULT holds the code of the first failing check of R73's table (role,
NO_IMAGE, BUSY, NOT_ALLOWED with the transitions of R68, RESTART_NEEDED, LOCKED, SAFE_STOP_ACTIVE, BLOCK_FAILED, REF_INVALID, NO_TRACK), else 0; the
mode itself does not change; from a DP mode, DORMANT and SERVICE are refused with NOT_ALLOWED (R69). -/
def Obligations.ModeRequestOrder : Prop :=
  (∀ (req : Req) (i r : Nat) (mode : Fin 8) (hdgHold useSetpoint : Bool) (s : State), Sized s → Ready req i 0 s → s.regStatus 0x00010104 = 0 →
      s.inDomain = false →
      r = (([(decide ((s.ses.session i).role < (if mode.val = 5 then 2 else 1)), 4), (s.sup.noImage && mode.val != 5, 10), (s.sup.reqTaken, 8),
        (!(s.sup.mode != .start && (modeCode s.sup.mode == mode.val || ([(0, 1), (0, 5), (1, 0), (1, 2), (1, 3), (1, 4), (1, 5), (2, 1), (2, 3), (2,
        4), (3, 1), (3, 2), (3, 4), (4, 1), (4, 2), (4, 3), (5, 0), (5, 1)] : List (Nat × Nat)).contains (modeCode s.sup.mode, mode.val))), 1),
        (s.sup.mode == .service && mode.val != 5 && (s.bst.restartNeeded || s.cfg.written), 9), (decide (2 ≤ mode.val ∧ mode.val ≤ 4) &&
        s.sup.locked, 2), ((decide (2 ≤ mode.val ∧ mode.val ≤ 4) && s.fullStop) || (s.sup.mode == .standby && mode.val == 0 && s.ramping), 5),
        (decide (2 ≤ mode.val ∧ mode.val ≤ 4) && s.sup.held, 7), ((mode.val == 2 && hdgHold && !s.fus.snap.hdgValid) || (decide (mode.val = 3 ∨
        mode.val = 4) && (s.sup.mode == .standby || s.sup.mode == .joystick) && !(s.fus.snap.posValid && s.fus.snap.hdgValid)), 3), (mode.val == 4 &&
        s.sup.mode != .autoTrack && !s.trackLoaded, 6)] : List (Bool × Nat)).find? (·.1)).elim 0 (·.2) →
      ∃ t, exec (.modeReq req mode hdgHold useSetpoint) s = .next t ∧
        t.sup.resCode = r ∧ t.sup.resMode = mode.val ∧ t.sup.resSession = i ∧ t.sup.resFrame = s.frame % 65536 ∧ t.sup.mode = s.sup.mode ∧
        t.sup.pendMode.map (·.target) = (if r = 0 then modeOf mode.val else s.sup.pendMode.map (·.target))) ∧
  (∀ (req : Req) (i : Nat) (mode : Fin 8) (hdgHold useSetpoint : Bool) (s : State), Sized s → Ready req i (if mode.val = 5 then 2 else 1) s →
      s.regStatus 0x00010104 = 0 → s.inDomain = false → s.sup.noImage = false → s.sup.reqTaken = false →
      (s.sup.mode = .joystick ∨ s.sup.mode = .autoPos ∨ s.sup.mode = .autoTrack) → (mode.val = 0 ∨ mode.val = 5) →
      ∃ t, exec (.modeReq req mode hdgHold useSetpoint) s = .next t ∧
        t.sup.resCode = 1 ∧ t.sup.mode = s.sup.mode ∧ t.sup.pendMode = s.sup.pendMode ∧ t.ses.sent.head? = some (writeResponse req.conn req.id 0 7 1))

/-- A request that passes every check is accepted and fixes the target; while one is accepted in the frame, every later one is refused with BUSY
whatever its target; a refused request does not occupy the frame. -/
def Obligations.ModeRequestOncePerFrame : Prop :=
  (∀ (req : Req) (i : Nat) (mode : Fin 8) (m : Mode) (hdgHold useSetpoint : Bool) (s : State), Sized s →
      Ready req i (if mode.val = 5 then 2 else 1) s → s.regStatus 0x00010104 = 0 → s.inDomain = false → modeOf mode.val = some m →
      s.modeVerdict (some m) hdgHold = 0 →
      ∃ t, exec (.modeReq req mode hdgHold useSetpoint) s = .next t ∧
        t.sup.resCode = 0 ∧ t.sup.pendMode.map (·.target) = some m ∧ t.sup.reqTaken = true ∧
        t.ses.sent.head? = some (writeResponse req.conn req.id 1 0 0)) ∧
  (∀ (req : Req) (i : Nat) (mode : Fin 8) (hdgHold useSetpoint : Bool) (s : State), Sized s → Ready req i (if mode.val = 5 then 2 else 1) s →
      s.regStatus 0x00010104 = 0 → s.inDomain = false → (s.sup.noImage = false ∨ mode.val = 5) → s.sup.reqTaken = true →
      ∃ t, exec (.modeReq req mode hdgHold useSetpoint) s = .next t ∧
        t.sup.resCode = 8 ∧ t.sup.pendMode = s.sup.pendMode ∧ t.sup.reqTaken = true ∧ t.ses.sent.head? = some (writeResponse req.conn req.id 0 7 8)) ∧
  (∀ (req : Req) (i : Nat) (mode : Fin 8) (hdgHold useSetpoint : Bool) (s : State), Sized s → Ready req i 0 s → s.regStatus 0x00010104 = 0 →
      s.inDomain = false → s.sup.reqTaken = false →
      ((s.ses.session i).role < (if mode.val = 5 then 2 else 1) ∨ s.modeVerdict (modeOf mode.val) hdgHold ≠ 0) →
      ∃ t, exec (.modeReq req mode hdgHold useSetpoint) s = .next t ∧
        t.sup.reqTaken = false ∧ t.sup.pendMode = s.sup.pendMode ∧ t.sup.mode = s.sup.mode)

/-- With 64 entries in use, on a listen-only port, for an FD frame on a classical port or a length that is no DLC length, CAN_TX_SUBMIT opens no tag
for the port, queues nothing there and counts the refusal in REFUSED; on a port that is off (DOMAIN_OFF) likewise. Where the frame's class has no
mirror in use, nothing else changes. -/
def Obligations.CanRefusals : Prop :=
  (∀ (port : Fin 4) (engine : Fin 16) (frame : CanFrame) (gate : TxGate) (s : State), Sized s → (s.can.port port.val).phase ≠ .off →
      (64 ≤ (s.can.port port.val).tx.length ∨ (s.can.port port.val).listens = true ∨ (frame.fd = true ∧ (s.can.port port.val).isFd = false) ∨
        validDlc frame.fd frame.data.length = false) →
      ∃ t, exec (.canTxSubmit port engine frame gate) s = .next t ∧
        (s.can.mirrorOf port.val frame = none → t = { s with can := { s.can with ports := t.can.ports } }) ∧
        (t.can.port port.val).tx = (s.can.port port.val).tx ∧ (t.can.port port.val).refused = satInc 16 (s.can.port port.val).refused) ∧
  (∀ (port : Fin 4) (engine : Fin 16) (frame : CanFrame) (gate : TxGate) (s : State), Sized s → (s.can.port port.val).phase = .off →
      ∃ t, exec (.canTxSubmit port engine frame gate) s = .next t ∧
        (s.can.mirrorOf port.val frame = none → t = { s with can := { s.can with ports := t.can.ports } }) ∧
        (t.can.port port.val).tx = (s.can.port port.val).tx ∧ (t.can.port port.val).refused = satInc 16 (s.can.port port.val).refused)

/-- BIND and RELEASE of a queued or running slot answer SLOT_BUSY; a command of an engine that does not own the slot answers OWNER; each opens no tag
and answers in the mailbox at once. CANCEL of a queued slot of CC1 completes its solve with CANCELLED and leaves it BOUND, of a running one answers
TOO_LATE, of a bound one NOTHING_PENDING (as R196 says). -/
def Obligations.MailboxCommands : Prop :=
  (∀ (owner : Fin 3) (slot : Fin 512) (struct : Fin 256) (s : State), Sized s → s.engineRuns (slotOwnerOf owner.val).engine = true →
      s.slv.queue = [] → s.domOn 5 = true → (s.slv.slot slot.val).owner = slotOwnerOf owner.val →
      ((s.slv.slot slot.val).phase = .queued ∨ (s.slv.slot slot.val).phase = .running) →
      ∃ t, exec (.bind owner slot struct) s = .next t ∧ t.slv.mailbox = 3 ∧ t.slv.slots = s.slv.slots ∧ t.tags = s.tags) ∧
  (∀ (owner : Fin 3) (slot : Fin 512) (s : State), Sized s → s.engineRuns (slotOwnerOf owner.val).engine = true → s.slv.queue = [] →
      s.domOn 5 = true → (s.slv.slot slot.val).owner = slotOwnerOf owner.val →
      ((s.slv.slot slot.val).phase = .queued ∨ (s.slv.slot slot.val).phase = .running) →
      ∃ t, exec (.release owner slot) s = .next t ∧ t.slv.mailbox = 3 ∧ t.slv.slots = s.slv.slots ∧ t.tags = s.tags) ∧
  (∀ (owner : Fin 3) (slot : Fin 512) (struct : Fin 256) (s : State), Sized s → s.engineRuns (slotOwnerOf owner.val).engine = true →
      s.slv.queue = [] → s.domOn 5 = true → (s.slv.slot slot.val).owner ≠ slotOwnerOf owner.val →
      ∃ t, exec (.bind owner slot struct) s = .next t ∧ t.slv.mailbox = 5 ∧ t.slv.slots = s.slv.slots ∧ t.tags = s.tags) ∧
  (∀ (owner : Fin 3) (slot : Fin 512) (s : State), Sized s → s.engineRuns (slotOwnerOf owner.val).engine = true → s.slv.queue = [] →
      s.domOn 5 = true → (s.slv.slot slot.val).owner ≠ slotOwnerOf owner.val →
      ∃ t, exec (.release owner slot) s = .next t ∧ t.slv.mailbox = 5 ∧ t.slv.slots = s.slv.slots ∧ t.tags = s.tags) ∧
  (∀ (owner : Fin 3) (slot : Fin 512) (s : State), Sized s → s.engineRuns (slotOwnerOf owner.val).engine = true → s.slv.queue = [] →
      s.domOn 5 = true → (s.slv.slot slot.val).owner ≠ slotOwnerOf owner.val →
      ∃ t, exec (.cancel owner slot) s = .next t ∧ t.slv.mailbox = 5 ∧ t.slv.slots = s.slv.slots ∧ t.tags = s.tags) ∧
  (∀ (owner : Fin 3) (slot : Fin 512) (struct : Fin 256) (s : State), Sized s → s.engineRuns (slotOwnerOf owner.val).engine = true →
      s.slv.queue = [] → s.domOn 5 = true → (s.slv.slot slot.val).owner = slotOwnerOf owner.val → (s.slv.slot slot.val).phase ≠ .queued →
      (s.slv.slot slot.val).phase ≠ .running → (s.structAt struct.val).any (fun c => c.cls == (s.slv.slot slot.val).cls) = true →
      ∃ t, exec (.bind owner slot struct) s = .next t ∧
        t.slv.mailbox = 0 ∧ (t.slv.slot slot.val).phase = .bound ∧ (t.slv.slot slot.val).struct = struct.val ∧ t.tags = s.tags) ∧
  (∀ (owner : Fin 3) (slot : Fin 512) (s : State), Sized s → s.engineRuns (slotOwnerOf owner.val).engine = true → s.slv.queue = [] →
      s.domOn 5 = true → (s.slv.slot slot.val).owner = slotOwnerOf owner.val →
      ((s.slv.slot slot.val).phase = .bound ∨ (s.slv.slot slot.val).phase = .faulted) →
      ∃ t, exec (.release owner slot) s = .next t ∧ t.slv.mailbox = 0 ∧ (t.slv.slot slot.val).phase = .free ∧ t.tags = s.tags) ∧
  (∀ (owner : Fin 3) (slot : Fin 512) (s : State), Sized s → s.engineRuns (slotOwnerOf owner.val).engine = true → s.slv.queue = [] →
      s.domOn 5 = true → (s.slv.slot slot.val).owner = slotOwnerOf owner.val → (s.slv.slot slot.val).phase = .queued → s.ctl.mpcStart = none →
      s.ctl.cycleAt = none → owner = 1 →
      ∃ t, exec (.cancel owner slot) s = .next t ∧
        t.slv.mailbox = 0 ∧ (t.slv.slot slot.val).phase = .bound ∧ ((t.slv.slot slot.val).last.map fun r => r.status) = some .cancelled) ∧
  (∀ (owner : Fin 3) (slot : Fin 512) (s : State), Sized s → s.engineRuns (slotOwnerOf owner.val).engine = true → s.slv.queue = [] →
      s.domOn 5 = true → (s.slv.slot slot.val).owner = slotOwnerOf owner.val → (s.slv.slot slot.val).phase = .running →
      ∃ t, exec (.cancel owner slot) s = .next t ∧ t = s.modSlv fun b => { b with mailbox := 9 }) ∧
  (∀ (owner : Fin 3) (slot : Fin 512) (s : State), Sized s → s.engineRuns (slotOwnerOf owner.val).engine = true → s.slv.queue = [] →
      s.domOn 5 = true → (s.slv.slot slot.val).owner = slotOwnerOf owner.val → (s.slv.slot slot.val).phase = .bound →
      ∃ t, exec (.cancel owner slot) s = .next t ∧ t = s.modSlv fun b => { b with mailbox := 10 })

/-- On a rail below 16.5 V in normal supply POWER_FAIL_WARNING starts the flush, switches PD3 off and no other domain, keeps the acquisition queue,
ends an armed trace with DONE and SHED, and sheds learning; control, fusion, field and analog channels and the safety channel are as before, the
servo loops too unless the flush commits a profile's small write, and the mode is kept. -/
def Obligations.PowerFailWarning : Prop :=
  (∀ (volts : F32) (s : State), s.pwr.supply = .normal → s.pwr.resetHeld = false → f32Finite volts = true → f32Val volts < 33 / 2 →
      ∃ t, exec (.powerFailWarning volts) s = .next t ∧
        t.pwr.supply = .warning ∧ t.aqf.flushing = true ∧ (∀ d : Fin 13, t.domOn d.val = (s.domOn d.val && d.val != 3)) ∧ t.gns.queue = s.gns.queue ∧
        t.srv.shed = true ∧ ((s.srv.trace.phase = .armed ∨ s.srv.trace.phase = .triggered) → t.srv.trace.phase = .done ∧ t.srv.trace.shed = true) ∧
        t.sup.mode = s.sup.mode ∧ t.ctl = s.ctl ∧ t.fus = s.fus ∧
        ((∀ w ∈ s.aqf.writes, w.begun = true → w.size ≤ 32768 → ∀ p, w.data ≠ .profile p) → t.srv.thr = s.srv.thr) ∧
        t.sig = s.sig ∧ t.fio = s.fio ∧ t.saf = s.saf)

/-- A TCP connection beyond the 40 that have no session yet is reset at once, a further one below 40 is taken; a connection whose handshake has not
ended after 10 s or whose HELLO has not after 30 s is closed, without an authentication failure, and before those times it stays. -/
def Obligations.ConnectionLimits : Prop :=
  (∀ (port : Fin 2) (addr id : Nat) (s : State), 40 ≤ (s.ses.conns.filter fun c => c.session.isNone).length →
      ∃ t, exec (.tcpConnect port 4816 addr id) s = .next t ∧ t.ses.conns = s.ses.conns ∧ t.ses.sources = s.ses.sources) ∧
  (∀ (port : Fin 2) (addr id : Nat) (s : State), s.ethUp port.val = true → (ethAdmit port.val s).2 = true →
      (s.ses.conns.filter fun c => c.session.isNone).length < 40 → s.ses.conns.any (fun c => c.id == id) = false → s.saf.ioFail = false →
      s.fullBist = false →
      ∃ t, exec (.tcpConnect port 4816 addr id) s = .next t ∧
        t.ses.conns = s.ses.conns ++ [{ id := id, addr := addr, port := port.val, accepted := s.now }]) ∧
  (∀ (conn : Nat) (c : Conn) (s : State), s.ses.conn conn = some c →
      ((c.tls = false ∧ c.accepted + 10000000000 ≤ s.now) ∨ (c.hello = false ∧ c.accepted + 30000000000 ≤ s.now)) →
      ∃ t, exec (.connectionTimeout conn) s = .next t ∧ t.ses.conn conn = none ∧ t.ses.sources = s.ses.sources ∧ t.ses.authFails = s.ses.authFails) ∧
  (∀ (conn : Nat) (c : Conn) (s : State), s.ses.conn conn = some c → (c.tls = true ∨ s.now < c.accepted + 10000000000) →
      (c.hello = true ∨ s.now < c.accepted + 30000000000) →
      ∃ t, exec (.connectionTimeout conn) s = .next t ∧ t = s)

/-- Among the pending entries whose gate has passed, CAN_FRAME_START puts the one on the bus that every other one follows: by the base identifier,
then an 11-bit identifier before a 29-bit one of the same base, then the identifier, then the order of submission. -/
def Obligations.Arbitration : Prop :=
  (∀ (port : Fin 4) (e : TxEntry) (s : State), Sized s → (s.can.port port.val).onBus = true → (s.can.port port.val).listens = false →
      (∀ x ∈ (s.can.port port.val).tx, x.phase = .pending ∧ x.frame.id < (if x.frame.ext then 2 ^ 29 else 2 ^ 11)) → e ∈ (s.can.port port.val).tx →
      e.gateAt ≤ s.now →
      (∀ x ∈ (s.can.port port.val).tx, x.gateAt ≤ s.now → x = e ∨ (e.frame.id / (if e.frame.ext then 2 ^ 18 else
        1) < x.frame.id / (if x.frame.ext then 2 ^ 18 else 1) ∨ (e.frame.id / (if e.frame.ext then 2 ^ 18 else 1) = x.frame.id / (if x.frame.ext then
        2 ^ 18 else 1) ∧ ((e.frame.ext = false ∧ x.frame.ext = true) ∨ (e.frame.ext = x.frame.ext ∧ (e.frame.id < x.frame.id ∨
        (e.frame.id = x.frame.id ∧ e.order < x.order))))))) →
      ∃ t, exec (.canFrameStart port) s = .next t ∧
        (t.can.port port.val).tx = (s.can.port port.val).tx.map (fun x => if x.order == e.order then { x with phase := .transmitting } else x) ∧
        t.tags = s.tags)

/-- A READ or WRITE of an address in no register is answered UNMAPPED, a WRITE to a register that is not writable READ_ONLY, and a WRITE to a register
of a domain that is off DOMAIN_OFF (as R57 says), each with no effect but the session's own record of the request. -/
def Obligations.UndefinedAddresses : Prop :=
  (∀ (req : Req) (i : Nat) (addr : Word) (s : State), Sized s → Ready req i 0 s → regRead s addr.toNat = none →
      ∃ t, exec (.read req addr 1) s = .next t ∧
        t = { s.served t with sup := s.sup } ∧ t.ses.sent.head? = some (reply req.conn 0x10 req.id 1 0 []) ∧ t.ses.clog = s.ses.clog) ∧
  (∀ (req : Req) (i : Nat) (addr value : Word) (s : State), Sized s → Ready req i 0 s → regRead s addr.toNat = none →
      ∃ t, exec (.write req [(addr, value)]) s = .next t ∧
        t = { s.served t with sup := s.sup } ∧ t.ses.sent.head? = some (writeResponse req.conn req.id 0 1 0) ∧ t.ses.clog = s.ses.clog) ∧
  (∀ (req : Req) (i : Nat) (addr value : Word) (s : State), Sized s → Ready req i 0 s → s.regStatus addr.toNat = 0 → regWritable addr.toNat = false →
      ∃ t, exec (.write req [(addr, value)]) s = .next t ∧
        t = { s.served t with sup := s.sup } ∧ t.ses.sent.head? = some (writeResponse req.conn req.id 0 2 0) ∧ t.ses.clog = s.ses.clog) ∧
  (∀ (req : Req) (i : Nat) (addr value : Word) (s : State), Sized s → Ready req i 0 s → (regRead s addr.toNat).isSome = true →
      16 ≤ addr.toNat % 65536 → s.domOn (registerDomain (addr.toNat / 65536)) = false →
      ∃ t, exec (.write req [(addr, value)]) s = .next t ∧
        t = { s.served t with sup := s.sup } ∧ t.ses.sent.head? = some (writeResponse req.conn req.id 0 3 0) ∧ t.ses.clog = s.ses.clog)

/-- Two states that differ only in what their account records hold, their number being the same, answer READ, BULK_READ and EXPORT_PREPARE with states
that differ in nothing else: no response, object or export depends on a record. The device key has no place in the state. -/
def Obligations.AccountRecordsUnreadable : Prop :=
  (∀ (req : Req) (addr : Word) (count : Nat) (l : List (Nat × Account)) (s : State), l.length = s.ses.accounts.length →
      ∃ t, exec (.read req addr count) s = .next t ∧
        exec (.read req addr count) (s.modSes fun b => { b with accounts := l }) = .next (t.modSes fun b => { b with accounts := l })) ∧
  (∀ (req : Req) (object : Byte) (index : BitVec 16) (offset : Word) (length : Nat) (l : List (Nat × Account)) (s : State),
      l.length = s.ses.accounts.length →
      ∃ t, exec (.bulkRead req object index offset length) s = .next t ∧
        exec (.bulkRead req object index offset length) (s.modSes fun b => { b with accounts := l }) = .next (t.modSes fun b => { b with
          accounts := l })) ∧
  (∀ (req : Req) (l : List (Nat × Account)) (s : State), l.length = s.ses.accounts.length →
      ∃ t, exec (.exportPrepare req) s = .next t ∧
        exec (.exportPrepare req) (s.modSes fun b => { b with accounts := l }) = .next (t.modSes fun b => { b with accounts := l }))

/-- ID 0 is answered BAD_FORMAT; an ID below the window STALE_ID; an ID seen before is answered from the cache with DUPLICATE set, or joins the
outstanding original without a response; a new one is executed and enters the window as its highest or below it. The closing of the connection after
BAD_FORMAT is R443's. -/
def Obligations.RequestWindow : Prop :=
  (∀ (req : Req) (i : Nat) (c : Conn) (s : State), Sized s → s.ses.conn req.conn = some c → s.tcpRoom req.conn = true → c.tls = true → c.session = some i → i < 32 →
      (s.ses.session i).phase = .open_ → s.ioRuns = true → req.id = 0 → (s.ses.session i).conn = req.conn →
      ∃ t, exec (.keepalive req) s = .next t ∧
        t.ses.sent.head? = some (reply req.conn 0x7E req.id 8 0 []) ∧ (t.ses.session i).phase = .detached ∧ t.ses.conn req.conn = none ∧
        (t.ses.session i).highest = (s.ses.session i).highest ∧ (t.ses.session i).seen = (s.ses.session i).seen) ∧
  (∀ (req : Req) (i h : Nat) (c : Conn) (s : State), Sized s → s.ses.conn req.conn = some c → s.tcpRoom req.conn = true → c.tls = true → c.session = some i → i < 32 →
      (s.ses.session i).phase = .open_ → s.ioRuns = true → req.id ≠ 0 → (s.ses.session i).highest = some h → serialLater req.id h = false →
      1023 < (h + 2 ^ 32 - req.id) % 2 ^ 32 →
      ∃ t, exec (.keepalive req) s = .next t ∧
        t.ses.sent.head? = some (reply req.conn 0x7E req.id 10 0 []) ∧ (t.ses.session i).highest = some h ∧
        (t.ses.session i).seen = (s.ses.session i).seen ∧ t.tags = s.tags) ∧
  (∀ (req : Req) (i h : Nat) (c : Conn) (m : OutMsg) (s : State), Sized s → s.ses.conn req.conn = some c → s.tcpRoom req.conn = true → c.tls = true → c.session = some i →
      i < 32 → (s.ses.session i).phase = .open_ → s.ioRuns = true → req.id ≠ 0 → (s.ses.session i).highest = some h → serialLater req.id h = false →
      (h + 2 ^ 32 - req.id) % 2 ^ 32 ≤ 1023 → (s.ses.session i).seen.contains req.id = true →
      (s.ses.session i).cache.find? (fun m => m.reqId == req.id) = some m →
      ∃ t, exec (.keepalive req) s = .next t ∧
        t.ses.sent.head? = some (OutMsg.framed { m with conn := req.conn, flags := 3 }) ∧ t.tags = s.tags ∧ t.ses.duplicates = satInc 32 s.ses.duplicates) ∧
  (∀ (req : Req) (i h : Nat) (c : Conn) (s : State), Sized s → s.ses.conn req.conn = some c → s.tcpRoom req.conn = true → c.tls = true → c.session = some i → i < 32 →
      (s.ses.session i).phase = .open_ → s.ioRuns = true → req.id ≠ 0 → (s.ses.session i).highest = some h → serialLater req.id h = false →
      (h + 2 ^ 32 - req.id) % 2 ^ 32 ≤ 1023 → (s.ses.session i).seen.contains req.id = true →
      (s.ses.session i).cache.find? (fun m => m.reqId == req.id) = none →
      ∃ t, exec (.keepalive req) s = .next t ∧
        t.ses.sent = s.ses.sent ∧ t.tags = s.tags ∧ (t.ses.session i).outstanding = (s.ses.session i).outstanding) ∧
  (∀ (req : Req) (i : Nat) (s : State), Sized s → Ready req i 0 s →
      ∃ t, exec (.keepalive req) s = .next t ∧
        t.ses.sent.head? = some (reply req.conn 0x7E req.id 0 0 []) ∧ (t.ses.session i).seen.contains req.id = true ∧
        (t.ses.session i).highest = some (if (s.ses.session i).classify req.id = .above then req.id else (s.ses.session i).highest.getD req.id))

/-- A failed HELLO by certificate counts for its source; the fifth consecutive one locks it out for 60 s × 2^(n − 1), at most 3,840 s; a locked-out
HELLO is answered LOCKED_OUT, without a check and without counting. -/
def Obligations.Lockout : Prop :=
  (∀ (req : Req) (name password : Bytes) (c : Conn) (x : AuthSource) (s : State), s.ioRuns = true → s.ses.conn req.conn = some c → s.tcpRoom req.conn = true → c.tls = true →
      c.session = none → s.ses.checks.any (fun x => x.conn == req.conn) = false → name.length ≤ 32 → password.length ≤ 64 →
      s.lockedOut c.addr = false → c.cert.bind s.certRole = none → x = ((s.ses.source c.addr).getD { addr := c.addr }).fresh s.now → x.fails < 4 →
      ∃ t, exec (.hello req 0 name password) s = .next t ∧
        (t.ses.source c.addr).map (fun y => (y.fails, y.n, y.until_)) = some (x.fails + 1, x.n, x.until_) ∧ t.lockedOut c.addr = false ∧
        t.ses.sent.head? = some (reply req.conn 0x01 req.id 13 0 [])) ∧
  (∀ (req : Req) (name password : Bytes) (c : Conn) (x : AuthSource) (s : State), s.ioRuns = true → s.ses.conn req.conn = some c → s.tcpRoom req.conn = true → c.tls = true →
      c.session = none → s.ses.checks.any (fun x => x.conn == req.conn) = false → name.length ≤ 32 → password.length ≤ 64 →
      s.lockedOut c.addr = false → c.cert.bind s.certRole = none → x = ((s.ses.source c.addr).getD { addr := c.addr }).fresh s.now → x.fails = 4 →
      ∃ t, exec (.hello req 0 name password) s = .next t ∧
        (t.ses.source c.addr).map (fun y => (y.n, y.until_)) = some (x.n + 1, some (s.now + min 3840 (60 * 2 ^ x.n) * 1000000000)) ∧
        t.lockedOut c.addr = true ∧ t.ses.lockouts = satInc 32 s.ses.lockouts ∧ t.ses.sent.head? = some (reply req.conn 0x01 req.id 13 0 [])) ∧
  (∀ (req : Req) (name password : Bytes) (c : Conn) (method : Nat) (s : State), s.ioRuns = true → s.ses.conn req.conn = some c → s.tcpRoom req.conn = true → c.tls = true →
      c.session = none → s.ses.checks.any (fun x => x.conn == req.conn) = false → name.length ≤ 32 → (method = 0 → password.length ≤ 64) → method < 2 →
      s.lockedOut c.addr = true →
      ∃ t, exec (.hello req method name password) s = .next t ∧
        t.ses.sources = s.ses.sources ∧ t.ses.authFails = s.ses.authFails ∧ t.ses.sessions = s.ses.sessions ∧
        t.ses.sent.head? = some (reply req.conn 0x01 req.id 14 0 []))

/-- READ of BLK_ID answers the block number, revision 0x03 and family 0x4816 of each of the 21 blocks whether or not its domains are on, and READ of
BLK_EVENTS answers the count of events and clears it. -/
def Obligations.HeaderRegisters : Prop :=
  (∀ (req : Req) (i : Nat) (k : Fin 21) (s : State), Sized s → Ready req i 0 s →
      ∃ t, exec (.read req (BitVec.ofNat 32 (blockNumbers.getD k.val 1 * 65536)) 1) s = .next t ∧
        t.ses.sent.head? = some (reply req.conn 0x10 req.id 0 0 (leBytes 4 s.frame ++ leBytes 4 (blockNumbers.getD k.val 1 * 2 ^ 24 + 0x034816)))) ∧
  (∀ (req : Req) (i : Nat) (k : Fin 21) (s : State), Sized s → Ready req i 0 s → (s.header (blockNumbers.getD k.val 1)).events < 2 ^ 32 →
      ∃ t, exec (.read req (BitVec.ofNat 32 (blockNumbers.getD k.val 1 * 65536 + 8)) 1) s = .next t ∧
        t.ses.sent.head? = some (reply req.conn 0x10 req.id 0 0 (leBytes 4 s.frame ++ leBytes 4 (s.header (blockNumbers.getD k.val 1)).events)) ∧
        (t.header (blockNumbers.getD k.val 1)).events = 0)
end

