-- ==== Sys2Proof/Laws/State.lean ====
section
/-!
SUPPORT. The parts of the state after a change of one part: one lemma per part per update.
-/
set_option autoImplicit false
namespace Sys2Proof.Machine

@[simp] theorem State.modHdr_hdr (f : List BlockHeader → List BlockHeader) (s : State) : (s.modHdr f).hdr = f s.hdr := rfl
@[simp] theorem State.modHdr_tags (f : List BlockHeader → List BlockHeader) (s : State) : (s.modHdr f).tags = s.tags := rfl
@[simp] theorem State.modHdr_log (f : List BlockHeader → List BlockHeader) (s : State) : (s.modHdr f).log = s.log := rfl
@[simp] theorem State.modHdr_sup (f : List BlockHeader → List BlockHeader) (s : State) : (s.modHdr f).sup = s.sup := rfl
@[simp] theorem State.modHdr_pwr (f : List BlockHeader → List BlockHeader) (s : State) : (s.modHdr f).pwr = s.pwr := rfl
@[simp] theorem State.modHdr_thm (f : List BlockHeader → List BlockHeader) (s : State) : (s.modHdr f).thm = s.thm := rfl
@[simp] theorem State.modHdr_bst (f : List BlockHeader → List BlockHeader) (s : State) : (s.modHdr f).bst = s.bst := rfl
@[simp] theorem State.modHdr_tim (f : List BlockHeader → List BlockHeader) (s : State) : (s.modHdr f).tim = s.tim := rfl
@[simp] theorem State.modHdr_gns (f : List BlockHeader → List BlockHeader) (s : State) : (s.modHdr f).gns = s.gns := rfl
@[simp] theorem State.modHdr_fus (f : List BlockHeader → List BlockHeader) (s : State) : (s.modHdr f).fus = s.fus := rfl
@[simp] theorem State.modHdr_slv (f : List BlockHeader → List BlockHeader) (s : State) : (s.modHdr f).slv = s.slv := rfl
@[simp] theorem State.modHdr_ctl (f : List BlockHeader → List BlockHeader) (s : State) : (s.modHdr f).ctl = s.ctl := rfl
@[simp] theorem State.modHdr_srv (f : List BlockHeader → List BlockHeader) (s : State) : (s.modHdr f).srv = s.srv := rfl
@[simp] theorem State.modHdr_sig (f : List BlockHeader → List BlockHeader) (s : State) : (s.modHdr f).sig = s.sig := rfl
@[simp] theorem State.modHdr_fio (f : List BlockHeader → List BlockHeader) (s : State) : (s.modHdr f).fio = s.fio := rfl
@[simp] theorem State.modHdr_saf (f : List BlockHeader → List BlockHeader) (s : State) : (s.modHdr f).saf = s.saf := rfl
@[simp] theorem State.modHdr_can (f : List BlockHeader → List BlockHeader) (s : State) : (s.modHdr f).can = s.can := rfl
@[simp] theorem State.modHdr_ser (f : List BlockHeader → List BlockHeader) (s : State) : (s.modHdr f).ser = s.ser := rfl
@[simp] theorem State.modHdr_eth (f : List BlockHeader → List BlockHeader) (s : State) : (s.modHdr f).eth = s.eth := rfl
@[simp] theorem State.modHdr_ses (f : List BlockHeader → List BlockHeader) (s : State) : (s.modHdr f).ses = s.ses := rfl
@[simp] theorem State.modHdr_icx (f : List BlockHeader → List BlockHeader) (s : State) : (s.modHdr f).icx = s.icx := rfl
@[simp] theorem State.modHdr_aqf (f : List BlockHeader → List BlockHeader) (s : State) : (s.modHdr f).aqf = s.aqf := rfl
@[simp] theorem State.modHdr_cfg (f : List BlockHeader → List BlockHeader) (s : State) : (s.modHdr f).cfg = s.cfg := rfl
@[simp] theorem State.modHdr_free (f : List BlockHeader → List BlockHeader) (s : State) : (s.modHdr f).free = s.free := rfl
@[simp] theorem State.modHdr_pending (f : List BlockHeader → List BlockHeader) (s : State) : (s.modHdr f).pending = s.pending := rfl
@[simp] theorem State.modTags_hdr (f : TagPool → TagPool) (s : State) : (s.modTags f).hdr = s.hdr := rfl
@[simp] theorem State.modTags_tags (f : TagPool → TagPool) (s : State) : (s.modTags f).tags = f s.tags := rfl
@[simp] theorem State.modTags_log (f : TagPool → TagPool) (s : State) : (s.modTags f).log = s.log := rfl
@[simp] theorem State.modTags_sup (f : TagPool → TagPool) (s : State) : (s.modTags f).sup = s.sup := rfl
@[simp] theorem State.modTags_pwr (f : TagPool → TagPool) (s : State) : (s.modTags f).pwr = s.pwr := rfl
@[simp] theorem State.modTags_thm (f : TagPool → TagPool) (s : State) : (s.modTags f).thm = s.thm := rfl
@[simp] theorem State.modTags_bst (f : TagPool → TagPool) (s : State) : (s.modTags f).bst = s.bst := rfl
@[simp] theorem State.modTags_tim (f : TagPool → TagPool) (s : State) : (s.modTags f).tim = s.tim := rfl
@[simp] theorem State.modTags_gns (f : TagPool → TagPool) (s : State) : (s.modTags f).gns = s.gns := rfl
@[simp] theorem State.modTags_fus (f : TagPool → TagPool) (s : State) : (s.modTags f).fus = s.fus := rfl
@[simp] theorem State.modTags_slv (f : TagPool → TagPool) (s : State) : (s.modTags f).slv = s.slv := rfl
@[simp] theorem State.modTags_ctl (f : TagPool → TagPool) (s : State) : (s.modTags f).ctl = s.ctl := rfl
@[simp] theorem State.modTags_srv (f : TagPool → TagPool) (s : State) : (s.modTags f).srv = s.srv := rfl
@[simp] theorem State.modTags_sig (f : TagPool → TagPool) (s : State) : (s.modTags f).sig = s.sig := rfl
@[simp] theorem State.modTags_fio (f : TagPool → TagPool) (s : State) : (s.modTags f).fio = s.fio := rfl
@[simp] theorem State.modTags_saf (f : TagPool → TagPool) (s : State) : (s.modTags f).saf = s.saf := rfl
@[simp] theorem State.modTags_can (f : TagPool → TagPool) (s : State) : (s.modTags f).can = s.can := rfl
@[simp] theorem State.modTags_ser (f : TagPool → TagPool) (s : State) : (s.modTags f).ser = s.ser := rfl
@[simp] theorem State.modTags_eth (f : TagPool → TagPool) (s : State) : (s.modTags f).eth = s.eth := rfl
@[simp] theorem State.modTags_ses (f : TagPool → TagPool) (s : State) : (s.modTags f).ses = s.ses := rfl
@[simp] theorem State.modTags_icx (f : TagPool → TagPool) (s : State) : (s.modTags f).icx = s.icx := rfl
@[simp] theorem State.modTags_aqf (f : TagPool → TagPool) (s : State) : (s.modTags f).aqf = s.aqf := rfl
@[simp] theorem State.modTags_cfg (f : TagPool → TagPool) (s : State) : (s.modTags f).cfg = s.cfg := rfl
@[simp] theorem State.modTags_free (f : TagPool → TagPool) (s : State) : (s.modTags f).free = s.free := rfl
@[simp] theorem State.modTags_pending (f : TagPool → TagPool) (s : State) : (s.modTags f).pending = s.pending := rfl
@[simp] theorem State.modLog_hdr (f : LogState → LogState) (s : State) : (s.modLog f).hdr = s.hdr := rfl
@[simp] theorem State.modLog_tags (f : LogState → LogState) (s : State) : (s.modLog f).tags = s.tags := rfl
@[simp] theorem State.modLog_log (f : LogState → LogState) (s : State) : (s.modLog f).log = f s.log := rfl
@[simp] theorem State.modLog_sup (f : LogState → LogState) (s : State) : (s.modLog f).sup = s.sup := rfl
@[simp] theorem State.modLog_pwr (f : LogState → LogState) (s : State) : (s.modLog f).pwr = s.pwr := rfl
@[simp] theorem State.modLog_thm (f : LogState → LogState) (s : State) : (s.modLog f).thm = s.thm := rfl
@[simp] theorem State.modLog_bst (f : LogState → LogState) (s : State) : (s.modLog f).bst = s.bst := rfl
@[simp] theorem State.modLog_tim (f : LogState → LogState) (s : State) : (s.modLog f).tim = s.tim := rfl
@[simp] theorem State.modLog_gns (f : LogState → LogState) (s : State) : (s.modLog f).gns = s.gns := rfl
@[simp] theorem State.modLog_fus (f : LogState → LogState) (s : State) : (s.modLog f).fus = s.fus := rfl
@[simp] theorem State.modLog_slv (f : LogState → LogState) (s : State) : (s.modLog f).slv = s.slv := rfl
@[simp] theorem State.modLog_ctl (f : LogState → LogState) (s : State) : (s.modLog f).ctl = s.ctl := rfl
@[simp] theorem State.modLog_srv (f : LogState → LogState) (s : State) : (s.modLog f).srv = s.srv := rfl
@[simp] theorem State.modLog_sig (f : LogState → LogState) (s : State) : (s.modLog f).sig = s.sig := rfl
@[simp] theorem State.modLog_fio (f : LogState → LogState) (s : State) : (s.modLog f).fio = s.fio := rfl
@[simp] theorem State.modLog_saf (f : LogState → LogState) (s : State) : (s.modLog f).saf = s.saf := rfl
@[simp] theorem State.modLog_can (f : LogState → LogState) (s : State) : (s.modLog f).can = s.can := rfl
@[simp] theorem State.modLog_ser (f : LogState → LogState) (s : State) : (s.modLog f).ser = s.ser := rfl
@[simp] theorem State.modLog_eth (f : LogState → LogState) (s : State) : (s.modLog f).eth = s.eth := rfl
@[simp] theorem State.modLog_ses (f : LogState → LogState) (s : State) : (s.modLog f).ses = s.ses := rfl
@[simp] theorem State.modLog_icx (f : LogState → LogState) (s : State) : (s.modLog f).icx = s.icx := rfl
@[simp] theorem State.modLog_aqf (f : LogState → LogState) (s : State) : (s.modLog f).aqf = s.aqf := rfl
@[simp] theorem State.modLog_cfg (f : LogState → LogState) (s : State) : (s.modLog f).cfg = s.cfg := rfl
@[simp] theorem State.modLog_free (f : LogState → LogState) (s : State) : (s.modLog f).free = s.free := rfl
@[simp] theorem State.modLog_pending (f : LogState → LogState) (s : State) : (s.modLog f).pending = s.pending := rfl
@[simp] theorem State.modSup_hdr (f : SupState → SupState) (s : State) : (s.modSup f).hdr = s.hdr := rfl
@[simp] theorem State.modSup_tags (f : SupState → SupState) (s : State) : (s.modSup f).tags = s.tags := rfl
@[simp] theorem State.modSup_log (f : SupState → SupState) (s : State) : (s.modSup f).log = s.log := rfl
@[simp] theorem State.modSup_sup (f : SupState → SupState) (s : State) : (s.modSup f).sup = f s.sup := rfl
@[simp] theorem State.modSup_pwr (f : SupState → SupState) (s : State) : (s.modSup f).pwr = s.pwr := rfl
@[simp] theorem State.modSup_thm (f : SupState → SupState) (s : State) : (s.modSup f).thm = s.thm := rfl
@[simp] theorem State.modSup_bst (f : SupState → SupState) (s : State) : (s.modSup f).bst = s.bst := rfl
@[simp] theorem State.modSup_tim (f : SupState → SupState) (s : State) : (s.modSup f).tim = s.tim := rfl
@[simp] theorem State.modSup_gns (f : SupState → SupState) (s : State) : (s.modSup f).gns = s.gns := rfl
@[simp] theorem State.modSup_fus (f : SupState → SupState) (s : State) : (s.modSup f).fus = s.fus := rfl
@[simp] theorem State.modSup_slv (f : SupState → SupState) (s : State) : (s.modSup f).slv = s.slv := rfl
@[simp] theorem State.modSup_ctl (f : SupState → SupState) (s : State) : (s.modSup f).ctl = s.ctl := rfl
@[simp] theorem State.modSup_srv (f : SupState → SupState) (s : State) : (s.modSup f).srv = s.srv := rfl
@[simp] theorem State.modSup_sig (f : SupState → SupState) (s : State) : (s.modSup f).sig = s.sig := rfl
@[simp] theorem State.modSup_fio (f : SupState → SupState) (s : State) : (s.modSup f).fio = s.fio := rfl
@[simp] theorem State.modSup_saf (f : SupState → SupState) (s : State) : (s.modSup f).saf = s.saf := rfl
@[simp] theorem State.modSup_can (f : SupState → SupState) (s : State) : (s.modSup f).can = s.can := rfl
@[simp] theorem State.modSup_ser (f : SupState → SupState) (s : State) : (s.modSup f).ser = s.ser := rfl
@[simp] theorem State.modSup_eth (f : SupState → SupState) (s : State) : (s.modSup f).eth = s.eth := rfl
@[simp] theorem State.modSup_ses (f : SupState → SupState) (s : State) : (s.modSup f).ses = s.ses := rfl
@[simp] theorem State.modSup_icx (f : SupState → SupState) (s : State) : (s.modSup f).icx = s.icx := rfl
@[simp] theorem State.modSup_aqf (f : SupState → SupState) (s : State) : (s.modSup f).aqf = s.aqf := rfl
@[simp] theorem State.modSup_cfg (f : SupState → SupState) (s : State) : (s.modSup f).cfg = s.cfg := rfl
@[simp] theorem State.modSup_free (f : SupState → SupState) (s : State) : (s.modSup f).free = s.free := rfl
@[simp] theorem State.modSup_pending (f : SupState → SupState) (s : State) : (s.modSup f).pending = s.pending := rfl
@[simp] theorem State.modPwr_hdr (f : PwrState → PwrState) (s : State) : (s.modPwr f).hdr = s.hdr := rfl
@[simp] theorem State.modPwr_tags (f : PwrState → PwrState) (s : State) : (s.modPwr f).tags = s.tags := rfl
@[simp] theorem State.modPwr_log (f : PwrState → PwrState) (s : State) : (s.modPwr f).log = s.log := rfl
@[simp] theorem State.modPwr_sup (f : PwrState → PwrState) (s : State) : (s.modPwr f).sup = s.sup := rfl
@[simp] theorem State.modPwr_pwr (f : PwrState → PwrState) (s : State) : (s.modPwr f).pwr = f s.pwr := rfl
@[simp] theorem State.modPwr_thm (f : PwrState → PwrState) (s : State) : (s.modPwr f).thm = s.thm := rfl
@[simp] theorem State.modPwr_bst (f : PwrState → PwrState) (s : State) : (s.modPwr f).bst = s.bst := rfl
@[simp] theorem State.modPwr_tim (f : PwrState → PwrState) (s : State) : (s.modPwr f).tim = s.tim := rfl
@[simp] theorem State.modPwr_gns (f : PwrState → PwrState) (s : State) : (s.modPwr f).gns = s.gns := rfl
@[simp] theorem State.modPwr_fus (f : PwrState → PwrState) (s : State) : (s.modPwr f).fus = s.fus := rfl
@[simp] theorem State.modPwr_slv (f : PwrState → PwrState) (s : State) : (s.modPwr f).slv = s.slv := rfl
@[simp] theorem State.modPwr_ctl (f : PwrState → PwrState) (s : State) : (s.modPwr f).ctl = s.ctl := rfl
@[simp] theorem State.modPwr_srv (f : PwrState → PwrState) (s : State) : (s.modPwr f).srv = s.srv := rfl
@[simp] theorem State.modPwr_sig (f : PwrState → PwrState) (s : State) : (s.modPwr f).sig = s.sig := rfl
@[simp] theorem State.modPwr_fio (f : PwrState → PwrState) (s : State) : (s.modPwr f).fio = s.fio := rfl
@[simp] theorem State.modPwr_saf (f : PwrState → PwrState) (s : State) : (s.modPwr f).saf = s.saf := rfl
@[simp] theorem State.modPwr_can (f : PwrState → PwrState) (s : State) : (s.modPwr f).can = s.can := rfl
@[simp] theorem State.modPwr_ser (f : PwrState → PwrState) (s : State) : (s.modPwr f).ser = s.ser := rfl
@[simp] theorem State.modPwr_eth (f : PwrState → PwrState) (s : State) : (s.modPwr f).eth = s.eth := rfl
@[simp] theorem State.modPwr_ses (f : PwrState → PwrState) (s : State) : (s.modPwr f).ses = s.ses := rfl
@[simp] theorem State.modPwr_icx (f : PwrState → PwrState) (s : State) : (s.modPwr f).icx = s.icx := rfl
@[simp] theorem State.modPwr_aqf (f : PwrState → PwrState) (s : State) : (s.modPwr f).aqf = s.aqf := rfl
@[simp] theorem State.modPwr_cfg (f : PwrState → PwrState) (s : State) : (s.modPwr f).cfg = s.cfg := rfl
@[simp] theorem State.modPwr_free (f : PwrState → PwrState) (s : State) : (s.modPwr f).free = s.free := rfl
@[simp] theorem State.modPwr_pending (f : PwrState → PwrState) (s : State) : (s.modPwr f).pending = s.pending := rfl
@[simp] theorem State.modThm_hdr (f : ThmState → ThmState) (s : State) : (s.modThm f).hdr = s.hdr := rfl
@[simp] theorem State.modThm_tags (f : ThmState → ThmState) (s : State) : (s.modThm f).tags = s.tags := rfl
@[simp] theorem State.modThm_log (f : ThmState → ThmState) (s : State) : (s.modThm f).log = s.log := rfl
@[simp] theorem State.modThm_sup (f : ThmState → ThmState) (s : State) : (s.modThm f).sup = s.sup := rfl
@[simp] theorem State.modThm_pwr (f : ThmState → ThmState) (s : State) : (s.modThm f).pwr = s.pwr := rfl
@[simp] theorem State.modThm_thm (f : ThmState → ThmState) (s : State) : (s.modThm f).thm = f s.thm := rfl
@[simp] theorem State.modThm_bst (f : ThmState → ThmState) (s : State) : (s.modThm f).bst = s.bst := rfl
@[simp] theorem State.modThm_tim (f : ThmState → ThmState) (s : State) : (s.modThm f).tim = s.tim := rfl
@[simp] theorem State.modThm_gns (f : ThmState → ThmState) (s : State) : (s.modThm f).gns = s.gns := rfl
@[simp] theorem State.modThm_fus (f : ThmState → ThmState) (s : State) : (s.modThm f).fus = s.fus := rfl
@[simp] theorem State.modThm_slv (f : ThmState → ThmState) (s : State) : (s.modThm f).slv = s.slv := rfl
@[simp] theorem State.modThm_ctl (f : ThmState → ThmState) (s : State) : (s.modThm f).ctl = s.ctl := rfl
@[simp] theorem State.modThm_srv (f : ThmState → ThmState) (s : State) : (s.modThm f).srv = s.srv := rfl
@[simp] theorem State.modThm_sig (f : ThmState → ThmState) (s : State) : (s.modThm f).sig = s.sig := rfl
@[simp] theorem State.modThm_fio (f : ThmState → ThmState) (s : State) : (s.modThm f).fio = s.fio := rfl
@[simp] theorem State.modThm_saf (f : ThmState → ThmState) (s : State) : (s.modThm f).saf = s.saf := rfl
@[simp] theorem State.modThm_can (f : ThmState → ThmState) (s : State) : (s.modThm f).can = s.can := rfl
@[simp] theorem State.modThm_ser (f : ThmState → ThmState) (s : State) : (s.modThm f).ser = s.ser := rfl
@[simp] theorem State.modThm_eth (f : ThmState → ThmState) (s : State) : (s.modThm f).eth = s.eth := rfl
@[simp] theorem State.modThm_ses (f : ThmState → ThmState) (s : State) : (s.modThm f).ses = s.ses := rfl
@[simp] theorem State.modThm_icx (f : ThmState → ThmState) (s : State) : (s.modThm f).icx = s.icx := rfl
@[simp] theorem State.modThm_aqf (f : ThmState → ThmState) (s : State) : (s.modThm f).aqf = s.aqf := rfl
@[simp] theorem State.modThm_cfg (f : ThmState → ThmState) (s : State) : (s.modThm f).cfg = s.cfg := rfl
@[simp] theorem State.modThm_free (f : ThmState → ThmState) (s : State) : (s.modThm f).free = s.free := rfl
@[simp] theorem State.modThm_pending (f : ThmState → ThmState) (s : State) : (s.modThm f).pending = s.pending := rfl
@[simp] theorem State.modBst_hdr (f : BstState → BstState) (s : State) : (s.modBst f).hdr = s.hdr := rfl
@[simp] theorem State.modBst_tags (f : BstState → BstState) (s : State) : (s.modBst f).tags = s.tags := rfl
@[simp] theorem State.modBst_log (f : BstState → BstState) (s : State) : (s.modBst f).log = s.log := rfl
@[simp] theorem State.modBst_sup (f : BstState → BstState) (s : State) : (s.modBst f).sup = s.sup := rfl
@[simp] theorem State.modBst_pwr (f : BstState → BstState) (s : State) : (s.modBst f).pwr = s.pwr := rfl
@[simp] theorem State.modBst_thm (f : BstState → BstState) (s : State) : (s.modBst f).thm = s.thm := rfl
@[simp] theorem State.modBst_bst (f : BstState → BstState) (s : State) : (s.modBst f).bst = f s.bst := rfl
@[simp] theorem State.modBst_tim (f : BstState → BstState) (s : State) : (s.modBst f).tim = s.tim := rfl
@[simp] theorem State.modBst_gns (f : BstState → BstState) (s : State) : (s.modBst f).gns = s.gns := rfl
@[simp] theorem State.modBst_fus (f : BstState → BstState) (s : State) : (s.modBst f).fus = s.fus := rfl
@[simp] theorem State.modBst_slv (f : BstState → BstState) (s : State) : (s.modBst f).slv = s.slv := rfl
@[simp] theorem State.modBst_ctl (f : BstState → BstState) (s : State) : (s.modBst f).ctl = s.ctl := rfl
@[simp] theorem State.modBst_srv (f : BstState → BstState) (s : State) : (s.modBst f).srv = s.srv := rfl
@[simp] theorem State.modBst_sig (f : BstState → BstState) (s : State) : (s.modBst f).sig = s.sig := rfl
@[simp] theorem State.modBst_fio (f : BstState → BstState) (s : State) : (s.modBst f).fio = s.fio := rfl
@[simp] theorem State.modBst_saf (f : BstState → BstState) (s : State) : (s.modBst f).saf = s.saf := rfl
@[simp] theorem State.modBst_can (f : BstState → BstState) (s : State) : (s.modBst f).can = s.can := rfl
@[simp] theorem State.modBst_ser (f : BstState → BstState) (s : State) : (s.modBst f).ser = s.ser := rfl
@[simp] theorem State.modBst_eth (f : BstState → BstState) (s : State) : (s.modBst f).eth = s.eth := rfl
@[simp] theorem State.modBst_ses (f : BstState → BstState) (s : State) : (s.modBst f).ses = s.ses := rfl
@[simp] theorem State.modBst_icx (f : BstState → BstState) (s : State) : (s.modBst f).icx = s.icx := rfl
@[simp] theorem State.modBst_aqf (f : BstState → BstState) (s : State) : (s.modBst f).aqf = s.aqf := rfl
@[simp] theorem State.modBst_cfg (f : BstState → BstState) (s : State) : (s.modBst f).cfg = s.cfg := rfl
@[simp] theorem State.modBst_free (f : BstState → BstState) (s : State) : (s.modBst f).free = s.free := rfl
@[simp] theorem State.modBst_pending (f : BstState → BstState) (s : State) : (s.modBst f).pending = s.pending := rfl
@[simp] theorem State.modTim_hdr (f : TimState → TimState) (s : State) : (s.modTim f).hdr = s.hdr := rfl
@[simp] theorem State.modTim_tags (f : TimState → TimState) (s : State) : (s.modTim f).tags = s.tags := rfl
@[simp] theorem State.modTim_log (f : TimState → TimState) (s : State) : (s.modTim f).log = s.log := rfl
@[simp] theorem State.modTim_sup (f : TimState → TimState) (s : State) : (s.modTim f).sup = s.sup := rfl
@[simp] theorem State.modTim_pwr (f : TimState → TimState) (s : State) : (s.modTim f).pwr = s.pwr := rfl
@[simp] theorem State.modTim_thm (f : TimState → TimState) (s : State) : (s.modTim f).thm = s.thm := rfl
@[simp] theorem State.modTim_bst (f : TimState → TimState) (s : State) : (s.modTim f).bst = s.bst := rfl
@[simp] theorem State.modTim_tim (f : TimState → TimState) (s : State) : (s.modTim f).tim = f s.tim := rfl
@[simp] theorem State.modTim_gns (f : TimState → TimState) (s : State) : (s.modTim f).gns = s.gns := rfl
@[simp] theorem State.modTim_fus (f : TimState → TimState) (s : State) : (s.modTim f).fus = s.fus := rfl
@[simp] theorem State.modTim_slv (f : TimState → TimState) (s : State) : (s.modTim f).slv = s.slv := rfl
@[simp] theorem State.modTim_ctl (f : TimState → TimState) (s : State) : (s.modTim f).ctl = s.ctl := rfl
@[simp] theorem State.modTim_srv (f : TimState → TimState) (s : State) : (s.modTim f).srv = s.srv := rfl
@[simp] theorem State.modTim_sig (f : TimState → TimState) (s : State) : (s.modTim f).sig = s.sig := rfl
@[simp] theorem State.modTim_fio (f : TimState → TimState) (s : State) : (s.modTim f).fio = s.fio := rfl
@[simp] theorem State.modTim_saf (f : TimState → TimState) (s : State) : (s.modTim f).saf = s.saf := rfl
@[simp] theorem State.modTim_can (f : TimState → TimState) (s : State) : (s.modTim f).can = s.can := rfl
@[simp] theorem State.modTim_ser (f : TimState → TimState) (s : State) : (s.modTim f).ser = s.ser := rfl
@[simp] theorem State.modTim_eth (f : TimState → TimState) (s : State) : (s.modTim f).eth = s.eth := rfl
@[simp] theorem State.modTim_ses (f : TimState → TimState) (s : State) : (s.modTim f).ses = s.ses := rfl
@[simp] theorem State.modTim_icx (f : TimState → TimState) (s : State) : (s.modTim f).icx = s.icx := rfl
@[simp] theorem State.modTim_aqf (f : TimState → TimState) (s : State) : (s.modTim f).aqf = s.aqf := rfl
@[simp] theorem State.modTim_cfg (f : TimState → TimState) (s : State) : (s.modTim f).cfg = s.cfg := rfl
@[simp] theorem State.modTim_free (f : TimState → TimState) (s : State) : (s.modTim f).free = s.free := rfl
@[simp] theorem State.modTim_pending (f : TimState → TimState) (s : State) : (s.modTim f).pending = s.pending := rfl
@[simp] theorem State.modGns_hdr (f : GnsState → GnsState) (s : State) : (s.modGns f).hdr = s.hdr := rfl
@[simp] theorem State.modGns_tags (f : GnsState → GnsState) (s : State) : (s.modGns f).tags = s.tags := rfl
@[simp] theorem State.modGns_log (f : GnsState → GnsState) (s : State) : (s.modGns f).log = s.log := rfl
@[simp] theorem State.modGns_sup (f : GnsState → GnsState) (s : State) : (s.modGns f).sup = s.sup := rfl
@[simp] theorem State.modGns_pwr (f : GnsState → GnsState) (s : State) : (s.modGns f).pwr = s.pwr := rfl
@[simp] theorem State.modGns_thm (f : GnsState → GnsState) (s : State) : (s.modGns f).thm = s.thm := rfl
@[simp] theorem State.modGns_bst (f : GnsState → GnsState) (s : State) : (s.modGns f).bst = s.bst := rfl
@[simp] theorem State.modGns_tim (f : GnsState → GnsState) (s : State) : (s.modGns f).tim = s.tim := rfl
@[simp] theorem State.modGns_gns (f : GnsState → GnsState) (s : State) : (s.modGns f).gns = f s.gns := rfl
@[simp] theorem State.modGns_fus (f : GnsState → GnsState) (s : State) : (s.modGns f).fus = s.fus := rfl
@[simp] theorem State.modGns_slv (f : GnsState → GnsState) (s : State) : (s.modGns f).slv = s.slv := rfl
@[simp] theorem State.modGns_ctl (f : GnsState → GnsState) (s : State) : (s.modGns f).ctl = s.ctl := rfl
@[simp] theorem State.modGns_srv (f : GnsState → GnsState) (s : State) : (s.modGns f).srv = s.srv := rfl
@[simp] theorem State.modGns_sig (f : GnsState → GnsState) (s : State) : (s.modGns f).sig = s.sig := rfl
@[simp] theorem State.modGns_fio (f : GnsState → GnsState) (s : State) : (s.modGns f).fio = s.fio := rfl
@[simp] theorem State.modGns_saf (f : GnsState → GnsState) (s : State) : (s.modGns f).saf = s.saf := rfl
@[simp] theorem State.modGns_can (f : GnsState → GnsState) (s : State) : (s.modGns f).can = s.can := rfl
@[simp] theorem State.modGns_ser (f : GnsState → GnsState) (s : State) : (s.modGns f).ser = s.ser := rfl
@[simp] theorem State.modGns_eth (f : GnsState → GnsState) (s : State) : (s.modGns f).eth = s.eth := rfl
@[simp] theorem State.modGns_ses (f : GnsState → GnsState) (s : State) : (s.modGns f).ses = s.ses := rfl
@[simp] theorem State.modGns_icx (f : GnsState → GnsState) (s : State) : (s.modGns f).icx = s.icx := rfl
@[simp] theorem State.modGns_aqf (f : GnsState → GnsState) (s : State) : (s.modGns f).aqf = s.aqf := rfl
@[simp] theorem State.modGns_cfg (f : GnsState → GnsState) (s : State) : (s.modGns f).cfg = s.cfg := rfl
@[simp] theorem State.modGns_free (f : GnsState → GnsState) (s : State) : (s.modGns f).free = s.free := rfl
@[simp] theorem State.modGns_pending (f : GnsState → GnsState) (s : State) : (s.modGns f).pending = s.pending := rfl
@[simp] theorem State.modFus_hdr (f : FusState → FusState) (s : State) : (s.modFus f).hdr = s.hdr := rfl
@[simp] theorem State.modFus_tags (f : FusState → FusState) (s : State) : (s.modFus f).tags = s.tags := rfl
@[simp] theorem State.modFus_log (f : FusState → FusState) (s : State) : (s.modFus f).log = s.log := rfl
@[simp] theorem State.modFus_sup (f : FusState → FusState) (s : State) : (s.modFus f).sup = s.sup := rfl
@[simp] theorem State.modFus_pwr (f : FusState → FusState) (s : State) : (s.modFus f).pwr = s.pwr := rfl
@[simp] theorem State.modFus_thm (f : FusState → FusState) (s : State) : (s.modFus f).thm = s.thm := rfl
@[simp] theorem State.modFus_bst (f : FusState → FusState) (s : State) : (s.modFus f).bst = s.bst := rfl
@[simp] theorem State.modFus_tim (f : FusState → FusState) (s : State) : (s.modFus f).tim = s.tim := rfl
@[simp] theorem State.modFus_gns (f : FusState → FusState) (s : State) : (s.modFus f).gns = s.gns := rfl
@[simp] theorem State.modFus_fus (f : FusState → FusState) (s : State) : (s.modFus f).fus = f s.fus := rfl
@[simp] theorem State.modFus_slv (f : FusState → FusState) (s : State) : (s.modFus f).slv = s.slv := rfl
@[simp] theorem State.modFus_ctl (f : FusState → FusState) (s : State) : (s.modFus f).ctl = s.ctl := rfl
@[simp] theorem State.modFus_srv (f : FusState → FusState) (s : State) : (s.modFus f).srv = s.srv := rfl
@[simp] theorem State.modFus_sig (f : FusState → FusState) (s : State) : (s.modFus f).sig = s.sig := rfl
@[simp] theorem State.modFus_fio (f : FusState → FusState) (s : State) : (s.modFus f).fio = s.fio := rfl
@[simp] theorem State.modFus_saf (f : FusState → FusState) (s : State) : (s.modFus f).saf = s.saf := rfl
@[simp] theorem State.modFus_can (f : FusState → FusState) (s : State) : (s.modFus f).can = s.can := rfl
@[simp] theorem State.modFus_ser (f : FusState → FusState) (s : State) : (s.modFus f).ser = s.ser := rfl
@[simp] theorem State.modFus_eth (f : FusState → FusState) (s : State) : (s.modFus f).eth = s.eth := rfl
@[simp] theorem State.modFus_ses (f : FusState → FusState) (s : State) : (s.modFus f).ses = s.ses := rfl
@[simp] theorem State.modFus_icx (f : FusState → FusState) (s : State) : (s.modFus f).icx = s.icx := rfl
@[simp] theorem State.modFus_aqf (f : FusState → FusState) (s : State) : (s.modFus f).aqf = s.aqf := rfl
@[simp] theorem State.modFus_cfg (f : FusState → FusState) (s : State) : (s.modFus f).cfg = s.cfg := rfl
@[simp] theorem State.modFus_free (f : FusState → FusState) (s : State) : (s.modFus f).free = s.free := rfl
@[simp] theorem State.modFus_pending (f : FusState → FusState) (s : State) : (s.modFus f).pending = s.pending := rfl
@[simp] theorem State.modSlv_hdr (f : SlvState → SlvState) (s : State) : (s.modSlv f).hdr = s.hdr := rfl
@[simp] theorem State.modSlv_tags (f : SlvState → SlvState) (s : State) : (s.modSlv f).tags = s.tags := rfl
@[simp] theorem State.modSlv_log (f : SlvState → SlvState) (s : State) : (s.modSlv f).log = s.log := rfl
@[simp] theorem State.modSlv_sup (f : SlvState → SlvState) (s : State) : (s.modSlv f).sup = s.sup := rfl
@[simp] theorem State.modSlv_pwr (f : SlvState → SlvState) (s : State) : (s.modSlv f).pwr = s.pwr := rfl
@[simp] theorem State.modSlv_thm (f : SlvState → SlvState) (s : State) : (s.modSlv f).thm = s.thm := rfl
@[simp] theorem State.modSlv_bst (f : SlvState → SlvState) (s : State) : (s.modSlv f).bst = s.bst := rfl
@[simp] theorem State.modSlv_tim (f : SlvState → SlvState) (s : State) : (s.modSlv f).tim = s.tim := rfl
@[simp] theorem State.modSlv_gns (f : SlvState → SlvState) (s : State) : (s.modSlv f).gns = s.gns := rfl
@[simp] theorem State.modSlv_fus (f : SlvState → SlvState) (s : State) : (s.modSlv f).fus = s.fus := rfl
@[simp] theorem State.modSlv_slv (f : SlvState → SlvState) (s : State) : (s.modSlv f).slv = f s.slv := rfl
@[simp] theorem State.modSlv_ctl (f : SlvState → SlvState) (s : State) : (s.modSlv f).ctl = s.ctl := rfl
@[simp] theorem State.modSlv_srv (f : SlvState → SlvState) (s : State) : (s.modSlv f).srv = s.srv := rfl
@[simp] theorem State.modSlv_sig (f : SlvState → SlvState) (s : State) : (s.modSlv f).sig = s.sig := rfl
@[simp] theorem State.modSlv_fio (f : SlvState → SlvState) (s : State) : (s.modSlv f).fio = s.fio := rfl
@[simp] theorem State.modSlv_saf (f : SlvState → SlvState) (s : State) : (s.modSlv f).saf = s.saf := rfl
@[simp] theorem State.modSlv_can (f : SlvState → SlvState) (s : State) : (s.modSlv f).can = s.can := rfl
@[simp] theorem State.modSlv_ser (f : SlvState → SlvState) (s : State) : (s.modSlv f).ser = s.ser := rfl
@[simp] theorem State.modSlv_eth (f : SlvState → SlvState) (s : State) : (s.modSlv f).eth = s.eth := rfl
@[simp] theorem State.modSlv_ses (f : SlvState → SlvState) (s : State) : (s.modSlv f).ses = s.ses := rfl
@[simp] theorem State.modSlv_icx (f : SlvState → SlvState) (s : State) : (s.modSlv f).icx = s.icx := rfl
@[simp] theorem State.modSlv_aqf (f : SlvState → SlvState) (s : State) : (s.modSlv f).aqf = s.aqf := rfl
@[simp] theorem State.modSlv_cfg (f : SlvState → SlvState) (s : State) : (s.modSlv f).cfg = s.cfg := rfl
@[simp] theorem State.modSlv_free (f : SlvState → SlvState) (s : State) : (s.modSlv f).free = s.free := rfl
@[simp] theorem State.modSlv_pending (f : SlvState → SlvState) (s : State) : (s.modSlv f).pending = s.pending := rfl
@[simp] theorem State.modCtl_hdr (f : CtlState → CtlState) (s : State) : (s.modCtl f).hdr = s.hdr := rfl
@[simp] theorem State.modCtl_tags (f : CtlState → CtlState) (s : State) : (s.modCtl f).tags = s.tags := rfl
@[simp] theorem State.modCtl_log (f : CtlState → CtlState) (s : State) : (s.modCtl f).log = s.log := rfl
@[simp] theorem State.modCtl_sup (f : CtlState → CtlState) (s : State) : (s.modCtl f).sup = s.sup := rfl
@[simp] theorem State.modCtl_pwr (f : CtlState → CtlState) (s : State) : (s.modCtl f).pwr = s.pwr := rfl
@[simp] theorem State.modCtl_thm (f : CtlState → CtlState) (s : State) : (s.modCtl f).thm = s.thm := rfl
@[simp] theorem State.modCtl_bst (f : CtlState → CtlState) (s : State) : (s.modCtl f).bst = s.bst := rfl
@[simp] theorem State.modCtl_tim (f : CtlState → CtlState) (s : State) : (s.modCtl f).tim = s.tim := rfl
@[simp] theorem State.modCtl_gns (f : CtlState → CtlState) (s : State) : (s.modCtl f).gns = s.gns := rfl
@[simp] theorem State.modCtl_fus (f : CtlState → CtlState) (s : State) : (s.modCtl f).fus = s.fus := rfl
@[simp] theorem State.modCtl_slv (f : CtlState → CtlState) (s : State) : (s.modCtl f).slv = s.slv := rfl
@[simp] theorem State.modCtl_ctl (f : CtlState → CtlState) (s : State) : (s.modCtl f).ctl = f s.ctl := rfl
@[simp] theorem State.modCtl_srv (f : CtlState → CtlState) (s : State) : (s.modCtl f).srv = s.srv := rfl
@[simp] theorem State.modCtl_sig (f : CtlState → CtlState) (s : State) : (s.modCtl f).sig = s.sig := rfl
@[simp] theorem State.modCtl_fio (f : CtlState → CtlState) (s : State) : (s.modCtl f).fio = s.fio := rfl
@[simp] theorem State.modCtl_saf (f : CtlState → CtlState) (s : State) : (s.modCtl f).saf = s.saf := rfl
@[simp] theorem State.modCtl_can (f : CtlState → CtlState) (s : State) : (s.modCtl f).can = s.can := rfl
@[simp] theorem State.modCtl_ser (f : CtlState → CtlState) (s : State) : (s.modCtl f).ser = s.ser := rfl
@[simp] theorem State.modCtl_eth (f : CtlState → CtlState) (s : State) : (s.modCtl f).eth = s.eth := rfl
@[simp] theorem State.modCtl_ses (f : CtlState → CtlState) (s : State) : (s.modCtl f).ses = s.ses := rfl
@[simp] theorem State.modCtl_icx (f : CtlState → CtlState) (s : State) : (s.modCtl f).icx = s.icx := rfl
@[simp] theorem State.modCtl_aqf (f : CtlState → CtlState) (s : State) : (s.modCtl f).aqf = s.aqf := rfl
@[simp] theorem State.modCtl_cfg (f : CtlState → CtlState) (s : State) : (s.modCtl f).cfg = s.cfg := rfl
@[simp] theorem State.modCtl_free (f : CtlState → CtlState) (s : State) : (s.modCtl f).free = s.free := rfl
@[simp] theorem State.modCtl_pending (f : CtlState → CtlState) (s : State) : (s.modCtl f).pending = s.pending := rfl
@[simp] theorem State.modSrv_hdr (f : SrvState → SrvState) (s : State) : (s.modSrv f).hdr = s.hdr := rfl
@[simp] theorem State.modSrv_tags (f : SrvState → SrvState) (s : State) : (s.modSrv f).tags = s.tags := rfl
@[simp] theorem State.modSrv_log (f : SrvState → SrvState) (s : State) : (s.modSrv f).log = s.log := rfl
@[simp] theorem State.modSrv_sup (f : SrvState → SrvState) (s : State) : (s.modSrv f).sup = s.sup := rfl
@[simp] theorem State.modSrv_pwr (f : SrvState → SrvState) (s : State) : (s.modSrv f).pwr = s.pwr := rfl
@[simp] theorem State.modSrv_thm (f : SrvState → SrvState) (s : State) : (s.modSrv f).thm = s.thm := rfl
@[simp] theorem State.modSrv_bst (f : SrvState → SrvState) (s : State) : (s.modSrv f).bst = s.bst := rfl
@[simp] theorem State.modSrv_tim (f : SrvState → SrvState) (s : State) : (s.modSrv f).tim = s.tim := rfl
@[simp] theorem State.modSrv_gns (f : SrvState → SrvState) (s : State) : (s.modSrv f).gns = s.gns := rfl
@[simp] theorem State.modSrv_fus (f : SrvState → SrvState) (s : State) : (s.modSrv f).fus = s.fus := rfl
@[simp] theorem State.modSrv_slv (f : SrvState → SrvState) (s : State) : (s.modSrv f).slv = s.slv := rfl
@[simp] theorem State.modSrv_ctl (f : SrvState → SrvState) (s : State) : (s.modSrv f).ctl = s.ctl := rfl
@[simp] theorem State.modSrv_srv (f : SrvState → SrvState) (s : State) : (s.modSrv f).srv = f s.srv := rfl
@[simp] theorem State.modSrv_sig (f : SrvState → SrvState) (s : State) : (s.modSrv f).sig = s.sig := rfl
@[simp] theorem State.modSrv_fio (f : SrvState → SrvState) (s : State) : (s.modSrv f).fio = s.fio := rfl
@[simp] theorem State.modSrv_saf (f : SrvState → SrvState) (s : State) : (s.modSrv f).saf = s.saf := rfl
@[simp] theorem State.modSrv_can (f : SrvState → SrvState) (s : State) : (s.modSrv f).can = s.can := rfl
@[simp] theorem State.modSrv_ser (f : SrvState → SrvState) (s : State) : (s.modSrv f).ser = s.ser := rfl
@[simp] theorem State.modSrv_eth (f : SrvState → SrvState) (s : State) : (s.modSrv f).eth = s.eth := rfl
@[simp] theorem State.modSrv_ses (f : SrvState → SrvState) (s : State) : (s.modSrv f).ses = s.ses := rfl
@[simp] theorem State.modSrv_icx (f : SrvState → SrvState) (s : State) : (s.modSrv f).icx = s.icx := rfl
@[simp] theorem State.modSrv_aqf (f : SrvState → SrvState) (s : State) : (s.modSrv f).aqf = s.aqf := rfl
@[simp] theorem State.modSrv_cfg (f : SrvState → SrvState) (s : State) : (s.modSrv f).cfg = s.cfg := rfl
@[simp] theorem State.modSrv_free (f : SrvState → SrvState) (s : State) : (s.modSrv f).free = s.free := rfl
@[simp] theorem State.modSrv_pending (f : SrvState → SrvState) (s : State) : (s.modSrv f).pending = s.pending := rfl
@[simp] theorem State.modSig_hdr (f : SigState → SigState) (s : State) : (s.modSig f).hdr = s.hdr := rfl
@[simp] theorem State.modSig_tags (f : SigState → SigState) (s : State) : (s.modSig f).tags = s.tags := rfl
@[simp] theorem State.modSig_log (f : SigState → SigState) (s : State) : (s.modSig f).log = s.log := rfl
@[simp] theorem State.modSig_sup (f : SigState → SigState) (s : State) : (s.modSig f).sup = s.sup := rfl
@[simp] theorem State.modSig_pwr (f : SigState → SigState) (s : State) : (s.modSig f).pwr = s.pwr := rfl
@[simp] theorem State.modSig_thm (f : SigState → SigState) (s : State) : (s.modSig f).thm = s.thm := rfl
@[simp] theorem State.modSig_bst (f : SigState → SigState) (s : State) : (s.modSig f).bst = s.bst := rfl
@[simp] theorem State.modSig_tim (f : SigState → SigState) (s : State) : (s.modSig f).tim = s.tim := rfl
@[simp] theorem State.modSig_gns (f : SigState → SigState) (s : State) : (s.modSig f).gns = s.gns := rfl
@[simp] theorem State.modSig_fus (f : SigState → SigState) (s : State) : (s.modSig f).fus = s.fus := rfl
@[simp] theorem State.modSig_slv (f : SigState → SigState) (s : State) : (s.modSig f).slv = s.slv := rfl
@[simp] theorem State.modSig_ctl (f : SigState → SigState) (s : State) : (s.modSig f).ctl = s.ctl := rfl
@[simp] theorem State.modSig_srv (f : SigState → SigState) (s : State) : (s.modSig f).srv = s.srv := rfl
@[simp] theorem State.modSig_sig (f : SigState → SigState) (s : State) : (s.modSig f).sig = f s.sig := rfl
@[simp] theorem State.modSig_fio (f : SigState → SigState) (s : State) : (s.modSig f).fio = s.fio := rfl
@[simp] theorem State.modSig_saf (f : SigState → SigState) (s : State) : (s.modSig f).saf = s.saf := rfl
@[simp] theorem State.modSig_can (f : SigState → SigState) (s : State) : (s.modSig f).can = s.can := rfl
@[simp] theorem State.modSig_ser (f : SigState → SigState) (s : State) : (s.modSig f).ser = s.ser := rfl
@[simp] theorem State.modSig_eth (f : SigState → SigState) (s : State) : (s.modSig f).eth = s.eth := rfl
@[simp] theorem State.modSig_ses (f : SigState → SigState) (s : State) : (s.modSig f).ses = s.ses := rfl
@[simp] theorem State.modSig_icx (f : SigState → SigState) (s : State) : (s.modSig f).icx = s.icx := rfl
@[simp] theorem State.modSig_aqf (f : SigState → SigState) (s : State) : (s.modSig f).aqf = s.aqf := rfl
@[simp] theorem State.modSig_cfg (f : SigState → SigState) (s : State) : (s.modSig f).cfg = s.cfg := rfl
@[simp] theorem State.modSig_free (f : SigState → SigState) (s : State) : (s.modSig f).free = s.free := rfl
@[simp] theorem State.modSig_pending (f : SigState → SigState) (s : State) : (s.modSig f).pending = s.pending := rfl
@[simp] theorem State.modFio_hdr (f : FioState → FioState) (s : State) : (s.modFio f).hdr = s.hdr := rfl
@[simp] theorem State.modFio_tags (f : FioState → FioState) (s : State) : (s.modFio f).tags = s.tags := rfl
@[simp] theorem State.modFio_log (f : FioState → FioState) (s : State) : (s.modFio f).log = s.log := rfl
@[simp] theorem State.modFio_sup (f : FioState → FioState) (s : State) : (s.modFio f).sup = s.sup := rfl
@[simp] theorem State.modFio_pwr (f : FioState → FioState) (s : State) : (s.modFio f).pwr = s.pwr := rfl
@[simp] theorem State.modFio_thm (f : FioState → FioState) (s : State) : (s.modFio f).thm = s.thm := rfl
@[simp] theorem State.modFio_bst (f : FioState → FioState) (s : State) : (s.modFio f).bst = s.bst := rfl
@[simp] theorem State.modFio_tim (f : FioState → FioState) (s : State) : (s.modFio f).tim = s.tim := rfl
@[simp] theorem State.modFio_gns (f : FioState → FioState) (s : State) : (s.modFio f).gns = s.gns := rfl
@[simp] theorem State.modFio_fus (f : FioState → FioState) (s : State) : (s.modFio f).fus = s.fus := rfl
@[simp] theorem State.modFio_slv (f : FioState → FioState) (s : State) : (s.modFio f).slv = s.slv := rfl
@[simp] theorem State.modFio_ctl (f : FioState → FioState) (s : State) : (s.modFio f).ctl = s.ctl := rfl
@[simp] theorem State.modFio_srv (f : FioState → FioState) (s : State) : (s.modFio f).srv = s.srv := rfl
@[simp] theorem State.modFio_sig (f : FioState → FioState) (s : State) : (s.modFio f).sig = s.sig := rfl
@[simp] theorem State.modFio_fio (f : FioState → FioState) (s : State) : (s.modFio f).fio = f s.fio := rfl
@[simp] theorem State.modFio_saf (f : FioState → FioState) (s : State) : (s.modFio f).saf = s.saf := rfl
@[simp] theorem State.modFio_can (f : FioState → FioState) (s : State) : (s.modFio f).can = s.can := rfl
@[simp] theorem State.modFio_ser (f : FioState → FioState) (s : State) : (s.modFio f).ser = s.ser := rfl
@[simp] theorem State.modFio_eth (f : FioState → FioState) (s : State) : (s.modFio f).eth = s.eth := rfl
@[simp] theorem State.modFio_ses (f : FioState → FioState) (s : State) : (s.modFio f).ses = s.ses := rfl
@[simp] theorem State.modFio_icx (f : FioState → FioState) (s : State) : (s.modFio f).icx = s.icx := rfl
@[simp] theorem State.modFio_aqf (f : FioState → FioState) (s : State) : (s.modFio f).aqf = s.aqf := rfl
@[simp] theorem State.modFio_cfg (f : FioState → FioState) (s : State) : (s.modFio f).cfg = s.cfg := rfl
@[simp] theorem State.modFio_free (f : FioState → FioState) (s : State) : (s.modFio f).free = s.free := rfl
@[simp] theorem State.modFio_pending (f : FioState → FioState) (s : State) : (s.modFio f).pending = s.pending := rfl
@[simp] theorem State.modSaf_hdr (f : SafState → SafState) (s : State) : (s.modSaf f).hdr = s.hdr := rfl
@[simp] theorem State.modSaf_tags (f : SafState → SafState) (s : State) : (s.modSaf f).tags = s.tags := rfl
@[simp] theorem State.modSaf_log (f : SafState → SafState) (s : State) : (s.modSaf f).log = s.log := rfl
@[simp] theorem State.modSaf_sup (f : SafState → SafState) (s : State) : (s.modSaf f).sup = s.sup := rfl
@[simp] theorem State.modSaf_pwr (f : SafState → SafState) (s : State) : (s.modSaf f).pwr = s.pwr := rfl
@[simp] theorem State.modSaf_thm (f : SafState → SafState) (s : State) : (s.modSaf f).thm = s.thm := rfl
@[simp] theorem State.modSaf_bst (f : SafState → SafState) (s : State) : (s.modSaf f).bst = s.bst := rfl
@[simp] theorem State.modSaf_tim (f : SafState → SafState) (s : State) : (s.modSaf f).tim = s.tim := rfl
@[simp] theorem State.modSaf_gns (f : SafState → SafState) (s : State) : (s.modSaf f).gns = s.gns := rfl
@[simp] theorem State.modSaf_fus (f : SafState → SafState) (s : State) : (s.modSaf f).fus = s.fus := rfl
@[simp] theorem State.modSaf_slv (f : SafState → SafState) (s : State) : (s.modSaf f).slv = s.slv := rfl
@[simp] theorem State.modSaf_ctl (f : SafState → SafState) (s : State) : (s.modSaf f).ctl = s.ctl := rfl
@[simp] theorem State.modSaf_srv (f : SafState → SafState) (s : State) : (s.modSaf f).srv = s.srv := rfl
@[simp] theorem State.modSaf_sig (f : SafState → SafState) (s : State) : (s.modSaf f).sig = s.sig := rfl
@[simp] theorem State.modSaf_fio (f : SafState → SafState) (s : State) : (s.modSaf f).fio = s.fio := rfl
@[simp] theorem State.modSaf_saf (f : SafState → SafState) (s : State) : (s.modSaf f).saf = f s.saf := rfl
@[simp] theorem State.modSaf_can (f : SafState → SafState) (s : State) : (s.modSaf f).can = s.can := rfl
@[simp] theorem State.modSaf_ser (f : SafState → SafState) (s : State) : (s.modSaf f).ser = s.ser := rfl
@[simp] theorem State.modSaf_eth (f : SafState → SafState) (s : State) : (s.modSaf f).eth = s.eth := rfl
@[simp] theorem State.modSaf_ses (f : SafState → SafState) (s : State) : (s.modSaf f).ses = s.ses := rfl
@[simp] theorem State.modSaf_icx (f : SafState → SafState) (s : State) : (s.modSaf f).icx = s.icx := rfl
@[simp] theorem State.modSaf_aqf (f : SafState → SafState) (s : State) : (s.modSaf f).aqf = s.aqf := rfl
@[simp] theorem State.modSaf_cfg (f : SafState → SafState) (s : State) : (s.modSaf f).cfg = s.cfg := rfl
@[simp] theorem State.modSaf_free (f : SafState → SafState) (s : State) : (s.modSaf f).free = s.free := rfl
@[simp] theorem State.modSaf_pending (f : SafState → SafState) (s : State) : (s.modSaf f).pending = s.pending := rfl
@[simp] theorem State.modCan_hdr (f : CanState → CanState) (s : State) : (s.modCan f).hdr = s.hdr := rfl
@[simp] theorem State.modCan_tags (f : CanState → CanState) (s : State) : (s.modCan f).tags = s.tags := rfl
@[simp] theorem State.modCan_log (f : CanState → CanState) (s : State) : (s.modCan f).log = s.log := rfl
@[simp] theorem State.modCan_sup (f : CanState → CanState) (s : State) : (s.modCan f).sup = s.sup := rfl
@[simp] theorem State.modCan_pwr (f : CanState → CanState) (s : State) : (s.modCan f).pwr = s.pwr := rfl
@[simp] theorem State.modCan_thm (f : CanState → CanState) (s : State) : (s.modCan f).thm = s.thm := rfl
@[simp] theorem State.modCan_bst (f : CanState → CanState) (s : State) : (s.modCan f).bst = s.bst := rfl
@[simp] theorem State.modCan_tim (f : CanState → CanState) (s : State) : (s.modCan f).tim = s.tim := rfl
@[simp] theorem State.modCan_gns (f : CanState → CanState) (s : State) : (s.modCan f).gns = s.gns := rfl
@[simp] theorem State.modCan_fus (f : CanState → CanState) (s : State) : (s.modCan f).fus = s.fus := rfl
@[simp] theorem State.modCan_slv (f : CanState → CanState) (s : State) : (s.modCan f).slv = s.slv := rfl
@[simp] theorem State.modCan_ctl (f : CanState → CanState) (s : State) : (s.modCan f).ctl = s.ctl := rfl
@[simp] theorem State.modCan_srv (f : CanState → CanState) (s : State) : (s.modCan f).srv = s.srv := rfl
@[simp] theorem State.modCan_sig (f : CanState → CanState) (s : State) : (s.modCan f).sig = s.sig := rfl
@[simp] theorem State.modCan_fio (f : CanState → CanState) (s : State) : (s.modCan f).fio = s.fio := rfl
@[simp] theorem State.modCan_saf (f : CanState → CanState) (s : State) : (s.modCan f).saf = s.saf := rfl
@[simp] theorem State.modCan_can (f : CanState → CanState) (s : State) : (s.modCan f).can = f s.can := rfl
@[simp] theorem State.modCan_ser (f : CanState → CanState) (s : State) : (s.modCan f).ser = s.ser := rfl
@[simp] theorem State.modCan_eth (f : CanState → CanState) (s : State) : (s.modCan f).eth = s.eth := rfl
@[simp] theorem State.modCan_ses (f : CanState → CanState) (s : State) : (s.modCan f).ses = s.ses := rfl
@[simp] theorem State.modCan_icx (f : CanState → CanState) (s : State) : (s.modCan f).icx = s.icx := rfl
@[simp] theorem State.modCan_aqf (f : CanState → CanState) (s : State) : (s.modCan f).aqf = s.aqf := rfl
@[simp] theorem State.modCan_cfg (f : CanState → CanState) (s : State) : (s.modCan f).cfg = s.cfg := rfl
@[simp] theorem State.modCan_free (f : CanState → CanState) (s : State) : (s.modCan f).free = s.free := rfl
@[simp] theorem State.modCan_pending (f : CanState → CanState) (s : State) : (s.modCan f).pending = s.pending := rfl
@[simp] theorem State.modSer_hdr (f : SerState → SerState) (s : State) : (s.modSer f).hdr = s.hdr := rfl
@[simp] theorem State.modSer_tags (f : SerState → SerState) (s : State) : (s.modSer f).tags = s.tags := rfl
@[simp] theorem State.modSer_log (f : SerState → SerState) (s : State) : (s.modSer f).log = s.log := rfl
@[simp] theorem State.modSer_sup (f : SerState → SerState) (s : State) : (s.modSer f).sup = s.sup := rfl
@[simp] theorem State.modSer_pwr (f : SerState → SerState) (s : State) : (s.modSer f).pwr = s.pwr := rfl
@[simp] theorem State.modSer_thm (f : SerState → SerState) (s : State) : (s.modSer f).thm = s.thm := rfl
@[simp] theorem State.modSer_bst (f : SerState → SerState) (s : State) : (s.modSer f).bst = s.bst := rfl
@[simp] theorem State.modSer_tim (f : SerState → SerState) (s : State) : (s.modSer f).tim = s.tim := rfl
@[simp] theorem State.modSer_gns (f : SerState → SerState) (s : State) : (s.modSer f).gns = s.gns := rfl
@[simp] theorem State.modSer_fus (f : SerState → SerState) (s : State) : (s.modSer f).fus = s.fus := rfl
@[simp] theorem State.modSer_slv (f : SerState → SerState) (s : State) : (s.modSer f).slv = s.slv := rfl
@[simp] theorem State.modSer_ctl (f : SerState → SerState) (s : State) : (s.modSer f).ctl = s.ctl := rfl
@[simp] theorem State.modSer_srv (f : SerState → SerState) (s : State) : (s.modSer f).srv = s.srv := rfl
@[simp] theorem State.modSer_sig (f : SerState → SerState) (s : State) : (s.modSer f).sig = s.sig := rfl
@[simp] theorem State.modSer_fio (f : SerState → SerState) (s : State) : (s.modSer f).fio = s.fio := rfl
@[simp] theorem State.modSer_saf (f : SerState → SerState) (s : State) : (s.modSer f).saf = s.saf := rfl
@[simp] theorem State.modSer_can (f : SerState → SerState) (s : State) : (s.modSer f).can = s.can := rfl
@[simp] theorem State.modSer_ser (f : SerState → SerState) (s : State) : (s.modSer f).ser = f s.ser := rfl
@[simp] theorem State.modSer_eth (f : SerState → SerState) (s : State) : (s.modSer f).eth = s.eth := rfl
@[simp] theorem State.modSer_ses (f : SerState → SerState) (s : State) : (s.modSer f).ses = s.ses := rfl
@[simp] theorem State.modSer_icx (f : SerState → SerState) (s : State) : (s.modSer f).icx = s.icx := rfl
@[simp] theorem State.modSer_aqf (f : SerState → SerState) (s : State) : (s.modSer f).aqf = s.aqf := rfl
@[simp] theorem State.modSer_cfg (f : SerState → SerState) (s : State) : (s.modSer f).cfg = s.cfg := rfl
@[simp] theorem State.modSer_free (f : SerState → SerState) (s : State) : (s.modSer f).free = s.free := rfl
@[simp] theorem State.modSer_pending (f : SerState → SerState) (s : State) : (s.modSer f).pending = s.pending := rfl
@[simp] theorem State.modEth_hdr (f : EthState → EthState) (s : State) : (s.modEth f).hdr = s.hdr := rfl
@[simp] theorem State.modEth_tags (f : EthState → EthState) (s : State) : (s.modEth f).tags = s.tags := rfl
@[simp] theorem State.modEth_log (f : EthState → EthState) (s : State) : (s.modEth f).log = s.log := rfl
@[simp] theorem State.modEth_sup (f : EthState → EthState) (s : State) : (s.modEth f).sup = s.sup := rfl
@[simp] theorem State.modEth_pwr (f : EthState → EthState) (s : State) : (s.modEth f).pwr = s.pwr := rfl
@[simp] theorem State.modEth_thm (f : EthState → EthState) (s : State) : (s.modEth f).thm = s.thm := rfl
@[simp] theorem State.modEth_bst (f : EthState → EthState) (s : State) : (s.modEth f).bst = s.bst := rfl
@[simp] theorem State.modEth_tim (f : EthState → EthState) (s : State) : (s.modEth f).tim = s.tim := rfl
@[simp] theorem State.modEth_gns (f : EthState → EthState) (s : State) : (s.modEth f).gns = s.gns := rfl
@[simp] theorem State.modEth_fus (f : EthState → EthState) (s : State) : (s.modEth f).fus = s.fus := rfl
@[simp] theorem State.modEth_slv (f : EthState → EthState) (s : State) : (s.modEth f).slv = s.slv := rfl
@[simp] theorem State.modEth_ctl (f : EthState → EthState) (s : State) : (s.modEth f).ctl = s.ctl := rfl
@[simp] theorem State.modEth_srv (f : EthState → EthState) (s : State) : (s.modEth f).srv = s.srv := rfl
@[simp] theorem State.modEth_sig (f : EthState → EthState) (s : State) : (s.modEth f).sig = s.sig := rfl
@[simp] theorem State.modEth_fio (f : EthState → EthState) (s : State) : (s.modEth f).fio = s.fio := rfl
@[simp] theorem State.modEth_saf (f : EthState → EthState) (s : State) : (s.modEth f).saf = s.saf := rfl
@[simp] theorem State.modEth_can (f : EthState → EthState) (s : State) : (s.modEth f).can = s.can := rfl
@[simp] theorem State.modEth_ser (f : EthState → EthState) (s : State) : (s.modEth f).ser = s.ser := rfl
@[simp] theorem State.modEth_eth (f : EthState → EthState) (s : State) : (s.modEth f).eth = f s.eth := rfl
@[simp] theorem State.modEth_ses (f : EthState → EthState) (s : State) : (s.modEth f).ses = s.ses := rfl
@[simp] theorem State.modEth_icx (f : EthState → EthState) (s : State) : (s.modEth f).icx = s.icx := rfl
@[simp] theorem State.modEth_aqf (f : EthState → EthState) (s : State) : (s.modEth f).aqf = s.aqf := rfl
@[simp] theorem State.modEth_cfg (f : EthState → EthState) (s : State) : (s.modEth f).cfg = s.cfg := rfl
@[simp] theorem State.modEth_free (f : EthState → EthState) (s : State) : (s.modEth f).free = s.free := rfl
@[simp] theorem State.modEth_pending (f : EthState → EthState) (s : State) : (s.modEth f).pending = s.pending := rfl
@[simp] theorem State.modSes_hdr (f : SesState → SesState) (s : State) : (s.modSes f).hdr = s.hdr := rfl
@[simp] theorem State.modSes_tags (f : SesState → SesState) (s : State) : (s.modSes f).tags = s.tags := rfl
@[simp] theorem State.modSes_log (f : SesState → SesState) (s : State) : (s.modSes f).log = s.log := rfl
@[simp] theorem State.modSes_sup (f : SesState → SesState) (s : State) : (s.modSes f).sup = s.sup := rfl
@[simp] theorem State.modSes_pwr (f : SesState → SesState) (s : State) : (s.modSes f).pwr = s.pwr := rfl
@[simp] theorem State.modSes_thm (f : SesState → SesState) (s : State) : (s.modSes f).thm = s.thm := rfl
@[simp] theorem State.modSes_bst (f : SesState → SesState) (s : State) : (s.modSes f).bst = s.bst := rfl
@[simp] theorem State.modSes_tim (f : SesState → SesState) (s : State) : (s.modSes f).tim = s.tim := rfl
@[simp] theorem State.modSes_gns (f : SesState → SesState) (s : State) : (s.modSes f).gns = s.gns := rfl
@[simp] theorem State.modSes_fus (f : SesState → SesState) (s : State) : (s.modSes f).fus = s.fus := rfl
@[simp] theorem State.modSes_slv (f : SesState → SesState) (s : State) : (s.modSes f).slv = s.slv := rfl
@[simp] theorem State.modSes_ctl (f : SesState → SesState) (s : State) : (s.modSes f).ctl = s.ctl := rfl
@[simp] theorem State.modSes_srv (f : SesState → SesState) (s : State) : (s.modSes f).srv = s.srv := rfl
@[simp] theorem State.modSes_sig (f : SesState → SesState) (s : State) : (s.modSes f).sig = s.sig := rfl
@[simp] theorem State.modSes_fio (f : SesState → SesState) (s : State) : (s.modSes f).fio = s.fio := rfl
@[simp] theorem State.modSes_saf (f : SesState → SesState) (s : State) : (s.modSes f).saf = s.saf := rfl
@[simp] theorem State.modSes_can (f : SesState → SesState) (s : State) : (s.modSes f).can = s.can := rfl
@[simp] theorem State.modSes_ser (f : SesState → SesState) (s : State) : (s.modSes f).ser = s.ser := rfl
@[simp] theorem State.modSes_eth (f : SesState → SesState) (s : State) : (s.modSes f).eth = s.eth := rfl
@[simp] theorem State.modSes_ses (f : SesState → SesState) (s : State) : (s.modSes f).ses = f s.ses := rfl
@[simp] theorem State.modSes_icx (f : SesState → SesState) (s : State) : (s.modSes f).icx = s.icx := rfl
@[simp] theorem State.modSes_aqf (f : SesState → SesState) (s : State) : (s.modSes f).aqf = s.aqf := rfl
@[simp] theorem State.modSes_cfg (f : SesState → SesState) (s : State) : (s.modSes f).cfg = s.cfg := rfl
@[simp] theorem State.modSes_free (f : SesState → SesState) (s : State) : (s.modSes f).free = s.free := rfl
@[simp] theorem State.modSes_pending (f : SesState → SesState) (s : State) : (s.modSes f).pending = s.pending := rfl
@[simp] theorem State.modIcx_hdr (f : IcxState → IcxState) (s : State) : (s.modIcx f).hdr = s.hdr := rfl
@[simp] theorem State.modIcx_tags (f : IcxState → IcxState) (s : State) : (s.modIcx f).tags = s.tags := rfl
@[simp] theorem State.modIcx_log (f : IcxState → IcxState) (s : State) : (s.modIcx f).log = s.log := rfl
@[simp] theorem State.modIcx_sup (f : IcxState → IcxState) (s : State) : (s.modIcx f).sup = s.sup := rfl
@[simp] theorem State.modIcx_pwr (f : IcxState → IcxState) (s : State) : (s.modIcx f).pwr = s.pwr := rfl
@[simp] theorem State.modIcx_thm (f : IcxState → IcxState) (s : State) : (s.modIcx f).thm = s.thm := rfl
@[simp] theorem State.modIcx_bst (f : IcxState → IcxState) (s : State) : (s.modIcx f).bst = s.bst := rfl
@[simp] theorem State.modIcx_tim (f : IcxState → IcxState) (s : State) : (s.modIcx f).tim = s.tim := rfl
@[simp] theorem State.modIcx_gns (f : IcxState → IcxState) (s : State) : (s.modIcx f).gns = s.gns := rfl
@[simp] theorem State.modIcx_fus (f : IcxState → IcxState) (s : State) : (s.modIcx f).fus = s.fus := rfl
@[simp] theorem State.modIcx_slv (f : IcxState → IcxState) (s : State) : (s.modIcx f).slv = s.slv := rfl
@[simp] theorem State.modIcx_ctl (f : IcxState → IcxState) (s : State) : (s.modIcx f).ctl = s.ctl := rfl
@[simp] theorem State.modIcx_srv (f : IcxState → IcxState) (s : State) : (s.modIcx f).srv = s.srv := rfl
@[simp] theorem State.modIcx_sig (f : IcxState → IcxState) (s : State) : (s.modIcx f).sig = s.sig := rfl
@[simp] theorem State.modIcx_fio (f : IcxState → IcxState) (s : State) : (s.modIcx f).fio = s.fio := rfl
@[simp] theorem State.modIcx_saf (f : IcxState → IcxState) (s : State) : (s.modIcx f).saf = s.saf := rfl
@[simp] theorem State.modIcx_can (f : IcxState → IcxState) (s : State) : (s.modIcx f).can = s.can := rfl
@[simp] theorem State.modIcx_ser (f : IcxState → IcxState) (s : State) : (s.modIcx f).ser = s.ser := rfl
@[simp] theorem State.modIcx_eth (f : IcxState → IcxState) (s : State) : (s.modIcx f).eth = s.eth := rfl
@[simp] theorem State.modIcx_ses (f : IcxState → IcxState) (s : State) : (s.modIcx f).ses = s.ses := rfl
@[simp] theorem State.modIcx_icx (f : IcxState → IcxState) (s : State) : (s.modIcx f).icx = f s.icx := rfl
@[simp] theorem State.modIcx_aqf (f : IcxState → IcxState) (s : State) : (s.modIcx f).aqf = s.aqf := rfl
@[simp] theorem State.modIcx_cfg (f : IcxState → IcxState) (s : State) : (s.modIcx f).cfg = s.cfg := rfl
@[simp] theorem State.modIcx_free (f : IcxState → IcxState) (s : State) : (s.modIcx f).free = s.free := rfl
@[simp] theorem State.modIcx_pending (f : IcxState → IcxState) (s : State) : (s.modIcx f).pending = s.pending := rfl
@[simp] theorem State.modAqf_hdr (f : AqfState → AqfState) (s : State) : (s.modAqf f).hdr = s.hdr := rfl
@[simp] theorem State.modAqf_tags (f : AqfState → AqfState) (s : State) : (s.modAqf f).tags = s.tags := rfl
@[simp] theorem State.modAqf_log (f : AqfState → AqfState) (s : State) : (s.modAqf f).log = s.log := rfl
@[simp] theorem State.modAqf_sup (f : AqfState → AqfState) (s : State) : (s.modAqf f).sup = s.sup := rfl
@[simp] theorem State.modAqf_pwr (f : AqfState → AqfState) (s : State) : (s.modAqf f).pwr = s.pwr := rfl
@[simp] theorem State.modAqf_thm (f : AqfState → AqfState) (s : State) : (s.modAqf f).thm = s.thm := rfl
@[simp] theorem State.modAqf_bst (f : AqfState → AqfState) (s : State) : (s.modAqf f).bst = s.bst := rfl
@[simp] theorem State.modAqf_tim (f : AqfState → AqfState) (s : State) : (s.modAqf f).tim = s.tim := rfl
@[simp] theorem State.modAqf_gns (f : AqfState → AqfState) (s : State) : (s.modAqf f).gns = s.gns := rfl
@[simp] theorem State.modAqf_fus (f : AqfState → AqfState) (s : State) : (s.modAqf f).fus = s.fus := rfl
@[simp] theorem State.modAqf_slv (f : AqfState → AqfState) (s : State) : (s.modAqf f).slv = s.slv := rfl
@[simp] theorem State.modAqf_ctl (f : AqfState → AqfState) (s : State) : (s.modAqf f).ctl = s.ctl := rfl
@[simp] theorem State.modAqf_srv (f : AqfState → AqfState) (s : State) : (s.modAqf f).srv = s.srv := rfl
@[simp] theorem State.modAqf_sig (f : AqfState → AqfState) (s : State) : (s.modAqf f).sig = s.sig := rfl
@[simp] theorem State.modAqf_fio (f : AqfState → AqfState) (s : State) : (s.modAqf f).fio = s.fio := rfl
@[simp] theorem State.modAqf_saf (f : AqfState → AqfState) (s : State) : (s.modAqf f).saf = s.saf := rfl
@[simp] theorem State.modAqf_can (f : AqfState → AqfState) (s : State) : (s.modAqf f).can = s.can := rfl
@[simp] theorem State.modAqf_ser (f : AqfState → AqfState) (s : State) : (s.modAqf f).ser = s.ser := rfl
@[simp] theorem State.modAqf_eth (f : AqfState → AqfState) (s : State) : (s.modAqf f).eth = s.eth := rfl
@[simp] theorem State.modAqf_ses (f : AqfState → AqfState) (s : State) : (s.modAqf f).ses = s.ses := rfl
@[simp] theorem State.modAqf_icx (f : AqfState → AqfState) (s : State) : (s.modAqf f).icx = s.icx := rfl
@[simp] theorem State.modAqf_aqf (f : AqfState → AqfState) (s : State) : (s.modAqf f).aqf = f s.aqf := rfl
@[simp] theorem State.modAqf_cfg (f : AqfState → AqfState) (s : State) : (s.modAqf f).cfg = s.cfg := rfl
@[simp] theorem State.modAqf_free (f : AqfState → AqfState) (s : State) : (s.modAqf f).free = s.free := rfl
@[simp] theorem State.modAqf_pending (f : AqfState → AqfState) (s : State) : (s.modAqf f).pending = s.pending := rfl
@[simp] theorem State.modCfg_hdr (f : CfgState → CfgState) (s : State) : (s.modCfg f).hdr = s.hdr := rfl
@[simp] theorem State.modCfg_tags (f : CfgState → CfgState) (s : State) : (s.modCfg f).tags = s.tags := rfl
@[simp] theorem State.modCfg_log (f : CfgState → CfgState) (s : State) : (s.modCfg f).log = s.log := rfl
@[simp] theorem State.modCfg_sup (f : CfgState → CfgState) (s : State) : (s.modCfg f).sup = s.sup := rfl
@[simp] theorem State.modCfg_pwr (f : CfgState → CfgState) (s : State) : (s.modCfg f).pwr = s.pwr := rfl
@[simp] theorem State.modCfg_thm (f : CfgState → CfgState) (s : State) : (s.modCfg f).thm = s.thm := rfl
@[simp] theorem State.modCfg_bst (f : CfgState → CfgState) (s : State) : (s.modCfg f).bst = s.bst := rfl
@[simp] theorem State.modCfg_tim (f : CfgState → CfgState) (s : State) : (s.modCfg f).tim = s.tim := rfl
@[simp] theorem State.modCfg_gns (f : CfgState → CfgState) (s : State) : (s.modCfg f).gns = s.gns := rfl
@[simp] theorem State.modCfg_fus (f : CfgState → CfgState) (s : State) : (s.modCfg f).fus = s.fus := rfl
@[simp] theorem State.modCfg_slv (f : CfgState → CfgState) (s : State) : (s.modCfg f).slv = s.slv := rfl
@[simp] theorem State.modCfg_ctl (f : CfgState → CfgState) (s : State) : (s.modCfg f).ctl = s.ctl := rfl
@[simp] theorem State.modCfg_srv (f : CfgState → CfgState) (s : State) : (s.modCfg f).srv = s.srv := rfl
@[simp] theorem State.modCfg_sig (f : CfgState → CfgState) (s : State) : (s.modCfg f).sig = s.sig := rfl
@[simp] theorem State.modCfg_fio (f : CfgState → CfgState) (s : State) : (s.modCfg f).fio = s.fio := rfl
@[simp] theorem State.modCfg_saf (f : CfgState → CfgState) (s : State) : (s.modCfg f).saf = s.saf := rfl
@[simp] theorem State.modCfg_can (f : CfgState → CfgState) (s : State) : (s.modCfg f).can = s.can := rfl
@[simp] theorem State.modCfg_ser (f : CfgState → CfgState) (s : State) : (s.modCfg f).ser = s.ser := rfl
@[simp] theorem State.modCfg_eth (f : CfgState → CfgState) (s : State) : (s.modCfg f).eth = s.eth := rfl
@[simp] theorem State.modCfg_ses (f : CfgState → CfgState) (s : State) : (s.modCfg f).ses = s.ses := rfl
@[simp] theorem State.modCfg_icx (f : CfgState → CfgState) (s : State) : (s.modCfg f).icx = s.icx := rfl
@[simp] theorem State.modCfg_aqf (f : CfgState → CfgState) (s : State) : (s.modCfg f).aqf = s.aqf := rfl
@[simp] theorem State.modCfg_cfg (f : CfgState → CfgState) (s : State) : (s.modCfg f).cfg = f s.cfg := rfl
@[simp] theorem State.modCfg_free (f : CfgState → CfgState) (s : State) : (s.modCfg f).free = s.free := rfl
@[simp] theorem State.modCfg_pending (f : CfgState → CfgState) (s : State) : (s.modCfg f).pending = s.pending := rfl

end Sys2Proof.Machine
end

