-- ==== Sys2Proof/Laws/Ops.lean ====
section
/-!
SUPPORT. What raising an event changes: the headers, Sediment and the push queues, and nothing else.
-/
set_option autoImplicit false
namespace Sys2Proof.Machine

/-! ### Drawing and advancing -/

@[simp] theorem State.draw_hdr (s : State) : s.draw.hdr = s.hdr := rfl
@[simp] theorem State.draw_tags (s : State) : s.draw.tags = s.tags := rfl
@[simp] theorem State.draw_log (s : State) : s.draw.log = s.log := rfl
@[simp] theorem State.draw_sup (s : State) : s.draw.sup = s.sup := rfl
@[simp] theorem State.draw_pwr (s : State) : s.draw.pwr = s.pwr := rfl
@[simp] theorem State.draw_thm (s : State) : s.draw.thm = s.thm := rfl
@[simp] theorem State.draw_bst (s : State) : s.draw.bst = s.bst := rfl
@[simp] theorem State.draw_tim (s : State) : s.draw.tim = s.tim := rfl
@[simp] theorem State.draw_gns (s : State) : s.draw.gns = s.gns := rfl
@[simp] theorem State.draw_fus (s : State) : s.draw.fus = s.fus := rfl
@[simp] theorem State.draw_slv (s : State) : s.draw.slv = s.slv := rfl
@[simp] theorem State.draw_ctl (s : State) : s.draw.ctl = s.ctl := rfl
@[simp] theorem State.draw_srv (s : State) : s.draw.srv = s.srv := rfl
@[simp] theorem State.draw_sig (s : State) : s.draw.sig = s.sig := rfl
@[simp] theorem State.draw_fio (s : State) : s.draw.fio = s.fio := rfl
@[simp] theorem State.draw_saf (s : State) : s.draw.saf = s.saf := rfl
@[simp] theorem State.draw_can (s : State) : s.draw.can = s.can := rfl
@[simp] theorem State.draw_ser (s : State) : s.draw.ser = s.ser := rfl
@[simp] theorem State.draw_eth (s : State) : s.draw.eth = s.eth := rfl
@[simp] theorem State.draw_ses (s : State) : s.draw.ses = s.ses := rfl
@[simp] theorem State.draw_icx (s : State) : s.draw.icx = s.icx := rfl
@[simp] theorem State.draw_aqf (s : State) : s.draw.aqf = s.aqf := rfl
@[simp] theorem State.draw_cfg (s : State) : s.draw.cfg = s.cfg := rfl
@[simp] theorem State.draw_free (s : State) : s.draw.free = s.free + 1 := rfl
@[simp] theorem State.draw_pending (s : State) : s.draw.pending = s.pending := rfl
@[simp] theorem State.advance_hdr (t : Nat) (s : State) : (s.advance t).hdr = s.hdr := rfl
@[simp] theorem State.advance_tags (t : Nat) (s : State) : (s.advance t).tags = s.tags := rfl
@[simp] theorem State.advance_log (t : Nat) (s : State) : (s.advance t).log = s.log := rfl
@[simp] theorem State.advance_sup (t : Nat) (s : State) : (s.advance t).sup = s.sup := rfl
@[simp] theorem State.advance_pwr (t : Nat) (s : State) : (s.advance t).pwr = s.pwr := rfl
@[simp] theorem State.advance_thm (t : Nat) (s : State) : (s.advance t).thm = s.thm := rfl
@[simp] theorem State.advance_bst (t : Nat) (s : State) : (s.advance t).bst = s.bst := rfl
@[simp] theorem State.advance_gns (t : Nat) (s : State) : (s.advance t).gns = s.gns := rfl
@[simp] theorem State.advance_fus (t : Nat) (s : State) : (s.advance t).fus = s.fus := rfl
@[simp] theorem State.advance_slv (t : Nat) (s : State) : (s.advance t).slv = s.slv := rfl
@[simp] theorem State.advance_ctl (t : Nat) (s : State) : (s.advance t).ctl = s.ctl := rfl
@[simp] theorem State.advance_srv (t : Nat) (s : State) : (s.advance t).srv = s.srv := rfl
@[simp] theorem State.advance_sig (t : Nat) (s : State) : (s.advance t).sig = s.sig := rfl
@[simp] theorem State.advance_fio (t : Nat) (s : State) : (s.advance t).fio = s.fio := rfl
@[simp] theorem State.advance_saf (t : Nat) (s : State) : (s.advance t).saf = s.saf := rfl
@[simp] theorem State.advance_can (t : Nat) (s : State) : (s.advance t).can = s.can := rfl
@[simp] theorem State.advance_ser (t : Nat) (s : State) : (s.advance t).ser = s.ser := rfl
@[simp] theorem State.advance_eth (t : Nat) (s : State) : (s.advance t).eth = s.eth := rfl
@[simp] theorem State.advance_ses (t : Nat) (s : State) : (s.advance t).ses = s.ses := rfl
@[simp] theorem State.advance_icx (t : Nat) (s : State) : (s.advance t).icx = s.icx := rfl
@[simp] theorem State.advance_aqf (t : Nat) (s : State) : (s.advance t).aqf = s.aqf := rfl
@[simp] theorem State.advance_cfg (t : Nat) (s : State) : (s.advance t).cfg = s.cfg := rfl
@[simp] theorem State.advance_free (t : Nat) (s : State) : (s.advance t).free = s.free := rfl
@[simp] theorem State.advance_pending (t : Nat) (s : State) : (s.advance t).pending = s.pending := rfl
@[simp] theorem State.advance_now (t : Nat) (s : State) : (s.advance t).tim.now = max s.tim.now t := rfl

/-! ### Pushes -/

/-- A session without its push queue. -/
def Session.bare (x : Session) : Session := { x with push := [], gap := 0 }

/-- Two states of the sessions that differ in their push queues only. -/
def SesState.alike (a b : SesState) : Prop :=
  (∃ d l, b = { a with pushDrops := d, sessions := l }) ∧ b.sessions.map Session.bare = a.sessions.map Session.bare

theorem SesState.alike_refl (a : SesState) : a.alike a := ⟨⟨_, _, rfl⟩, rfl⟩

theorem SesState.alike_trans (a b c : SesState) (h : a.alike b) (k : b.alike c) : a.alike c := by
  obtain ⟨⟨d, l, rfl⟩, h⟩ := h
  obtain ⟨⟨d', l', rfl⟩, k⟩ := k
  exact ⟨⟨d', l', rfl⟩, k.trans h⟩

theorem pushRecord_alike (r : SedRecord) (b : SesState) : b.alike (pushRecord r b) := by
  refine ⟨⟨_, _, rfl⟩, ?_⟩
  simp only [pushRecord, List.map_map]
  refine List.map_congr_left fun x _ => ?_
  simp only [Function.comp]
  split
  · split <;> rfl
  · rfl

theorem pushAll_alike (l : List SedRecord) (b : SesState) : b.alike (l.foldl (fun b r => pushRecord r b) b) := by
  induction l generalizing b with
  | nil => exact b.alike_refl
  | cons r l ih => exact b.alike_trans _ _ (pushRecord_alike r b) (ih _)

theorem SesState.alike_length (a b : SesState) (h : a.alike b) : b.sessions.length = a.sessions.length := by
  simpa using congrArg List.length h.2

theorem SesState.alike_session (a b : SesState) (h : a.alike b) (i : Nat) : (b.session i).bare = (a.session i).bare := by
  have e := congrArg (fun l => l[i]?) h.2
  simp only [List.getElem?_map] at e
  simp only [SesState.session, List.getD_eq_getElem?_getD]
  cases ha : a.sessions[i]? <;> cases hb : b.sessions[i]? <;> simp_all

/-! ### Events -/

theorem State.overflowFirst_eq (s : State) :
    ∃ h l, s.overflowFirst = { s with hdr := h, log := l } ∧ h.length = s.hdr.length := by
  unfold State.overflowFirst
  split
  · exact ⟨_, _, rfl, by simp [countEvent, updAt]⟩
  · exact ⟨_, _, rfl, rfl⟩

/-- Raising an event changes the headers, Sediment and the push queues. -/
theorem State.raise_eq (s : State) (code inst : Nat) (d : Bytes) :
    ∃ h l b, s.raise code inst d = { s with hdr := countEvent (code / 256) inst code h, log := l, ses := b } ∧ s.ses.alike b
      ∧ h.length = s.hdr.length := by
  obtain ⟨h, l, e, n⟩ := s.overflowFirst_eq
  unfold State.raise
  rw [e]
  dsimp only
  split
  · exact ⟨_, _, _, rfl, pushAll_alike _ _, by simpa [countEvent, updAt] using n⟩
  · exact ⟨_, _, _, rfl, pushAll_alike _ _, n⟩

theorem State.raiseForced_eq (s : State) (code inst : Nat) (d : Bytes) :
    ∃ h l b, s.raiseForced code inst d = { s with hdr := countEvent (code / 256) inst code h, log := l, ses := b } ∧ s.ses.alike b
      ∧ h.length = s.hdr.length :=
  ⟨_, _, _, rfl, pushAll_alike _ _, rfl⟩

theorem SesState.alike_phase (a b : SesState) (h : a.alike b) (i : Nat) : (b.session i).phase = (a.session i).phase := by
  have k := congrArg Session.phase (SesState.alike_session a b h i); exact k
theorem SesState.alike_role (a b : SesState) (h : a.alike b) (i : Nat) : (b.session i).role = (a.session i).role := by
  have k := congrArg Session.role (SesState.alike_session a b h i); exact k
theorem SesState.alike_method (a b : SesState) (h : a.alike b) (i : Nat) : (b.session i).method = (a.session i).method := by
  have k := congrArg Session.method (SesState.alike_session a b h i); exact k
theorem SesState.alike_port (a b : SesState) (h : a.alike b) (i : Nat) : (b.session i).port = (a.session i).port := by
  have k := congrArg Session.port (SesState.alike_session a b h i); exact k
theorem SesState.alike_conn (a b : SesState) (h : a.alike b) (i : Nat) : (b.session i).conn = (a.session i).conn := by
  have k := congrArg Session.conn (SesState.alike_session a b h i); exact k
theorem SesState.alike_source (a b : SesState) (h : a.alike b) (i : Nat) : (b.session i).source = (a.session i).source := by
  have k := congrArg Session.source (SesState.alike_session a b h i); exact k
theorem SesState.alike_opened (a b : SesState) (h : a.alike b) (i : Nat) : (b.session i).opened = (a.session i).opened := by
  have k := congrArg Session.opened (SesState.alike_session a b h i); exact k
theorem SesState.alike_ident (a b : SesState) (h : a.alike b) (i : Nat) : (b.session i).ident = (a.session i).ident := by
  have k := congrArg Session.ident (SesState.alike_session a b h i); exact k
theorem SesState.alike_name (a b : SesState) (h : a.alike b) (i : Nat) : (b.session i).name = (a.session i).name := by
  have k := congrArg Session.name (SesState.alike_session a b h i); exact k
theorem SesState.alike_cert (a b : SesState) (h : a.alike b) (i : Nat) : (b.session i).cert = (a.session i).cert := by
  have k := congrArg Session.cert (SesState.alike_session a b h i); exact k
theorem SesState.alike_token (a b : SesState) (h : a.alike b) (i : Nat) : (b.session i).token = (a.session i).token := by
  have k := congrArg Session.token (SesState.alike_session a b h i); exact k
theorem SesState.alike_mask (a b : SesState) (h : a.alike b) (i : Nat) : (b.session i).mask = (a.session i).mask := by
  have k := congrArg Session.mask (SesState.alike_session a b h i); exact k
theorem SesState.alike_highest (a b : SesState) (h : a.alike b) (i : Nat) : (b.session i).highest = (a.session i).highest := by
  have k := congrArg Session.highest (SesState.alike_session a b h i); exact k
theorem SesState.alike_seen (a b : SesState) (h : a.alike b) (i : Nat) : (b.session i).seen = (a.session i).seen := by
  have k := congrArg Session.seen (SesState.alike_session a b h i); exact k
theorem SesState.alike_cache (a b : SesState) (h : a.alike b) (i : Nat) : (b.session i).cache = (a.session i).cache := by
  have k := congrArg Session.cache (SesState.alike_session a b h i); exact k
theorem SesState.alike_outstanding (a b : SesState) (h : a.alike b) (i : Nat) : (b.session i).outstanding = (a.session i).outstanding := by
  have k := congrArg Session.outstanding (SesState.alike_session a b h i); exact k
theorem SesState.alike_lastMsg (a b : SesState) (h : a.alike b) (i : Nat) : (b.session i).lastMsg = (a.session i).lastMsg := by
  have k := congrArg Session.lastMsg (SesState.alike_session a b h i); exact k
theorem SesState.alike_detachedAt (a b : SesState) (h : a.alike b) (i : Nat) : (b.session i).detachedAt = (a.session i).detachedAt := by
  have k := congrArg Session.detachedAt (SesState.alike_session a b h i); exact k
@[simp] theorem State.raise_tags (s : State) (code inst : Nat) (d : Bytes) : (s.raise code inst d).tags = s.tags := by
  obtain ⟨h, l, b, e, -, -⟩ := s.raise_eq code inst d; rw [e]
@[simp] theorem State.raise_sup (s : State) (code inst : Nat) (d : Bytes) : (s.raise code inst d).sup = s.sup := by
  obtain ⟨h, l, b, e, -, -⟩ := s.raise_eq code inst d; rw [e]
@[simp] theorem State.raise_pwr (s : State) (code inst : Nat) (d : Bytes) : (s.raise code inst d).pwr = s.pwr := by
  obtain ⟨h, l, b, e, -, -⟩ := s.raise_eq code inst d; rw [e]
@[simp] theorem State.raise_thm (s : State) (code inst : Nat) (d : Bytes) : (s.raise code inst d).thm = s.thm := by
  obtain ⟨h, l, b, e, -, -⟩ := s.raise_eq code inst d; rw [e]
@[simp] theorem State.raise_bst (s : State) (code inst : Nat) (d : Bytes) : (s.raise code inst d).bst = s.bst := by
  obtain ⟨h, l, b, e, -, -⟩ := s.raise_eq code inst d; rw [e]
@[simp] theorem State.raise_tim (s : State) (code inst : Nat) (d : Bytes) : (s.raise code inst d).tim = s.tim := by
  obtain ⟨h, l, b, e, -, -⟩ := s.raise_eq code inst d; rw [e]
@[simp] theorem State.raise_gns (s : State) (code inst : Nat) (d : Bytes) : (s.raise code inst d).gns = s.gns := by
  obtain ⟨h, l, b, e, -, -⟩ := s.raise_eq code inst d; rw [e]
@[simp] theorem State.raise_fus (s : State) (code inst : Nat) (d : Bytes) : (s.raise code inst d).fus = s.fus := by
  obtain ⟨h, l, b, e, -, -⟩ := s.raise_eq code inst d; rw [e]
@[simp] theorem State.raise_slv (s : State) (code inst : Nat) (d : Bytes) : (s.raise code inst d).slv = s.slv := by
  obtain ⟨h, l, b, e, -, -⟩ := s.raise_eq code inst d; rw [e]
@[simp] theorem State.raise_ctl (s : State) (code inst : Nat) (d : Bytes) : (s.raise code inst d).ctl = s.ctl := by
  obtain ⟨h, l, b, e, -, -⟩ := s.raise_eq code inst d; rw [e]
@[simp] theorem State.raise_srv (s : State) (code inst : Nat) (d : Bytes) : (s.raise code inst d).srv = s.srv := by
  obtain ⟨h, l, b, e, -, -⟩ := s.raise_eq code inst d; rw [e]
@[simp] theorem State.raise_sig (s : State) (code inst : Nat) (d : Bytes) : (s.raise code inst d).sig = s.sig := by
  obtain ⟨h, l, b, e, -, -⟩ := s.raise_eq code inst d; rw [e]
@[simp] theorem State.raise_fio (s : State) (code inst : Nat) (d : Bytes) : (s.raise code inst d).fio = s.fio := by
  obtain ⟨h, l, b, e, -, -⟩ := s.raise_eq code inst d; rw [e]
@[simp] theorem State.raise_saf (s : State) (code inst : Nat) (d : Bytes) : (s.raise code inst d).saf = s.saf := by
  obtain ⟨h, l, b, e, -, -⟩ := s.raise_eq code inst d; rw [e]
@[simp] theorem State.raise_can (s : State) (code inst : Nat) (d : Bytes) : (s.raise code inst d).can = s.can := by
  obtain ⟨h, l, b, e, -, -⟩ := s.raise_eq code inst d; rw [e]
@[simp] theorem State.raise_ser (s : State) (code inst : Nat) (d : Bytes) : (s.raise code inst d).ser = s.ser := by
  obtain ⟨h, l, b, e, -, -⟩ := s.raise_eq code inst d; rw [e]
@[simp] theorem State.raise_eth (s : State) (code inst : Nat) (d : Bytes) : (s.raise code inst d).eth = s.eth := by
  obtain ⟨h, l, b, e, -, -⟩ := s.raise_eq code inst d; rw [e]
@[simp] theorem State.raise_icx (s : State) (code inst : Nat) (d : Bytes) : (s.raise code inst d).icx = s.icx := by
  obtain ⟨h, l, b, e, -, -⟩ := s.raise_eq code inst d; rw [e]
@[simp] theorem State.raise_aqf (s : State) (code inst : Nat) (d : Bytes) : (s.raise code inst d).aqf = s.aqf := by
  obtain ⟨h, l, b, e, -, -⟩ := s.raise_eq code inst d; rw [e]
@[simp] theorem State.raise_cfg (s : State) (code inst : Nat) (d : Bytes) : (s.raise code inst d).cfg = s.cfg := by
  obtain ⟨h, l, b, e, -, -⟩ := s.raise_eq code inst d; rw [e]
@[simp] theorem State.raise_free (s : State) (code inst : Nat) (d : Bytes) : (s.raise code inst d).free = s.free := by
  obtain ⟨h, l, b, e, -, -⟩ := s.raise_eq code inst d; rw [e]
@[simp] theorem State.raise_pending (s : State) (code inst : Nat) (d : Bytes) : (s.raise code inst d).pending = s.pending := by
  obtain ⟨h, l, b, e, -, -⟩ := s.raise_eq code inst d; rw [e]
theorem State.raise_alike (s : State) (code inst : Nat) (d : Bytes) : s.ses.alike (s.raise code inst d).ses := by
  obtain ⟨h, l, b, e, k, -⟩ := s.raise_eq code inst d; rw [e]; exact k
@[simp] theorem State.raise_ses_conns (s : State) (code inst : Nat) (d : Bytes) : (s.raise code inst d).ses.conns = s.ses.conns := by
  obtain ⟨⟨p, l, e⟩, -⟩ := s.raise_alike code inst d; rw [e]
@[simp] theorem State.raise_ses_checks (s : State) (code inst : Nat) (d : Bytes) : (s.raise code inst d).ses.checks = s.ses.checks := by
  obtain ⟨⟨p, l, e⟩, -⟩ := s.raise_alike code inst d; rw [e]
@[simp] theorem State.raise_ses_sources (s : State) (code inst : Nat) (d : Bytes) : (s.raise code inst d).ses.sources = s.ses.sources := by
  obtain ⟨⟨p, l, e⟩, -⟩ := s.raise_alike code inst d; rw [e]
@[simp] theorem State.raise_ses_accounts (s : State) (code inst : Nat) (d : Bytes) : (s.raise code inst d).ses.accounts = s.ses.accounts := by
  obtain ⟨⟨p, l, e⟩, -⟩ := s.raise_alike code inst d; rw [e]
@[simp] theorem State.raise_ses_siteCert (s : State) (code inst : Nat) (d : Bytes) : (s.raise code inst d).ses.siteCert = s.ses.siteCert := by
  obtain ⟨⟨p, l, e⟩, -⟩ := s.raise_alike code inst d; rw [e]
@[simp] theorem State.raise_ses_siteStage (s : State) (code inst : Nat) (d : Bytes) : (s.raise code inst d).ses.siteStage = s.ses.siteStage := by
  obtain ⟨⟨p, l, e⟩, -⟩ := s.raise_alike code inst d; rw [e]
@[simp] theorem State.raise_ses_sel (s : State) (code inst : Nat) (d : Bytes) : (s.raise code inst d).ses.sel = s.ses.sel := by
  obtain ⟨⟨p, l, e⟩, -⟩ := s.raise_alike code inst d; rw [e]
@[simp] theorem State.raise_ses_authFails (s : State) (code inst : Nat) (d : Bytes) : (s.raise code inst d).ses.authFails = s.ses.authFails := by
  obtain ⟨⟨p, l, e⟩, -⟩ := s.raise_alike code inst d; rw [e]
@[simp] theorem State.raise_ses_lockouts (s : State) (code inst : Nat) (d : Bytes) : (s.raise code inst d).ses.lockouts = s.ses.lockouts := by
  obtain ⟨⟨p, l, e⟩, -⟩ := s.raise_alike code inst d; rw [e]
@[simp] theorem State.raise_ses_duplicates (s : State) (code inst : Nat) (d : Bytes) : (s.raise code inst d).ses.duplicates = s.ses.duplicates := by
  obtain ⟨⟨p, l, e⟩, -⟩ := s.raise_alike code inst d; rw [e]
@[simp] theorem State.raise_ses_clogSeq (s : State) (code inst : Nat) (d : Bytes) : (s.raise code inst d).ses.clogSeq = s.ses.clogSeq := by
  obtain ⟨⟨p, l, e⟩, -⟩ := s.raise_alike code inst d; rw [e]
@[simp] theorem State.raise_ses_clog (s : State) (code inst : Nat) (d : Bytes) : (s.raise code inst d).ses.clog = s.ses.clog := by
  obtain ⟨⟨p, l, e⟩, -⟩ := s.raise_alike code inst d; rw [e]
@[simp] theorem State.raise_ses_clogLost (s : State) (code inst : Nat) (d : Bytes) : (s.raise code inst d).ses.clogLost = s.ses.clogLost := by
  obtain ⟨⟨p, l, e⟩, -⟩ := s.raise_alike code inst d; rw [e]
@[simp] theorem State.raise_ses_cmdResult (s : State) (code inst : Nat) (d : Bytes) : (s.raise code inst d).ses.cmdResult = s.ses.cmdResult := by
  obtain ⟨⟨p, l, e⟩, -⟩ := s.raise_alike code inst d; rw [e]
@[simp] theorem State.raise_ses_cmdSession (s : State) (code inst : Nat) (d : Bytes) : (s.raise code inst d).ses.cmdSession = s.ses.cmdSession := by
  obtain ⟨⟨p, l, e⟩, -⟩ := s.raise_alike code inst d; rw [e]
@[simp] theorem State.raise_ses_sent (s : State) (code inst : Nat) (d : Bytes) : (s.raise code inst d).ses.sent = s.ses.sent := by
  obtain ⟨⟨p, l, e⟩, -⟩ := s.raise_alike code inst d; rw [e]
@[simp] theorem State.raise_ses_waiting (s : State) (code inst : Nat) (d : Bytes) : (s.raise code inst d).ses.waiting = s.ses.waiting := by
  obtain ⟨⟨p, l, e⟩, -⟩ := s.raise_alike code inst d; rw [e]
@[simp] theorem State.raise_session_phase (s : State) (code inst : Nat) (d : Bytes) (i : Nat) :
    ((s.raise code inst d).ses.session i).phase = (s.ses.session i).phase :=
  SesState.alike_phase _ _ (s.raise_alike code inst d) i
@[simp] theorem State.raise_session_role (s : State) (code inst : Nat) (d : Bytes) (i : Nat) :
    ((s.raise code inst d).ses.session i).role = (s.ses.session i).role :=
  SesState.alike_role _ _ (s.raise_alike code inst d) i
@[simp] theorem State.raise_session_method (s : State) (code inst : Nat) (d : Bytes) (i : Nat) :
    ((s.raise code inst d).ses.session i).method = (s.ses.session i).method :=
  SesState.alike_method _ _ (s.raise_alike code inst d) i
@[simp] theorem State.raise_session_port (s : State) (code inst : Nat) (d : Bytes) (i : Nat) :
    ((s.raise code inst d).ses.session i).port = (s.ses.session i).port :=
  SesState.alike_port _ _ (s.raise_alike code inst d) i
@[simp] theorem State.raise_session_conn (s : State) (code inst : Nat) (d : Bytes) (i : Nat) :
    ((s.raise code inst d).ses.session i).conn = (s.ses.session i).conn :=
  SesState.alike_conn _ _ (s.raise_alike code inst d) i
@[simp] theorem State.raise_session_source (s : State) (code inst : Nat) (d : Bytes) (i : Nat) :
    ((s.raise code inst d).ses.session i).source = (s.ses.session i).source :=
  SesState.alike_source _ _ (s.raise_alike code inst d) i
@[simp] theorem State.raise_session_opened (s : State) (code inst : Nat) (d : Bytes) (i : Nat) :
    ((s.raise code inst d).ses.session i).opened = (s.ses.session i).opened :=
  SesState.alike_opened _ _ (s.raise_alike code inst d) i
@[simp] theorem State.raise_session_ident (s : State) (code inst : Nat) (d : Bytes) (i : Nat) :
    ((s.raise code inst d).ses.session i).ident = (s.ses.session i).ident :=
  SesState.alike_ident _ _ (s.raise_alike code inst d) i
@[simp] theorem State.raise_session_name (s : State) (code inst : Nat) (d : Bytes) (i : Nat) :
    ((s.raise code inst d).ses.session i).name = (s.ses.session i).name :=
  SesState.alike_name _ _ (s.raise_alike code inst d) i
@[simp] theorem State.raise_session_cert (s : State) (code inst : Nat) (d : Bytes) (i : Nat) :
    ((s.raise code inst d).ses.session i).cert = (s.ses.session i).cert :=
  SesState.alike_cert _ _ (s.raise_alike code inst d) i
@[simp] theorem State.raise_session_token (s : State) (code inst : Nat) (d : Bytes) (i : Nat) :
    ((s.raise code inst d).ses.session i).token = (s.ses.session i).token :=
  SesState.alike_token _ _ (s.raise_alike code inst d) i
@[simp] theorem State.raise_session_mask (s : State) (code inst : Nat) (d : Bytes) (i : Nat) :
    ((s.raise code inst d).ses.session i).mask = (s.ses.session i).mask :=
  SesState.alike_mask _ _ (s.raise_alike code inst d) i
@[simp] theorem State.raise_session_highest (s : State) (code inst : Nat) (d : Bytes) (i : Nat) :
    ((s.raise code inst d).ses.session i).highest = (s.ses.session i).highest :=
  SesState.alike_highest _ _ (s.raise_alike code inst d) i
@[simp] theorem State.raise_session_seen (s : State) (code inst : Nat) (d : Bytes) (i : Nat) :
    ((s.raise code inst d).ses.session i).seen = (s.ses.session i).seen :=
  SesState.alike_seen _ _ (s.raise_alike code inst d) i
@[simp] theorem State.raise_session_cache (s : State) (code inst : Nat) (d : Bytes) (i : Nat) :
    ((s.raise code inst d).ses.session i).cache = (s.ses.session i).cache :=
  SesState.alike_cache _ _ (s.raise_alike code inst d) i
@[simp] theorem State.raise_session_outstanding (s : State) (code inst : Nat) (d : Bytes) (i : Nat) :
    ((s.raise code inst d).ses.session i).outstanding = (s.ses.session i).outstanding :=
  SesState.alike_outstanding _ _ (s.raise_alike code inst d) i
@[simp] theorem State.raise_session_lastMsg (s : State) (code inst : Nat) (d : Bytes) (i : Nat) :
    ((s.raise code inst d).ses.session i).lastMsg = (s.ses.session i).lastMsg :=
  SesState.alike_lastMsg _ _ (s.raise_alike code inst d) i
@[simp] theorem State.raise_session_detachedAt (s : State) (code inst : Nat) (d : Bytes) (i : Nat) :
    ((s.raise code inst d).ses.session i).detachedAt = (s.ses.session i).detachedAt :=
  SesState.alike_detachedAt _ _ (s.raise_alike code inst d) i
@[simp] theorem State.raise_sessions_length (s : State) (code inst : Nat) (d : Bytes) :
    (s.raise code inst d).ses.sessions.length = s.ses.sessions.length :=
  SesState.alike_length _ _ (s.raise_alike code inst d)
@[simp] theorem State.raise_hdr_length (s : State) (code inst : Nat) (d : Bytes) : (s.raise code inst d).hdr.length = s.hdr.length := by
  obtain ⟨h, l, b, e, -, n⟩ := s.raise_eq code inst d; rw [e]; simpa [countEvent, updAt] using n
@[simp] theorem State.raiseForced_tags (s : State) (code inst : Nat) (d : Bytes) : (s.raiseForced code inst d).tags = s.tags := by
  obtain ⟨h, l, b, e, -, -⟩ := s.raiseForced_eq code inst d; rw [e]
@[simp] theorem State.raiseForced_sup (s : State) (code inst : Nat) (d : Bytes) : (s.raiseForced code inst d).sup = s.sup := by
  obtain ⟨h, l, b, e, -, -⟩ := s.raiseForced_eq code inst d; rw [e]
@[simp] theorem State.raiseForced_pwr (s : State) (code inst : Nat) (d : Bytes) : (s.raiseForced code inst d).pwr = s.pwr := by
  obtain ⟨h, l, b, e, -, -⟩ := s.raiseForced_eq code inst d; rw [e]
@[simp] theorem State.raiseForced_thm (s : State) (code inst : Nat) (d : Bytes) : (s.raiseForced code inst d).thm = s.thm := by
  obtain ⟨h, l, b, e, -, -⟩ := s.raiseForced_eq code inst d; rw [e]
@[simp] theorem State.raiseForced_bst (s : State) (code inst : Nat) (d : Bytes) : (s.raiseForced code inst d).bst = s.bst := by
  obtain ⟨h, l, b, e, -, -⟩ := s.raiseForced_eq code inst d; rw [e]
@[simp] theorem State.raiseForced_tim (s : State) (code inst : Nat) (d : Bytes) : (s.raiseForced code inst d).tim = s.tim := by
  obtain ⟨h, l, b, e, -, -⟩ := s.raiseForced_eq code inst d; rw [e]
@[simp] theorem State.raiseForced_gns (s : State) (code inst : Nat) (d : Bytes) : (s.raiseForced code inst d).gns = s.gns := by
  obtain ⟨h, l, b, e, -, -⟩ := s.raiseForced_eq code inst d; rw [e]
@[simp] theorem State.raiseForced_fus (s : State) (code inst : Nat) (d : Bytes) : (s.raiseForced code inst d).fus = s.fus := by
  obtain ⟨h, l, b, e, -, -⟩ := s.raiseForced_eq code inst d; rw [e]
@[simp] theorem State.raiseForced_slv (s : State) (code inst : Nat) (d : Bytes) : (s.raiseForced code inst d).slv = s.slv := by
  obtain ⟨h, l, b, e, -, -⟩ := s.raiseForced_eq code inst d; rw [e]
@[simp] theorem State.raiseForced_ctl (s : State) (code inst : Nat) (d : Bytes) : (s.raiseForced code inst d).ctl = s.ctl := by
  obtain ⟨h, l, b, e, -, -⟩ := s.raiseForced_eq code inst d; rw [e]
@[simp] theorem State.raiseForced_srv (s : State) (code inst : Nat) (d : Bytes) : (s.raiseForced code inst d).srv = s.srv := by
  obtain ⟨h, l, b, e, -, -⟩ := s.raiseForced_eq code inst d; rw [e]
@[simp] theorem State.raiseForced_sig (s : State) (code inst : Nat) (d : Bytes) : (s.raiseForced code inst d).sig = s.sig := by
  obtain ⟨h, l, b, e, -, -⟩ := s.raiseForced_eq code inst d; rw [e]
@[simp] theorem State.raiseForced_fio (s : State) (code inst : Nat) (d : Bytes) : (s.raiseForced code inst d).fio = s.fio := by
  obtain ⟨h, l, b, e, -, -⟩ := s.raiseForced_eq code inst d; rw [e]
@[simp] theorem State.raiseForced_saf (s : State) (code inst : Nat) (d : Bytes) : (s.raiseForced code inst d).saf = s.saf := by
  obtain ⟨h, l, b, e, -, -⟩ := s.raiseForced_eq code inst d; rw [e]
@[simp] theorem State.raiseForced_can (s : State) (code inst : Nat) (d : Bytes) : (s.raiseForced code inst d).can = s.can := by
  obtain ⟨h, l, b, e, -, -⟩ := s.raiseForced_eq code inst d; rw [e]
@[simp] theorem State.raiseForced_ser (s : State) (code inst : Nat) (d : Bytes) : (s.raiseForced code inst d).ser = s.ser := by
  obtain ⟨h, l, b, e, -, -⟩ := s.raiseForced_eq code inst d; rw [e]
@[simp] theorem State.raiseForced_eth (s : State) (code inst : Nat) (d : Bytes) : (s.raiseForced code inst d).eth = s.eth := by
  obtain ⟨h, l, b, e, -, -⟩ := s.raiseForced_eq code inst d; rw [e]
@[simp] theorem State.raiseForced_icx (s : State) (code inst : Nat) (d : Bytes) : (s.raiseForced code inst d).icx = s.icx := by
  obtain ⟨h, l, b, e, -, -⟩ := s.raiseForced_eq code inst d; rw [e]
@[simp] theorem State.raiseForced_aqf (s : State) (code inst : Nat) (d : Bytes) : (s.raiseForced code inst d).aqf = s.aqf := by
  obtain ⟨h, l, b, e, -, -⟩ := s.raiseForced_eq code inst d; rw [e]
@[simp] theorem State.raiseForced_cfg (s : State) (code inst : Nat) (d : Bytes) : (s.raiseForced code inst d).cfg = s.cfg := by
  obtain ⟨h, l, b, e, -, -⟩ := s.raiseForced_eq code inst d; rw [e]
@[simp] theorem State.raiseForced_free (s : State) (code inst : Nat) (d : Bytes) : (s.raiseForced code inst d).free = s.free := by
  obtain ⟨h, l, b, e, -, -⟩ := s.raiseForced_eq code inst d; rw [e]
@[simp] theorem State.raiseForced_pending (s : State) (code inst : Nat) (d : Bytes) : (s.raiseForced code inst d).pending = s.pending := by
  obtain ⟨h, l, b, e, -, -⟩ := s.raiseForced_eq code inst d; rw [e]
theorem State.raiseForced_alike (s : State) (code inst : Nat) (d : Bytes) : s.ses.alike (s.raiseForced code inst d).ses := by
  obtain ⟨h, l, b, e, k, -⟩ := s.raiseForced_eq code inst d; rw [e]; exact k
@[simp] theorem State.raiseForced_ses_conns (s : State) (code inst : Nat) (d : Bytes) : (s.raiseForced code inst d).ses.conns = s.ses.conns := by
  obtain ⟨⟨p, l, e⟩, -⟩ := s.raiseForced_alike code inst d; rw [e]
@[simp] theorem State.raiseForced_ses_checks (s : State) (code inst : Nat) (d : Bytes) : (s.raiseForced code inst d).ses.checks = s.ses.checks := by
  obtain ⟨⟨p, l, e⟩, -⟩ := s.raiseForced_alike code inst d; rw [e]
@[simp] theorem State.raiseForced_ses_sources (s : State) (code inst : Nat) (d : Bytes) : (s.raiseForced code inst d).ses.sources = s.ses.sources := by
  obtain ⟨⟨p, l, e⟩, -⟩ := s.raiseForced_alike code inst d; rw [e]
@[simp] theorem State.raiseForced_ses_accounts (s : State) (code inst : Nat) (d : Bytes) : (s.raiseForced code inst d).ses.accounts = s.ses.accounts := by
  obtain ⟨⟨p, l, e⟩, -⟩ := s.raiseForced_alike code inst d; rw [e]
@[simp] theorem State.raiseForced_ses_siteCert (s : State) (code inst : Nat) (d : Bytes) : (s.raiseForced code inst d).ses.siteCert = s.ses.siteCert := by
  obtain ⟨⟨p, l, e⟩, -⟩ := s.raiseForced_alike code inst d; rw [e]
@[simp] theorem State.raiseForced_ses_siteStage (s : State) (code inst : Nat) (d : Bytes) : (s.raiseForced code inst d).ses.siteStage = s.ses.siteStage := by
  obtain ⟨⟨p, l, e⟩, -⟩ := s.raiseForced_alike code inst d; rw [e]
@[simp] theorem State.raiseForced_ses_sel (s : State) (code inst : Nat) (d : Bytes) : (s.raiseForced code inst d).ses.sel = s.ses.sel := by
  obtain ⟨⟨p, l, e⟩, -⟩ := s.raiseForced_alike code inst d; rw [e]
@[simp] theorem State.raiseForced_ses_authFails (s : State) (code inst : Nat) (d : Bytes) : (s.raiseForced code inst d).ses.authFails = s.ses.authFails := by
  obtain ⟨⟨p, l, e⟩, -⟩ := s.raiseForced_alike code inst d; rw [e]
@[simp] theorem State.raiseForced_ses_lockouts (s : State) (code inst : Nat) (d : Bytes) : (s.raiseForced code inst d).ses.lockouts = s.ses.lockouts := by
  obtain ⟨⟨p, l, e⟩, -⟩ := s.raiseForced_alike code inst d; rw [e]
@[simp] theorem State.raiseForced_ses_duplicates (s : State) (code inst : Nat) (d : Bytes) : (s.raiseForced code inst d).ses.duplicates = s.ses.duplicates := by
  obtain ⟨⟨p, l, e⟩, -⟩ := s.raiseForced_alike code inst d; rw [e]
@[simp] theorem State.raiseForced_ses_clogSeq (s : State) (code inst : Nat) (d : Bytes) : (s.raiseForced code inst d).ses.clogSeq = s.ses.clogSeq := by
  obtain ⟨⟨p, l, e⟩, -⟩ := s.raiseForced_alike code inst d; rw [e]
@[simp] theorem State.raiseForced_ses_clog (s : State) (code inst : Nat) (d : Bytes) : (s.raiseForced code inst d).ses.clog = s.ses.clog := by
  obtain ⟨⟨p, l, e⟩, -⟩ := s.raiseForced_alike code inst d; rw [e]
@[simp] theorem State.raiseForced_ses_clogLost (s : State) (code inst : Nat) (d : Bytes) : (s.raiseForced code inst d).ses.clogLost = s.ses.clogLost := by
  obtain ⟨⟨p, l, e⟩, -⟩ := s.raiseForced_alike code inst d; rw [e]
@[simp] theorem State.raiseForced_ses_cmdResult (s : State) (code inst : Nat) (d : Bytes) : (s.raiseForced code inst d).ses.cmdResult = s.ses.cmdResult := by
  obtain ⟨⟨p, l, e⟩, -⟩ := s.raiseForced_alike code inst d; rw [e]
@[simp] theorem State.raiseForced_ses_cmdSession (s : State) (code inst : Nat) (d : Bytes) : (s.raiseForced code inst d).ses.cmdSession = s.ses.cmdSession := by
  obtain ⟨⟨p, l, e⟩, -⟩ := s.raiseForced_alike code inst d; rw [e]
@[simp] theorem State.raiseForced_ses_sent (s : State) (code inst : Nat) (d : Bytes) : (s.raiseForced code inst d).ses.sent = s.ses.sent := by
  obtain ⟨⟨p, l, e⟩, -⟩ := s.raiseForced_alike code inst d; rw [e]
@[simp] theorem State.raiseForced_ses_waiting (s : State) (code inst : Nat) (d : Bytes) : (s.raiseForced code inst d).ses.waiting = s.ses.waiting := by
  obtain ⟨⟨p, l, e⟩, -⟩ := s.raiseForced_alike code inst d; rw [e]
@[simp] theorem State.raiseForced_session_phase (s : State) (code inst : Nat) (d : Bytes) (i : Nat) :
    ((s.raiseForced code inst d).ses.session i).phase = (s.ses.session i).phase :=
  SesState.alike_phase _ _ (s.raiseForced_alike code inst d) i
@[simp] theorem State.raiseForced_session_role (s : State) (code inst : Nat) (d : Bytes) (i : Nat) :
    ((s.raiseForced code inst d).ses.session i).role = (s.ses.session i).role :=
  SesState.alike_role _ _ (s.raiseForced_alike code inst d) i
@[simp] theorem State.raiseForced_session_method (s : State) (code inst : Nat) (d : Bytes) (i : Nat) :
    ((s.raiseForced code inst d).ses.session i).method = (s.ses.session i).method :=
  SesState.alike_method _ _ (s.raiseForced_alike code inst d) i
@[simp] theorem State.raiseForced_session_port (s : State) (code inst : Nat) (d : Bytes) (i : Nat) :
    ((s.raiseForced code inst d).ses.session i).port = (s.ses.session i).port :=
  SesState.alike_port _ _ (s.raiseForced_alike code inst d) i
@[simp] theorem State.raiseForced_session_conn (s : State) (code inst : Nat) (d : Bytes) (i : Nat) :
    ((s.raiseForced code inst d).ses.session i).conn = (s.ses.session i).conn :=
  SesState.alike_conn _ _ (s.raiseForced_alike code inst d) i
@[simp] theorem State.raiseForced_session_source (s : State) (code inst : Nat) (d : Bytes) (i : Nat) :
    ((s.raiseForced code inst d).ses.session i).source = (s.ses.session i).source :=
  SesState.alike_source _ _ (s.raiseForced_alike code inst d) i
@[simp] theorem State.raiseForced_session_opened (s : State) (code inst : Nat) (d : Bytes) (i : Nat) :
    ((s.raiseForced code inst d).ses.session i).opened = (s.ses.session i).opened :=
  SesState.alike_opened _ _ (s.raiseForced_alike code inst d) i
@[simp] theorem State.raiseForced_session_ident (s : State) (code inst : Nat) (d : Bytes) (i : Nat) :
    ((s.raiseForced code inst d).ses.session i).ident = (s.ses.session i).ident :=
  SesState.alike_ident _ _ (s.raiseForced_alike code inst d) i
@[simp] theorem State.raiseForced_session_name (s : State) (code inst : Nat) (d : Bytes) (i : Nat) :
    ((s.raiseForced code inst d).ses.session i).name = (s.ses.session i).name :=
  SesState.alike_name _ _ (s.raiseForced_alike code inst d) i
@[simp] theorem State.raiseForced_session_cert (s : State) (code inst : Nat) (d : Bytes) (i : Nat) :
    ((s.raiseForced code inst d).ses.session i).cert = (s.ses.session i).cert :=
  SesState.alike_cert _ _ (s.raiseForced_alike code inst d) i
@[simp] theorem State.raiseForced_session_token (s : State) (code inst : Nat) (d : Bytes) (i : Nat) :
    ((s.raiseForced code inst d).ses.session i).token = (s.ses.session i).token :=
  SesState.alike_token _ _ (s.raiseForced_alike code inst d) i
@[simp] theorem State.raiseForced_session_mask (s : State) (code inst : Nat) (d : Bytes) (i : Nat) :
    ((s.raiseForced code inst d).ses.session i).mask = (s.ses.session i).mask :=
  SesState.alike_mask _ _ (s.raiseForced_alike code inst d) i
@[simp] theorem State.raiseForced_session_highest (s : State) (code inst : Nat) (d : Bytes) (i : Nat) :
    ((s.raiseForced code inst d).ses.session i).highest = (s.ses.session i).highest :=
  SesState.alike_highest _ _ (s.raiseForced_alike code inst d) i
@[simp] theorem State.raiseForced_session_seen (s : State) (code inst : Nat) (d : Bytes) (i : Nat) :
    ((s.raiseForced code inst d).ses.session i).seen = (s.ses.session i).seen :=
  SesState.alike_seen _ _ (s.raiseForced_alike code inst d) i
@[simp] theorem State.raiseForced_session_cache (s : State) (code inst : Nat) (d : Bytes) (i : Nat) :
    ((s.raiseForced code inst d).ses.session i).cache = (s.ses.session i).cache :=
  SesState.alike_cache _ _ (s.raiseForced_alike code inst d) i
@[simp] theorem State.raiseForced_session_outstanding (s : State) (code inst : Nat) (d : Bytes) (i : Nat) :
    ((s.raiseForced code inst d).ses.session i).outstanding = (s.ses.session i).outstanding :=
  SesState.alike_outstanding _ _ (s.raiseForced_alike code inst d) i
@[simp] theorem State.raiseForced_session_lastMsg (s : State) (code inst : Nat) (d : Bytes) (i : Nat) :
    ((s.raiseForced code inst d).ses.session i).lastMsg = (s.ses.session i).lastMsg :=
  SesState.alike_lastMsg _ _ (s.raiseForced_alike code inst d) i
@[simp] theorem State.raiseForced_session_detachedAt (s : State) (code inst : Nat) (d : Bytes) (i : Nat) :
    ((s.raiseForced code inst d).ses.session i).detachedAt = (s.ses.session i).detachedAt :=
  SesState.alike_detachedAt _ _ (s.raiseForced_alike code inst d) i
@[simp] theorem State.raiseForced_sessions_length (s : State) (code inst : Nat) (d : Bytes) :
    (s.raiseForced code inst d).ses.sessions.length = s.ses.sessions.length :=
  SesState.alike_length _ _ (s.raiseForced_alike code inst d)
@[simp] theorem State.raiseForced_hdr_length (s : State) (code inst : Nat) (d : Bytes) : (s.raiseForced code inst d).hdr.length = s.hdr.length := by
  obtain ⟨h, l, b, e, -, n⟩ := s.raiseForced_eq code inst d; rw [e]; simpa [countEvent, updAt] using n
@[simp] theorem State.raiseIf_tags (s : State) (c : Bool) (code inst : Nat) (d : Bytes) : (s.raiseIf c code inst d).tags = s.tags := by
  unfold State.raiseIf; split <;> simp
@[simp] theorem State.raiseIf_sup (s : State) (c : Bool) (code inst : Nat) (d : Bytes) : (s.raiseIf c code inst d).sup = s.sup := by
  unfold State.raiseIf; split <;> simp
@[simp] theorem State.raiseIf_pwr (s : State) (c : Bool) (code inst : Nat) (d : Bytes) : (s.raiseIf c code inst d).pwr = s.pwr := by
  unfold State.raiseIf; split <;> simp
@[simp] theorem State.raiseIf_thm (s : State) (c : Bool) (code inst : Nat) (d : Bytes) : (s.raiseIf c code inst d).thm = s.thm := by
  unfold State.raiseIf; split <;> simp
@[simp] theorem State.raiseIf_bst (s : State) (c : Bool) (code inst : Nat) (d : Bytes) : (s.raiseIf c code inst d).bst = s.bst := by
  unfold State.raiseIf; split <;> simp
@[simp] theorem State.raiseIf_tim (s : State) (c : Bool) (code inst : Nat) (d : Bytes) : (s.raiseIf c code inst d).tim = s.tim := by
  unfold State.raiseIf; split <;> simp
@[simp] theorem State.raiseIf_gns (s : State) (c : Bool) (code inst : Nat) (d : Bytes) : (s.raiseIf c code inst d).gns = s.gns := by
  unfold State.raiseIf; split <;> simp
@[simp] theorem State.raiseIf_fus (s : State) (c : Bool) (code inst : Nat) (d : Bytes) : (s.raiseIf c code inst d).fus = s.fus := by
  unfold State.raiseIf; split <;> simp
@[simp] theorem State.raiseIf_slv (s : State) (c : Bool) (code inst : Nat) (d : Bytes) : (s.raiseIf c code inst d).slv = s.slv := by
  unfold State.raiseIf; split <;> simp
@[simp] theorem State.raiseIf_ctl (s : State) (c : Bool) (code inst : Nat) (d : Bytes) : (s.raiseIf c code inst d).ctl = s.ctl := by
  unfold State.raiseIf; split <;> simp
@[simp] theorem State.raiseIf_srv (s : State) (c : Bool) (code inst : Nat) (d : Bytes) : (s.raiseIf c code inst d).srv = s.srv := by
  unfold State.raiseIf; split <;> simp
@[simp] theorem State.raiseIf_sig (s : State) (c : Bool) (code inst : Nat) (d : Bytes) : (s.raiseIf c code inst d).sig = s.sig := by
  unfold State.raiseIf; split <;> simp
@[simp] theorem State.raiseIf_fio (s : State) (c : Bool) (code inst : Nat) (d : Bytes) : (s.raiseIf c code inst d).fio = s.fio := by
  unfold State.raiseIf; split <;> simp
@[simp] theorem State.raiseIf_saf (s : State) (c : Bool) (code inst : Nat) (d : Bytes) : (s.raiseIf c code inst d).saf = s.saf := by
  unfold State.raiseIf; split <;> simp
@[simp] theorem State.raiseIf_can (s : State) (c : Bool) (code inst : Nat) (d : Bytes) : (s.raiseIf c code inst d).can = s.can := by
  unfold State.raiseIf; split <;> simp
@[simp] theorem State.raiseIf_ser (s : State) (c : Bool) (code inst : Nat) (d : Bytes) : (s.raiseIf c code inst d).ser = s.ser := by
  unfold State.raiseIf; split <;> simp
@[simp] theorem State.raiseIf_eth (s : State) (c : Bool) (code inst : Nat) (d : Bytes) : (s.raiseIf c code inst d).eth = s.eth := by
  unfold State.raiseIf; split <;> simp
@[simp] theorem State.raiseIf_icx (s : State) (c : Bool) (code inst : Nat) (d : Bytes) : (s.raiseIf c code inst d).icx = s.icx := by
  unfold State.raiseIf; split <;> simp
@[simp] theorem State.raiseIf_aqf (s : State) (c : Bool) (code inst : Nat) (d : Bytes) : (s.raiseIf c code inst d).aqf = s.aqf := by
  unfold State.raiseIf; split <;> simp
@[simp] theorem State.raiseIf_cfg (s : State) (c : Bool) (code inst : Nat) (d : Bytes) : (s.raiseIf c code inst d).cfg = s.cfg := by
  unfold State.raiseIf; split <;> simp
@[simp] theorem State.raiseIf_free (s : State) (c : Bool) (code inst : Nat) (d : Bytes) : (s.raiseIf c code inst d).free = s.free := by
  unfold State.raiseIf; split <;> simp
@[simp] theorem State.raiseIf_pending (s : State) (c : Bool) (code inst : Nat) (d : Bytes) : (s.raiseIf c code inst d).pending = s.pending := by
  unfold State.raiseIf; split <;> simp
@[simp] theorem State.raiseIf_ses_conns (s : State) (c : Bool) (code inst : Nat) (d : Bytes) : (s.raiseIf c code inst d).ses.conns = s.ses.conns := by
  unfold State.raiseIf; split <;> simp
@[simp] theorem State.raiseIf_ses_checks (s : State) (c : Bool) (code inst : Nat) (d : Bytes) : (s.raiseIf c code inst d).ses.checks = s.ses.checks := by
  unfold State.raiseIf; split <;> simp
@[simp] theorem State.raiseIf_ses_sources (s : State) (c : Bool) (code inst : Nat) (d : Bytes) : (s.raiseIf c code inst d).ses.sources = s.ses.sources := by
  unfold State.raiseIf; split <;> simp
@[simp] theorem State.raiseIf_ses_accounts (s : State) (c : Bool) (code inst : Nat) (d : Bytes) : (s.raiseIf c code inst d).ses.accounts = s.ses.accounts := by
  unfold State.raiseIf; split <;> simp
@[simp] theorem State.raiseIf_ses_siteCert (s : State) (c : Bool) (code inst : Nat) (d : Bytes) : (s.raiseIf c code inst d).ses.siteCert = s.ses.siteCert := by
  unfold State.raiseIf; split <;> simp
@[simp] theorem State.raiseIf_ses_siteStage (s : State) (c : Bool) (code inst : Nat) (d : Bytes) : (s.raiseIf c code inst d).ses.siteStage = s.ses.siteStage := by
  unfold State.raiseIf; split <;> simp
@[simp] theorem State.raiseIf_ses_sel (s : State) (c : Bool) (code inst : Nat) (d : Bytes) : (s.raiseIf c code inst d).ses.sel = s.ses.sel := by
  unfold State.raiseIf; split <;> simp
@[simp] theorem State.raiseIf_ses_authFails (s : State) (c : Bool) (code inst : Nat) (d : Bytes) : (s.raiseIf c code inst d).ses.authFails = s.ses.authFails := by
  unfold State.raiseIf; split <;> simp
@[simp] theorem State.raiseIf_ses_lockouts (s : State) (c : Bool) (code inst : Nat) (d : Bytes) : (s.raiseIf c code inst d).ses.lockouts = s.ses.lockouts := by
  unfold State.raiseIf; split <;> simp
@[simp] theorem State.raiseIf_ses_duplicates (s : State) (c : Bool) (code inst : Nat) (d : Bytes) : (s.raiseIf c code inst d).ses.duplicates = s.ses.duplicates := by
  unfold State.raiseIf; split <;> simp
@[simp] theorem State.raiseIf_ses_clogSeq (s : State) (c : Bool) (code inst : Nat) (d : Bytes) : (s.raiseIf c code inst d).ses.clogSeq = s.ses.clogSeq := by
  unfold State.raiseIf; split <;> simp
@[simp] theorem State.raiseIf_ses_clog (s : State) (c : Bool) (code inst : Nat) (d : Bytes) : (s.raiseIf c code inst d).ses.clog = s.ses.clog := by
  unfold State.raiseIf; split <;> simp
@[simp] theorem State.raiseIf_ses_clogLost (s : State) (c : Bool) (code inst : Nat) (d : Bytes) : (s.raiseIf c code inst d).ses.clogLost = s.ses.clogLost := by
  unfold State.raiseIf; split <;> simp
@[simp] theorem State.raiseIf_ses_cmdResult (s : State) (c : Bool) (code inst : Nat) (d : Bytes) : (s.raiseIf c code inst d).ses.cmdResult = s.ses.cmdResult := by
  unfold State.raiseIf; split <;> simp
@[simp] theorem State.raiseIf_ses_cmdSession (s : State) (c : Bool) (code inst : Nat) (d : Bytes) : (s.raiseIf c code inst d).ses.cmdSession = s.ses.cmdSession := by
  unfold State.raiseIf; split <;> simp
@[simp] theorem State.raiseIf_ses_sent (s : State) (c : Bool) (code inst : Nat) (d : Bytes) : (s.raiseIf c code inst d).ses.sent = s.ses.sent := by
  unfold State.raiseIf; split <;> simp
@[simp] theorem State.raiseIf_ses_waiting (s : State) (c : Bool) (code inst : Nat) (d : Bytes) : (s.raiseIf c code inst d).ses.waiting = s.ses.waiting := by
  unfold State.raiseIf; split <;> simp
@[simp] theorem State.raiseIf_session_phase (s : State) (c : Bool) (code inst : Nat) (d : Bytes) (i : Nat) :
    ((s.raiseIf c code inst d).ses.session i).phase = (s.ses.session i).phase := by
  unfold State.raiseIf; split <;> simp
@[simp] theorem State.raiseIf_session_role (s : State) (c : Bool) (code inst : Nat) (d : Bytes) (i : Nat) :
    ((s.raiseIf c code inst d).ses.session i).role = (s.ses.session i).role := by
  unfold State.raiseIf; split <;> simp
@[simp] theorem State.raiseIf_session_method (s : State) (c : Bool) (code inst : Nat) (d : Bytes) (i : Nat) :
    ((s.raiseIf c code inst d).ses.session i).method = (s.ses.session i).method := by
  unfold State.raiseIf; split <;> simp
@[simp] theorem State.raiseIf_session_port (s : State) (c : Bool) (code inst : Nat) (d : Bytes) (i : Nat) :
    ((s.raiseIf c code inst d).ses.session i).port = (s.ses.session i).port := by
  unfold State.raiseIf; split <;> simp
@[simp] theorem State.raiseIf_session_conn (s : State) (c : Bool) (code inst : Nat) (d : Bytes) (i : Nat) :
    ((s.raiseIf c code inst d).ses.session i).conn = (s.ses.session i).conn := by
  unfold State.raiseIf; split <;> simp
@[simp] theorem State.raiseIf_session_source (s : State) (c : Bool) (code inst : Nat) (d : Bytes) (i : Nat) :
    ((s.raiseIf c code inst d).ses.session i).source = (s.ses.session i).source := by
  unfold State.raiseIf; split <;> simp
@[simp] theorem State.raiseIf_session_opened (s : State) (c : Bool) (code inst : Nat) (d : Bytes) (i : Nat) :
    ((s.raiseIf c code inst d).ses.session i).opened = (s.ses.session i).opened := by
  unfold State.raiseIf; split <;> simp
@[simp] theorem State.raiseIf_session_ident (s : State) (c : Bool) (code inst : Nat) (d : Bytes) (i : Nat) :
    ((s.raiseIf c code inst d).ses.session i).ident = (s.ses.session i).ident := by
  unfold State.raiseIf; split <;> simp
@[simp] theorem State.raiseIf_session_name (s : State) (c : Bool) (code inst : Nat) (d : Bytes) (i : Nat) :
    ((s.raiseIf c code inst d).ses.session i).name = (s.ses.session i).name := by
  unfold State.raiseIf; split <;> simp
@[simp] theorem State.raiseIf_session_cert (s : State) (c : Bool) (code inst : Nat) (d : Bytes) (i : Nat) :
    ((s.raiseIf c code inst d).ses.session i).cert = (s.ses.session i).cert := by
  unfold State.raiseIf; split <;> simp
@[simp] theorem State.raiseIf_session_token (s : State) (c : Bool) (code inst : Nat) (d : Bytes) (i : Nat) :
    ((s.raiseIf c code inst d).ses.session i).token = (s.ses.session i).token := by
  unfold State.raiseIf; split <;> simp
@[simp] theorem State.raiseIf_session_mask (s : State) (c : Bool) (code inst : Nat) (d : Bytes) (i : Nat) :
    ((s.raiseIf c code inst d).ses.session i).mask = (s.ses.session i).mask := by
  unfold State.raiseIf; split <;> simp
@[simp] theorem State.raiseIf_session_highest (s : State) (c : Bool) (code inst : Nat) (d : Bytes) (i : Nat) :
    ((s.raiseIf c code inst d).ses.session i).highest = (s.ses.session i).highest := by
  unfold State.raiseIf; split <;> simp
@[simp] theorem State.raiseIf_session_seen (s : State) (c : Bool) (code inst : Nat) (d : Bytes) (i : Nat) :
    ((s.raiseIf c code inst d).ses.session i).seen = (s.ses.session i).seen := by
  unfold State.raiseIf; split <;> simp
@[simp] theorem State.raiseIf_session_cache (s : State) (c : Bool) (code inst : Nat) (d : Bytes) (i : Nat) :
    ((s.raiseIf c code inst d).ses.session i).cache = (s.ses.session i).cache := by
  unfold State.raiseIf; split <;> simp
@[simp] theorem State.raiseIf_session_outstanding (s : State) (c : Bool) (code inst : Nat) (d : Bytes) (i : Nat) :
    ((s.raiseIf c code inst d).ses.session i).outstanding = (s.ses.session i).outstanding := by
  unfold State.raiseIf; split <;> simp
@[simp] theorem State.raiseIf_session_lastMsg (s : State) (c : Bool) (code inst : Nat) (d : Bytes) (i : Nat) :
    ((s.raiseIf c code inst d).ses.session i).lastMsg = (s.ses.session i).lastMsg := by
  unfold State.raiseIf; split <;> simp
@[simp] theorem State.raiseIf_session_detachedAt (s : State) (c : Bool) (code inst : Nat) (d : Bytes) (i : Nat) :
    ((s.raiseIf c code inst d).ses.session i).detachedAt = (s.ses.session i).detachedAt := by
  unfold State.raiseIf; split <;> simp
@[simp] theorem State.raiseIf_sessions_length (s : State) (c : Bool) (code inst : Nat) (d : Bytes) :
    (s.raiseIf c code inst d).ses.sessions.length = s.ses.sessions.length := by
  unfold State.raiseIf; split <;> simp
@[simp] theorem State.raiseIf_hdr_length (s : State) (c : Bool) (code inst : Nat) (d : Bytes) :
    (s.raiseIf c code inst d).hdr.length = s.hdr.length := by
  unfold State.raiseIf; split <;> simp

/-- An event is the last one its block's header shows (R57). -/
theorem countEvent_last (blk inst code : Nat) (h : List BlockHeader) (l : blk < h.length) :
    ((countEvent blk inst code h).getD blk {}).lastCode = code ∧ ((countEvent blk inst code h).getD blk {}).lastInst = inst
      ∧ ((countEvent blk inst code h).getD blk {}).events = satInc 32 (h.getD blk {}).events := by
  simp [countEvent, updAt, List.getD_eq_getElem?_getD, l]

/-- Raising an event leaves its code and instance in its block's header (R57). -/
theorem State.raise_last (s : State) (code inst : Nat) (d : Bytes) (h : code / 256 < s.hdr.length) :
    ((s.raise code inst d).hdr.getD (code / 256) {}).lastCode = code
      ∧ ((s.raise code inst d).hdr.getD (code / 256) {}).lastInst = inst := by
  obtain ⟨g, l, b, e, -, n⟩ := s.raise_eq code inst d
  rw [e]
  have k := countEvent_last (code / 256) inst code g (by omega)
  exact ⟨k.1, k.2.1⟩

end Sys2Proof.Machine
end

