-- ==== Sys2Proof/Laws/Field.lean ====
section
/-!
SUPPORT. The channels and banks of field I/O after the operations on them.
-/
set_option autoImplicit false
namespace Sys2Proof.Machine

theorem getD_modify {α : Type} (l : List α) (i j : Nat) (f : α → α) (d : α) (h : j < l.length) :
    (l.modify i f).getD j d = if i = j then f (l.getD j d) else l.getD j d := by
  simp only [List.getD_eq_getElem?_getD, List.getElem?_modify, List.getElem?_eq_getElem h]
  split <;> simp_all

theorem getD_updAt {α : Type} (l : List α) (i j : Nat) (f : α → α) (d : α) (h : j < l.length) :
    (updAt l i f).getD j d = if i = j then f (l.getD j d) else l.getD j d := getD_modify l i j f d h

@[simp] theorem length_updAt {α : Type} (l : List α) (i : Nat) (f : α → α) : (updAt l i f).length = l.length := by simp [updAt]

theorem chan_modChan (s : State) (i j : Nat) (f : FioChan → FioChan) (h : j < s.fio.chans.length) :
    (modChan i f s).fio.chan j = if i = j then f (s.fio.chan j) else s.fio.chan j := getD_updAt _ _ _ _ _ h

@[simp] theorem chans_modChan (s : State) (i : Nat) (f : FioChan → FioChan) : (modChan i f s).fio.chans.length = s.fio.chans.length := by
  simp [modChan]

@[simp] theorem bank_modChan (s : State) (i k : Nat) (f : FioChan → FioChan) : (modChan i f s).fio.bank k = s.fio.bank k := rfl

theorem bank_modBank (s : State) (i j : Nat) (f : Bank → Bank) (h : j < s.fio.banks.length) :
    (modBank i f s).fio.bank j = if i = j then f (s.fio.bank j) else s.fio.bank j := getD_updAt _ _ _ _ _ h

@[simp] theorem banks_modBank (s : State) (i : Nat) (f : Bank → Bank) : (modBank i f s).fio.banks.length = s.fio.banks.length := by
  simp [modBank]

@[simp] theorem chan_modBank (s : State) (i k : Nat) (f : Bank → Bank) : (modBank i f s).fio.chan k = s.fio.chan k := rfl

@[simp] theorem fio_raiseFieldCleared (s : State) (ch code : Nat) (c : Bool) : (raiseFieldCleared ch code c s).fio = s.fio := by
  simp [raiseFieldCleared]

@[simp] theorem tim_raiseFieldCleared (s : State) (ch code : Nat) (c : Bool) : (raiseFieldCleared ch code c s).tim = s.tim := by
  simp [raiseFieldCleared]

/-- Applying one channel gives it its output state and leaves every other field state. -/
theorem fio_applyChannel (s : State) (ch : Nat) :
    (applyChannel ch s).fio = (modChan ch (fun _ => applyOutput s.now (s.fio.bank (bankOf ch)) (s.fio.chan ch)) s).fio
      ∧ (applyChannel ch s).tim = s.tim := by
  unfold applyChannel
  dsimp only
  constructor
  · split <;> split <;> simp
  · split <;> split <;> simp [modChan]

end Sys2Proof.Machine
end

