-- ==== Sys2Proof/Laws/Num.lean ====
section
/-!
SUPPORT. Bounds of the plain operations over rationals.
-/
set_option autoImplicit false
namespace Sys2Proof.Machine

theorem clampQ_le (lo hi x : Rat) (h : lo ≤ hi) : clampQ lo hi x ≤ hi := by
  simp only [clampQ, maxQ, minQ]
  repeat' split
  all_goals grind

theorem le_clampQ (lo hi x : Rat) : lo ≤ clampQ lo hi x := by
  simp only [clampQ, maxQ, minQ]
  repeat' split
  all_goals grind

/-- A factor held in a range keeps a product below what its upper end keeps below. -/
theorem mul_clampQ_lt (a lo hi x b : Rat) (ha : 0 ≤ a) (h : lo ≤ hi) (hb : a * hi < b) : a * clampQ lo hi x < b := by
  have := Rat.mul_le_mul_of_nonneg_left (clampQ_le lo hi x h) ha
  grind

/-- A point is within any distance of itself. -/
theorem sq_near {m : Rat} (a b : Rat) (hm : 0 ≤ m) : m ≥ (a - a) * (a - a) + (b - b) * (b - b) := by
  simpa [Rat.sub_self, Rat.add_zero] using hm

end Sys2Proof.Machine
end

