-- ==== Sys2Proof/Laws/Solver.lean ====
section
/-!
SUPPORT. What a submission of deltas to the solver's slots answers.
-/
set_option autoImplicit false
namespace Sys2Proof.Machine

/-- The deltas from one data vector to another stay inside the new one, and those of a finite one are finite (R190). -/
theorem deltasTo_mem {o n : List F64} (hf : ∀ x ∈ n, fFinite x = true) {e : Nat × Option F64} (h : e ∈ deltasTo o n) :
    e.1 < n.length ∧ e.2.isNone = false := by
  simp only [deltasTo, List.mem_map, List.mem_filter] at h
  obtain ⟨x, ⟨hx, -⟩, rfl⟩ := h
  obtain ⟨-, h2, h3⟩ := List.mem_zipIdx (x := x.1) (i := x.2) hx
  exact ⟨by simpa using h2, by simp [hf x.1 (h3 ▸ List.getElem_mem _)]⟩

/-- When a submission of deltas between two data vectors is accepted (R191). -/
theorem submitCheck_deltas (s : State) (o : SlotOwner) (d : Descriptor) (old new : List F64)
    (h0 : new.all fFinite = true)
    (h1 : (!s.domOn 5 || s.slv.suspended (s.slv.slot d.slot).cls) = false)
    (h2 : ((s.slv.slot d.slot).owner != o || (s.slv.slot d.slot).owner == .unassigned) = false)
    (h3 : (s.slv.slot d.slot).phase = .bound)
    (h4 : (s.slv.slots.filter fun x => x.phase == .queued || x.phase == .running).length < 512)
    (h5 : (deltasTo old new).length ≤ 4096) (h6 : new.length ≤ (s.slotStruct d.slot).dataLen) (h7 : d.forceSchedule = false) :
    s.submitCheck o d (deltasTo old new).length (deltasTo old new) = 0 := by
  have e1 : ((deltasTo old new).any fun e => decide ((s.slotStruct d.slot).dataLen ≤ e.1)) = false := by
    simp only [List.any_eq_false, decide_eq_true_eq]
    intro e he
    have := (deltasTo_mem (List.all_eq_true.mp h0) he).1
    omega
  have e2 : ((deltasTo old new).any fun e => e.2.isNone) = false := by
    simp only [List.any_eq_false]
    intro e he
    simp [(deltasTo_mem (List.all_eq_true.mp h0) he).2]
  have h4' : ¬ 512 ≤ (s.slv.slots.filter fun x => x.phase == .queued || x.phase == .running).length := by omega
  have h5' : ¬ 4096 < (deltasTo old new).length := by omega
  simp only [State.submitCheck, e1, e2, h1, h2, h3, h4', h5', h7]
  simp

end Sys2Proof.Machine
end

