-- ==== Sys2Proof/Machine/Connectors.lean ====
section
/-!
DEFINITION. The connectors X1 to X13 and what stands on their pins (R571 to R583), and what the state of the module puts on the pins that it
drives (R99, R314, R321, R344, R368, R475, R541, R593, R594).
-/
set_option autoImplicit false
namespace Sys2Proof.Machine

/-- The connectors of the front face (R571). -/
inductive Connector where
  | x1 | x2 | x3 | x4 | x5 | x6A | x6B | x7 | x8 | x9A | x9B | x9C | x10 | x11 | x12 | x13
deriving DecidableEq, Repr

/-- Ways of a connector: pins, fibres, or the centre conductor and the shell (R571). -/
def Connector.ways : Connector → Nat
  | .x1 => 5 | .x2 => 32 | .x3 => 32 | .x4 => 62 | .x5 => 16 | .x6A => 8 | .x6B => 8 | .x7 => 2 | .x8 => 2 | .x9A => 2 | .x9B => 2 | .x9C => 2
  | .x10 => 40 | .x11 => 10 | .x12 => 25 | .x13 => 8

/-- May be mated with power on (R571). -/
def Connector.hotMating : Connector → Bool
  | .x1 | .x2 | .x3 | .x4 | .x10 => false
  | .x5 | .x6A | .x6B | .x7 | .x8 | .x9A | .x9B | .x9C | .x11 | .x12 | .x13 => true

/-- Line of a differential pair or of a CAN port. -/
inductive Polarity where
  | pos | neg
deriving DecidableEq, Repr

/-- What a pin carries (R573 to R583). Field banks are numbered 0 (A) and 1 (B), antennas and Icxon ports likewise from A. -/
inductive Signal where
  /-- Module supply input and its return (R573). -/
  | vin (input : Nat)
  | vinReturn (input : Nat)
  /-- Field channel, field supply input and field ground of a bank (R574). -/
  | fio (chan : Nat)
  | fieldSupply (bank : Nat)
  | fieldGround (bank : Nat)
  /-- Analog input, output, return of an output, and analog ground (R575). -/
  | ain (chan : Nat) (p : Polarity)
  | aout (out : Nat)
  | aoutReturn (out : Nat)
  | analogGround
  /-- CAN line, port ground and shield (R576). -/
  | can (port : Nat) (p : Polarity)
  | canGround (port : Nat)
  /-- Ethernet pair A to D of a port, 0 for ETH1 (R577). -/
  | eth (port pair : Nat) (p : Polarity)
  /-- RF input and supply of an antenna (R578), and its ground. -/
  | antenna (path : Nat)
  | rfGround (path : Nat)
  /-- Icxon transmitter and receiver (R579). -/
  | fibreTx (port : Nat)
  | fibreRx (port : Nat)
  /-- Pair outputs, contactor feedback, test-pulse sources, E-stop channels, alarm contact and auxiliary supply (R580). -/
  | pair (k : Nat) (p : Polarity)
  | contactor (k : Nat)
  | testPulse (channel : Nat)
  | estop (input channel : Nat)
  | alarm (p : Polarity)
  | safetySupply
  | safetyGround
  /-- The key's supply, select, clock, data and detect lines, and its ground (R581). -/
  | keyVcc
  | keySelect
  | keyClock
  | keyData (i : Nat)
  | keyDetect
  | keyGround
  /-- Serial driver and receiver lines and port ground (R582). -/
  | serTx (port : Nat) (p : Polarity)
  | serRx (port : Nat) (p : Polarity)
  | serGround (port : Nat)
  /-- Time pulse, sync output and sync input, and their ground (R583). -/
  | pps (p : Polarity)
  | syncOut (p : Polarity)
  | syncIn (p : Polarity)
  | timeGround
  /-- Bonded to the housing at the connector; not connected inside the module (R572). -/
  | shield
  | reserved
deriving DecidableEq, Repr

/-- The polarity of the even or odd pin of a pair. -/
def polarity (i : Nat) : Polarity := if i % 2 = 0 then .pos else .neg

/-- Pin n of X2 or X3 (R574). -/
def fieldPin (bank n : Nat) : Signal :=
  if n ≤ 24 then .fio (24 * bank + n - 1) else if n ≤ 26 then .fieldSupply bank else if n ≤ 30 then .fieldGround bank
  else if n = 31 then .reserved else .shield

/-- Pin n of X4 (R575). -/
def analogPin (n : Nat) : Signal :=
  if n ≤ 32 then .ain ((n - 1) / 2) (polarity (n - 1))
  else if n ≤ 56 then (if n % 2 = 1 then .aout ((n - 33) / 2) else .aoutReturn ((n - 34) / 2))
  else if n ≤ 60 then .analogGround else if n = 61 then .shield else .reserved

/-- Pin n of X5 (R576). -/
def canPin (n : Nat) : Signal :=
  let p : Nat := (n - 1) / 4
  match (n - 1) % 4 with | 0 => .can p .pos | 1 => .can p .neg | 2 => .canGround p | _ => .shield

/-- Pin n of X6A or X6B: the pairs stand in the order A, B, D, C, and the last has its lines crossed (R577). -/
def ethPin (port n : Nat) : Signal :=
  match n with
  | 1 => .eth port 0 .pos | 2 => .eth port 0 .neg | 3 => .eth port 1 .pos | 4 => .eth port 1 .neg
  | 5 => .eth port 3 .pos | 6 => .eth port 3 .neg | 7 => .eth port 2 .neg | _ => .eth port 2 .pos

/-- Pin n of X10 (R580). -/
def safetyPin (n : Nat) : Signal :=
  if n ≤ 16 then .pair ((n - 1) / 2) (polarity (n - 1))
  else if n ≤ 24 then .contactor (n - 17)
  else match n with
    | 25 | 29 => .testPulse 0 | 27 | 31 => .testPulse 1
    | 26 => .estop 0 0 | 28 => .estop 0 1 | 30 => .estop 1 0 | 32 => .estop 1 1
    | 33 => .alarm .pos | 34 => .alarm .neg | 35 | 36 => .safetySupply | 37 | 38 => .safetyGround | 39 => .reserved | _ => .shield

/-- Pin n of X11 (R581). -/
def keyPin (n : Nat) : Signal :=
  match n with
  | 1 => .keyVcc | 2 => .keySelect | 3 => .keyClock | 4 => .keyData 0 | 5 => .keyData 1 | 6 => .keyData 2 | 7 => .keyData 3
  | 8 => .keyDetect | _ => .keyGround

/-- Pin n of X12 (R582). -/
def serialPin (n : Nat) : Signal :=
  if n ≤ 20 then
    let p : Nat := (n - 1) / 5
    match (n - 1) % 5 with | 0 => .serTx p .pos | 1 => .serTx p .neg | 2 => .serRx p .pos | 3 => .serRx p .neg | _ => .serGround p
  else if n ≤ 24 then .reserved else .shield

/-- What stands on way n, from 1, of a connector; none where it has no such way (R572 to R583). -/
def Connector.signal (c : Connector) (n : Nat) : Option Signal :=
  if n = 0 ∨ c.ways < n then none
  else some (match c with
    | .x1 => (match n with | 1 => .vin 0 | 2 => .vinReturn 0 | 3 => .vin 1 | 4 => .vinReturn 1 | _ => .shield)
    | .x2 => fieldPin 0 n
    | .x3 => fieldPin 1 n
    | .x4 => analogPin n
    | .x5 => canPin n
    | .x6A => ethPin 0 n
    | .x6B => ethPin 1 n
    | .x7 => if n = 1 then .antenna 0 else .rfGround 0
    | .x8 => if n = 1 then .antenna 1 else .rfGround 1
    | .x9A => if n = 1 then .fibreTx 0 else .fibreRx 0
    | .x9B => if n = 1 then .fibreTx 1 else .fibreRx 1
    | .x9C => if n = 1 then .fibreTx 2 else .fibreRx 2
    | .x10 => safetyPin n
    | .x11 => keyPin n
    | .x12 => serialPin n
    | .x13 => (match n with
      | 1 => .pps .pos | 2 => .pps .neg | 3 => .syncOut .pos | 4 => .syncOut .neg | 5 => .syncIn .pos | 6 => .syncIn .neg | 7 => .timeGround
      | _ => .shield))

/-- Optics stand behind a receptacle; on an LQ-4816-S, X9C has a blanking plug (R3, R579). -/
def State.fitted (s : State) (c : Connector) : Bool := match c with | .x9C => s.portFitted 2 | _ => true

/-- The key is powered: in start-up phase 3 and during a key write, from PD7 (R541, R594). -/
def State.keyPowered (s : State) : Bool := s.domOn 7 && (s.inPhase 3 || s.cfg.writing)

/-- ESTP_A (0) or ESTP_B (1) gives its off-pulse: 500 µs in every 20 ms, at module-time offset 0 ms or 10 ms (R348). It is the window in which the
channel it feeds is not sampled. -/
def estpLow (source now : Nat) : Bool :=
  let off := (now + (if source = 0 then 0 else 10000000)) % 20000000
  decide (off < 500000)

/-- A switch is open for the 300 µs of the test pulse given at a module time (R353). -/
def pulseOpen (now : Nat) (given : Option Nat) : Bool := given.any fun a => decide (a ≤ now) && decide (now < a + 300000)

/-- The module drives a pin at this instant: the switch behind it is closed, or its supply is on. None for a pin that it does not switch. The
test sources are high but for their pulses, and a pair's switch is open during its own (R348, R353). -/
def State.drives (s : State) : Signal → Option Bool
  | .fio c => (s.fio.chans[c]?).map FioChan.act
  | .antenna k => (s.gns.ants[k]?).map AntPath.supplyOn
  | .pair k .pos => (s.saf.pairs[k]?).map fun p => p.hs && !pulseOpen s.now p.hsAt
  | .pair k .neg => (s.saf.pairs[k]?).map fun p => p.ls && !pulseOpen s.now p.lsAt
  | .testPulse c => some (s.domOn 11 && !estpLow c s.now)
  | .safetySupply => some (s.domOn 11)
  | .alarm _ => some (!s.saf.alarmOpen)
  | .pps p => some (s.tim.ppsHigh == (p == .pos))
  | .keyVcc => some s.keyPowered
  | .keySelect | .keyClock | .keyData _ => if s.keyPowered then none else some false
  | .aout o => (s.sig.outs[o]?).map fun _ => s.domOn 12
  | .fibreTx p => if p < 3 then some (s.portFitted p && s.domOn 10) else none
  | _ => none

end Sys2Proof.Machine
end

