-- ==== Sys2Proof/Machine/Ratings.lean ====
section
/-!
DEFINITION. Ratings, operating conditions, power, heat and the integrator's wiring rules (R56, R584 to R602), as data and as decidable
conditions on an installation. Quantities are in V, A, W, °C, m, dB and the units that a name says.
-/
set_option autoImplicit false
namespace Sys2Proof.Machine

/-- A quantity lies within two bounds. -/
def inside (r : Rat × Rat) (x : Rat) : Bool := decide (r.1 ≤ x) && decide (x ≤ r.2)

/-! ### Absolute maximum ratings and operating conditions (R584, R585) -/

/-- Lowest and highest voltage that a pin withstands, referred to its own ground; `output` for a field pin configured as an output, whose
lowest voltage is 50 V below the field supply (R584). None where the table gives no voltage. -/
def Signal.withstands (output : Bool) (fieldSupply : Rat) : Signal → Option (Rat × Rat)
  | .vin _ | .fieldSupply _ => some (-36, 36)
  | .fio _ => some (if output then fieldSupply - 50 else -30, 36)
  | .ain _ _ | .aout _ => some (-30, 30)
  | .can _ _ => some (-40, 40)
  | .serTx _ _ | .serRx _ _ => some (-14, 14)
  | .antenna _ => some (-1, 15)
  | .pair _ _ | .contactor _ | .testPulse _ | .estop _ _ | .safetySupply => some (-36, 36)
  | .alarm _ => some (-30, 30)
  | .keyVcc | .keySelect | .keyClock | .keyData _ | .keyDetect => some (-1/2, 4)
  | .pps _ | .syncOut _ | .syncIn _ => some (-10, 15)
  | _ => none

/-- Other absolute limits (R584): supply inputs for 100 ms in any 10 s, V; current of an analog input in range 2, A; RF input and optical
input, dBm; baseplate in operation and storage, °C. -/
def supplyPulseMax : Rat := 45
def ainCurrentMax : Rat := 1/20
def rfInputMax : Rat := 10
def opticalInputMax : Rat := 3
def baseplateLimits : Rat × Rat := (-40, 85)
def storageLimits : Rat × Rat := (-40, 85)

/-- Conditions in which an installed module stands (R585). -/
structure Conditions where
  vin : List Rat
  baseplate : Rat
  air : Rat
  humidity : Rat
  fieldSupply : List Rat
deriving DecidableEq, Repr

/-- The conditions under which the figures of the manual hold (R585): one supply input within its range is enough. -/
def Conditions.rated (c : Conditions) : Bool :=
  c.vin.any (inside (18, 32)) && inside (-25, 70) c.baseplate && inside (-25, 70) c.air && decide (c.humidity ≤ 95)
    && c.fieldSupply.all (inside (18, 30))

/-! ### Interfaces (R586 to R594) -/

/-- The supply input that carries the module, by the diode OR of R586; none with equal voltages, which divide the current in no defined
ratio. A reversed input carries nothing. -/
def supplyingInput (a b : Rat) : Option Nat := if b < a ∧ 0 < a then some 0 else if a < b ∧ 0 < b then some 1 else none

/-- Input current at a draw and a voltage of the input, A (R586). -/
def inputCurrent (draw volts : Rat) : Rat := draw / volts

/-- Limits of the supply inputs (R586): current, A; inrush peak, A; inrush time, ms; error of the measurement, V. -/
def inputCurrentMax : Rat := 167/100
def inrushPeak : Rat := 4
def inrushMs : Rat := 1
def inputError : Rat := 3/20

/-- Field banks (R587): idle draw of the field supply, A; capacitance of an input, nF. -/
def fieldIdleMax : Rat := 3/200
def fieldInputNf : Rat := 10

/-- Analog channels (R588): impedance of an input, differential and each pin, ohm; the shunt of range 2, ohm, and its tolerance; common mode,
V; accuracy of an input in parts of the span at 25 °C and over the range of baseplates; noise, µV; load of an output; its compliance, V;
its short-circuit current, A, with tolerance; its accuracy in parts of full scale. -/
def ainImpedance : Rat × Rat := (1000000, 500000)
def ainShunt : Rat × Rat := (250, 1/2000)
def ainCommonMode : Rat × Rat := (-12, 12)
def ainAccuracy : Rat × Rat := (1/5000, 3/5000)
def ainNoise : Rat := 2
def aoutVoltageLoad : Rat := 2000
def aoutVoltageNf : Rat := 100
def aoutCurrentLoad : Rat := 500
def aoutCompliance : Rat := 12
def aoutShort : Rat × Rat := (1/40, 3/1000)
def aoutAccuracy : Rat := 1/1000

/-- Buses (R589): CAN and serial termination, ohm with tolerance; impedance, ohm, and threshold, V, of a serial receiver; its draw at 4,800
baud from 2 V, A; level of a serial driver into 100 ohm, V, and its listeners; length of an Ethernet cable, m. -/
def canTermination : Rat × Rat := (120, 1/100)
def serTermination : Rat × Rat := (120, 1/20)
def serImpedance : Rat := 12000
def serThreshold : Rat := 1/5
def serDraw : Rat := 1/500
def serLevel : Rat := 2
def serListeners : Nat := 10
def ethCable : Rat := 100

/-- Antenna inputs (R590): net gain, dB; noise figure, dB; in-band power, dBm; voltage of the supply with tolerance; its current, mA; fed
back from outside, V. -/
def antGain : Rat × Rat := (10, 35)
def antNoise : Rat := 5/2
def antPower : Rat := -40
def antSupply : Rat × Rat := (5, 1/20)
def antCurrent : Rat × Rat := (0, 100)
def antFedBack : Rat := 15

/-- Current that the module reads on an antenna supply: a voltage fed back from outside leaves less than 3 mA, which is OPEN (R99, R590). -/
def antReads (fedBack : Bool) (mA : Rat) : Rat := if fedBack then min mA (29/10) else mA

/-- Icxon optics (R591): transmit power, dBm; sensitivity and overload, dBm; segment length on OM2 or better and on OM1, m. -/
def opticalTx : Rat × Rat := (-19/2, -3)
def opticalRx : Rat × Rat := (-17, 0)
def segmentMax (om2 : Bool) : Rat := if om2 then 550 else 275

/-- Link budget, dB: the lowest transmit power less the sensitivity (R591). -/
def linkBudget : Rat := opticalTx.1 - opticalRx.1

/-- Propagation over a fibre of so many metres, ns (R592). -/
def fibreNs (metres : Nat) : Nat := 5 * metres

/-- Safety outputs (R593): pair supply, V; drop from V_RAIL, V; current of a pair, A; its short-circuit limit with tolerance; clamped load,
mJ; capacitance, nF; leakage, A; currents of ESTP and SSUP_OUT, A; drop of ESTP and SSUP_OUT, V; alarm contact, V, A and ohm. -/
def pairSupply : Rat × Rat := (18, 32)
def pairDrop : Rat := 4/5
def pairCurrentMax : Rat := 1/2
def pairShort : Rat × Rat := (9/10, 3/20)
def pairClamp : Rat := 200
def pairNf : Rat := 10
def pairLeakage : Rat := 1/20000
def testPulseCurrent : Rat := 1/20
def safetySupplyCurrent : Rat := 1/10
def auxDrop : Rat := 1
def alarmContact : Rat × Rat × Rat := (30, 1/2, 1)

/-- X11 and X13 (R594): KEY_VCC, V, with tolerance, and its current, A; the pull-up of KEY_DET_L, ohm; level of the drivers, V; rise time, ns;
SYNC_IN's termination, ohm, and threshold, V. -/
def keyVcc : Rat × Rat := (33/10, 1/20)
def keyCurrent : Rat := 1/20
def keyPullUp : Rat := 10000
def timeLevel : Rat := 2
def timeRise : Rat := 10
def syncTermination : Rat := 120
def syncThreshold : Rat := 1/5

/-! ### Isolation (R595) -/

/-- Barriers of the module. -/
inductive Barrier where
  | fieldBank (bank : Fin 2) | canPort (port : Fin 4) | serPort (port : Fin 4) | ethPort (port : Fin 2) | timeGroup | housing
deriving DecidableEq, Repr

/-- Test voltage of a barrier, V, and whether it is alternating (R595). -/
def Barrier.test : Barrier → Nat × Bool
  | .fieldBank _ => (1500, true) | .canPort _ => (1000, true) | .serPort _ => (1000, true) | .ethPort _ => (1500, true)
  | .timeGroup => (500, true) | .housing => (500, false)

/-- The barrier between a pin and the module's 0 V; none for a circuit referred to it (R320, R595). -/
def Signal.barrier : Signal → Option Barrier
  | .fio c => some (.fieldBank (if c < 24 then 0 else 1))
  | .fieldSupply b | .fieldGround b => some (.fieldBank (if b = 0 then 0 else 1))
  | .can p _ | .canGround p => some (.canPort (Fin.ofNat 4 p))
  | .serTx p _ | .serRx p _ | .serGround p => some (.serPort (Fin.ofNat 4 p))
  | .eth p _ _ => some (.ethPort (Fin.ofNat 2 p))
  | .pps _ | .syncOut _ | .syncIn _ | .timeGround => some .timeGroup
  | .shield => some .housing
  | _ => none

/-- Module 0 V to the housing: ohm and nF in parallel (R595); cross-section of the earth conductor, mm² (R595). -/
def housingBond : Rat × Rat := (1000000, 10)
def earthConductor : Rat := 4

/-! ### Power and heat (R56, R596 to R598) -/

/-- Budget of a domain, W; conversion losses are apart (R56). -/
def domainBudget : Nat → Rat
  | 0 => 1/2 | 1 => 9/10 | 2 => 9/10 | 3 => 3 | 4 => 2 | 5 => 8 | 6 => 3/2 | 7 => 2 | 8 => 6/5 | 9 => 6/5 | 10 => 3 | 11 => 4/5 | 12 => 6/5
  | _ => 0

/-- Conversion losses at full load, W (R56). -/
def conversionLoss : Rat := 3

/-- Sum of the budgets of the domains of a list (R56). -/
def budgetOf (l : List Nat) : Rat := l.foldl (fun a d => a + domainBudget d) 0

/-- Budget of the domains that are on, with conversion losses in the proportion of full load (R56, R596). -/
def State.budget (s : State) : Rat :=
  let all := budgetOf (List.range 13)
  budgetOf ((List.range 13).filter s.domOn) * (all + conversionLoss) / all

/-- Typical and greatest draw, W, of a mode, with the acquisition bank on or off and in a wake or not; a figure that
the table leaves out is none (R596). -/
def modeDraw (m : Mode) (bank wake : Bool) : Option Rat × Rat :=
  match m with
  | .dormant => if wake then (some 9, 19) else (some 3, 11)
  | .standby => if bank then (some 27, 30) else (some 22, 27)
  | .joystick | .autoPos | .autoTrack => if bank then (some 27, 30) else (some 24, 27)
  | .start | .service => (none, 30)

/-- Greatest draw of the module, W (R56). -/
def drawMax : Rat := 30

/-- Highest junction above a baseplate at a draw, steady (R598). -/
def junctionMax (baseplate draw : Rat) : Rat := baseplate + 4/5 * draw

/-- Baseplate over an ambient through a thermal resistance to it, K/W (R598). -/
def baseplateAt (ambient resistance draw : Rat) : Rat := ambient + resistance * draw

/-- The integrator's plate removes the draw: the baseplate stays at or below +70 °C (R598). -/
def plateOk (ambient resistance draw : Rat) : Bool := decide (baseplateAt ambient resistance draw ≤ 70)

/-- Housing (R597): width, height, depth and depth with connectors, mm; mass, kg; fixing holes and torque, N·m; flatness, mm per 100 mm; the
thermal sheet, K·cm²/W; the space before the connectors, mm. -/
structure Housing where
  width : Rat := 320
  height : Rat := 260
  depth : Rat := 72
  depthMated : Rat := 160
  mass : Rat := 23/5
  baseWidth : Rat := 300
  baseHeight : Rat := 240
  holes : Nat := 8
  torque : Rat := 8
  flatness : Rat := 1/20
  sheet : Rat := 1/10
  clear : Rat := 80
deriving DecidableEq, Repr

/-- Safe distances to a standard and to a steering magnetic compass, m (R599). -/
def compassSafe : Rat × Rat := (11/10, 7/10)

/-! ### Cabinet wiring (R595, R600 to R602) -/

/-- An E-stop device as wired (R601). -/
structure EStopWiring where
  contacts : Nat := 2
  fromOwnSource : Bool := true
  separateCores : Bool := true
  external : Bool := false
  nanofarads : Rat := 0
  loopMetres : Rat := 0
deriving DecidableEq, Repr

/-- A cabinet as the integrator wires it (R595, R600 to R602). -/
structure Wiring where
  /-- VIN_A and VIN_B have a single point of failure in common. -/
  commonSource : Bool := false
  /-- Rating of each input's protective device, A, and whether it is slow. -/
  fuses : List (Rat × Bool) := [(4, true), (4, true)]
  /-- An external diode or a joining of the inputs is fitted. -/
  joined : Bool := false
  /-- Cross-section of the earth conductor, mm². -/
  earth : Rat := 4
  estops : List EStopWiring := [{}, {}]
  /-- Pairs whose pins are joined to SGND, another pair or an external supply. -/
  pairJoins : List Nat := []
  /-- Contactor feedback inputs fed from SSUP_OUT through a linked auxiliary contact. -/
  feedbackOk : Bool := true
  /-- Net gain of each antenna at the connector, dB, and whether both share one cable. -/
  antGains : List Rat := [20, 20]
  antShared : Bool := false
  /-- Length of each fibre segment, m, and whether its fibre is OM2 or better. -/
  segments : List (Rat × Bool) := []
  /-- Space before the connectors, mm, and the thermal sheet, K·cm²/W. -/
  clear : Rat := 80
  sheet : Rat := 1/10
deriving DecidableEq, Repr

/-- An E-stop device is wired as it must be: two normally closed contacts in separate cores, each fed from its own ESTP source, at most 50 nF
and 200 m (R601). -/
def EStopWiring.ok (e : EStopWiring) : Bool :=
  e.contacts == 2 && e.fromOwnSource && e.separateCores && !e.external && decide (e.nanofarads ≤ 50) && decide (e.loopMetres ≤ 200)

/-- The wiring rules that bind the integrator (R590, R591, R595, R597, R600 to R602). -/
def Wiring.ok (w : Wiring) : Bool :=
  !w.commonSource && w.fuses.all (fun f => inside (3, 6) f.1 && f.2) && !w.joined && decide (earthConductor ≤ w.earth)
    && w.estops.all EStopWiring.ok && w.pairJoins.isEmpty && w.feedbackOk
    && w.antGains.all (inside antGain) && !w.antShared && w.segments.all (fun x => decide (x.1 ≤ segmentMax x.2))
    && decide (80 ≤ w.clear) && decide (w.sheet ≤ 1/10)

end Sys2Proof.Machine
end

