-- ==== Sys2Proof/Tests/States.lean ====
section
/-!
SUPPORT. The states of the tests and of the witnesses: a module at a few points of its life, built from reset.
-/
set_option autoImplicit false
namespace Sys2Proof.Tests
open Sys2Proof Sys2Proof.Machine

/-- Bank A on and configured: channel 0 an output of source SESSION, channel 1 an input; module time 100 s. -/
def wField : State :=
  (({ State.reset with }.modPwr fun b => { b with domOn := 0x1FFF }).modTim fun b => { b with now := 100000000000 }).modFio fun b =>
    { b with
      banks := updAt b.banks 0 fun k => { k with phase := .normal, loaded := true }
      chans := updAt (updAt b.chans 0 fun c => { c with cfg := { dir := .output, src := .session } }) 1 fun c => { c with cfg := { dir := .input } } }

/-- The safety channel running after start-up: PD11 on, SC and Weir sound, one thruster on pair 1. -/
def wSafe : State :=
  (((State.reset.modPwr fun b => { b with domOn := 0x1FFF }).modTim fun b => { b with now := 100000000000, frameAt := 100000000000 }).modSup
      fun b => { b with startPhase := 0, mode := .standby }).modSaf fun b =>
    { b with scOk := true, weirOk := true, started := true, latched := true
             thr := updAt b.thr 15 fun t => { t with pair := some 1 } }

/-- The CAN ports on their buses. -/
def wCan : State :=
  (State.reset.modTim fun b => { b with now := 100000000000, frameAt := 100000000000 }).modCan fun b =>
    { b with ports := b.ports.map fun p => { p with phase := .errorActive } }

/-- One entry pending on CAN0. -/
def wCanTx : State := modPort 0 (fun b => { b with tx := [{ frame := { id := 5 } }], nextOrder := 1 }) wCan

/-- CAN0 carries the class FB, and the image defines thruster 2. -/
def wCanRx : State :=
  ((modPort 0 (fun b => { b with filters := [{ id := 0x22, mask := 0x7FF, target := .thrFb 2 }] }) wCan).modCan fun b =>
    { b with classes := [{ primary := 0 }, { primary := 0 }] }).modCfg fun b =>
    { b with image := some { thrusters := [(2, {})] } }

/-- A module that has started, in STANDBY: every domain on, the store READY, module time 100 s at a frame instant. -/
def wRun : State :=
  (((State.reset.modPwr fun b => { b with domOn := 0x1FFF, supply := .normal, resetHeld := false }).modTim fun b =>
      { b with now := 100000000000, frameAt := 100000000000, tickAt := 99999500000, scAt := 100000000000 }).modSup fun b =>
        { b with startPhase := 0, mode := .standby }).modAqf fun b => { b with phase := .ready, budgetAt := 100000000000 }

/-- One object of P1 in the store, and one write of 1,000 bytes outstanding. -/
def wStore : State :=
  wRun.modAqf fun b => { b with
    journal := 40960, objs := [{ key := { part := 1, tag := 7 }, size := 24640, inJournal := false }]
    writes := [{ tag := { block := 0x1A, engine := 15, seq := 3 }, key := { part := 1, tag := 8 }, size := 1000, begun := true }] }

/-- A start-up phase in progress. -/
def wPhase (n : Nat) : State := wRun.modSup fun b => { b with mode := .start, startPhase := n }

/-- The running module with an image of two thrusters: 2 with an azimuth servo on field outputs, 5 of fixed direction. -/
def wImg : State :=
  wRun.modCfg fun b => { b with image := some { thrusters := [(2, { azKind := 1 }), (5, {})] } }

/-- A binary32 and a 16-bit number of a record body. -/
def wF (q : Rat) : Bytes := leBytes 4 (f32Of q).toNat
/-- A structure of one variable without constraints, of a class, with its signature (R181). -/
def wStruct (cls sig : Nat) : Bytes :=
  [BitVec.ofNat 8 cls, 0] ++ leBytes 2 10 ++ leBytes 4 1 ++ zeros 8 ++ leBytes 4 1 ++ zeros 8 ++ leBytes 8 sig ++ leBytes 4 0x358637BD
    ++ leBytes 4 0x358637BD ++ leBytes 4 0x38D1B717 ++ leBytes 4 0xFFFFFFFF ++ zeros 44 ++ leBytes 4 0 ++ leBytes 4 1 ++ leBytes 4 0 ++ zeros 48
/-- A small image: one azimuth thruster on bus 0 in the root group, with the records R548 requires. -/
def wRecords : List RawRecord :=
  [{ type := 0x0002, index := 0, body := zeros 36 ++ leBytes 4 0x42C80000 ++ zeros 24 },
   { type := 0x0010, index := 0
     body := ([0x0A10, 0x0A20, 0x0A30].flatMap fun o => (List.range 9).flatMap fun k => leBytes 4 (o + k) ++ leBytes 4 (if k % 4 = 0 then 0x3F800000 else 0))
       ++ leBytes 4 0x0C01 ++ leBytes 4 2 ++ leBytes 4 0x0D0D ++ leBytes 4 1 ++ leBytes 4 0x0D0E ++ leBytes 4 1 },
   { type := 0x0020, index := 0, body := zeros 24 }, { type := 0x0020, index := 1, body := leBytes 4 0x3F800000 ++ zeros 20 },
   { type := 0x0030, index := 0
     body := leBytes 4 7 ++ [0, 1, 0, 0] ++ leBytes 4 0x42C80000 ++ leBytes 4 0x0 ++ leBytes 4 0x3F800000 ++ leBytes 4 0x43FA0000 ++ leBytes 4 0x41200000 ++ leBytes 4 0x3E4CCCCD ++ zeros 16 ++ [0, 0, 1, 2, 0, 255, 255, 0]
       ++ zeros 6 ++ [255, 255] ++ leBytes 4 0x0 ++ leBytes 4 0x3F800000 ++ leBytes 4 0x3DCCCCCD ++ leBytes 4 0x3C23D70A ++ leBytes 4 0x3F800000 ++ zeros 20 ++ leBytes 4 0x41200000 ++ leBytes 4 0x41A00000
       ++ ((List.range 16).flatMap fun k => wF (k : Nat) ++ wF (k : Nat)) ++ zeros 128 },
   { type := 0x0031, index := 0, body := zeros 12 },
   { type := 0x0032, index := 0, body := [255, 0, 1, 0] ++ zeros 4 ++ zeros 64 },
   { type := 0x0035, index := 0
     body := leBytes 4 0x3F800000 ++ leBytes 4 0x3F800000 ++ leBytes 4 0x3F800000 ++ zeros 20 ++ leBytes 4 0x3F800000 ++ leBytes 4 0x3F800000 ++ zeros 120 ++ zeros 48 ++ leBytes 4 0x447A0000 ++ leBytes 4 0x447A0000 ++ zeros 16 ++ leBytes 4 0x3F800000 ++ leBytes 4 0x3F000000 ++ leBytes 4 0x3F800000
       ++ zeros 20 },
   { type := 0x0040, index := 0, body := wStruct 0 18417864944130166471 }, { type := 0x0040, index := 1, body := wStruct 1 12328880037750769131 }, { type := 0x0040, index := 2, body := wStruct 3 151926241595823027 },
   { type := 0x0042, index := 0, body := [255, 0, 1, 0] ++ zeros 12 },
   { type := 0x0043, index := 0, body := zeros 1024 },
   { type := 0x0050, index := 0
     body := zeros 4 ++ leBytes 2 100 ++ zeros 4 ++ leBytes 2 90 ++ zeros 16 ++ ((List.range 8).flatMap fun _ => leBytes 2 2000 ++ leBytes 2 100)
       ++ (0 :: List.replicate 15 255) ++ leBytes 4 0x41200000 ++ leBytes 4 0x0 ++ leBytes 4 0x3DCCCCCD ++ leBytes 4 0x0 ++ leBytes 4 0x3F000000 ++ leBytes 4 0x41700000 ++ zeros 4 ++ zeros 420 },
   { type := 0x0073, index := 0, body := zeros 18 ++ [1] ++ zeros 13 }, { type := 0x0073, index := 1, body := zeros 18 ++ [1] ++ zeros 13 },
   { type := 0x0090, index := 0, body := [] }, { type := 0xFFFF, index := 0, body := [] }]

/-- Start-up phase 4 with the small image read. -/
def wValid : State := (wPhase 4).modCfg fun b => { b with records := wRecords }

/-- Both antennas working, channel 3 with a phase, one request in the queue. -/
def wGns (p : ChanPhase) : State :=
  (wRun.modGns fun b => { b with
    ants := b.ants.map fun a => { a with feOn := true, supplyOn := true }
    queue := [{ prio := 2, chan := 3, cells := 384 }] }).modGns fun b => { b with chans := updAt b.chans 3 fun c => { c with phase := p, since := 50000000000, prio := 2 } }

/-- A solution of antenna A, and a fixed heading. -/
def wFix : State :=
  (wGns .track).modGns fun b => { b with
    sols := b.sols.map fun x => { x with type := 5, valid := true, lost := false, lastType := 5, pdop := 2, nsat := 12 }
    hdgPhase := .fixed, ndd := 9, baseline := 10 }

/-- A running module whose image gives both correction sources: serial port 2 in mode RTCM, and a UDP port of ETH1, its link up. -/
def wCorr : State :=
  ((wRun.modCfg fun b => { b with image := some { scalars := { corrPriKind := 1, corrPriSer := 2, corrSecKind := 2, corrSecUdp := 2101 } } }).modSer
    fun b => { b with ports := updAt b.ports 2 fun p => { p with cfg := { p.cfg with cfg := 0x02 } } }).modEth
    fun b => { b with ports := updAt b.ports 0 fun p => { p with link := true, speed := 2 } }

/-- The running module under the small image, both references valid, slot 7 bound for the MPC and slot 9 for the scenarios. -/
def wSlv : State :=
  ((((wRun.modCfg fun b => { b with image := some (imageOf wRecords) }).modFus fun b => { b with
      published := true, obs := { b.obs with started := true }, snap := { b.snap with posValid := true, hdgValid := true, tov := 100000000000 } }).modTim
      fun b => { b with now := 100001000000 }).modSlv fun b => { b with
      avail := 0xFF
      slots := updAt (updAt b.slots 7 fun k => { k with owner := .cc1, cls := 1, phase := .bound, struct := 1, data := [0, 0, 0, 0] }) 9 fun k =>
        { k with owner := .cc1, cls := 2, phase := .bound, struct := 0, data := [0, 0, 0, 0] } }).modSup fun b => { b with mode := .standby }

/-- wSlv at its MPC's start. -/
def wMpc : State := (wSlv.atFrame 3000).modCtl (fun b => { b with mpcAt := some wSlv.tim.frameAt })
/-- PD12 on: channel 2 a running class S channel of range 0, channel 5 in range 2, output 3 a current output of source SESSION. -/
def wSig : State :=
  wRun.modSig fun b => { b with
    ins := updAt (updAt b.ins 2 fun c => { c with used := true, rate := 1000, phase := .running }) 5 fun c =>
      { c with used := true, rate := 1000, range := 2, phase := .running }
    outs := updAt b.outs 3 fun o => { o with current := true, src := .session } }

/-- SER0 an IEC 61162-2 port that listens and talks HDT at 10 Hz, ETH1 with its link up, slot 3 bound to SER0, slot 8 to binding 4. -/
def wSer : State :=
  ((((wRun.modCfg fun b => { b with image := some { refs := [{ slot := 3, type := 9, srcKind := 2 }, { slot := slotId 8, type := 10, srcKind := 3, srcIndex := 4 }] } }).modSer fun b => { b with
      ports := updAt b.ports 0 fun p => { p with cfg := { p.cfg with cfg := 0x31, rates := [0, 10, 0, 0, 1], silence := 5 } } }).modEth fun b => { b with
      binds := [(4, { iface := 0, srcId := ascii "GP0001", formatter := ascii "HDT", group := 3 })]
      ports := updAt b.ports 0 fun p => { p with link := true, joined := [3], speed := 2, second := 100, cfg := { p.cfg with rates := [0, 10, 0, 0, 1] } } }).modFus fun b => { b with
      published := true, snap := { b.snap with tov := 99900000000, hdgValid := true } })

/-- Member 1 of domain 5, FOLLOW, with both ports UP; member 0 holds LEAD. -/
def wIcx : State :=
  (wRun.modIcx fun b => { b with
    memberId := some 1, index := 1, cfg := some { domain := 5, slots := 2 }, phase := .member, role := .follow, lead := 0, leadKnown := true, epoch := 3
    ports := [{ phase := .up }, { phase := .up }, { phase := .notFitted }]
    members := updAt b.members 0 fun m => { m with phase := .member, role := .lead, heard := some 0 } }).modFus fun b => { b with published := true }
/-- The same as LEAD with no other member. -/
def wLead : State := wIcx.modIcx fun b => { b with role := .lead, lead := 1, members := List.replicate 8 {} }
/-- A frame of member 0. -/
def wFrame (type : Nat) (p : Bytes) : IcxFrame := { type := type, domain := 5, src := 0, dst := 0xFF, ttl := 4, frame := 5000, epoch := 3, payload := p }

/-- Session 3 open with a role on connection 4 of a running module in a mode, with the small image of two thrusters. -/
def wSes (role : Nat) (m : Mode) : State :=
  (wImg.modSup fun b => { b with mode := m }).modSes fun b => { b with
    conns := [{ id := 4, addr := 0x0A000001, tls := true, session := some 3, hello := true }]
    sessions := updAt b.sessions 3 fun x => { x with phase := .open_, role := role, conn := 4, source := 0x0A000001 } }
/-- A state whose estimated position is that of a point. -/
def wNear (s : State) (g : Geo) : State :=
  s.modFus fun b => { b with snap := { b.snap with posValid := true, posN := (s.planeOf g).1, posE := (s.planeOf g).2 } }
/-- The request of these witnesses. -/
def wReq : Req := { conn := 4, id := 17 }

end Sys2Proof.Tests
end

