-- ==== Sys2Proof/Tests/Slice0.lean ====
section
/-!
SUPPORT. The model's own tests: the checks of well-formedness, the decoder, and single steps whose results are the spec's.
-/
set_option autoImplicit false
set_option Elab.async false
namespace Sys2Proof.Tests
open Sys2Proof Sys2Proof.Machine

/-- A request ID of 33 bits is refused (R442). -/
theorem test_wf_request_id_1 :
    ([.modeReq { conn := 1, id := 2 ^ 32 } 0 false false, .sstopReqEnter { conn := 1, id := 2 ^ 32 } 0, .sstopReqReset { conn := 1, id := 2 ^ 32 },
     .restartReq { conn := 1, id := 2 ^ 32 } 0, .modeTblend { conn := 1, id := 2 ^ 32 } 0, .coldStart { conn := 1, id := 2 ^ 32 },
     .rtkReset { conn := 1, id := 2 ^ 32 }, .refSelect { conn := 1, id := 2 ^ 32 } 0, .anchor { conn := 1, id := 2 ^ 32 } 0 false,
     .refCmdResetModel { conn := 1, id := 2 ^ 32 } 0 false, .slvTest { conn := 1, id := 2 ^ 32 } 0, .spApply { conn := 1, id := 2 ^ 32 },
     .spMove { conn := 1, id := 2 ^ 32 }, .tuneSel { conn := 1, id := 2 ^ 32 } 0, .joyDemand { conn := 1, id := 2 ^ 32 } 0 0 0,
     .joyRelease { conn := 1, id := 2 ^ 32 }, .trackCommit { conn := 1, id := 2 ^ 32 } 0, .trackClear { conn := 1, id := 2 ^ 32 },
     .thrEnable { conn := 1, id := 2 ^ 32 } 0, .srvClearFault { conn := 1, id := 2 ^ 32 } 0, .resetProfile { conn := 1, id := 2 ^ 32 } 0,
     .setBaseline { conn := 1, id := 2 ^ 32 } 0, .storeNow { conn := 1, id := 2 ^ 32 } 0, .learnRun { conn := 1, id := 2 ^ 32 } 0 0 false,
     .testMove { conn := 1, id := 2 ^ 32 } 0 0] : List Instr).all (fun c => !c.wellFormed) = true := by decide +kernel

/-- A request ID of 33 bits is refused (R442). -/
theorem test_wf_request_id_2 :
    ([.testStop { conn := 1, id := 2 ^ 32 } 0, .arm { conn := 1, id := 2 ^ 32 }, .trcStop { conn := 1, id := 2 ^ 32 },
     .force { conn := 1, id := 2 ^ 32 }, .sigCmdStart { conn := 1, id := 2 ^ 32 } 0, .sigCmdStop { conn := 1, id := 2 ^ 32 } 0,
     .sigCmdSync { conn := 1, id := 2 ^ 32 }, .chCfg { conn := 1, id := 2 ^ 32 } 0, .chDelay { conn := 1, id := 2 ^ 32 } 0,
     .outValue { conn := 1, id := 2 ^ 32 } 0, .outOn { conn := 1, id := 2 ^ 32 } false 0, .outOff { conn := 1, id := 2 ^ 32 } false 0,
     .fioClearFault { conn := 1, id := 2 ^ 32 } 0 false, .proofBegin { conn := 1, id := 2 ^ 32 }, .pairTestHs { conn := 1, id := 2 ^ 32 } 0,
     .pairTestLs { conn := 1, id := 2 ^ 32 } 0, .estopTest { conn := 1, id := 2 ^ 32 } 0, .proofEnd { conn := 1, id := 2 ^ 32 },
     .faultReset { conn := 1, id := 2 ^ 32 } 0 false 0, .alarmTest { conn := 1, id := 2 ^ 32 }, .recover { conn := 1, id := 2 ^ 32 } 0,
     .handover { conn := 1, id := 2 ^ 32 }, .setMember { conn := 1, id := 2 ^ 32 } 0, .hello { conn := 1, id := 2 ^ 32 } 0 [] [],
     .resume { conn := 1, id := 2 ^ 32 } 0 0] : List Instr).all (fun c => !c.wellFormed) = true := by decide +kernel

/-- A request ID of 33 bits is refused (R442). -/
theorem test_wf_request_id_3 :
    ([.read { conn := 1, id := 2 ^ 32 } 0 0, .write { conn := 1, id := 2 ^ 32 } [], .bulkRead { conn := 1, id := 2 ^ 32 } 0 0 0 0,
     .bulkWrite { conn := 1, id := 2 ^ 32 } 0 0 0 [], .subscribe { conn := 1, id := 2 ^ 32 } 0, .account { conn := 1, id := 2 ^ 32 } 0 0 [] [],
     .password { conn := 1, id := 2 ^ 32 } [] [], .keepalive { conn := 1, id := 2 ^ 32 }, .close { conn := 1, id := 2 ^ 32 },
     .unknownMessage { conn := 1, id := 2 ^ 32 } 0, .sesCmdClose { conn := 1, id := 2 ^ 32 } 0, .installCert { conn := 1, id := 2 ^ 32 },
     .useFactory { conn := 1, id := 2 ^ 32 }, .unlock { conn := 1, id := 2 ^ 32 }, .timCmdResetModel { conn := 1, id := 2 ^ 32 },
     .bistPartial { conn := 1, id := 2 ^ 32 }, .bistFull { conn := 1, id := 2 ^ 32 } 0, .logClear { conn := 1, id := 2 ^ 32 } 0,
     .exportPrepare { conn := 1, id := 2 ^ 32 }, .importCommit { conn := 1, id := 2 ^ 32 } 0, .importAbort { conn := 1, id := 2 ^ 32 },
     .archiveTrace { conn := 1, id := 2 ^ 32 }, .archiveDelete { conn := 1, id := 2 ^ 32 } 0, .confirm { conn := 1, id := 2 ^ 32 } false,
     .writeKey { conn := 1, id := 2 ^ 32 } 0] : List Instr).all (fun c => !c.wellFormed) = true := by decide +kernel

/-- A request ID of 33 bits is refused (R442). -/
theorem test_wf_request_id_4 :
    ([.discard { conn := 1, id := 2 ^ 32 }] : List Instr).all (fun c => !c.wellFormed) = true := by decide +kernel

/-- An operand one beyond its field or table is refused. -/
theorem test_wf_operands_1 :
    ([.releaseStrobe (List.replicate 13 0), .memoryScrub { memory := 256 }, .startUpBist (List.replicate 25 0), .acqPass 0 [192],
     .gtSnapshotPublish 0 (List.replicate 3 0) [] [] [] {} {}, .gtSnapshotPublish 0 [] [] [] (List.replicate 3 none) {} {},
     .frameInstant { latch := [{ channel := 192 }] }, .gtSnapshotPublish 0 [] [] [(192, 0)] [] {} {}, .rtcmFrame 0 (List.replicate 1030 0), .solveSubmit 0 (List.replicate 31 0) [],
     .linkReply 0 false [] 0 (List.replicate 25 0) 0, .linkReply 0 false (List.replicate 25 0) 0 [] 0, .bankOverload 0 (List.replicate 25 0) 0, .scCycle 0 0 0 0 (List.replicate 9 0) 0,
     .canTxSubmit 0 0 { id := 2048 } .none_, .canTxSubmit 0 0 { id := 2 ^ 29, ext := true } .none_,
     .canTxSubmit 0 0 { data := List.replicate 9 0, fd := true } .none_, .canRxFrame 0 { data := List.replicate 12 0 } false 0 0,
     .tcpConnect 0 65536 0 0, .tcpConnect 0 0 (2 ^ 32) 0, .sync { frame := { port := 3 } }, .sync { frame := { type := 256 } },
     .sync { frame := { flags := 256 } }, .sync { frame := { domain := 256 } }, .sync { frame := { src := 256 } }, .sync { frame := { dst := 256 } },
     .sync { frame := { ttl := 65536 } }, .sync { frame := { frame := 2 ^ 32 } }, .sync { frame := { epoch := 2 ^ 32 } },
     .sync { frame := { tag := 2 ^ 32 } }, .sync { frame := { payload := List.replicate 1025 0 } }] : List Instr).all (fun c => !c.wellFormed) = true := by decide +kernel

/-- The same, for the fields of a domain's frames and of a session's messages. -/
theorem test_wf_operands_2 :
    ([.icxForward { frame := { type := 256 } }, .exchange { frame := { type := 256 } }, .vote { frame := { type := 256 } },
     .command { frame := { type := 256 } }, .result { frame := { type := 256 } }, .sstop { frame := { type := 256 } },
     .join { frame := { type := 256 } }, .state { frame := { type := 256 } }, .extCap { frame := { type := 256 } },
     .extDemand { frame := { type := 256 } }, .hello { conn := 1, id := 5 } 256 [] [], .hello { conn := 1, id := 5 } 0 (List.replicate 256 0) [],
     .hello { conn := 1, id := 5 } 0 [] (List.replicate 256 0), .resume { conn := 1, id := 5 } 256 0, .read { conn := 1, id := 5 } 0 65536,
     .write { conn := 1, id := 5 } (List.replicate 130 (0, 0)), .bulkRead { conn := 1, id := 5 } 0 0 0 65536,
     .bulkWrite { conn := 1, id := 5 } 0 0 0 (List.replicate 1029 0), .account { conn := 1, id := 5 } 256 0 [] [],
     .account { conn := 1, id := 5 } 0 256 [] [], .account { conn := 1, id := 5 } 0 0 (List.replicate 256 0) [],
     .account { conn := 1, id := 5 } 0 0 [] (List.replicate 256 0), .password { conn := 1, id := 5 } (List.replicate 256 0) [],
     .password { conn := 1, id := 5 } [] (List.replicate 256 0), .badMessage 0 (zeros 17) [], .tlsHandshake 0 { suites := [2 ^ 16] } none,
     .unknownMessage { conn := 1, id := 5 } 256, .aqfWriteSubmit 0 { part := 7 } 0 (.bytes []), .aqfRead { part := 7 } .none_,
     .thermalSweep (List.replicate 10 (0, 0)), .bistDone (List.replicate 25 0)] : List Instr).all (fun c => !c.wellFormed) = true := by decide +kernel

/-- Operands at the end of their range are well-formed. -/
theorem test_wf_largest :
    ([.releaseStrobe (List.replicate 12 0), .canTxSubmit 0 0 { id := 2047 } .none_, .canTxSubmit 0 0 { id := 2 ^ 29 - 1, ext := true } .none_,
     .canRxFrame 0 { data := List.replicate 64 0, fd := true } false 0 0, .tcpConnect 0 65535 0 0,
     .write { conn := 1, id := 5 } (List.replicate 129 (0, 0)), .read { conn := 1, id := 5 } 0 65535,
     .sync { frame := { port := 2, type := 255, payload := List.replicate 1024 0 } }, .aqfRead { part := 6 } .none_,
     .keepalive { conn := 1, id := 2 ^ 32 - 1 }] : List Instr).all (fun c => c.wellFormed) = true := by decide +kernel

/-- The state a command leaves, if it answers one. -/
def after (c : Instr) (s : State) : Option State :=
  match step (s.front c) with
  | .next t => some t
  | _ => none

/-- No word spells a command: the table gives its rows no bits. -/
theorem test_decode_none : decodeTableWord 0 0 = none ∧ decodeTableWord 32 0xFFFFFFFF = none := by decide

/-- A word that spells no command leaves the queue as it is. -/
theorem test_with_fetch_word : State.reset.withFetchWord 32 5 = State.reset := by rfl

/-- The next frame instant is 20 ms later, and the frame number follows it (R14): 100.02 s is frame 5,001. -/
theorem test_frame_instant : (after (.frameInstant {}) wRun).map (fun t => (t.tim.frameAt, t.frame)) = some (100020000000, 5001) := by decide +kernel

/-- Identifier 5 goes before identifier 7, which was submitted first (R380). -/
theorem test_can_lowest_identifier_first :
    (after (.canFrameStart 0) (modPort 0 (fun b => { b with tx := [{ frame := { id := 7 } }, { frame := { id := 5 }, order := 1 }], nextOrder := 2 })
      wCan)).map (fun t => (t.can.port 0).tx.map (·.phase)) = some [.pending, .transmitting] := by decide +kernel

/-- A length of 9 bytes is no DLC length, and the refusal is counted (R379). -/
theorem test_can_format_refused :
    (after (.canTxSubmit 0 13 { data := List.replicate 9 0 } .none_) wCan).map (fun t => ((t.can.port 0).tx.length, (t.can.port 0).refused)) = some (0, 1) := by
  decide +kernel

/-- A field supply below 18 V for 10 ms takes the bank to FIELD_LOW, for less it does not (R330). -/
theorem test_field_low :
    (after (.fieldLow 0 0x418F0000 10000) wField).map (fun t => (t.fio.bank 0).phase) = some .fieldLow ∧
      (after (.fieldLow 0 0x418F0000 9999) wField).map (fun t => (t.fio.bank 0).phase) = some .normal := by decide +kernel

/-- A rail of 16.5 V is no warning, since the limit is below 16.5 V (R517). -/
theorem test_power_fail_limit :
    (after (.powerFailWarning 0x41840000) wRun).map (fun t => (t.pwr.supply, t.domOn 3)) = some (.normal, true) := by decide +kernel

/-- From AUTO_POS, SERVICE is refused with NOT_ALLOWED and the mode stays (R69). -/
theorem test_mode_from_dp :
    (after (.modeReq wReq 5 false false) (wSes 2 .autoPos)).map (fun t => (t.sup.resCode, t.sup.mode)) = some (1, .autoPos) := by decide +kernel

/-- An OBSERVER's mode request fails the first check, ROLE (R73). -/
theorem test_mode_role : (after (.modeReq wReq 1 false false) (wSes 0 .standby)).map (fun t => t.sup.resCode) = some 4 := by decide +kernel

/-- MODE_TBLEND reads 5.0 while no image is loaded, after the frame number 5,000 (R95, R443). -/
theorem test_read_tblend :
    (after (.read wReq 0x00010124 1) (wSes 0 .standby)).map (fun t => t.ses.sent.head?.map (·.payload)) =
      some (some [0x88, 0x13, 0, 0, 0, 0, 0xA0, 0x40]) := by decide +kernel

/-- The fifth failure of R452's example locks the source out for 60 s. -/
theorem test_lockout_60_s :
    (after (.hello wReq 0 [] []) (wRun.modSes fun b =>
      { b with conns := [{ id := 4, addr := 9, tls := true }], sources := [{ addr := 9, fails := 4, lastFail := 98000000000 }] })).map
        (fun t => (t.ses.source 9).map (fun x => (x.n, x.until_))) = some (some (1, some 160000000000)) := by decide +kernel

/-- The connection beyond the forty that wait is reset, and an ID of 0 closes its connection (R441, R443). -/
theorem test_connection_limit :
    (after (.tcpConnect 0 4816 9 9) (wSer.modSes fun b => { b with conns := List.replicate 40 { id := 5 } })).map (fun t => t.ses.conns.length) = some 40 := by
  decide +kernel

/-- BIND from an engine that does not own the slot answers OWNER (R185). -/
theorem test_bind_owner : (after (.bind 0 7 1) wSlv).map (fun t => t.slv.mailbox) = some 5 := by decide +kernel

/-- CANCEL on a BOUND slot answers NOTHING_PENDING (R196). -/
theorem test_cancel_bound : (after (.cancel 1 7) wSlv).map (fun t => t.slv.mailbox) = some 10 := by decide +kernel

/-- The worked examples of R101: a cold search of GPS L1 C/A takes 51,150 cells, a hot-start window 384. -/
theorem test_search_windows : wRun.windowCells 5 0 false = 51150 ∧ wRun.windowCells 2 0 false = 384 := by decide +kernel

/-- The strobe counts the frames of phase lock, and a drop of the lock indicator below 0.8 is a slip that returns the count to 0 (R106). -/
theorem test_strobe_lock :
    let c : Channel := { phase := .track, cpValid := true, lockTime := 7 }
    (Channel.strobe 3 0 { lock := 9 / 10 } c).lockTime = 8 ∧ (Channel.strobe 3 0 { lock := 7 / 10 } c).lockTime = 0 ∧
      (Channel.strobe 3 0 { lock := 7 / 10 } c).slip = true := by decide +kernel

/-- SHA-256 of "abc" begins with the bytes of the worked example of FIPS 180-4. -/
theorem test_sha256_abc : (sha256 [0x61, 0x62, 0x63]).take 4 = [0xba, 0x78, 0x16, 0xbf] := by decide +kernel

/-! ### Connectors and ratings (the examples of R596 and R598, R592, and pins read off the tables of R574 to R583) -/

theorem test_pins : [Connector.x2.signal 24, Connector.x3.signal 1, Connector.x4.signal 32, Connector.x4.signal 34, Connector.x6A.signal 7,
    Connector.x10.signal 16, Connector.x10.signal 27, Connector.x11.signal 8, Connector.x12.signal 20, Connector.x13.signal 9] =
    [some (.fio 23), some (.fio 24), some (.ain 15 .neg), some (.aoutReturn 0), some (.eth 0 2 .neg), some (.pair 7 .neg), some (.testPulse 1),
     some .keyDetect, some (.serGround 3), none] := by decide +kernel

theorem test_heat : plateOk 50 (3/4) 30 = false ∧ plateOk 50 (9/20) 30 = true ∧ junctionMax (baseplateAt 50 (9/20) 30) 30 = 175/2 ∧
    junctionMax (baseplateAt 50 (9/20) 24) 24 = 80 := by decide +kernel

theorem test_budget : budgetOf (List.range 13) + conversionLoss = 146/5 ∧ budgetOf [0, 7, 8, 9, 10, 11, 12] = 99/10 ∧ fibreNs 50000 = 250000 := by
  decide +kernel

end Sys2Proof.Tests
end

