-- ==== Sys2Proof/Tests/Witness.lean ====
section
/-!
SUPPORT. A witness for the hypotheses of each statement: `wit_<command>` meets those of the command's clause of a completion statement,
the others those of a clause of a rule's statement or of an invariant.
-/
set_option autoImplicit false
set_option linter.unusedVariables false
set_option Elab.async false
namespace Sys2Proof.Tests
open Sys2Proof Sys2Proof.Machine

/-- The sizes of `Sized`, in one list. -/
def sizeList (s : State) : List Nat :=
  [s.hdr.length, s.sup.engines.length, s.sup.dlCount.length, s.gns.ants.length, s.gns.chans.length, s.fus.refs.length, s.slv.engines.length, s.slv.slots.length, s.ctl.thr.length, s.ctl.groups.length, s.ctl.fail.length, s.ctl.buses.length, s.srv.thr.length, s.sig.ins.length, s.sig.outs.length, s.fio.banks.length, s.fio.chans.length, s.saf.pairs.length, s.saf.thr.length, s.saf.estops.length, s.can.ports.length, s.can.fb.length, s.ser.ports.length, s.eth.ports.length, s.ses.sessions.length, s.icx.members.length, s.icx.ports.length, s.thm.sensors.length, s.bst.units.length]

theorem sized_of {s : State} (h : sizeList s = [32, 16, 8, 2, 192, 12, 8, 512, 16, 64, 64, 8, 16, 16, 12, 2, 48, 8, 16, 2, 4, 16, 4, 2, 32, 8, 3, 9, 24]) : Sized s := by
  simp only [sizeList, List.cons.injEq, and_true] at h
  constructor <;> simp only [h]

theorem pair_none {α β : Type} {p : α × Option β} (h : p.2.isNone = true) : p = (p.1, none) := by
  obtain ⟨a, b⟩ := p
  cases b with
  | none => rfl
  | some b => simp at h
theorem find_only {α : Type} {a : α} {p : α → Bool} (h : p a = true) : [a].find? p = some a := by simp [h]
theorem accountFor_only {s : State} {name pw : Bytes} (k : Nat) (a : Account) (h : s.ses.accounts = [(k, a)]) (hp : (s.aqf.phase == .failed) = false)
    (hw : passwordOk pw = true) (hn : a.name = name) (hh : a.hash = pbkdf2 pw a.salt) : s.accountFor name pw = some (k, a) := by
  simp [State.accountFor, hp, hw, h, hn, hh]

/-! Allocation -/

theorem wit_allocationStage : ∃ (us : Nat) (s : State), s.stagesRun = true ∧ s.sup.mode ≠ .start ∧ s.fus.published = true ∧
    s.ctl.allocFrame ≠ some s.frame ∧ s.awaitsLead us = false ∧ s.engineRuns 9 = true :=
  ⟨2500, wSlv.modSlv fun b => { b with avail := 0 }, by decide +kernel⟩

theorem wit_joyStale : ∃ (s : State), s.engineRuns 9 = true ∧ (refreshJoy s).sup.mode = .joystick ∧ (refreshJoy s).ctl.joy.stale = false ∧
    (refreshJoy s).joySince + nsOf s.scalars.joyMaxAge < s.now :=
  ⟨wImg.modSup fun b => { b with mode := .joystick }, by decide +kernel⟩

theorem wit_busStale : ∃ (bus : Fin 8) (c : BusCfg) (s : State), s.ctl.buses.length = 8 ∧ s.engineRuns 9 = true ∧
    lookupK s.image.buses bus.val = some c ∧ s.busFresh bus.val c = false ∧ (s.ctl.buses.getD bus.val {}).stale = false :=
  ⟨3, { source := 1, fallback := 250 }, wRun.modCfg fun b => { b with image := some { buses := [(3, { source := 1, fallback := 250 })] } }, by decide +kernel⟩

theorem wit_extGroupStale : ∃ (group : Fin 64) (c : GroupCfg) (s : State), s.ctl.groups.length = 64 ∧ s.engineRuns 9 = true ∧
    s.groupCfg group.val = some c ∧ c.external = true ∧ s.extOld group.val = true ∧ (s.ctl.group group.val).stale = false :=
  ⟨63, { external := true }, wRun.modCfg fun b => { b with image := some { groups := [(63, { external := true })] } }, by decide +kernel⟩

theorem mpc_taken : wMpc.submitCheck .cc1 { slot := 7, frame := wMpc.frame, latestStart := wMpc.now + 10000000 }
    (deltasTo (wMpc.slv.slot 7).data (wMpc.mpcData 7)).length (deltasTo (wMpc.slv.slot 7).data (wMpc.mpcData 7)) = 0 :=
  submitCheck_deltas _ _ _ _ _ (by decide +kernel) (by decide +kernel) (by decide +kernel) (by decide +kernel) (by decide +kernel)
    (by decide +kernel) (by decide +kernel) rfl

theorem wit_mpcStart : ∃ (i : Nat) (s : State) (u : State), Sized s ∧ s.stagesRun = true ∧ s.tim.frameAt % 100000000 = 0 ∧
    s.ctl.mpcAt ≠ some s.tim.frameAt ∧ mpcMode s.sup.mode = true ∧ s.mpcSuspended = false ∧ s.engineRuns 10 = true ∧ s.fus.published = true ∧
    s.ctlSnap.posValid = true ∧ s.ctlSnap.hdgValid = true ∧ s.mpcSlot = some i ∧ (s.slv.slot i).phase = .bound ∧
    (s.slv.slot i).struct = s.mpcStructNow ∧ u = (s.atFrame 3000).modCtl (fun b => { b with mpcAt := some s.tim.frameAt }) ∧
    u.submitCheck .cc1 { slot := i, frame := u.frame, latestStart := u.now + 10000000 } (deltasTo (u.slv.slot i).data (u.mpcData i)).length (deltasTo (u.slv.slot i).data (u.mpcData i)) = 0 :=
  ⟨7, wSlv, wMpc, sized_of (by decide +kernel), by decide +kernel, by decide +kernel, by decide +kernel, by decide +kernel, by decide +kernel,
      by decide +kernel, by decide +kernel, by decide +kernel, by decide +kernel, by decide +kernel, by decide +kernel, by decide +kernel, rfl, mpc_taken⟩

theorem wit_conseqCycleStart : ∃ (s : State), s.stagesRun = true ∧ s.tim.frameAt % s.conseqPeriod = 0 ∧ s.ctl.conseqAt ≠ some s.tim.frameAt ∧
    mpcMode s.sup.mode = true ∧ s.mpcSuspended = false ∧ s.engineRuns 10 = true ∧ s.ctl.cycleAt = none ∧ s.fus.obs.started = true ∧
    s.fus.published = true ∧ s.ctlSnap.posValid = true ∧ s.ctlSnap.hdgValid = true ∧ s.failGroups ≠ [] :=
  ⟨wSlv.modCfg fun b => { b with image := some { imageOf wRecords with failGroups := [(2, { slot := 9, struct := 3 })] } }, by decide +kernel⟩

/-! Bist -/

theorem wit_startUpBist : ∃ (s : State), Sized s ∧ s.sup.startPhase = 6 ∧ s.suRuns = true ∧ s.pwr.supply = .normal :=
  ⟨wPhase 6, sized_of (by decide +kernel), by decide +kernel⟩

theorem wit_bgSlice : ∃ (unit : Fin 24) (s : State), Sized s ∧ s.takesSlice unit.val = true ∧ (s.bst.units.getD unit.val {}).slice + 1 < slicesOf unit.val :=
  ⟨11, wRun.modBst fun b => { b with state := 2, bgLast := 10 }, sized_of (by decide +kernel), by decide +kernel⟩

theorem wit_startUpBist_reset : ∃ (sigs : List Word) (s : State), (sigs.getD 15 0).toNat ≠ expectedSig 0 15 ∧ s.startUpTests = true ∧
    (s.unitsRun 0).contains 15 = true ∧ s.bst.failedMask.getLsbD 15 = false ∧ s.sup.suRetryAt = none :=
  ⟨[], wPhase 6, by decide +kernel⟩

theorem wit_startUpBist_supervisor : ∃ (sigs : List Word), (sigs.getD 15 0).toNat = expectedSig 0 15 :=
  ⟨List.replicate 16 (BitVec.ofNat 32 (expectedSig 0 15)), by decide +kernel⟩

theorem wit_bistDone_supervisor : ∃ (sigs : List Word) (s : State), (sigs.getD 15 0).toNat = expectedSig s.bst.kind 15 :=
  ⟨List.replicate 16 (BitVec.ofNat 32 (expectedSig 0 15)), State.reset, by decide +kernel⟩

theorem wit_bistDone_reset : ∃ (sigs : List Word) (s : State), (sigs.getD 15 0).toNat ≠ expectedSig s.bst.kind 15 :=
  ⟨[], State.reset, by decide +kernel⟩

theorem wit_bistDone : ∃ (s : State), Sized s ∧ s.bst.state = 1 ∧ s.bst.kind = 2 ∧ s.suRuns = true :=
  ⟨wRun.modBst fun b => { b with state := 1, kind := 2 }, sized_of (by decide +kernel), by decide +kernel⟩

/-! Can -/

theorem wit_canTxSubmit : ∃ (port : Fin 4) (engine : Fin 16) (frame : CanFrame) (gate : TxGate) (s : State), Sized s ∧ (s.can.port port.val).refusal frame = none :=
  ⟨3, 13, { id := 0x7FF, data := [1] }, .strobe, wCan, sized_of (by decide +kernel), by decide +kernel⟩

theorem wit_canFrameStart : ∃ (port : Fin 4) (e : TxEntry) (s : State), Sized s ∧ (s.can.port port.val).onBus = true ∧
    (s.can.port port.val).listens = false ∧ (s.can.port port.val).tx.all (fun x => x.phase == .pending) = true ∧ (s.can.port port.val).first s.now = some e :=
  ⟨0, { frame := { id := 5 } }, wCanTx, sized_of (by decide +kernel), by decide +kernel⟩

theorem wit_canFrameEnd : ∃ (port : Fin 4) (e : TxEntry) (s : State), Sized s ∧ (s.can.port port.val).onBus = true ∧
    (s.can.port port.val).tx.find? (fun x => x.phase == .transmitting) = some e ∧ e.cancelHeld = false :=
  ⟨0, { frame := { id := 5 }, phase := .transmitting },
      (modPort 0 (fun b => { b with tx := b.tx.map fun e => { e with phase := .transmitting } }) wCanTx), sized_of (by decide +kernel), by decide +kernel⟩

theorem wit_canCancel : ∃ (port : Fin 4) (tag : Word) (e : TxEntry) (s : State), Sized s ∧
    (s.can.port port.val).tx.find? (fun x => x.tag.word == tag.toNat) = some e ∧ e.phase = .pending :=
  ⟨0, 0, { frame := { id := 5 } }, wCanTx, sized_of (by decide +kernel), by decide +kernel⟩

theorem wit_canRxFrame : ∃ (port : Fin 4) (frame : CanFrame) (held : Nat) (backUs : Nat) (k : LuqIn) (s : State), Sized s ∧
    (s.can.port port.val).onBus = true ∧ ((frame.fd = true → (s.can.port port.val).isFd = true)) ∧
    (s.can.port port.val).route frame = some k ∧ held < 256 ∧ luqCause s.image.dirCount k frame.data = none ∧
    aliveCheck s port.val (k.key frame.data) (k.alive frame.data) = .fresh :=
  ⟨0, { id := 0x22, data := [0, 0, 128, 63, 0, 0, 0x21, BitVec.ofNat 8 (crc8 [0, 0, 128, 63, 0, 0, 0x21])] }, 0, 0, .thrFb 2, wCanRx,
      sized_of (by decide +kernel), by decide +kernel⟩

theorem wit_canRecovered : ∃ (port : Fin 4) (s : State), Sized s ∧ (s.can.port port.val).phase = .busOff ∧ (s.can.port port.val).recovering = true :=
  ⟨1, (modPort 1 (fun b => { b with phase := .busOff, recovering := true, tec := 256 }) wCan), sized_of (by decide +kernel), by decide +kernel⟩

theorem wit_mirrorEnd : ∃ (port : Fin 4) (s : State), Sized s ∧ (s.can.port port.val).mirrored = true ∧ (s.can.port port.val).phase = .errorActive ∧
    1000000000 ≤ s.now - (s.can.port port.val).activeAt :=
  ⟨1, (modPort 1 (fun b => { b with mirrored := true }) wCan), sized_of (by decide +kernel), by decide +kernel⟩

theorem wit_canErrorDetected : ∃ (port : Fin 4) (dominant : Bool) (s : State), Sized s ∧ (s.can.port port.val).onBus = true ∧ (s.can.port port.val).listens = false :=
  ⟨1, true, wCan, sized_of (by decide +kernel), by decide +kernel⟩

/-! Domain -/

theorem wit_icxForward : ∃ (d : DomainCfg) (rx : IcxRx) (s : State), s.domOn 10 = true ∧ (s.icx.port rx.frame.port).phase = .up ∧
    rx.frame.good = true ∧ s.icx.cfg = some d ∧ rx.frame.domain = d.domain ∧ rx.frame.src ≠ s.selfIndex ∧ s.subordinate = false ∧ 1 < rx.frame.ttl ∧
    rx.frame.type ≠ 0x09 ∧ rx.frame.dst ≠ s.selfIndex ∧ rx.frame.dst ≠ 0xFF :=
  ⟨{ domain := 5, slots := 2 }, { frame := ({ wFrame 6 [] with dst := 3 } : IcxFrame).withCrc, hopNs := 200 }, wIcx, by decide +kernel⟩

theorem wit_sync : ∃ (d : DomainCfg) (rx : IcxRx) (s : State), Received d rx.frame s ∧ rx.frame.type = 0x01 ∧ rx.frame.src = s.icx.lead ∧
    s.icx.role ≠ .lead ∧ rx.frame.payload.length = 12 :=
  ⟨{ domain := 5, slots := 2 }, { frame := (wFrame 1 (leBytes 8 100000000500 ++ leBytes 4 40)).withCrc, backNs := 100 }, wIcx, by decide +kernel⟩

theorem wit_exchange : ∃ (d : DomainCfg) (rx : IcxRx) (s : State), Sized s ∧ Received d rx.frame s ∧ rx.frame.type = 0x02 ∧
    rx.frame.payload.length = 88 ∧ snapFinite rx.frame.payload = true ∧ s.now - rx.backNs ≤ s.tim.frameAt + 6000000 ∧
    serialLater s.frame rx.frame.frame = false :=
  ⟨{ domain := 5, slots := 2 }, { frame := (wFrame 2 (zeros 72 ++ [1, 1] ++ leBytes 2 1 ++ leBytes 4 77 ++ zeros 8)).withCrc }, wIcx,
      sized_of (by decide +kernel), by decide +kernel⟩

theorem wit_vote : ∃ (d : DomainCfg) (rx : IcxRx) (s : State), Sized s ∧ Received d rx.frame s ∧ rx.frame.type = 0x03 ∧
    rx.frame.payload.length = 168 ∧ s.now - rx.backNs ≤ s.tim.frameAt + 15000000 :=
  ⟨{ domain := 5, slots := 2 }, { frame := (wFrame 3 (zeros 168)).withCrc }, wIcx, sized_of (by decide +kernel), by decide +kernel⟩

theorem wit_command : ∃ (d : DomainCfg) (rx : IcxRx) (o : DomainOrder) (s : State), Received d rx.frame s ∧ rx.frame.type = 0x04 ∧
    rx.frame.cmd = some (.effect o) ∧ s.inDomain = true ∧ s.icx.role ≠ .lead ∧ serialLater o.frame s.frame = true :=
  ⟨{ domain := 5, slots := 2 }, { frame := ({ wFrame 4 [] with cmd := some (.effect { effect := .tBlend 3, frame := 5002 }) } : IcxFrame).withCrc },
      { effect := .tBlend 3, frame := 5002 }, wIcx, by decide +kernel⟩

theorem wit_result : ∃ (d : DomainCfg) (rx : IcxRx) (x : IcxTxn) (s : State), Received d rx.frame s ∧ rx.frame.type = 0x05 ∧
    s.icx.txns.find? (fun y => y.waitsFor (leAt rx.frame.payload 0 4) rx.frame.src) = some x ∧ x.type = 0x07 ∧ x.left = [] ∧ leAt rx.frame.payload 4 4 = 0 :=
  ⟨{ domain := 5, slots := 2 }, { frame := ({ wFrame 5 (leBytes 4 0x18D00001 ++ zeros 4) with dst := 1 } : IcxFrame).withCrc },
      { tag := 0x18D00001, type := 7, dst := 0 },
      wIcx.modIcx fun b => { b with phase := .joining, txns := [{ tag := 0x18D00001, type := 7, dst := 0 }] }, by decide +kernel⟩

theorem wit_sstop : ∃ (d : DomainCfg) (rx : IcxRx) (s : State), Received d rx.frame s ∧ rx.frame.type = 0x06 :=
  ⟨{ domain := 5, slots := 2 }, { frame := (wFrame 6 (zeros 4 ++ leBytes 4 3)).withCrc }, wIcx, by decide +kernel⟩

theorem wit_join : ∃ (d : DomainCfg) (rx : IcxRx) (i : Nat) (s : State), Sized s ∧ Received d rx.frame s ∧ rx.frame.type = 0x07 ∧
    s.icx.role = .lead ∧ rx.frame.tag ≠ 0 ∧ byteAt rx.frame.payload 0 % 8 = i ∧ leAt rx.frame.payload 1 4 = s.cfg.check ∧
    s.indexHeld i = false ∧ (s.icx.m i).offset.natAbs ≤ 2000 ∧ s.icx.txns.length < 256 :=
  ⟨{ domain := 5, slots := 2 }, { frame := ({ wFrame 7 ([0] ++ zeros 4) with tag := 9 } : IcxFrame).withCrc }, 0, wLead, sized_of (by decide +kernel), by decide +kernel⟩

theorem wit_state : ∃ (d : DomainCfg) (rx : IcxRx) (k : Nat) (n : Nat) (x : StateXfer) (s : State), Received d rx.frame s ∧ rx.frame.type = 0x08 ∧
    rx.frame.part = some (k, n, x) ∧ s.icx.phase = .joining :=
  ⟨{ domain := 5, slots := 2 }, { frame := ({ wFrame 8 [] with dst := 1, part := some (0, 1, {}) } : IcxFrame).withCrc }, 0, 1, {},
      wIcx.modIcx fun b => { b with phase := .joining, role := .none_ }, by decide +kernel⟩

theorem wit_extCap : ∃ (d : DomainCfg) (rx : IcxRx) (c : GroupCfg) (s : State), Received d rx.frame s ∧ rx.frame.type = 0x0A ∧
    s.groupCfg (Config.extGroupOfSlot rx.frame.src) = some c ∧ c.external = true ∧ c.extIcxon = true ∧
    rx.frame.payload.length = 4 * s.image.dirCount + 1 ∧
    (List.range s.image.dirCount).all (fun i => f32Finite (f32At rx.frame.payload (4 * i)) && decide (0 ≤ ratAt rx.frame.payload (4 * i))) = true :=
  ⟨{ domain := 5, slots := 2 }, { frame := (wFrame 10 (zeros 104 ++ [1])).withCrc }, { external := true, extIcxon := true },
      wIcx.modCfg fun b => { b with image := some { groups := [(Config.extGroupOfSlot 0, { external := true, extIcxon := true })] } },
      by decide +kernel, by decide +kernel, by simp [State.groupCfg, State.modCfg, State.image, lookupK, wFrame, IcxFrame.withCrc], by decide +kernel,
      by decide +kernel, by decide +kernel, by decide +kernel⟩

theorem wit_extDemand : ∃ (d : DomainCfg) (rx : IcxRx) (s : State), s.domOn 10 = true ∧ (s.icx.port rx.frame.port).phase = .up ∧
    rx.frame.good = true ∧ s.icx.cfg = some d ∧ s.subordinate = true ∧ rx.frame.domain = d.parent ∧ d.parent ≠ d.domain ∧
    rx.frame.src ≠ d.parentSlot ∧ rx.frame.type = 0x0B ∧ rx.frame.dst = d.parentSlot ∧ rx.frame.payload.length = 13 ∧
    [0, 4, 8].all (fun i => f32Finite (f32At rx.frame.payload i)) = true :=
  ⟨{ domain := 5, slots := 2, parent := 9, parentSlot := 2 }, { frame := ({ wFrame 11 (zeros 12 ++ [1]) with domain := 9, dst := 2 } : IcxFrame).withCrc },
      wIcx.modIcx fun b => { b with cfg := some { domain := 5, slots := 2, parent := 9, parentSlot := 2 } }, by decide +kernel⟩

/-! Domains -/

theorem wit_engineLost : ∃ (engine : Fin 16) (frames : Nat) (s : State), Sized s ∧ engine.val < 14 ∧ 2 ≤ frames ∧
    s.domOn (engineDomain engine.val) = true ∧ s.suRuns = true ∧ (s.sup.engines.getD engine.val {}).lost = false :=
  ⟨9, 2, (openTag { block := 12, engine := 9, seq := 5 } wRun), sized_of (by decide +kernel), by decide +kernel⟩

theorem wit_stageDeadline : ∃ (stage : Fin 9) (lateNs : Nat) (s : State), Sized s ∧ stage.val < 6 ∧ s.sup.stageDone.getLsbD stage.val = false ∧
    s.sup.stageMissed.getLsbD stage.val = false ∧ s.suRuns = true ∧ s.stagesRun = true :=
  ⟨3, 150, wRun, sized_of (by decide +kernel), by decide +kernel⟩

theorem wit_syncPortWord : ∃ (port : Fin 6) (dropped : Nat) (s : State), Sized s ∧ 0 < dropped :=
  ⟨4, 3, wRun, sized_of (by decide +kernel), by decide +kernel⟩

theorem wit_syncPortWord_sample : ∃ (chan : Fin 16) (raw : F32) (backUs : Nat) (s : State), Sized s ∧ (s.sig.chan chan.val).phase ≠ .stopped :=
  ⟨2, 0x3F800000, 2, wSig, sized_of (by decide +kernel), by decide +kernel⟩

theorem wit_memoryScrub : ∃ (find : MemFind) (s : State), s.memoryOn find.memory = true ∧ memoryHolds find.memory find.addr = true ∧ s.suRuns = true ∧
    s.rowRetired find.memory find.addr = false ∧ find.memory ≠ 14 ∧ find.uncorrectable = false :=
  ⟨{ memory := 0xF0, addr := 4096 }, wRun, by decide +kernel⟩

theorem wit_suRetry : ∃ (at_ : Nat) (s : State), s.sup.suRetryAt = some at_ ∧ s.pwr.resetHeld = false ∧ s.sup.suRetries < 3 :=
  ⟨1000, (State.reset.modSup fun b => { b with suRetryAt := some 1000 }).modPwr fun b => { b with resetHeld := false }, by decide +kernel⟩

theorem wit_domainFault : ∃ (dom : Fin 13) (amps : F32) (us : Nat) (s : State), 100 ≤ us ∧ s.domOn dom.val = true ∧ f32Finite amps = true ∧
    tripLevel dom.val * clampQ (9/10) (11/10) (Config.tripFactor dom.val) < f32Val amps ∧ dom.val ≠ 0 :=
  ⟨8, 0x40400000, 120, wRun, by decide +kernel, by decide +kernel, by decide +kernel,
      mul_clampQ_lt _ _ _ _ _ (by decide +kernel) (by decide +kernel) (by decide +kernel), by decide +kernel⟩

theorem wit_suResetMonitor : ∃ (s : State), s.pwr.resetHeld = false ∧ s.sup.suRetryAt = none :=
  ⟨wStore, by decide +kernel⟩

/-! Field -/

theorem wit_fieldLinkFrame : ∃ (bank : Fin 2) (ch : Fin 48) (s : State), Sized s ∧ linkRuns s bank.val = true ∧
    (s.fio.bank bank.val).applied = false ∧ bankOf ch.val = bank.val ∧ (s.fio.bank bank.val).sentAt ≠ some s.linkInstant :=
  ⟨0, 0, wField, sized_of (by decide +kernel), by decide +kernel⟩

theorem wit_linkReply : ∃ (bank : Fin 2) (j : Fin 24) (pins : List F32) (demag : BitVec 24) (currents : List F32) (supply : F32) (s : State),
    Sized s ∧ linkRuns s bank.val = true ∧ (s.fio.bank bank.val).applied = false ∧ (s.fio.bank bank.val).replyAt ≠ some s.linkInstant :=
  ⟨0, 0, [0x41C00000], 0, [], 0x41C00000, wField, sized_of (by decide +kernel), by decide +kernel⟩

theorem wit_linkTimeout : ∃ (bank : Fin 2) (s : State), Sized s ∧ bankLive s bank.val = true ∧ (s.fio.bank bank.val).applied = false ∧
    s.fio.linkTimeout * 1000000 ≤ s.now - (s.fio.bank bank.val).lastValid :=
  ⟨0, wField, sized_of (by decide +kernel), by decide +kernel⟩

theorem wit_linkLost : ∃ (bank : Fin 2) (s : State), Sized s ∧ linkRuns s bank.val = true ∧ (s.fio.bank bank.val).safe = false ∧
    s.fio.linkTimeout * 1000000 ≤ s.now - (s.fio.bank bank.val).lastValid :=
  ⟨0, wField, sized_of (by decide +kernel), by decide +kernel⟩

theorem wit_inputEdge : ∃ (ch : Fin 48) (volts : F32) (level : Bool) (heldUs : Nat) (backUs : Nat) (s : State), Sized s ∧ linkRuns s (bankOf ch.val) = true ∧
    (s.fio.chan ch.val).cfg.dir = .input ∧ (s.fio.chan ch.val).now = !level ∧
    pinLevel (s.fio.chan ch.val).cfg.type3 (s.fio.chan ch.val).comp (f32Val volts) = level ∧ (s.fio.chan ch.val).cfg.filter * 1000 ≤ heldUs ∧
    (s.fio.bank (bankOf ch.val)).applied = false ∧ (s.fio.bank (bankOf ch.val)).safe = false :=
  ⟨1, 0x41800000, true, 3000, 10, wField, sized_of (by decide +kernel), by decide +kernel⟩

theorem wit_fieldLow : ∃ (bank : Fin 2) (volts : F32) (us : Nat) (s : State), Sized s ∧ s.domOn (8 + bank.val) = true ∧
    (s.fio.bank bank.val).phase = .normal ∧ f32Val volts < 18 ∧ 10000 ≤ us :=
  ⟨0, 0x41880000, 10000, wField, sized_of (by decide +kernel), by decide +kernel⟩

theorem wit_fieldHigh : ∃ (bank : Fin 2) (volts : F32) (us : Nat) (s : State), Sized s ∧ s.domOn (8 + bank.val) = true ∧
    (s.fio.bank bank.val).phase = .normal ∧ 32 < f32Val volts ∧ 10000 ≤ us :=
  ⟨0, 0x42040000, 10000, wField, sized_of (by decide +kernel), by decide +kernel⟩

theorem wit_fieldLost : ∃ (bank : Fin 2) (ch : Fin 48) (volts : F32) (us : Nat) (s : State), Sized s ∧ s.domOn (8 + bank.val) = true ∧
    (s.fio.bank bank.val).phase = .normal ∧ f32Val volts < 14 ∧ 1000 ≤ us ∧ bankOf ch.val = bank.val ∧ (s.fio.chan ch.val).cfg.dir = .output :=
  ⟨0, 0, 0x41500000, 1000, wField, sized_of (by decide +kernel), by decide +kernel⟩

theorem wit_fieldRestored : ∃ (bank : Fin 2) (volts : F32) (us : Nat) (s : State), Sized s ∧ s.domOn (8 + bank.val) = true ∧
    (s.fio.bank bank.val).phase = .fieldLow ∧ 18 ≤ f32Val volts ∧ 100000 ≤ us :=
  ⟨0, 0x41900000, 100000, (modBank 0 (fun b => { b with phase := .fieldLow }) wField), sized_of (by decide +kernel), by decide +kernel⟩

theorem wit_overcurrent : ∃ (ch : Fin 48) (thermal : Bool) (amps : F32) (us : Nat) (s : State), Sized s ∧ bankLive s (bankOf ch.val) = true ∧
    (s.fio.chan ch.val).cfg.dir = .output ∧ (s.fio.chan ch.val).act = true ∧ (thermal = true ∨ 5000 ≤ us) :=
  ⟨0, false, 0x40000000, 5000, (modChan 0 (fun c => { c with act := true }) wField), sized_of (by decide +kernel), by decide +kernel⟩

theorem wit_ocRetry : ∃ (ch : Fin 48) (s : State), Sized s ∧ bankLive s (bankOf ch.val) = true ∧ (s.fio.chan ch.val).cfg.dir = .output ∧
    (s.fio.chan ch.val).retryWait = true ∧ (s.fio.chan ch.val).retryDue = false ∧ (s.fio.chan ch.val).retryPaused = none ∧
    (s.fio.chan ch.val).retryAt ≤ s.now ∧ (s.fio.chan ch.val).blocked = false ∧ fioBarred (s.fio.bank (bankOf ch.val)) (s.fio.chan ch.val) = false ∧
    fioWanted (s.fio.bank (bankOf ch.val)) (s.fio.chan ch.val) = true :=
  ⟨0, (modChan 0 (fun c => { c with cmd := true, carried := true, retryWait := true, ocFault := true, retryAt := 1 }) wField), sized_of (by decide +kernel), by decide +kernel⟩

theorem wit_ocCleanPeriod : ∃ (ch : Fin 48) (s : State), Sized s ∧ bankLive s (bankOf ch.val) = true ∧ (s.fio.chan ch.val).act = true ∧
    10000000000 ≤ s.now - (s.fio.chan ch.val).onSince :=
  ⟨0, (modChan 0 (fun c => { c with act := true, retries := 2 }) wField), sized_of (by decide +kernel), by decide +kernel⟩

theorem wit_bankOverload : ∃ (bank : Fin 2) (ch : Fin 48) (currents : List F32) (us : Nat) (s : State), Sized s ∧ bankLive s bank.val = true ∧
    100000 ≤ us ∧ 6 < outputCurrent bank.val currents s ∧
    largestOutput bank.val (fun c => f32Val (currents.getD (c - 24 * bank.val) 0)) (fun c => (s.fio.chan c).cfg.dir == .output && (s.fio.chan c).act && !(s.fio.chan c).cfg.essential) = some ch.val :=
  ⟨0, 0, [0x40E00000], 100000, (modChan 0 (fun c => { c with act := true }) wField), sized_of (by decide +kernel), by decide +kernel⟩

theorem wit_stuckHigh : ∃ (ch : Fin 48) (volts : F32) (us : Nat) (demagUs : Nat) (s : State), Sized s ∧ bankLive s (bankOf ch.val) = true ∧
    (s.fio.chan ch.val).cfg.dir = .output ∧ fioWanted (s.fio.bank (bankOf ch.val)) (s.fio.chan ch.val) = false ∧
    (s.fio.bank (bankOf ch.val)).phase ≠ .fieldLost ∧ 19 / 2 ≤ f32Val volts ∧ 10000 ≤ us ∧ 5000 ≤ demagUs :=
  ⟨0, 0x41180000, 10000, 5000, wField, sized_of (by decide +kernel), by decide +kernel⟩

theorem wit_stuckHighClear : ∃ (ch : Fin 48) (us : Nat) (s : State), Sized s ∧ fioWanted (s.fio.bank (bankOf ch.val)) (s.fio.chan ch.val) = false ∧ 1000000 ≤ us :=
  ⟨0, 1000000, (modChan 0 (fun c => { c with stuckHigh := true }) wField), sized_of (by decide +kernel), by decide +kernel⟩

theorem wit_openLoad : ∃ (ch : Fin 48) (amps : F32) (us : Nat) (s : State), Sized s ∧ bankLive s (bankOf ch.val) = true ∧
    (s.fio.chan ch.val).cfg.dir = .output ∧ (s.fio.chan ch.val).cfg.openDet = true ∧
    fioWanted (s.fio.bank (bankOf ch.val)) (s.fio.chan ch.val) = true ∧ (s.fio.chan ch.val).act = true ∧ f32Val amps < 1 / 200 ∧ 100000 ≤ us :=
  ⟨0, 0, 100000, (modChan 0 (fun c => { c with act := true, cmd := true, carried := true, cfg := { c.cfg with openDet := true } }) wField),
      sized_of (by decide +kernel), by decide +kernel⟩

theorem wit_openLoadClear : ∃ (ch : Fin 48) (amps : F32) (us : Nat) (s : State), Sized s ∧ 7 / 1000 ≤ f32Val amps ∧ 1000000 ≤ us :=
  ⟨0, 0x3C23D70A, 1000000, (modChan 0 (fun c => { c with openLoad := true }) wField), sized_of (by decide +kernel), by decide +kernel⟩

/-! Frame -/

theorem wit_frameInstant : ∃ (m : Measured) (s : State), s.suRuns = true ∧ s.stepDue = false :=
  ⟨{}, wRun, by decide +kernel⟩

theorem wit_releaseStrobe : ∃ (readbacks : List F32) (l : List (Rat × Nat)) (s : State), s.suRuns = true ∧ s.tim.strobed = false ∧
    s.stagesRun = true ∧ s.ctl.staged = some l :=
  ⟨[], [(10, 5)], wRun.modCtl fun b => { b with staged := some [(10, 5)] }, by decide +kernel⟩

theorem wit_timeStep : ∃ (d : Nat) (s : State), s.suRuns = true ∧ s.tim.step = some d ∧ s.stepDue = true :=
  ⟨5000000, (wPhase 0).modTim fun b => { b with step := some 5000000 }, by decide +kernel⟩

theorem wit_outputStaging : ∃ (us : Nat) (s : State), s.stagesRun = true ∧ s.sup.mode ≠ .start ∧ s.sup.stageDone.getLsbD 5 = false ∧
    s.engineRuns (if s.sup.mode = .dormant then 13 else 9) = true :=
  ⟨15200, wImg, by decide +kernel⟩

/-! Fusion -/

theorem wit_fusionInputCut : ∃ (us : Nat) (s : State), s.fcRuns = true ∧ s.fus.cutAt = none ∧ s.fus.published = false ∧ 1000 ≤ us ∧ us ≤ 20000 :=
  ⟨1000, wRun, by decide +kernel⟩

theorem wit_fusedSnapshotPublish : ∃ (us : Nat) (f : FusedSnap) (s : State), s.fus.published = false ∧ s.fcRuns = true ∧ s.fus.formed = some f ∧
    f.frame = s.frame ∧ s.sup.mode ≠ .dormant ∧ s.fus.obs.hdgGate = none ∧ s.fus.obs.posGate = none :=
  ⟨2500, { frame := 5000, tov := 100000000000 }, wRun.modFus fun b => { b with formed := some { frame := 5000, tov := 100000000000 } }, by decide +kernel⟩

theorem wit_fusSkip : ∃ (f : FusedSnap) (s : State), s.fus.formed = some f ∧ f.frame ≠ s.frame :=
  ⟨{ frame := 4999 }, wRun.modFus fun b => { b with formed := some { frame := 4999 } }, by decide +kernel⟩

theorem wit_refMasked : ∃ (slot : Fin 12) (s : State), Sized s ∧ (s.fus.ref slot.val).voteDue = some true ∧ (s.fus.ref slot.val).mask ≠ .vote :=
  ⟨9, modRef 9 (fun r => { r with voteDue := some true, mask := .none, contrib := true, conf := 30 }) wRun, sized_of (by decide +kernel), by decide +kernel⟩

theorem wit_refRestored : ∃ (slot : Fin 12) (s : State), Sized s ∧ (s.fus.ref slot.val).voteDue = some false :=
  ⟨2, modRef 2 (fun r => { r with voteDue := some false, mask := .vote, vote := true }) wRun, sized_of (by decide +kernel), by decide +kernel⟩

theorem wit_referenceDisagree : ∃ (hdg : Bool) (lead : Nat) (other : Nat) (d : Rat) (s : State), (s.watch hdg).setDue = some (lead, other, d) :=
  ⟨true, 9, 8, 12, modWatch true (fun w => { w with setDue := some (9, 8, 12) }) wRun, by decide +kernel⟩

theorem wit_disagreeCleared : ∃ (hdg : Bool) (cause : Nat) (s : State), (s.watch hdg).clearDue = some cause :=
  ⟨false, 1, modWatch false (fun w => { w with clearDue := some 1, degraded := true }) wRun, by decide +kernel⟩

theorem wit_obsPosReset : ∃ (h : Rat) (s : State), s.fus.obs.hdgGate = some h ∧ persists s.fus.obs.hdgGateSince s.fus.obs.at_ 1000000000 = true :=
  ⟨1/4, wRun.modFus fun b => { b with obs := { b.obs with hdgGate := some (1/4), hdgGateSince := some 5, at_ := 2000000000 } }, by decide +kernel⟩

theorem wit_settled : ∃ (s : State), s.fus.obs.started = true ∧ s.fus.obs.settling = true ∧ 60000000000 ≤ s.now - s.fus.obs.startAt :=
  ⟨wRun.modFus fun b => { b with obs := { b.obs with started := true, settling := true, startAt := 5 } }, by decide +kernel⟩

theorem wit_innovationSample : ∃ (slot : Fin 12) (sec : Nat) (s : State), Sized s ∧ s.fusSecond = some sec ∧ (s.refCfg slot.val).isSome = true ∧
    (s.fus.ref slot.val).sampledAt ≠ sec ∧ s.learns slot.val = true :=
  ⟨1, 100,
      (wRun.modCfg fun b => { b with image := some { refs := [{ slot := 1 }] } }).modFus fun b => { b with published := true, obs := { b.obs with settling := false }, snap := { b.snap with posConf := 200 }, refs := b.refs.map fun r => { r with contrib := true, sharp := true } }, sized_of (by decide +kernel), by decide +kernel⟩

theorem wit_consistencyCheck : ∃ (slot : Fin 12) (sec : Nat) (d : Rat) (s : State), Sized s ∧ s.fusSecond = some sec ∧
    (s.fus.ref slot.val).dSq = some d ∧ (s.fus.ref slot.val).contrib = true ∧ (s.fus.ref slot.val).checkedAt ≠ sec :=
  ⟨11, 100, 3, wRun.modFus fun b => { b with published := true, refs := b.refs.map fun r => { r with contrib := true, dSq := some 3, conf := 7 } },
      sized_of (by decide +kernel), by decide +kernel⟩

theorem wit_kernelUpdate : ∃ (slot : Fin 12) (s : State), Sized s ∧ (s.refCfg slot.val).isSome = true ∧
    (s.fus.ref slot.val).kernelAt < s.now / 600000000000 ∧ s.engineRuns 8 = true ∧ 300 ≤ (s.fus.ref slot.val).samples ∧
    finiteUpdate (s.fus.ref slot.val) = true ∧
    centralBin (decide (8 ≤ slot.val)) (largestBin (decide (8 ≤ slot.val)) (newHist (s.fus.ref slot.val))) = true :=
  ⟨1,
      (((wRun.modCfg fun b => { b with image := some { refs := [{ slot := 1 }] } }).modTim fun b => { b with now := 1200000000000 }).modFus fun b => { b with refs := b.refs.map fun r => { r with samples := 400, counts := updAt (List.replicate 256 0) 119 fun _ => 400 } }), sized_of (by decide +kernel), by decide +kernel⟩

theorem wit_modelStore : ∃ (s : State), s.fus.storedHour < s.now / 3600000000000 ∧ s.engineRuns 8 = true ∧ s.fus.refs.all (fun r => !r.dirty) = true ∧
    s.now / 2592000000000000 ≤ s.fus.storedPeriod :=
  ⟨wRun.modTim fun b => { b with now := 7200000000000 }, by decide +kernel⟩

/-- A running module whose image uses slot 4 alone. -/
def wOneRef : State := wRun.modCfg fun b => { b with image := some { refs := [{ slot := 4, tag := 7 }] } }

theorem wit_modelStore_only (j : Nat) (h : j ≠ 4) : wOneRef.refCfg j = none := by
  have e : (4 == slotId j) = false := by simp [slotId]; split <;> omega
  show List.find? (fun r : RefCfg => r.slot == slotId j) [{ slot := 4, tag := 7 }] = none
  simp [List.find?, e]

theorem wit_modelStore_changed : ∃ (k : Nat) (c : RefCfg) (s : State), Sized s ∧ k < 12 ∧ s.refCfg k = some c ∧ (∀ j : Nat, j ≠ k → s.refCfg j = none) ∧
    (s.fus.ref k).dirty = true ∧ s.fus.storedHour < s.now / 3600000000000 ∧ s.now / 2592000000000000 ≤ s.fus.storedPeriod ∧ s.engineRuns 8 = true ∧
    s.aqf.phase = .ready ∧ s.aqf.importPending = false ∧ s.aqf.writes.length < 64 ∧ 2112 + 4194304 ≤ s.aqf.budget ∧
    s.aqf.journal + s.aqf.reserved + entryBytes 2112 + 192 * 1024 ≤ ringSize ∧ s.partUsed 3 + 2112 ≤ partSize 3 :=
  ⟨4, { slot := 4, tag := 7 },
      modRef 4 (fun r => { r with dirty := true }) ((wOneRef.modTim fun b => { b with now := 7200000000000 }).modAqf fun b => { b with phase := .ready }),
      sized_of (by decide +kernel), by decide +kernel, by decide +kernel, wit_modelStore_only, by decide +kernel⟩

/-! Gnss -/

theorem wit_gnssStart : ∃ (above : List (Nat × Nat)) (s : State), s.sup.startPhase = 8 ∧ s.pwr.supply = .normal ∧ s.gns.starting = false ∧ s.gns.ttff = 0xFFFF ∧
    s.engineRuns 12 = true ∧ (s.bst.units.getD 12 {}).result = 1 ∧ (s.bst.units.getD 17 {}).result = 1 :=
  ⟨[], (wPhase 8).modBst fun b => { b with units := b.units.map fun x => { x with result := 1 } }, by decide +kernel⟩

theorem wit_antOpen : ∃ (ant : Fin 2) (ma : F32) (ms : Nat) (s : State), Sized s ∧ s.supplyMarkedOff ant.val = false ∧
    (s.gns.ant ant.val).supplyOn = true ∧ (s.gns.ant ant.val).phase ≠ .open_ ∧ f32Val ma < 3 ∧ 100 ≤ ms :=
  ⟨1, 0x3F800000, 100, wGns .track, sized_of (by decide +kernel), by decide +kernel⟩

theorem wit_antShort : ∃ (ant : Fin 2) (ma : F32) (s : State), Sized s ∧ s.supplyMarkedOff ant.val = false ∧ (s.gns.ant ant.val).supplyOn = true ∧
    (s.gns.ant ant.val).phase ≠ .short ∧ 120 < f32Val ma :=
  ⟨0, 0x43000000, wGns .track, sized_of (by decide +kernel), by decide +kernel⟩

theorem wit_antSupplyRetry : ∃ (ant : Fin 2) (ma : F32) (s : State), Sized s ∧ (s.gns.ant ant.val).phase = .short ∧
    (s.gns.ant ant.val).supplyOn = false ∧ 5000000000 ≤ s.now - (s.gns.ant ant.val).retryAt :=
  ⟨1, 0x41A00000, modAnt 1 (fun p => { p with phase := .short, supplyOn := false, retryAt := 7 }) wRun, sized_of (by decide +kernel), by decide +kernel⟩

theorem wit_antRestored : ∃ (ant : Fin 2) (ma : F32) (ms : Nat) (s : State), Sized s ∧ (s.gns.ant ant.val).phase = .open_ ∧
    (s.gns.ant ant.val).supplyOn = true ∧ 3 ≤ f32Val ma ∧ f32Val ma ≤ 120 ∧ 1000 ≤ ms :=
  ⟨1, 0x41A00000, 1000, modAnt 1 (fun p => { p with phase := .open_, supplyOn := true }) wRun, sized_of (by decide +kernel), by decide +kernel⟩

theorem wit_frontEndReady : ∃ (ant : Fin 2) (s : State), Sized s ∧ (s.gns.ant ant.val).feOn = false ∧ (s.gns.ant ant.val).feSince.isSome = true ∧
    s.domOn (1 + ant.val) = true ∧ s.tim.tcxoFault = false :=
  ⟨0, modAnt 0 (fun p => { p with feSince := some 3 }) (wRun.modGns fun b => { b with starting := true }), sized_of (by decide +kernel), by decide +kernel⟩

theorem wit_acqPass : ∃ (windows : Nat) (found : List Nat) (r : SearchReq) (s : State), Sized s ∧ s.domOn 3 = true ∧ s.gns.queue = [r] ∧ 1 ≤ r.prio ∧
    r.prio ≤ 5 ∧ r.cells ≤ 16384 ∧ r.chan < 192 ∧ found.contains r.chan = true ∧ (s.gns.chan r.chan).phase = .search :=
  ⟨1, [3], { prio := 2, chan := 3, cells := 384 }, wGns .search, sized_of (by decide +kernel), by decide +kernel⟩

theorem wit_acqIdle : ∃ (s : State), s.domOn 3 = true ∧ s.gns.queue = [] ∧ 10000000000 ≤ s.now - s.gns.queueEmptyAt ∧ s.sup.mode ≠ .start :=
  ⟨wRun, by decide +kernel⟩

theorem wit_acqPowerOn : ∃ (s : State), s.domOn 3 = false ∧ s.gns.queue ≠ [] ∧ s.grantPd3 = true :=
  ⟨(wGns .search).modPwr fun b => { b with domOn := 0x1FF7 }, by decide +kernel⟩

theorem wit_channelSearchTimeout : ∃ (ch : Fin 192) (s : State), Sized s ∧ (s.gns.chan ch.val).phase = .search ∧
    (if (s.gns.chan ch.val).prio ≤ 3 then 10000000000 else 30000000000) ≤ s.now - (s.gns.chan ch.val).since :=
  ⟨3, wGns .search, sized_of (by decide +kernel), by decide +kernel⟩

theorem wit_channelPullIn : ∃ (ch : Fin 192) (lockMs : Nat) (s : State), Sized s ∧ (s.gns.chan ch.val).phase = .pullIn ∧ 200 ≤ lockMs :=
  ⟨3, 200, wGns .pullIn, sized_of (by decide +kernel), by decide +kernel⟩

theorem wit_channelPullInTimeout : ∃ (ch : Fin 192) (s : State), Sized s ∧ (s.gns.chan ch.val).phase = .pullIn ∧ 1000000000 ≤ s.now - (s.gns.chan ch.val).since :=
  ⟨3, wGns .pullIn, sized_of (by decide +kernel), by decide +kernel⟩

theorem wit_channelTrackLoss : ∃ (ch : Fin 192) (weakMs : Nat) (unlockMs : Nat) (s : State), Sized s ∧ (s.gns.chan ch.val).phase = .track ∧
    (500 ≤ weakMs ∨ 100 ≤ unlockMs) :=
  ⟨3, 0, 100, wGns .track, sized_of (by decide +kernel), by decide +kernel⟩

theorem wit_gtSnapshotPublish : ∃ (us : Nat) (ma : List F32) (sky : List SkySig) (residuals : List (Nat × Rat)) (fixes : List (Option FixIn)) (ego : EgoIn) (nav : NavIn) (s : State), s.stagesRun = true ∧ s.engineRuns 12 = true ∧ s.sup.mode ≠ .dormant ∧ us ≤ 600 ∧ s.now ≤ s.tim.frameAt + us * 1000 ∧ s.gns.snapFrame ≠ some s.frame :=
  ⟨400, [], [], [], [], {}, {}, wGns .track, by decide +kernel⟩

theorem wit_ambiguitySearchDone : ∃ (ratio : F32) (ndd : Nat) (fix : AmbFix) (s : State), 3 ≤ f32Val ratio ∧ 5 ≤ ndd ∧
    s.gns.hdgPhase = .float ∧ s.gns.excluded ≠ some fix.ints ∧ f32Finite fix.len = true ∧ s.lengthFits (f32Val fix.len) = true :=
  ⟨0x40800000, 7, { ints := [1, 2] }, wFix.modGns fun b => { b with hdgPhase := .float }, by decide +kernel⟩

theorem wit_hdgWrongFix : ∃ (s : State), s.gns.hdgPhase = .fixed ∧ s.gns.lengthFails = 3 :=
  ⟨wFix.modGns fun b => { b with lengthFails := 3 }, by decide +kernel⟩

theorem wit_fixLost : ∃ (ant : Fin 2) (since : Nat) (s : State), Sized s ∧ s.gns.sols.length = 2 ∧ (s.gns.sol ant.val).noneSince = some since ∧
    (s.gns.sol ant.val).lost = false ∧ 1000000000 ≤ s.now - since :=
  ⟨1, 4, modSol 1 (fun x => { x with noneSince := some 4 }) wFix, sized_of (by decide +kernel), by decide +kernel⟩

theorem wit_solutionRevalidate : ∃ (ant : Fin 2) (until_ : Nat) (s : State), s.gns.sols.length = 2 ∧ (s.gns.sol ant.val).jumpUntil = some until_ ∧
    until_ ≤ s.now ∧ (s.gns.sol ant.val).type ≠ 0 ∧ (jumpOf (s.gns.sol ant.val) (s.gns.sol ant.val).pos (s.gns.sol ant.val).sigma).2 = false ∧
    (s.gns.sol ant.val).pdop ≤ s.scalars.pdopMax :=
  ⟨0, 5, modSol 0 (fun x => { x with jumpUntil := some 5, valid := false, pdop := 1 }) wFix, by decide +kernel⟩

theorem wit_rtcmFrame : ∃ (source : Fin 2) (frame : Bytes) (s : State), s.corrAssigned source.val = true ∧
    beNat ((frame.drop (3 + bitsAt frame 14 10)).take 3) ≠ crc24q (frame.take (3 + bitsAt frame 14 10)) :=
  ⟨0, [0xD3, 0, 2, 1, 2, 9, 9, 9], wCorr, by decide +kernel⟩

/-- A 1005 of station 4. -/
theorem wit_rtcmFrame_valid : ∃ (source : Fin 2) (body : Bytes) (s : State), s.corrAssigned source.val = true ∧ body.length < 1024 ∧
    bitsAt body 0 12 = 1005 ∧ s.gns.corr.length = 2 :=
  ⟨0, [0x3E, 0xD0, 0x04] ++ zeros 16, wCorr, by decide +kernel⟩

/-- A message of a type that is not accepted. -/
theorem wit_rtcmFrame_unsupported : ∃ (source : Fin 2) (body : Bytes) (s : State), s.corrAssigned source.val = true ∧ body.length < 1024 ∧
    ¬ [1005, 1006, 1033, 1074, 1075, 1077, 1094, 1095, 1097, 1124, 1125, 1127].contains (bitsAt body 0 12) :=
  ⟨1, [0x40, 0x00], wCorr, by decide +kernel⟩

theorem wit_corrStale : ∃ (s : State), s.gns.corrActive ≠ 0 ∧ s.corrChoice = 0 :=
  ⟨wFix.modGns fun b => { b with corrActive := 2 }, by decide +kernel⟩

theorem wit_corrSwitch : ∃ (s : State), s.corrChoice ≠ 0 ∧ s.corrChoice ≠ s.gns.corrActive :=
  ⟨modCorr 1 (fun c => { c with epoch := some 99000000000, station := 4 }) wFix, by decide +kernel⟩

theorem wit_jamDetect : ∃ (ant : Fin 2) (upper : F32) (lower : F32) (weak : Nat) (ms : Nat) (s : State), Sized s ∧
    (s.gns.ant ant.val).jam = false ∧ (10 < f32Val upper ∨ 10 < f32Val lower) ∧ 0 < ((antChans ant.val).filter fun i => (s.gns.chan i).phase == .track).length ∧
    ((antChans ant.val).filter fun i => (s.gns.chan i).phase == .track).length ≤ 2 * weak ∧ 1000 ≤ ms :=
  ⟨0, 0, 0x41400000, 1, 1000, wGns .track, sized_of (by decide +kernel), by decide +kernel⟩

theorem wit_gnssWake : ∃ (above : List (Nat × Nat)) (s : State), s.sup.mode = .dormant ∧ s.gns.wakeAt = none ∧ s.tim.frameAt % 900000000000 = 0 ∧
    s.now = s.tim.frameAt ∧ s.pwr.domFault = 0 :=
  ⟨[],
      ((wRun.modSup fun b => { b with mode := .dormant }).modTim fun b => { b with now := 900000000000, frameAt := 900000000000 }).modPwr fun b => { b with domOn := 1 }, by decide +kernel⟩

theorem wit_gnssWakeEnd : ∃ (at_ : Nat) (s : State), s.gns.wakeAt = some at_ ∧ at_ + 10000000000 ≤ s.now :=
  ⟨4, wFix.modGns fun b => { b with wakeAt := some 4, wakeFix := true }, by decide +kernel⟩

/-! Icxon -/

theorem wit_deadline : ∃ (s : State), s.allocOwed = true ∧ s.engineRuns 9 = true :=
  ⟨wSlv, by decide +kernel⟩

theorem wit_icxForward_other : ∃ (rx : IcxRx) (s : State), rx.frame.dst ≠ s.selfIndex ∧ rx.frame.dst ≠ 0xFF :=
  ⟨{ frame := { dst := 3 } }, State.reset, by decide +kernel⟩

theorem wit_portUp : ∃ (port : Fin 3) (us : Nat) (s : State), Sized s ∧ s.domOn 10 = true ∧ s.linkAllowed = true ∧
    (s.icx.port port.val).phase = .down ∧ 10000 ≤ us :=
  ⟨1, 10000, wRun, sized_of (by decide +kernel), by decide +kernel⟩

theorem wit_portDown : ∃ (port : Fin 3) (cause : Fin 3) (count : Nat) (s : State), Sized s ∧ s.domOn 10 = true ∧ (s.icx.port port.val).phase = .up ∧
    (if cause.val = 2 then 16 else 100) ≤ count :=
  ⟨0, 2, 16, wIcx, sized_of (by decide +kernel), by decide +kernel⟩

theorem wit_exchangeSend : ∃ (us : Nat) (s : State) (u : State), s.domOn 10 = true ∧ s.inDomain = true ∧ s.stagesRun = true ∧
    s.fus.published = true ∧ s.icx.exchSent ≠ some s.frame ∧ s.subordinate = false ∧ u = s.atFrame (max us 3000) :=
  ⟨4000, wIcx, wIcx.atFrame 4000, by decide +kernel⟩

theorem wit_voteSend : ∃ (s : State) (u : State), Sized s ∧ s.domOn 10 = true ∧ s.votes = true ∧ s.stagesRun = true ∧ s.icx.voteSent ≠ some s.frame ∧
    s.sup.mode ≠ .start ∧ s.selfIndex < 8 ∧ u = s.atFrame 12000 :=
  ⟨wIcx, wIcx.atFrame 12000, sized_of (by decide +kernel), by decide +kernel⟩

theorem wit_voteEvaluation : ∃ (s : State) (u : State), s.domOn 10 = true ∧ s.inDomain = true ∧ s.stagesRun = true ∧ s.icx.voteDone ≠ some s.frame ∧
    s.sup.mode ≠ .start ∧ u = s.atFrame 15000 :=
  ⟨wIcx, wIcx.atFrame 15000, by decide +kernel⟩

theorem wit_txnTimeout : ∃ (tag : Word) (x : IcxTxn) (s : State), s.icx.txns.find? (fun y => y.tag == tag.toNat) = some x ∧ x.sentAt + 40000000 ≤ s.now :=
  ⟨0x18D00001, { tag := 0x18D00001, type := 8, dst := 0 }, wLead.modIcx fun b => { b with txns := [{ tag := 0x18D00001, type := 8, dst := 0 }] }, by decide +kernel⟩

theorem wit_joinRetry : ∃ (t0 : Nat) (s : State), s.icx.joinRetryAt = some t0 ∧ s.mayJoin = true ∧ t0 ≤ s.now ∧ s.icx.txns.length < 256 ∧
    s.icx.lead < 8 :=
  ⟨7, wIcx.modIcx fun b => { b with phase := .joining, role := .none_, joinRetryAt := some 7 }, by decide +kernel⟩

theorem wit_delay : ∃ (port : Fin 3) (roundTripNs : Nat) (s : State), Sized s ∧ s.domOn 10 = true ∧ (s.icx.port port.val).phase = .up :=
  ⟨0, 901, wIcx, sized_of (by decide +kernel), by decide +kernel⟩

theorem wit_icxDelayProbe : ∃ (port : Fin 3) (s : State), Sized s ∧ s.domOn 10 = true ∧ (s.icx.port port.val).phase = .up ∧ (s.icx.port port.val).probeAt = none :=
  ⟨1, wIcx, sized_of (by decide +kernel), by decide +kernel⟩

theorem wit_extDemandStale : ∃ (d : Demand) (v : Bool) (n : Nat) (s : State), s.icx.extDemand = some (d, v, n) ∧ s.subordinate = true ∧
    s.icx.extStale = false ∧ ((v = false ∨ 2 < (serialDiff s.frame n).toNat)) :=
  ⟨{}, true, 4997, wIcx.modIcx fun b => { b with cfg := some { domain := 5, parent := 9 }, extDemand := some ({}, true, 4997) }, by decide +kernel⟩

theorem wit_domainFormation : ∃ (t0 : Nat) (s : State), s.icx.joinSince = some t0 ∧ s.domOn 10 = true ∧ s.icx.phase = .joining ∧
    s.icx.leadKnown = false ∧ t0 + 2000000000 ≤ s.now ∧ s.lowerJoins = false :=
  ⟨7, wRun.modIcx fun b => { b with memberId := some 1, index := 1, phase := .joining, joinSince := some 7, cfg := some { domain := 5 } }, by decide +kernel⟩

theorem wit_partition : ∃ (w : Nat) (s : State), s.icx.phase = .member ∧ s.icx.role ≠ .lead ∧ 3 ≤ s.icx.leadMissed ∧ s.icx.witnessAt = some w ∧ s.now ≤ w + 40000000 :=
  ⟨100000000000, wIcx.modIcx fun b => { b with leadMissed := 3, witnessAt := some 100000000000 }, by decide +kernel⟩

theorem wit_timeSkew : ∃ (s : State), s.inDomain = true ∧ 10 ≤ s.icx.skewRun ∧ s.icx.skewed = false :=
  ⟨wIcx.modIcx fun b => { b with skewRun := 10 }, by decide +kernel⟩

theorem wit_fusDisagree : ∃ (heading : Bool) (t0 : Nat) (s : State), s.icx.disagreeSince.getD (b2n heading) none = some t0 ∧ s.follows = true ∧
    t0 + 2000000000 < s.now ∧ s.icx.disagreeTold = [false, false] :=
  ⟨true, 7, wIcx.modIcx fun b => { b with disagreeSince := [none, some 7] }, by decide +kernel⟩

/-! Power -/

theorem wit_powerFailWarning : ∃ (volts : F32) (s : State), s.pwr.resetHeld = false ∧ f32Finite volts = true ∧ f32Val volts < 33 / 2 ∧
    s.pwr.supply = .normal ∧ s.aqf.flushing = false :=
  ⟨0x41800000, wStore, by decide +kernel⟩

theorem wit_powerFailNoProfile : ∃ (s : State), s.pwr.supply = .normal ∧ s.pwr.resetHeld = false ∧
    ∀ w ∈ s.aqf.writes, w.begun = true → w.size ≤ 32768 → ∀ p, w.data ≠ .profile p :=
  ⟨wStore.modAqf fun b => { b with writes := [] }, by decide +kernel, by decide +kernel, fun _ h => nomatch h⟩

theorem wit_flushDone : ∃ (s : State), s.aqf.flushing = true ∧ s.sup.restarting = false :=
  ⟨wStore.modAqf fun b => { b with flushing := true }, by decide +kernel⟩

theorem wit_powerRelease : ∃ (volts : F32) (ms : Nat) (s : State), 50 ≤ ms ∧ f32Finite volts = true ∧ 35 / 2 ≤ f32Val volts ∧
    s.pwr.resetHeld = false ∧ s.pwr.supply ≠ .normal :=
  ⟨0x41C00000, 50, (wStore.modPwr fun b => { b with supply := .releaseWait, shed := true }), by decide +kernel⟩

theorem wit_powerReset : ∃ (volts : F32) (s : State), f32Finite volts = true ∧ f32Val volts < 14 ∧ s.pwr.resetHeld = false :=
  ⟨0x41200000, wStore, by decide +kernel⟩

theorem wit_inputLow : ∃ (input : Fin 2) (volts : F32) (vRail : F32) (ms : Nat) (s : State), s.suRuns = true ∧ 100 ≤ ms ∧ f32Finite volts = true ∧
    f32Val volts < 18 ∧ 18 ≤ f32Val vRail ∧ (s.pwr.inLowAt.getD input.val none) = none ∧ s.pwr.inLow.length = 2 ∧ s.pwr.inLowAt.length = 2 :=
  ⟨1, 0x41800000, 0x41C00000, 120, wRun, by decide +kernel⟩

theorem wit_inputRestored : ∃ (input : Fin 2) (volts : F32) (ms : Nat) (s : State), s.suRuns = true ∧ 1000 ≤ ms ∧ f32Finite volts = true ∧
    18 ≤ f32Val volts ∧ s.pwr.inLow.getD input.val false = true ∧ s.pwr.inLowAt.length = 2 :=
  ⟨1, 0x41C00000, 1000, wRun.modPwr fun b => { b with inLow := [false, true], inLowAt := [none, some 4] }, by decide +kernel⟩

theorem wit_dormantSwitchOffTimeout : ∃ (since : Nat) (s : State), s.pwr.dormantSince = some since ∧ s.sup.mode = .dormant ∧
    since + 10000000000 ≤ s.tim.frameAt + 20000000 ∧ s.gns.wakeAt = none :=
  ⟨90000000000, (wStore.modPwr fun b => { b with dormantSince := some 90000000000 }).modSup fun b => { b with mode := .dormant }, by decide +kernel⟩

theorem wit_modeDomainSwitchOn : ∃ (d : Nat) (ds : List Nat) (s : State), s.pwr.onQueue = d :: ds ∧
    s.pwr.onAt + 10000000 ≤ s.tim.frameAt + 20000000 ∧ d < 13 ∧ s.pwr.domFault.getLsbD d = false :=
  ⟨6, [5], wRun.modPwr fun b => { b with domOn := 0x0F91, onQueue := [6, 5], onAt := 99995000000 }, by decide +kernel⟩

/-! Requests -/

theorem wit_modeReq : ∃ (req : Req) (i : Nat) (mode : Fin 8) (hdgHold : Bool) (useSetpoint : Bool) (m : Mode) (s : State), Sized s ∧
    Ready req i (if mode.val = 5 then 2 else 1) s ∧ s.regStatus 0x00010104 = 0 ∧ s.inDomain = false ∧ modeOf mode.val = some m ∧
    s.modeVerdict (some m) hdgHold = 0 ∧ s.sup.mode ≠ .dormant :=
  ⟨wReq, 3, 2, false, false, .joystick, wSes 1 .standby, sized_of (by decide +kernel), by decide +kernel⟩

theorem wit_sstopReqEnter : ∃ (req : Req) (i : Nat) (scope : Byte) (s : State), Sized s ∧ Ready req i 1 s ∧ s.regStatus 0x00010108 = 0 :=
  ⟨wReq, 3, 1, wSes 1 .standby, sized_of (by decide +kernel), by decide +kernel⟩

theorem wit_sstopReqReset : ∃ (req : Req) (i : Nat) (s : State), Sized s ∧ Ready req i 1 s ∧ s.regStatus 0x00010108 = 0 ∧ s.inDomain = false ∧
    s.scRuns = true ∧ s.icx.resetWait = none :=
  ⟨wReq, 3, (wSes 1 .standby).modSaf fun b => { b with scOk := true, started := true }, sized_of (by decide +kernel), by decide +kernel⟩

theorem wit_restartReq : ∃ (req : Req) (i : Nat) (key : Word) (s : State), Sized s ∧ Ready req i 2 s ∧ s.regStatus 0x00010138 = 0 ∧
    key = 0x0000A55A ∧ releasesThrust s.sup.mode = false ∧ s.aqf.flushing = false :=
  ⟨wReq, 3, 0xA55A, wSes 2 .standby, sized_of (by decide +kernel), by decide +kernel⟩

theorem wit_modeTblend : ∃ (req : Req) (i : Nat) (seconds : F32) (s : State), Sized s ∧ Ready req i 1 s ∧ s.regStatus 0x00010124 = 0 ∧
    s.inDomain = false ∧ f32Finite seconds = true ∧ 0 ≤ f32Val seconds ∧ f32Val seconds ≤ 30 ∧ s.sup.noImage = false :=
  ⟨wReq, 3, 0x40400000, wSes 1 .standby, sized_of (by decide +kernel), by decide +kernel⟩

theorem wit_coldStart : ∃ (req : Req) (i : Nat) (s : State), Sized s ∧ Ready req i 2 s ∧ s.regStatus 0x00080094 = 0 ∧ s.sup.mode = .service :=
  ⟨wReq, 3, wSes 2 .service, sized_of (by decide +kernel), by decide +kernel⟩

theorem wit_rtkReset : ∃ (req : Req) (i : Nat) (s : State), Sized s ∧ Ready req i 2 s ∧ s.regStatus 0x00080094 = 0 :=
  ⟨wReq, 3, wSes 2 .standby, sized_of (by decide +kernel), by decide +kernel⟩

theorem wit_refSelect : ∃ (req : Req) (i : Nat) (mask : BitVec 12) (s : State), Sized s ∧ Ready req i 1 s ∧ s.regStatus 0x000A0070 = 0 ∧
    s.inDomain = false ∧ s.sup.mode ≠ .autoPos ∧ s.sup.mode ≠ .autoTrack :=
  ⟨wReq, 3, 0x305, wSes 1 .standby, sized_of (by decide +kernel), by decide +kernel⟩

theorem wit_anchor : ∃ (req : Req) (i : Nat) (slot : Fin 16) (heading : Bool) (k : Nat) (c : RefCfg) (s : State), Sized s ∧ Ready req i 1 s ∧
    s.regStatus 0x000A0074 = 0 ∧ s.inDomain = false ∧ k = (if heading then 8 + slot.val else slot.val) ∧ slot.val ≤ (if heading then 3 else 7) ∧
    s.refCfg k = some c ∧ relativeType c.type = true :=
  ⟨wReq, 3, 2, false, 2, { slot := 2, type := 2 }, (wSes 1 .standby).modCfg fun b => { b with image := some { refs := [{ slot := 2, type := 2 }] } },
      sized_of (by decide +kernel), by decide +kernel⟩

theorem wit_refCmdResetModel : ∃ (req : Req) (i : Nat) (slot : Fin 16) (heading : Bool) (k : Nat) (s : State), Sized s ∧ Ready req i 2 s ∧
    s.regStatus 0x000A0074 = 0 ∧ s.inDomain = false ∧ ((s.sup.mode = .standby ∨ s.sup.mode = .service)) ∧
    k = (if heading then 8 + slot.val else slot.val) ∧ slot.val ≤ (if heading then 3 else 7) ∧ (s.refCfg k).isSome = true :=
  ⟨wReq, 3, 2, false, 2, (wSes 2 .standby).modCfg fun b => { b with image := some { refs := [{ slot := 2, type := 2 }] } },
      sized_of (by decide +kernel), by decide +kernel⟩

theorem wit_slvTest : ∃ (req : Req) (i : Nat) (engine : Fin 8) (s : State), Sized s ∧ Ready req i 2 s ∧ s.regStatus 0x000C0084 = 0 ∧ s.testAllowed engine.val = true :=
  ⟨wReq, 3, 1, (wSes 2 .standby).modSlv fun b => { b with slots := updAt b.slots 5 fun k => { k with owner := .su, cls := 3 } },
      sized_of (by decide +kernel), by decide +kernel⟩

theorem wit_spApply : ∃ (req : Req) (i : Nat) (s : State), Sized s ∧ Ready req i 1 s ∧ s.regStatus 0x000D0058 = 0 ∧ s.inDomain = false ∧
    s.ctlSnap.posValid = true ∧
    s.scalars.spMaxDist * s.scalars.spMaxDist ≥ ((s.planeOf (s.geoOf s.ctl.spLat s.ctl.spLon)).1 - s.ctlSnap.posN) * ((s.planeOf (s.geoOf s.ctl.spLat s.ctl.spLon)).1 - s.ctlSnap.posN) + ((s.planeOf (s.geoOf s.ctl.spLat s.ctl.spLon)).2 - s.ctlSnap.posE) * ((s.planeOf (s.geoOf s.ctl.spLat s.ctl.spLon)).2 - s.ctlSnap.posE) :=
  ⟨wReq, 3, wNear (wSes 1 .standby) ((wSes 1 .standby).geoOf 0 0), sized_of (by decide +kernel), by decide +kernel, by decide +kernel,
      by decide +kernel, by decide +kernel, sq_near _ _ (by decide +kernel)⟩

theorem wit_spMove : ∃ (req : Req) (i : Nat) (p : Setpoint) (g : Geo) (s : State), Sized s ∧ Ready req i 1 s ∧ s.regStatus 0x000D0058 = 0 ∧
    s.inDomain = false ∧ s.moveBase = some p ∧ g = { ofPlane p.pos { x := s.ctl.spMoveN, y := s.ctl.spMoveE, z := 0 } with h := p.pos.h } ∧
    s.ctlSnap.posValid = true ∧
    s.scalars.spMaxDist * s.scalars.spMaxDist ≥ ((s.planeOf g).1 - s.ctlSnap.posN) * ((s.planeOf g).1 - s.ctlSnap.posN) + ((s.planeOf g).2 - s.ctlSnap.posE) * ((s.planeOf g).2 - s.ctlSnap.posE) :=
  ⟨wReq, 3, { pos := {} }, { ofPlane {} { x := 0, y := 0, z := 0 } with h := 0 },
      (wNear (wSes 1 .standby) { ofPlane {} { x := 0, y := 0, z := 0 } with h := 0 }).modCtl fun b => { b with spStored := some ({ pos := {} }, 0) },
      sized_of (by decide +kernel), by decide +kernel, by decide +kernel, by decide +kernel, by decide +kernel, rfl, by decide +kernel, sq_near _ _ (by decide +kernel)⟩

theorem wit_tuneSel : ∃ (req : Req) (i : Nat) (set : Fin 8) (s : State), Sized s ∧ Ready req i 1 s ∧ s.regStatus 0x000D005C = 0 ∧
    s.inDomain = false ∧ (lookupK s.image.tunes set.val).isSome = true :=
  ⟨wReq, 3, 2, (wSes 1 .standby).modCfg fun b => { b with image := some { tunes := [(2, {})] } }, sized_of (by decide +kernel), by decide +kernel⟩

theorem wit_joyDemand : ∃ (req : Req) (i : Nat) (surge : BitVec 10) (sway : BitVec 10) (yaw : BitVec 10) (s : State), Sized s ∧ Ready req i 1 s ∧
    s.regStatus 0x000D0060 = 0 ∧ s.inDomain = false ∧ s.scalars.joySource = 0 ∧ s.sup.mode = .joystick ∧ ((s.joyOwner = none ∨ s.joyOwner = some i)) :=
  ⟨wReq, 3, 0x1FF, 0x200, 0x3FF, wSes 1 .joystick, sized_of (by decide +kernel), by decide +kernel⟩

theorem wit_joyRelease : ∃ (req : Req) (i : Nat) (s : State), Sized s ∧ Ready req i 1 s ∧ s.regStatus 0x000D0060 = 0 ∧ s.inDomain = false ∧
    s.scalars.joySource = 0 ∧ s.sup.mode = .joystick ∧ s.joyOwner = some i :=
  ⟨wReq, 3, (wSes 1 .joystick).modCtl fun b => { b with joy := { b.joy with owner := some 3, value := some ({}, 100000000000) } },
      sized_of (by decide +kernel), by decide +kernel⟩

theorem wit_trackCommit : ∃ (req : Req) (i : Nat) (count : Fin 128) (s : State), Sized s ∧ Ready req i 1 s ∧ s.regStatus 0x000D008C = 0 ∧ s.inDomain = false :=
  ⟨wReq, 3, 2, wSes 1 .standby, sized_of (by decide +kernel), by decide +kernel⟩

theorem wit_trackClear : ∃ (req : Req) (i : Nat) (s : State), Sized s ∧ Ready req i 1 s ∧ s.regStatus 0x000D008C = 0 ∧ s.inDomain = false ∧ s.sup.mode ≠ .autoTrack :=
  ⟨wReq, 3, wSes 1 .standby, sized_of (by decide +kernel), by decide +kernel⟩

theorem wit_thrEnable : ∃ (req : Req) (i : Nat) (mask : BitVec 16) (s : State), Sized s ∧ Ready req i 1 s ∧ s.regStatus 0x000D00E4 = 0 ∧
    s.inDomain = false ∧ releasesThrust s.sup.mode = false :=
  ⟨wReq, 3, 0x24, wSes 1 .standby, sized_of (by decide +kernel), by decide +kernel⟩

theorem wit_srvClearFault : ∃ (req : Req) (i : Nat) (thruster : Fin 16) (c : ThrCfg) (s : State), Sized s ∧ Ready req i 1 s ∧
    s.regStatus 0x000E006C = 0 ∧ s.thrCfg thruster.val = some c ∧ (s.srv.t thruster.val).az.fault = 3 ∧ s.faultGone thruster.val c false s.now = true :=
  ⟨wReq, 3, 2, { azKind := 1 }, modServo 2 (fun t => { t with az := { t.az with fault := 3 } }) (wSes 1 .standby), sized_of (by decide +kernel), by decide +kernel⟩

theorem wit_resetProfile : ∃ (req : Req) (i : Nat) (thruster : Fin 16) (c : ThrCfg) (s : State), Sized s ∧ Ready req i 2 s ∧
    s.regStatus 0x000E006C = 0 ∧ s.thrCfg thruster.val = some c ∧ c.azKind = 1 ∧ ((s.sup.mode = .standby ∨ s.sup.mode = .service)) :=
  ⟨wReq, 3, 2, { azKind := 1 }, wSes 2 .standby, sized_of (by decide +kernel), by decide +kernel⟩

theorem wit_setBaseline : ∃ (req : Req) (i : Nat) (thruster : Fin 16) (c : ThrCfg) (s : State), Sized s ∧ Ready req i 3 s ∧
    s.regStatus 0x000E006C = 0 ∧ s.thrCfg thruster.val = some c ∧ c.azKind = 1 ∧ ((s.sup.mode = .standby ∨ s.sup.mode = .service)) ∧ (s.srv.t thruster.val).ff = true :=
  ⟨wReq, 3, 2, { azKind := 1 }, modServo 2 (fun t => { t with ff := true }) (wSes 3 .standby), sized_of (by decide +kernel), by decide +kernel⟩

theorem wit_storeNow : ∃ (req : Req) (i : Nat) (thruster : Fin 16) (c : ThrCfg) (s : State), Sized s ∧ Ready req i 2 s ∧ s.regStatus 0x000E006C = 0 ∧
    s.thrCfg thruster.val = some c ∧ c.azKind = 1 ∧ s.srv.thr.any (fun x => x.storing.isSome) = true :=
  ⟨wReq, 3, 2, { azKind := 1 }, modServo 5 (fun t => { t with storing := some 9 }) (wSes 2 .standby), sized_of (by decide +kernel), by decide +kernel⟩

theorem wit_learnRun : ∃ (req : Req) (i : Nat) (thruster : Fin 16) (passes : Fin 32768) (ccw : Bool) (c : ThrCfg) (s : State), Sized s ∧
    Ready req i 2 s ∧ s.regStatus 0x000E006C = 0 ∧ s.thrCfg thruster.val = some c ∧ c.azKind = 1 ∧ s.sup.mode = .service ∧ 1 ≤ passes.val ∧
    passes.val ≤ 100 ∧ (s.srv.t thruster.val).az.fault = 0 ∧ (s.srv.t thruster.val).pitch.fault = 0 ∧ s.srv.test = none :=
  ⟨wReq, 3, 2, 100, true, { azKind := 1 }, wSes 2 .service, sized_of (by decide +kernel), by decide +kernel⟩

theorem wit_testMove : ∃ (req : Req) (i : Nat) (thruster : Fin 16) (target : BitVec 16) (c : ThrCfg) (s : State), Sized s ∧ Ready req i 2 s ∧
    s.regStatus 0x000E006C = 0 ∧ s.thrCfg thruster.val = some c ∧ c.azKind = 1 ∧ s.sup.mode = .service ∧ (s.srv.t thruster.val).az.fault = 0 ∧
    (s.srv.t thruster.val).pitch.fault = 0 ∧ s.srv.test = none :=
  ⟨wReq, 3, 2, 0x8000, { azKind := 1 }, wSes 2 .service, sized_of (by decide +kernel), by decide +kernel⟩

theorem wit_testStop : ∃ (req : Req) (i : Nat) (thruster : Fin 16) (s : State), Sized s ∧ Ready req i 2 s ∧ s.regStatus 0x000E006C = 0 ∧
    s.sup.mode = .service ∧ s.underTest thruster.val = true :=
  ⟨wReq, 3, 2, (wSes 2 .service).modSrv fun b => { b with test := some (2, .testMove 7) }, sized_of (by decide +kernel), by decide +kernel⟩

theorem wit_arm : ∃ (req : Req) (i : Nat) (s : State), Sized s ∧ Ready req i 2 s ∧ s.regStatus 0x000E0078 = 0 ∧ s.srv.trace.phase = .idle ∧
    s.srv.shed = false ∧ s.thm.enforced = false ∧ s.thm.armFrom ≤ s.now :=
  ⟨wReq, 3, wSes 2 .standby, sized_of (by decide +kernel), by decide +kernel⟩

theorem wit_trcStop : ∃ (req : Req) (i : Nat) (s : State), Sized s ∧ Ready req i 2 s ∧ s.regStatus 0x000E0078 = 0 ∧ s.srv.trace.phase = .armed :=
  ⟨wReq, 3, modTrace (fun t => { t with phase := .armed }) (wSes 2 .standby), sized_of (by decide +kernel), by decide +kernel⟩

theorem wit_force : ∃ (req : Req) (i : Nat) (s : State), Sized s ∧ Ready req i 2 s ∧ s.regStatus 0x000E0078 = 0 ∧ s.srv.trace.phase = .armed ∧ s.srv.trace.prePct < 100 :=
  ⟨wReq, 3, modTrace (fun t => { t with phase := .armed }) (wSes 2 .standby), sized_of (by decide +kernel), by decide +kernel⟩

theorem wit_sigCmdStart : ∃ (req : Req) (i : Nat) (mask : BitVec 16) (s : State), Sized s ∧ Ready req i 2 s ∧ s.regStatus 0x00100028 = 0 ∧
    s.sup.mode = .service ∧ s.bst.failedMask.getLsbD 18 = false :=
  ⟨wReq, 3, 0x0021, (wSes 2 .service).modSig fun b => { b with ins := updAt b.ins 5 fun c => { c with used := true, rate := 1000 } },
      sized_of (by decide +kernel), by decide +kernel⟩

theorem wit_sigCmdStop : ∃ (req : Req) (i : Nat) (mask : BitVec 16) (s : State), Sized s ∧ Ready req i 2 s ∧ s.regStatus 0x00100028 = 0 ∧ s.sup.mode = .service :=
  ⟨wReq, 3, 0x0021, (wSes 2 .service).modSig fun b => { b with ins := updAt b.ins 5 fun c => { c with used := true, phase := .running } },
      sized_of (by decide +kernel), by decide +kernel⟩

theorem wit_sigCmdSync : ∃ (req : Req) (i : Nat) (s : State), Sized s ∧ Ready req i 2 s ∧ s.regStatus 0x00100028 = 0 ∧ s.bst.failedMask.getLsbD 18 = false :=
  ⟨wReq, 3, (wSes 2 .standby).modSig fun b => { b with ins := updAt b.ins 5 fun c => { c with used := true, phase := .running } },
      sized_of (by decide +kernel), by decide +kernel⟩

theorem wit_chCfg : ∃ (req : Req) (i : Nat) (value : Word) (c : AinChan) (s : State), Sized s ∧ Ready req i 2 s ∧ s.regStatus 0x00100034 = 0 ∧
    s.sup.mode = .service ∧ s.sig.chSel < 16 ∧ (s.sig.chan s.sig.chSel).phase = .stopped ∧ c = ainOfWord value (s.sig.chan s.sig.chSel) ∧
    c.range < 4 ∧ 1 ≤ c.rate ∧ c.rate ≤ 80000 ∧ ((c.classF = true ∨ gridRate c.rate = true)) :=
  ⟨wReq, 3, (pack [(2, 0, 3), (1, 4, 1), (1000, 6, 17)]), { range := 2, minimum := true, rate := 1000 }, wSes 2 .service, sized_of (by decide +kernel), by decide +kernel⟩

theorem wit_chDelay : ∃ (req : Req) (i : Nat) (eighths : BitVec 12) (s : State), Sized s ∧ Ready req i 2 s ∧ s.regStatus 0x00100038 = 0 ∧
    ((s.sup.mode = .standby ∨ s.sup.mode = .service)) ∧ s.sig.chSel < 16 ∧ (s.sig.chan s.sig.chSel).classF = true ∧
    delayOk (s.sig.chan s.sig.chSel).rate eighths.toNat = true :=
  ⟨wReq, 3, 20, (wSes 2 .standby).modSig fun b => { b with ins := updAt b.ins 0 fun c => { c with classF := true, rate := 80000 } },
      sized_of (by decide +kernel), by decide +kernel⟩

theorem wit_outValue : ∃ (req : Req) (i : Nat) (value : F32) (s : State), Sized s ∧ Ready req i 1 s ∧ s.regStatus 0x00100068 = 0 ∧
    f32Finite value = true ∧ s.sup.mode ≠ .dormant ∧ s.sig.outSel < 12 ∧ (s.sig.out s.sig.outSel).src = .session :=
  ⟨wReq, 3, 0x3F800000, (wSes 1 .standby).modSig fun b => { b with outs := updAt b.outs 0 fun o => { o with src := .session } },
      sized_of (by decide +kernel), by decide +kernel⟩

theorem wit_outOn : ∃ (req : Req) (i : Nat) (bankB : Bool) (mask : BitVec 24) (s : State), Sized s ∧ Ready req i 1 s ∧
    s.regStatus (if bankB then 0x0011004C else 0x00110044) = 0 ∧ s.sup.mode ≠ .dormant ∧
    (List.range 24).all (fun k => !mask.getLsbD k || ((s.fio.chan ((if bankB then 24 else 0) + k)).cfg.dir == .output && (s.fio.chan ((if bankB then 24 else 0) + k)).cfg.src == .session)) = true :=
  ⟨wReq, 3, true, 5,
      (wSes 1 .standby).modFio fun b => { b with chans := b.chans.map fun c => { c with cfg := { dir := .output, src := .session }, session := false } }, sized_of (by decide +kernel), by decide +kernel⟩

theorem wit_outOff : ∃ (req : Req) (i : Nat) (bankB : Bool) (mask : BitVec 24) (s : State), Sized s ∧ Ready req i 1 s ∧
    s.regStatus (if bankB then 0x00110050 else 0x00110048) = 0 ∧ s.sup.mode ≠ .dormant ∧
    (List.range 24).all (fun k => !mask.getLsbD k || ((s.fio.chan ((if bankB then 24 else 0) + k)).cfg.dir == .output && (s.fio.chan ((if bankB then 24 else 0) + k)).cfg.src == .session)) = true :=
  ⟨wReq, 3, true, 5,
      (wSes 1 .standby).modFio fun b => { b with chans := b.chans.map fun c => { c with cfg := { dir := .output, src := .session }, session := true } }, sized_of (by decide +kernel), by decide +kernel⟩

theorem wit_fioClearFault : ∃ (req : Req) (i : Nat) (channel : Fin 64) (all : Bool) (s : State), Sized s ∧ Ready req i 1 s ∧
    s.regStatus 0x00110054 = 0 ∧ channel.val < 48 :=
  ⟨wReq, 3, 47, false, (wSes 1 .standby).modFio fun b => { b with chans := b.chans.map fun c => { c with latched := true, blocked := true } },
      sized_of (by decide +kernel), by decide +kernel⟩

theorem wit_proofBegin : ∃ (req : Req) (i : Nat) (s : State), Sized s ∧ Ready req i 2 s ∧ s.regStatus 0x0012007C = 0 ∧ s.sup.mode = .service ∧
    s.saf.alarmTest = none ∧ s.saf.pairs.any (fun p => p.testing.isSome) = false :=
  ⟨wReq, 3, wSes 2 .service, sized_of (by decide +kernel), by decide +kernel⟩

theorem wit_pairTestHs : ∃ (req : Req) (i : Nat) (pair : Fin 8) (s : State), Sized s ∧ Ready req i 2 s ∧ s.regStatus 0x0012007C = 0 ∧
    s.sup.mode = .service ∧ s.saf.alarmTest = none ∧ s.saf.pairs.any (fun p => p.testing.isSome) = false ∧ s.saf.proof = .running ∧
    (s.saf.p pair.val).on = true ∧ s.pairTestBarred pair.val = false :=
  ⟨wReq, 3, 7, ((wSes 2 .service).modSaf fun b => { b with proof := .running, pairs := b.pairs.map fun p => { p with hs := true, ls := true } }),
      sized_of (by decide +kernel), by decide +kernel⟩

theorem wit_pairTestLs : ∃ (req : Req) (i : Nat) (pair : Fin 8) (s : State), Sized s ∧ Ready req i 2 s ∧ s.regStatus 0x0012007C = 0 ∧
    s.sup.mode = .service ∧ s.saf.alarmTest = none ∧ s.saf.pairs.any (fun p => p.testing.isSome) = false ∧ s.saf.proof = .running ∧
    (s.saf.p pair.val).on = true ∧ s.pairTestBarred pair.val = false :=
  ⟨wReq, 3, 7, ((wSes 2 .service).modSaf fun b => { b with proof := .running, pairs := b.pairs.map fun p => { p with hs := true, ls := true } }),
      sized_of (by decide +kernel), by decide +kernel⟩

theorem wit_estopTest : ∃ (req : Req) (i : Nat) (input : Fin 2) (s : State), Sized s ∧ Ready req i 2 s ∧ s.regStatus 0x0012007C = 0 ∧
    s.sup.mode = .service ∧ s.saf.alarmTest = none ∧ s.saf.pairs.any (fun p => p.testing.isSome) = false ∧ s.saf.proof = .running :=
  ⟨wReq, 3, 1, ((wSes 2 .service).modSaf fun b => { b with proof := .running, pairs := b.pairs.map fun p => { p with hs := true, ls := true } }),
      sized_of (by decide +kernel), by decide +kernel⟩

theorem wit_proofEnd : ∃ (req : Req) (i : Nat) (s : State), Sized s ∧ Ready req i 2 s ∧ s.regStatus 0x0012007C = 0 ∧ s.sup.mode = .service ∧
    s.saf.alarmTest = none ∧ s.saf.pairs.any (fun p => p.testing.isSome) = false ∧ s.saf.proof = .running :=
  ⟨wReq, 3, ((wSes 2 .service).modSaf fun b => { b with proof := .running, pairs := b.pairs.map fun p => { p with hs := true, ls := true } }),
      sized_of (by decide +kernel), by decide +kernel⟩

theorem wit_faultReset : ∃ (req : Req) (i : Nat) (pair : Fin 8) (all : Bool) (input : Fin 2) (s : State), Sized s ∧ Ready req i 1 s ∧
    s.regStatus 0x0012007C = 0 ∧ s.saf.alarmTest = none ∧ s.saf.pairs.any (fun p => p.testing.isSome) = false :=
  ⟨wReq, 3, 3, false, 0, (wSes 1 .standby).modSaf fun b => { b with pairs := b.pairs.map fun p => { p with cfFault := true, cf := true } },
      sized_of (by decide +kernel), by decide +kernel⟩

theorem wit_alarmTest : ∃ (req : Req) (i : Nat) (s : State), Sized s ∧ Ready req i 2 s ∧ s.regStatus 0x0012007C = 0 ∧
    ((s.sup.mode = .standby ∨ s.sup.mode = .service)) ∧ s.saf.alarmTest = none ∧ s.saf.pairs.any (fun p => p.testing.isSome) = false :=
  ⟨wReq, 3, wSes 2 .standby, sized_of (by decide +kernel), by decide +kernel⟩

theorem wit_recover : ∃ (req : Req) (i : Nat) (port : Fin 4) (s : State), Sized s ∧ Ready req i 2 s ∧ s.regStatus 0x0014005C = 0 ∧
    (s.can.port port.val).phase = .busOff :=
  ⟨wReq, 3, 2, modPort 2 (fun b => { b with phase := .busOff }) (wSes 2 .standby), sized_of (by decide +kernel), by decide +kernel⟩

theorem wit_handover : ∃ (req : Req) (i : Nat) (s : State), Sized s ∧ Ready req i 1 s ∧ s.regStatus 0x00180050 = 0 ∧ s.inDomain = true ∧
    s.icx.role = .lead ∧ s.successor.isSome = true :=
  ⟨wReq, 3,
      (wSes 1 .standby).modIcx fun b => { b with memberId := some 1, index := 1, cfg := some { domain := 5 }, phase := .member, role := .lead, lead := 1, leadKnown := true, members := updAt b.members 0 fun m => { m with phase := .member, role := .follow, heard := some 5000, adopted := true } }, sized_of (by decide +kernel), by decide +kernel⟩

theorem wit_setMember : ∃ (req : Req) (i : Nat) (index : Fin 8) (s : State), Sized s ∧ Ready req i 3 s ∧ s.regStatus 0x00180050 = 0 ∧
    s.sup.mode = .service ∧ StoreRoom s :=
  ⟨wReq, 3, 5, wSes 3 .service, sized_of (by decide +kernel), by decide +kernel⟩

theorem wit_sesCmdClose : ∃ (req : Req) (i : Nat) (session : Fin 32) (s : State), Sized s ∧ Ready req i 2 s ∧ s.regStatus 0x00170040 = 0 ∧
    session.val ≠ i ∧ (s.ses.session session.val).phase ≠ .free :=
  ⟨wReq, 3, 9, modSession 9 (fun x => { x with phase := .detached }) (wSes 2 .standby), sized_of (by decide +kernel), by decide +kernel⟩

theorem wit_installCert : ∃ (req : Req) (i : Nat) (d : Bytes) (ok : Bool) (s : State), Sized s ∧ Ready req i 3 s ∧ s.regStatus 0x00170040 = 0 ∧
    s.ses.siteStage = some d ∧ StoreRoom s ∧ ok = (Config.certParses d && Config.certDeviceKey d) :=
  ⟨wReq, 3, [1, 2, 3], (Config.certParses [1, 2, 3] && Config.certDeviceKey [1, 2, 3]),
      (wSes 3 .standby).modSes fun b => { b with siteStage := some [1, 2, 3] }, sized_of (by decide +kernel), by decide +kernel, by decide +kernel,
      by decide +kernel, by decide +kernel, rfl⟩

theorem wit_useFactory : ∃ (req : Req) (i : Nat) (s : State), Sized s ∧ Ready req i 3 s ∧ s.regStatus 0x00170040 = 0 ∧ StoreRoom s :=
  ⟨wReq, 3, (wSes 3 .standby).modSes fun b => { b with siteCert := some [1] }, sized_of (by decide +kernel), by decide +kernel⟩

theorem wit_unlock : ∃ (req : Req) (i : Nat) (s : State), Sized s ∧ Ready req i 3 s ∧ s.regStatus 0x00170040 = 0 :=
  ⟨wReq, 3, (wSes 3 .standby).modSes fun b => { b with sources := [{ addr := 9, fails := 3 }] }, sized_of (by decide +kernel), by decide +kernel⟩

theorem wit_timCmdResetModel : ∃ (req : Req) (i : Nat) (s : State), Sized s ∧ Ready req i 2 s ∧ s.regStatus 0x00090058 = 0 ∧ s.sup.mode = .service :=
  ⟨wReq, 3, wSes 2 .service, sized_of (by decide +kernel), by decide +kernel⟩

theorem wit_bistPartial : ∃ (req : Req) (i : Nat) (s : State), Sized s ∧ Ready req i 2 s ∧ s.regStatus 0x0004003C = 0 ∧
    ((s.sup.mode = .standby ∨ s.sup.mode = .service)) ∧ ((s.bst.state ≠ 1 ∨ s.bst.kind = 0)) :=
  ⟨wReq, 3, wSes 2 .standby, sized_of (by decide +kernel), by decide +kernel⟩

theorem wit_bistFull : ∃ (req : Req) (i : Nat) (key : Byte) (s : State), Sized s ∧ Ready req i 2 s ∧ s.regStatus 0x0004003C = 0 ∧
    s.sup.mode = .service ∧ ((s.bst.state ≠ 1 ∨ s.bst.kind = 0)) ∧ key = 0x5A ∧ s.srv.test = none ∧ s.saf.proof ≠ .running :=
  ⟨wReq, 3, 0x5A, wSes 2 .service, sized_of (by decide +kernel), by decide +kernel⟩

theorem wit_logClear : ∃ (req : Req) (i : Nat) (key : Byte) (s : State), Sized s ∧ Ready req i 3 s ∧ s.regStatus 0x001B0040 = 0 ∧
    ((s.sup.mode = .standby ∨ s.sup.mode = .service)) ∧ key = 0xA5 ∧ s.log.logFault = false ∧ StoreRoom s :=
  ⟨wReq, 3, 0xA5, wSes 3 .standby, sized_of (by decide +kernel), by decide +kernel⟩

theorem wit_exportPrepare : ∃ (req : Req) (i : Nat) (s : State), Sized s ∧ Ready req i 2 s ∧ s.regStatus 0x001A0068 = 0 ∧ s.sup.mode = .service :=
  ⟨wReq, 3, wSes 2 .service, sized_of (by decide +kernel), by decide +kernel⟩

theorem wit_importCommit : ∃ (req : Req) (i : Nat) (mask : Fin 8) (s : State), Sized s ∧ Ready req i 2 s ∧ s.regStatus 0x001A0068 = 0 ∧
    s.sup.mode = .service ∧ s.aqf.phase = .ready ∧ s.domOn 7 = true ∧ s.aqf.suspended = false ∧ s.aqf.importPending = false ∧ (s.importCheck mask.val).isRight = true ∧
    s.aqf.writes.length < 64 ∧ s.importRoom = true :=
  ⟨wReq, 3, 7,
      (let h := leBytes 4 0x534C514C ++ leBytes 2 1 ++ leBytes 2 1 ++ zeros 16 ++ leBytes 4 80 ++ zeros 32; let d := [2, 0, 0, 0] ++ leBytes 4 8 ++ zeros 8; (wSes 2 .service).modAqf fun b => { b with import_ := h ++ leBytes 4 (crc32c (h ++ d)) ++ d, importLen := 80, budget := 1000000000 }), sized_of (by decide +kernel), by decide +kernel⟩

theorem wit_importAbort : ∃ (req : Req) (i : Nat) (s : State), Sized s ∧ Ready req i 2 s ∧ s.regStatus 0x001A0068 = 0 ∧ s.sup.mode = .service :=
  ⟨wReq, 3, wSes 2 .service, sized_of (by decide +kernel), by decide +kernel⟩

theorem wit_archiveTrace : ∃ (req : Req) (i : Nat) (s : State), Sized s ∧ Ready req i 2 s ∧ s.regStatus 0x001A0068 = 0 ∧ s.srv.trace.phase = .done ∧
    s.srv.trace.len ≠ 0 ∧ s.aqf.archiving = false :=
  ⟨wReq, 3, modTrace (fun t => { t with phase := .done, len := 2 }) (wSes 2 .standby), sized_of (by decide +kernel), by decide +kernel⟩

theorem wit_archiveDelete : ∃ (req : Req) (i : Nat) (entry : BitVec 16) (s : State), Sized s ∧ Ready req i 2 s ∧ s.regStatus 0x001A0068 = 0 ∧
    s.aqf.archives.contains entry.toNat = true :=
  ⟨wReq, 3, 7, (wSes 2 .standby).modAqf fun b => { b with objs := [{ key := { part := 5, tag := 7 }, size := 100 }] }, sized_of (by decide +kernel), by decide +kernel⟩

theorem wit_confirm : ∃ (req : Req) (i : Nat) (p0Ok : Bool) (s : State), Sized s ∧ Ready req i 3 s ∧ s.regStatus 0x001C004C = 0 ∧
    ((s.sup.mode = .standby ∨ s.sup.mode = .service)) ∧ s.sup.noImage = false ∧ s.cfg.written = false ∧ s.cfg.confirmValue = s.cfg.check ∧ StoreRoom s :=
  ⟨wReq, 3, true, wSes 3 .standby, sized_of (by decide +kernel), by decide +kernel⟩

theorem wit_writeKey : ∃ (req : Req) (i : Nat) (key : Byte) (f : Option ImgFail) (c : Nat) (s : State), Sized s ∧ Ready req i 2 s ∧
    s.regStatus 0x001C004C = 0 ∧ s.sup.mode = .service ∧ key = 0xC5 ∧ s.cfg.stagedLen ≠ 0 ∧ s.cfg.writing = false ∧ s.stagedCheck = (f, c) :=
  ⟨wReq, 3, 0xC5, ((wSes 2 .service).modCfg fun b => { b with staged := [1, 2], stagedLen := 2 }).stagedCheck.1,
      ((wSes 2 .service).modCfg fun b => { b with staged := [1, 2], stagedLen := 2 }).stagedCheck.2,
      (wSes 2 .service).modCfg fun b => { b with staged := [1, 2], stagedLen := 2 }, sized_of (by decide +kernel), by decide +kernel⟩

theorem wit_discard : ∃ (req : Req) (i : Nat) (s : State), Sized s ∧ Ready req i 2 s ∧ s.regStatus 0x001C004C = 0 ∧ s.cfg.writing = false :=
  ⟨wReq, 3, (wSes 2 .standby).modCfg fun b => { b with staged := [1, 2], stagedLen := 2 }, sized_of (by decide +kernel), by decide +kernel⟩

theorem wit_read : ∃ (req : Req) (i : Nat) (addr : Word) (count : Nat) (s : State), Sized s ∧ Ready req i 0 s ∧ 1 ≤ count ∧ count ≤ 64 ∧
    (readAddrs addr.toNat count).all (fun a => s.regStatus a == 0) = true :=
  ⟨wReq, 3, 0x00010100, 2, wSes 0 .standby, sized_of (by decide +kernel), by decide +kernel⟩

theorem wit_write : ∃ (req : Req) (i : Nat) (pairs : List (Word × Word)) (v : Word) (w : Word) (s : State), Sized s ∧ Ready req i 0 s ∧
    pairs = [(0x00170014, v), (0x00160014, w)] ∧ s.regStatus 0x00170014 = 0 ∧ s.regStatus 0x00160014 = 0 :=
  ⟨wReq, 3, [(0x00170014, 37), (0x00160014, 1)], 37, 1, wSes 0 .standby, sized_of (by decide +kernel), by decide +kernel⟩

theorem wit_settleNone : ∃ (s : State), (∀ x ∈ s.ses.waiting, x.ready = false) ∧ s.ses.waiting.length = 1 :=
  ⟨State.reset.modSes fun b => { b with waiting := [{}] }, by decide, by decide⟩

theorem wit_settleLast : ∃ (x : Waiting) (s : State), s.ses.waiting = [x] ∧ x.ready = true ∧ x.rest = [] :=
  ⟨{ ready := true }, State.reset.modSes fun b => { b with waiting := [{ ready := true }] }, by decide⟩

theorem wit_bulkRead : ∃ (req : Req) (i : Nat) (object : Byte) (index : BitVec 16) (offset : Word) (length : Nat) (s : State), Sized s ∧
    Ready req i (readRole object.toNat) s ∧ 1 ≤ length ∧ length ≤ 1024 ∧ object.toNat ≤ 8 ∧ object ≠ 3 ∧ object ≠ 4 ∧ object ≠ 5 :=
  ⟨wReq, 3, 7, 0, 1, 2, (wSes 0 .standby).modSes fun b => { b with siteCert := some [1, 2, 3, 4] }, sized_of (by decide +kernel), by decide +kernel⟩

theorem wit_bulkWrite : ∃ (req : Req) (i : Nat) (object : Byte) (index : BitVec 16) (offset : Word) (data : Bytes) (s : State), Sized s ∧
    Ready req i 2 s ∧ 1 ≤ data.length ∧ data.length ≤ 1024 ∧ object = 5 ∧ index = 0 ∧ s.sup.mode = .service ∧ s.cfg.writing = false ∧
    offset.toNat + data.length ≤ objectRoom 5 :=
  ⟨wReq, 3, 5, 0, 2, [7, 8], wSes 2 .service, sized_of (by decide +kernel), by decide +kernel⟩

/-! SafetyChan -/

theorem wit_scCycle : ∃ (us : Nat) (pinsP : BitVec 8) (pinsN : BitVec 8) (cf : BitVec 8) (currents : List F32) (supply : F32) (k : Fin 8) (s : State), Sized s ∧ s.scRuns = true :=
  ⟨100, 1, 2, 1, [], 0x41C00000, 0, wSafe, sized_of (by decide +kernel), by decide +kernel⟩

theorem wit_estop : ∃ (input : Fin 2) (lowA : Nat) (lowB : Nat) (s : State), Sized s ∧ s.domOn 11 = true ∧ (12 ≤ lowA ∨ 12 ≤ lowB) ∧
    (s.saf.e input.val).active = false ∧ s.scRuns = true :=
  ⟨1, 12, 11, wSafe, sized_of (by decide +kernel), by decide +kernel⟩

theorem wit_estopRelease : ∃ (input : Fin 2) (us : Nat) (s : State), Sized s ∧ s.domOn 11 = true ∧ (s.saf.e input.val).active = true ∧
    (s.saf.e input.val).disc = false ∧ 100000 ≤ us :=
  ⟨0, 100000, (modEstop 0 (fun e => { e with active := true }) wSafe), sized_of (by decide +kernel), by decide +kernel⟩

theorem wit_tpFault : ∃ (input : Fin 2) (chB : Bool) (s : State), Sized s ∧ s.domOn 11 = true :=
  ⟨0, true, wSafe, sized_of (by decide +kernel), by decide +kernel⟩

theorem wit_tpFaultCleared : ∃ (input : Fin 2) (chB : Bool) (us : Nat) (s : State), Sized s ∧ s.domOn 11 = true ∧ 10000000 ≤ us ∧
    (if chB then (s.saf.e input.val).tpfB else (s.saf.e input.val).tpfA) = true :=
  ⟨0, true, 10000000, (modEstop 0 (fun e => { e with tpfB := true }) wSafe), sized_of (by decide +kernel), by decide +kernel⟩

theorem wit_discrepancy : ∃ (input : Fin 2) (s : State), Sized s ∧ s.domOn 11 = true ∧ (s.saf.e input.val).active = true ∧
    (s.saf.e input.val).closedA ≠ (s.saf.e input.val).closedB ∧ (s.saf.e input.val).disc = false ∧ s.saf.esDisc * 1000000 < s.now - (s.saf.e input.val).oddAt :=
  ⟨0, (modEstop 0 (fun e => { e with active := true, closedA := true }) wSafe), sized_of (by decide +kernel), by decide +kernel⟩

theorem wit_hsTestPulse : ∃ (pair : Fin 8) (s : State), Sized s ∧ s.scRuns = true ∧ (s.saf.p pair.val).on = true ∧
    (s.saf.p pair.val).testing = none ∧ s.removalDue pair.val (nextOffset s.now (125 * pair.val)) = false ∧
    nextOffset s.now (125 * pair.val) ≤ s.tim.frameAt + 20000000 ∧ (s.saf.p pair.val).hsAt ≠ some (nextOffset s.now (125 * pair.val)) :=
  ⟨0, (modPair 0 (fun p => { p with hs := true, ls := true }) wSafe), sized_of (by decide +kernel), by decide +kernel⟩

theorem wit_lsTestPulse : ∃ (pair : Fin 8) (s : State), Sized s ∧ s.weirRuns = true ∧ (s.saf.p pair.val).on = true ∧
    (s.saf.p pair.val).testing = none ∧ s.removalDue pair.val (nextOffset s.now ((500 + 125 * pair.val) % 1000)) = false ∧
    nextOffset s.now ((500 + 125 * pair.val) % 1000) ≤ s.tim.frameAt + 20000000 ∧
    (s.saf.p pair.val).lsAt ≠ some (nextOffset s.now ((500 + 125 * pair.val) % 1000)) :=
  ⟨4, (modPair 4 (fun p => { p with hs := true, ls := true }) wSafe), sized_of (by decide +kernel), by decide +kernel⟩

theorem wit_torqueRemoved : ∃ (thr : Fin 16) (pair : Fin 8) (s : State), Sized s ∧ s.scRuns = true ∧ (s.saf.t thr.val).pair = some pair.val ∧
    (s.saf.t thr.val).due ≠ 0 ∧ (s.saf.t thr.val).phase ≠ .removed ∧ (s.saf.p pair.val).hsStuck = false :=
  ⟨0, 2, (modSafThr 0 (fun t => { t with pair := some 2, due := 3, phase := .ramping }) wSafe), sized_of (by decide +kernel), by decide +kernel⟩

theorem wit_weirTimer : ∃ (pair : Fin 8) (thr : Fin 16) (a : Nat) (s : State), Sized s ∧ s.weirRuns = true ∧ (s.saf.p pair.val).weirAt = some a ∧
    (s.saf.p pair.val).tWeir * 1000000 ≤ s.now - a ∧ (s.saf.p pair.val).on = true ∧ (s.saf.p pair.val).lsStuck = false ∧ (s.saf.t thr.val).pair = some pair.val :=
  ⟨2, 0, 1, (modPair 2 (fun p => { p with hs := true, ls := true, weirAt := some 1 }) (modSafThr 0 (fun t => { t with pair := some 2 }) wSafe)),
      sized_of (by decide +kernel), by decide +kernel⟩

theorem wit_contactorFault : ∃ (pair : Fin 8) (lvl : Bool) (a : Nat) (s : State), Sized s ∧ s.domOn 11 = true ∧
    (s.saf.p pair.val).cfExpect = some (lvl, a) ∧ (s.saf.p pair.val).tCf * 1000000 ≤ s.now - a :=
  ⟨0, true, 1, (modPair 0 (fun p => { p with cfExpect := some (true, 1) }) wSafe), sized_of (by decide +kernel), by decide +kernel⟩

theorem wit_scLost : ∃ (violations : Nat) (s : State), s.weirRuns = true ∧ s.saf.scLost = false ∧ 3 ≤ violations :=
  ⟨3, wSafe, by decide +kernel⟩

theorem wit_weirLost : ∃ (cause : Fin 3) (s : State), s.scRuns = true ∧ s.saf.weirLost = false :=
  ⟨1, wSafe, by decide +kernel⟩

theorem wit_mirrorStale : ∃ (a : Nat) (s : State), s.scRuns = true ∧ s.saf.mirrorStale = false ∧ s.saf.mirrorAt = some a ∧ 100000000 ≤ s.now - a :=
  ⟨1, (wSafe.modSaf fun b => { b with mirrorAt := some 1 }), by decide +kernel⟩

theorem wit_pairSupplyFault : ∃ (volts : F32) (us : Nat) (s : State), s.weirRuns = true ∧ s.saf.supplyBad = false ∧ f32Val volts < 18 ∧ 1000 ≤ us :=
  ⟨0x41000000, 1000, wSafe, by decide +kernel⟩

theorem wit_pairTestEnd : ∃ (pair : Fin 8) (hs : Bool) (a : Nat) (s : State), Sized s ∧ (s.saf.p pair.val).testing = some (hs, a) ∧
    1000000000 ≤ s.now - a ∧ s.saf.proof = .running ∧ s.saf.scOk = true ∧ s.saf.weirOk = true ∧ (s.saf.p pair.val).cfFault = false :=
  ⟨0, true, 1, ((modPair 0 (fun p => { p with testing := some (true, 1) }) wSafe).modSaf fun b => { b with proof := .running }),
      sized_of (by decide +kernel), by decide +kernel⟩

theorem wit_alarmTestEnd : ∃ (a : Nat) (s : State), s.saf.alarmTest = some a ∧ a ≤ s.now :=
  ⟨1, (wSafe.modSaf fun b => { b with alarmTest := some 1 }), by decide +kernel⟩

theorem wit_proofOverdue : ∃ (s : State), s.domOn 11 = true ∧ s.saf.proofLast = 0 ∧ s.saf.overdueAt = none :=
  ⟨wSafe, by decide +kernel⟩

/-! Serial -/

theorem wit_sentenceReceived : ∃ (port : Fin 4) (line : Bytes) (body : Bytes) (backUs : Nat) (s : State), Sized s ∧ s.engineRuns 13 = true ∧
    (s.ser.port port.val).mode = 1 ∧ (s.ser.port port.val).listens = true ∧ line.length ≤ 82 ∧ sentenceOf line = some body ∧
    (s.ser.port port.val).cfg.mru = false ∧ s.boundSlots port.val (parseSentence body) ≠ [] :=
  ⟨0, frameSentence (ascii "HEHDT,90.0,T"), ascii "HEHDT,90.0,T", 100, wSer, sized_of (by decide +kernel), by decide +kernel⟩

theorem wit_portSilent : ∃ (port : Fin 4) (s : State), Sized s ∧ s.engineRuns 13 = true ∧ (s.ser.port port.val).mode ≠ 0 ∧
    (s.ser.port port.val).silent = false ∧ (s.ser.port port.val).quietSince + (s.ser.port port.val).cfg.silence * 1000000000 ≤ s.now :=
  ⟨0, wSer, sized_of (by decide +kernel), by decide +kernel⟩

theorem wit_sentenceTransmit : ∃ (iface : Fin 6) (kind : Fin 5) (s : State), Sized s ∧ iface.val < 4 ∧ s.engineRuns 13 = true ∧
    (s.ser.port iface.val).talks = true ∧
    s.sentenceDue kind.val ((s.ser.port iface.val).cfg.rates.getD kind.val 0) ((s.ser.port iface.val).formedAt.getD kind.val none) = true ∧
    (s.ser.port iface.val).formedAt.length = 5 ∧ (s.ser.port iface.val).busyUntil ≤ s.now ∧
    s.now < s.fus.snap.tov + sentencePeriod kind.val ((s.ser.port iface.val).cfg.rates.getD kind.val 0) :=
  ⟨0, 4, wSer.modFus fun b => { b with snap := { b.snap with tov := 100000000000 } }, sized_of (by decide +kernel), by decide +kernel⟩

theorem wit_linkDown : ∃ (port : Fin 2) (s : State), Sized s ∧ s.domOn 10 = true ∧ (s.eth.ports.getD port.val {}).link = true :=
  ⟨0, wSer, sized_of (by decide +kernel), by decide +kernel⟩

theorem wit_linkUp : ∃ (port : Fin 2) (gigabit : Bool) (s : State), Sized s ∧ s.domOn 10 = true ∧ (s.eth.ports.getD port.val {}).link = false :=
  ⟨1, false, wSer, sized_of (by decide +kernel), by decide +kernel⟩

theorem wit_ethRxFrame : ∃ (port : Fin 2) (s : State), Sized s ∧ s.ethUp port.val = true ∧
    (s.eth.ports.getD port.val {}).second = s.now / 1000000000 ∧ (s.eth.ports.getD port.val {}).frames < 20000 :=
  ⟨0, wSer, sized_of (by decide +kernel), by decide +kernel⟩

theorem wit_tcpConnect : ∃ (port : Fin 2) (addr : Nat) (id : Nat) (s : State), Sized s ∧ s.ethUp port.val = true ∧
    (s.eth.ports.getD port.val {}).second = s.now / 1000000000 ∧ (s.eth.ports.getD port.val {}).frames < 20000 ∧
    s.ses.conns.any (fun c => c.id == id) = false ∧ (s.ses.conns.filter fun c => c.session.isNone).length < 40 ∧ s.saf.ioFail = false ∧ s.fullBist = false :=
  ⟨0, 0x0A000001, 7, wSer, sized_of (by decide +kernel), by decide +kernel⟩

theorem wit_s450Datagram : ∃ (port : Fin 2) (group : Fin 16) (payload : Bytes) (tag : Bytes) (line : Bytes) (src : Bytes) (body : Bytes) (backUs : Nat) (s : State), Sized s ∧ s.ethUp port.val = true ∧ (s.eth.ports.getD port.val {}).second = s.now / 1000000000 ∧ (s.eth.ports.getD port.val {}).frames < 20000 ∧ (s.eth.ports.getD port.val {}).joined.contains group.val = true ∧ payload.take 6 = ascii "UdPbC" ++ [0] ∧ s450Lines payload.length (payload.drop 6) = [(tag, line)] ∧ (tagParams tag).find? (fun e => e.1 == 0x73) = some (0x73, src) ∧ (tagParams tag).any (fun e => e.1 == 0x64 && e.2 != (s.eth.ports.getD port.val {}).cfg.sysId) = false ∧ line.length ≤ 82 ∧ sentenceOf line = some body ∧ s.s450Slots port.val group.val src (parseSentence body) ≠ [] :=
  ⟨0, 3, ascii "UdPbC" ++ [0] ++ ascii "\\s:GP0001*00\\" ++ frameSentence (ascii "HEHDT,90.0,T"), ascii "s:GP0001*00",
      frameSentence (ascii "HEHDT,90.0,T"), ascii "GP0001", ascii "HEHDT,90.0,T", 50, wSer, sized_of (by decide +kernel), by decide +kernel⟩

/-! Servo -/

theorem wit_profileStore : ∃ (s : State), s.srv.storeAt < s.now / 600000000000 ∧ s.svRuns = true ∧ s.srv.thr.all (fun t => !t.dirty && !t.storeQueued && t.owed.isEmpty) = true :=
  ⟨wRun.modTim fun b => { b with now := 1200000000000 }, by decide +kernel⟩

theorem wit_profileStore_learned : ∃ (i : Nat) (c : ThrCfg) (s : State), Sized s ∧ s.thrusters = [i] ∧ s.thrCfg i = some c ∧ (s.srv.t i).dirty = true ∧
    (s.srv.t i).owed = [] ∧ s.srv.thr.all (fun t => t.storing.isNone) = true ∧ s.srv.storeAt < s.now / 600000000000 ∧ s.svRuns = true ∧ s.aqf.phase = .ready ∧
    s.aqf.importPending = false ∧ s.aqf.writes.length < 64 ∧ 24640 + 4194304 ≤ s.aqf.budget ∧
    s.aqf.journal + s.aqf.reserved + entryBytes 24640 + 192 * 1024 ≤ ringSize ∧ s.partUsed 1 + 24640 ≤ partSize 1 :=
  ⟨2, { azKind := 1 },
      (((wRun.modCfg fun b => { b with image := some { thrusters := [(2, { azKind := 1 })] } }).modTim fun b => { b with now := 1200000000000 }).modAqf
        fun b => { b with phase := .ready }).modSrv fun b => { b with thr := updAt b.thr 2 fun t => { t with dirty := true } },
      sized_of (by decide +kernel), by decide +kernel⟩

theorem wit_profileSnapshot : ∃ (i : Nat) (c : ThrCfg) (s : State), Sized s ∧ s.thrusters = [i] ∧ s.thrCfg i = some c ∧ c.azKind = 1 ∧
    s.srv.snapAt < s.now / 7776000000000000 ∧ s.svRuns = true :=
  ⟨2, { azKind := 1 },
      ((wRun.modCfg fun b => { b with image := some { thrusters := [(2, { azKind := 1 })] } }).modTim fun b => { b with now := 7776000000000000 }),
      sized_of (by decide +kernel), by decide +kernel⟩

/-! Session -/

theorem wit_tlsHandshake : ∃ (conn : Nat) (offer : TlsOffer) (cert : Option ClientCert) (c : Conn) (s : State), s.ioRuns = true ∧
    s.ses.conn conn = some c ∧ c.tls = false ∧ s.tcpRoom conn = true ∧ offer.common = true ∧ offer.proves = true :=
  ⟨4, { suites := [0x1303, 0x1301], groups := [0x001D], sigAlgs := [0x0403] }, some { name := [1] }, { id := 4 }, wRun.modSes fun b => { b with conns := [{ id := 4 }] }, by decide +kernel⟩

theorem wit_connectionTimeout : ∃ (conn : Nat) (c : Conn) (s : State), s.ses.conn conn = some c ∧
    (((c.tls = false ∧ c.accepted + 10000000000 ≤ s.now) ∨ (c.hello = false ∧ c.accepted + 30000000000 ≤ s.now))) :=
  ⟨4, { id := 4, tls := true }, wRun.modSes fun b => { b with conns := [{ id := 4, tls := true }] }, by decide +kernel⟩

theorem wit_hello : ∃ (req : Req) (name : Bytes) (password : Bytes) (c : Conn) (role : Nat) (k : Nat) (s : State), Sized s ∧ s.ioRuns = true ∧
    s.ses.conn req.conn = some c ∧ s.tcpRoom req.conn = true ∧ c.tls = true ∧ c.session = none ∧ s.ses.checks.any (fun x => x.conn == req.conn) = false ∧ name.length ≤ 32 ∧
    password.length ≤ 64 ∧ s.lockedOut c.addr = false ∧ c.cert.bind s.certRole = some role ∧ s.ses.freeIndex role = some k :=
  ⟨wReq, [], [], { id := 4, tls := true, cert := some { anchor := [7], name := [65] } }, 2, 0,
      (wRun.modCfg fun b => { b with image := some { anchors := [(0, [7])], roleMap := [(0, { name := [65], role := 2 })] } }).modSes fun b => { b with conns := [{ id := 4, tls := true, cert := some { anchor := [7], name := [65] } }] }, sized_of (by decide +kernel), by decide +kernel⟩

theorem wit_authCheckComplete : ∃ (conn : Nat) (k : AuthCheck) (a : Nat × Account) (c : Conn) (j : Nat) (s : State), Sized s ∧ s.ioRuns = true ∧
    s.ses.checks.find? (fun x => x.conn == conn) = some k ∧ s.ses.conn conn = some c ∧ s.accountFor k.name k.password = some a ∧ s.ses.freeIndex a.2.role = some j :=
  ⟨4, { conn := 4, reqId := 5, name := [65], password := List.replicate 12 66 },
      (2, { name := [65], role := 3, hash := pbkdf2 (List.replicate 12 66) [] }), { id := 4, tls := true }, 0,
      wRun.modSes fun b => { b with conns := [{ id := 4, tls := true }], checks := [{ conn := 4, reqId := 5, name := [65], password := List.replicate 12 66 }], accounts := [(2, { name := [65], role := 3, hash := pbkdf2 (List.replicate 12 66) [] })] }, sized_of (by decide +kernel), by decide +kernel, rfl, rfl, accountFor_only 2 _ rfl (by decide +kernel) (by decide +kernel) rfl (by dsimp only), by decide +kernel⟩

theorem wit_resume : ∃ (req : Req) (session : Nat) (token : BitVec 128) (c : Conn) (s : State), Sized s ∧ s.ioRuns = true ∧
    s.ses.conn req.conn = some c ∧ s.tcpRoom req.conn = true ∧ c.tls = true ∧ c.session = none ∧
    s.ses.checks.any (fun x => x.conn == req.conn) = false ∧ s.lockedOut c.addr = false ∧ session < 32 ∧
    (s.ses.session session).phase = .detached ∧ (s.ses.session session).token = token.toNat ∧
    (((s.ses.session session).method ≠ 0 ∨ (s.ses.session session).cert = c.cert)) :=
  ⟨wReq, 9, 77, { id := 4, tls := true },
      wRun.modSes fun b => { b with conns := [{ id := 4, tls := true }], sessions := updAt b.sessions 9 fun x => { x with phase := .detached, token := 77, highest := some 6, mask := 3 } }, sized_of (by decide +kernel), by decide +kernel⟩

theorem wit_subscribe : ∃ (req : Req) (i : Nat) (mask : Word) (s : State), Sized s ∧ Ready req i 0 s :=
  ⟨wReq, 3, 0x0002FFFF, wSes 0 .standby, sized_of (by decide +kernel), by decide +kernel⟩

theorem wit_account : ∃ (req : Req) (i : Nat) (op : Nat) (role : Nat) (k : Nat) (l : List (Nat × Account)) (name : Bytes) (password : Bytes) (s : State), Sized s ∧ Ready req i 3 s ∧ StoreRoom s ∧ accountOp op role name password (s.taken req i) = .inr (k, l) :=
  ⟨wReq, 3, 2, 1, 0, [(1, { name := [66], role := 3 }), (0, { name := [65], role := 1 })], [65], [],
      (wSes 3 .standby).modSes fun b => { b with accounts := [(0, { name := [65], role := 2 }), (1, { name := [66], role := 3 })] },
      sized_of (by decide +kernel), by decide +kernel⟩

theorem wit_password : ∃ (req : Req) (i : Nat) (old : Bytes) (new : Bytes) (k : Nat) (a : Account) (s : State), Sized s ∧ Ready req i 0 s ∧
    StoreRoom s ∧ passwordOk old = true ∧ passwordOk new = true ∧ (s.ses.session i).method = 1 ∧
    s.ses.accounts.find? (fun x => x.2.name == (s.ses.session i).name) = some (k, a) ∧ a.hash = pbkdf2 old a.salt :=
  ⟨wReq, 3, List.replicate 12 67, List.replicate 12 66, 0, { name := [65], role := 2, hash := pbkdf2 (List.replicate 12 67) [] },
      ((wSes 2 .standby).modSes fun b => { b with accounts := [(0, { name := [65], role := 2, hash := pbkdf2 (List.replicate 12 67) [] })], sessions := updAt b.sessions 3 fun x => { x with method := 1, name := [65] } }), sized_of (by decide +kernel), by decide +kernel, by decide +kernel, by decide +kernel, by decide +kernel, by decide +kernel, find_only (by decide +kernel), by dsimp only⟩

theorem wit_keepalive : ∃ (req : Req) (i : Nat) (s : State), Sized s ∧ Ready req i 0 s :=
  ⟨wReq, 3, wSes 0 .standby, sized_of (by decide +kernel), by decide +kernel⟩

theorem wit_close : ∃ (req : Req) (i : Nat) (s : State), Sized s ∧ Ready req i 0 s :=
  ⟨wReq, 3, wSes 0 .standby, sized_of (by decide +kernel), by decide +kernel⟩

theorem wit_badMessage : ∃ (conn : Nat) (n : Nat) (header : Bytes) (payload : Bytes) (c : Conn) (s : State), malformed header payload = true ∧
    reqIdOf header = some n ∧ s.ioRuns = true ∧ s.ses.conn conn = some c ∧ s.tcpRoom conn = true ∧
    ((c.session = none ∨ ((s.ses.session (c.session.getD 0)).phase = .open_ ∧ (s.ses.session (c.session.getD 0)).conn = conn))) :=
  ⟨4, 9, [0x4D, 0x51, 1, 0x10, 9, 0, 0, 0] ++ zeros 8, [], { id := 4, addr := 0x0A000001, tls := true, session := some 3, hello := true }, wSes 1 .standby, by decide +kernel⟩

theorem wit_unknownMessage : ∃ (req : Req) (i : Nat) (type : Nat) (s : State), Sized s ∧ Ready req i 0 s :=
  ⟨wReq, 3, 0x55, wSes 0 .standby, sized_of (by decide +kernel), by decide +kernel⟩

theorem wit_transportLost : ∃ (conn : Nat) (i : Nat) (c : Conn) (s : State), Sized s ∧ s.ses.conn conn = some c ∧ c.session = some i ∧ i < 32 ∧
    (s.ses.session i).phase = .open_ ∧ (s.ses.session i).conn = conn :=
  ⟨4, 3, { id := 4, addr := 0x0A000001, tls := true, session := some 3, hello := true }, wSes 1 .standby, sized_of (by decide +kernel), by decide +kernel⟩

theorem wit_idleTimeout : ∃ (i : Fin 32) (s : State), Sized s ∧ (s.ses.session i.val).phase = .open_ ∧
    (s.ses.session i.val).lastMsg + s.scalars.idleTimeout * 1000000000 ≤ s.now :=
  ⟨3, wSes 1 .standby, sized_of (by decide +kernel), by decide +kernel⟩

theorem wit_detachedExpiry : ∃ (i : Fin 32) (s : State), Sized s ∧ (s.ses.session i.val).phase = .detached ∧ (s.ses.session i.val).detachedAt + 60000000000 ≤ s.now :=
  ⟨7, modSession 7 (fun x => { x with phase := .detached, role := 2 }) (wSes 1 .standby), sized_of (by decide +kernel), by decide +kernel⟩

theorem wit_lockoutEnd : ∃ (source : Word) (x : AuthSource) (t0 : Nat) (s : State), s.ses.source source.toNat = some x ∧ x.until_ = some t0 ∧ t0 ≤ s.now :=
  ⟨9, { addr := 9, fails := 5, n := 1, until_ := some 60 }, 60,
      wRun.modSes fun b => { b with sources := [{ addr := 9, fails := 5, n := 1, until_ := some 60 }] }, by decide +kernel⟩

theorem wit_lockoutDecay : ∃ (source : Word) (x : AuthSource) (s : State), s.ses.source source.toNat = some x ∧ x.until_ = none ∧ x.lastFail + dayNs ≤ s.now :=
  ⟨9, { addr := 9, fails := 3, n := 1 },
      (wRun.modTim fun b => { b with now := 90000000000000 }).modSes fun b => { b with sources := [{ addr := 9, fails := 3, n := 1 }] }, by decide +kernel⟩

theorem wit_tlsKeyUpdate : ∃ (conn : Nat) (c : Conn) (s : State), s.ses.conn conn = some c ∧ c.tls = true ∧ s.tcpRoom conn = true :=
  ⟨4, { id := 4, tls := true }, wRun.modSes fun b => { b with conns := [{ id := 4, tls := true }] }, by decide +kernel⟩

/-! Signal -/

theorem wit_chFault : ∃ (ch : Fin 16) (code : Fin 6) (raw : F32) (count : Nat) (s : State), Sized s ∧ (s.sig.chan ch.val).phase = .running ∧
    ainFaulty (s.sig.chan ch.val).range code.val (f32Val raw) count = true ∧ (s.sig.chan ch.val).present.getLsbD code.val = false ∧
    (s.sig.chan ch.val).told.getLsbD code.val = false :=
  ⟨2, 1, 0x41300000, 3, wSig, sized_of (by decide +kernel), by decide +kernel⟩

theorem wit_chFaultCleared : ∃ (ch : Fin 16) (code : Fin 6) (raw : F32) (us : Nat) (s : State), Sized s ∧ (s.sig.chan ch.val).phase = .fault ∧
    (s.sig.chan ch.val).present = setBit 0 code.val true ∧ code.val ≠ 4 ∧ code.val ≠ 5 ∧
    ainHealthy (s.sig.chan ch.val).range code.val (f32Val raw) = true ∧ 100000 ≤ us :=
  ⟨2, 1, 0x41200000, 100000, modAin 2 (fun c => { c with phase := .fault, present := 2 }) wSig, sized_of (by decide +kernel), by decide +kernel⟩

theorem wit_shuntReconnect : ∃ (ch : Fin 16) (t0 : Nat) (s : State), Sized s ∧ (s.sig.chan ch.val).tripAt = some t0 ∧ t0 + 1000000000 ≤ s.now :=
  ⟨5, 7, modAin 5 (fun c => { c with tripAt := some 7, phase := .fault, present := 16 }) wSig, sized_of (by decide +kernel), by decide +kernel⟩

theorem wit_channelSettled : ∃ (ch : Fin 16) (s : State), Sized s ∧ (s.sig.chan ch.val).phase = .settling ∧
    (s.sig.chan ch.val).startAt + (s.sig.chan ch.val).settleNs ≤ s.now ∧ (s.sig.chan ch.val).present = 0 :=
  ⟨2, modAin 2 (fun c => { c with phase := .settling }) wSig, sized_of (by decide +kernel), by decide +kernel⟩

theorem wit_syncInEdge : ∃ (edge : PulseEdge) (s : State), s.domOn 12 = true ∧ s.sig.edgeAt = none ∧ s.sig.syncLast = none ∧ s.sig.syncEn = true ∧
    1000 ≤ edge.width ∧ s.sig.syncFalling = edge.falling ∧ s.bst.failedMask.getLsbD 18 = false :=
  ⟨⟨false, 1000⟩, wSig.modSig fun b => { b with syncEn := true }, by decide +kernel⟩

theorem wit_outTimeout : ∃ (out : Fin 12) (s : State), Sized s ∧ s.domOn 12 = true ∧ (s.sig.out out.val).src ≠ .unused ∧
    (s.sig.out out.val).present.getLsbD 4 = false ∧ s.sup.mode ≠ .start ∧ s.sup.mode ≠ .dormant ∧
    (s.sig.out out.val).stagedAt + (s.sig.out out.val).timeout * 1000000 ≤ s.now ∧ (s.sig.out out.val).safeHold = true :=
  ⟨3, modAout 3 (fun o => { o with safeHold := true }) wSig, sized_of (by decide +kernel), by decide +kernel⟩

theorem wit_outFault : ∃ (out : Fin 12) (code : Fin 4) (readback : F32) (limit : Bool) (frames : Nat) (s : State), Sized s ∧ s.domOn 12 = true ∧
    (s.sig.out out.val).src ≠ .unused ∧ (s.sig.out out.val).present.getLsbD code.val = false ∧ 3 ≤ frames ∧ aoutFaulty (s.sig.out out.val) code.val (f32Val readback) limit = true :=
  ⟨3, 1, 0, true, 3, modAout 3 (fun o => { o with code := 0x8000 }) wSig, sized_of (by decide +kernel), by decide +kernel⟩

theorem wit_outCleared : ∃ (out : Fin 12) (us : Nat) (s : State), Sized s ∧ (s.sig.out out.val).fault ≠ 0 ∧ (s.sig.out out.val).fault ≠ 4 ∧ 1000000 ≤ us :=
  ⟨3, 1000000, modAout 3 (fun o => { o with present := 2 }) wSig, sized_of (by decide +kernel), by decide +kernel⟩

/-! Solve -/

theorem wit_solveSubmit : ∃ (desc : Bytes) (packet : Bytes) (s : State), Sized s ∧ s.engineRuns 9 = true ∧ s.slv.queue = [] ∧ leAt desc 6 2 = 0 ∧
    s.submitCheck .cc0 { slot := leAt desc 0 2 % 512, cold := decide (byteAt desc 2 % 2 = 1), mapFrom := decide (byteAt desc 2 / 2 % 2 = 1), forceSchedule := decide (byteAt desc 2 / 4 % 2 = 1), srcSlot := leAt desc 4 2 % 512, frame := leAt desc 8 4, latestStart := leAt desc 12 8 } 0 [] = 0 :=
  ⟨[3, 0, 0, 0, 0, 0, 0, 0, 1] ++ List.replicate 23 0, [], modSlot 3 (fun k => { k with owner := .cc0, phase := .bound }) wSlv,
      sized_of (by decide +kernel), by decide +kernel⟩

theorem wit_bind : ∃ (owner : Fin 3) (slot : Fin 512) (struct : Fin 256) (c : StructCfg) (s : State), Sized s ∧
    s.engineRuns (slotOwnerOf owner.val).engine = true ∧ s.slv.queue = [] ∧ s.domOn 5 = true ∧ (s.slv.slot slot.val).owner = slotOwnerOf owner.val ∧
    (s.slv.slot slot.val).phase ≠ .queued ∧ (s.slv.slot slot.val).phase ≠ .running ∧ s.structAt struct.val = some c ∧
    c.cls = (s.slv.slot slot.val).cls :=
  ⟨1, 7, 1, ((imageOf wRecords).structs.getD 1 (0, {})).2, wSlv, sized_of (by decide +kernel), by decide +kernel⟩

theorem wit_release : ∃ (owner : Fin 3) (slot : Fin 512) (s : State), Sized s ∧ s.engineRuns (slotOwnerOf owner.val).engine = true ∧
    s.slv.queue = [] ∧ s.domOn 5 = true ∧ (s.slv.slot slot.val).owner = slotOwnerOf owner.val ∧ (s.slv.slot slot.val).phase = .bound :=
  ⟨1, 7, wSlv, sized_of (by decide +kernel), by decide +kernel⟩

theorem wit_cancel : ∃ (owner : Fin 3) (slot : Fin 512) (s : State), Sized s ∧ s.engineRuns (slotOwnerOf owner.val).engine = true ∧
    s.slv.queue = [] ∧ s.domOn 5 = true ∧ (s.slv.slot slot.val).owner = slotOwnerOf owner.val ∧ (s.slv.slot slot.val).phase = .queued ∧
    s.ctl.mpcStart = none ∧ s.ctl.cycleAt = none ∧ owner = 1 :=
  ⟨1, 7, modSlot 7 (fun k => { k with phase := .queued, desc := some { slot := 7 } }) wSlv, sized_of (by decide +kernel), by decide +kernel⟩

theorem wit_solveDispatch : ∃ (engine : Fin 8) (slot : Nat) (s : State), Sized s ∧ slot < 512 ∧ s.nextWork engine.val = some (slot, false) ∧
    (s.slv.engine engine.val).slot = none ∧ (List.range engine.val).any (fun f => (s.slv.engine f).slot.isNone && s.offer f (slot, false)) = false :=
  ⟨0, 9, modSlot 9 (fun k => { k with phase := .queued, desc := some { slot := 9 } }) wSlv, sized_of (by decide +kernel), by decide +kernel⟩

theorem wit_solveResume : ∃ (engine : Fin 8) (slot : Nat) (s : State), Sized s ∧ slot < 512 ∧ s.slv.engines.length = 8 ∧
    (s.slv.engine engine.val).held = some slot ∧ (s.slv.engine engine.val).slot = none ∧ s.slv.avail.getLsbD engine.val = true ∧
    s.queuedWork.any (fun w => (s.slv.slot w.1).cls == 0) = false :=
  ⟨2, 7,
      modSolver 2 (fun x => { x with held := some 7 }) (modSlot 7 (fun k => { k with phase := .running, yielded := true, schedule := true }) wSlv),
      sized_of (by decide +kernel), by decide +kernel⟩

theorem wit_subjobComplete : ∃ (engine : Fin 8) (slot : Nat) (s : State), Sized s ∧ slot < 512 ∧ s.slv.queue = [] ∧
    (s.slv.engine engine.val).slot = some slot ∧ (s.slv.engine engine.val).subjob = true ∧ (s.slv.slot slot).engine ≠ engine.val ∧ (s.slv.slot slot).subjobs ≠ 0 :=
  ⟨2, 7, modSolver 2 (fun x => { x with slot := some 7, subjob := true }) (modSlot 7 (fun k => { k with phase := .running, subjobs := 3 }) wSlv),
      sized_of (by decide +kernel), by decide +kernel⟩

theorem wit_solveComplete : ∃ (slot : Fin 512) (s : State), Sized s ∧ s.slv.queue = [] ∧ (s.slv.slot slot.val).phase = .running ∧
    (s.slv.slot slot.val).yielded = false ∧ s.roundsDone slot.val = true ∧ (s.slv.slot slot.val).owner = .cc1 ∧ (s.slv.slot slot.val).cls = 2 ∧ s.ctl.cycleAt = none :=
  ⟨9, modSolver 0 (fun x => { x with slot := some 9 }) (modSlot 9 (fun k => { k with phase := .running, desc := some { slot := 9 } }) wSlv),
      sized_of (by decide +kernel), by decide +kernel⟩

theorem wit_expired : ∃ (slot : Fin 512) (d : Descriptor) (s : State), Sized s ∧ s.slv.queue = [] ∧ (s.slv.slot slot.val).phase = .queued ∧
    (s.slv.slot slot.val).desc = some d ∧ d.latestStart ≠ 0 ∧ d.latestStart < s.now ∧ (s.slv.slot slot.val).owner = .cc1 ∧
    (s.slv.slot slot.val).cls = 1 ∧ s.ctl.mpcStart = none :=
  ⟨7, { slot := 7, latestStart := 5 }, modSlot 7 (fun k => { k with phase := .queued, desc := some { slot := 7, latestStart := 5 } }) wSlv,
      sized_of (by decide +kernel), by decide +kernel⟩

/-! Startup -/

theorem wit_boot : ∃ (s : State), s.pwr.resetHeld = false ∧ s.pwr.supply = .normal ∧ s.sup.startPhase = 1 ∧ s.sup.suRetryAt = none :=
  ⟨(wPhase 1).modAqf fun b => { b with marker := true }, by decide +kernel⟩

theorem wit_journalReplay : ∃ (transactions : Nat) (headerGood : Bool) (s : State), s.inPhase 2 = true :=
  ⟨5, true, wPhase 2, by decide +kernel⟩

theorem wit_keyRead : ∃ (found : KeyRead) (s : State), s.inPhase 3 = true ∧ s.cfg.keyPresent = false ∧ (s.pwr.domFault.getLsbD 7) = false :=
  ⟨{}, wPhase 3, by decide +kernel⟩

/-- A key whose image holds INFO and END alone: header, two records, each with its CRC. -/
def wKey : Bytes :=
  let h := leBytes 4 0x4943514C ++ leBytes 2 1 ++ leBytes 2 64 ++ leBytes 4 88 ++ leBytes 4 2 ++ leBytes 4 (crc32c []) ++ leBytes 2 0x4816 ++ zeros 38
  let rec_ := fun (type : Nat) => let b := leBytes 2 type ++ zeros 6; b ++ leBytes 4 (crc32c b)
  h ++ leBytes 4 (crc32c h) ++ rec_ 0x0001 ++ rec_ 0xFFFF

theorem wit_keyRead_good : ∃ (found : KeyRead) (s : State), s.inPhase 3 = true ∧ s.cfg.keyPresent = true ∧ found.jedec ≠ 0 ∧ found.jedec ≠ 0xFFFFFF ∧
    s.pwr.domFault.getLsbD 7 = false ∧ (readImage (keyView s.cfg.keyBytes found.pulledAt)).2.fail = none :=
  ⟨{ jedec := 0x20BA18 }, (wPhase 3).modCfg fun b => { b with keyPresent := true, keyBytes := wKey }, by decide +kernel⟩

theorem wit_imageValidation : ∃ (im : Image) (s : State), s.inPhase 4 = true ∧ validate s.sup.variantF s.icx.memberId s.cfg.records = (im, none) :=
  ⟨(validate wValid.sup.variantF wValid.icx.memberId wValid.cfg.records).1, wValid, by decide +kernel, pair_none (by decide +kernel)⟩

theorem wit_domainSwitchOn : ∃ (latchBad : Bool) (s : State), s.inPhase 5 = true ∧ s.pwr.domFault = 0 :=
  ⟨false, (wPhase 5).modPwr fun b => { b with domOn := 0x81 }, by decide +kernel⟩

theorem wit_learnedStateLoad : ∃ (h : HotStart) (o : StoreObj) (s : State), s.inPhase 7 = true ∧ s.aqf.phase ≠ .failed ∧ s.domOn 7 = true ∧
    s.aqf.objs.find? (fun x => x.key == hotKey) = some o ∧ o.data = .hotStart h ∧ o.crcOk = true :=
  ⟨{}, { key := hotKey, size := 100, data := .hotStart {} },
      (wPhase 7).modAqf fun b => { b with objs := [{ key := hotKey, size := 100, data := .hotStart {} }] }, by decide +kernel⟩

theorem wit_startComplete : ∃ (s : State), s.inPhase 8 = true :=
  ⟨wPhase 8, by decide +kernel⟩

/-! Store -/

theorem wit_aqfWriteSubmit : ∃ (engine : Fin 16) (key : StoreKey) (size : Nat) (data : StoreData) (s : State), s.suRuns = true ∧ key.part < 7 ∧
    (refreshBudget s).noTag size = none ∧ (makeRoom key size (refreshBudget s)).admission key (classOf key.part) size = none :=
  ⟨9, { part := 3, tag := 5 }, 2112, .bytes [], wStore, by decide +kernel⟩

theorem wit_aqfWriteCommit : ∃ (tag : Word) (w : StoreWrite) (b : Bytes) (s : State), s.suRuns = true ∧ s.aqf.write tag.toNat = some w ∧
    s.mayCommit w = true ∧ w.data = .bytes b :=
  ⟨0x1AF00003, { tag := { block := 0x1A, engine := 15, seq := 3 }, key := { part := 1, tag := 8 }, size := 1000, begun := true }, [], wStore, by decide +kernel⟩

theorem wit_aqfRead : ∃ (key : StoreKey) (block : Nat) (o : StoreObj) (s : State), s.aqf.phase = .ready ∧ s.domOn 7 = true ∧
    s.aqf.objs.find? (fun x => x.key == key) = some o ∧ o.inJournal = false :=
  ⟨{ part := 1, tag := 7 }, 41, { key := { part := 1, tag := 7 }, size := 24640, inJournal := false }, wStore, by decide +kernel⟩

theorem wit_aqfRead_found : ∃ (key : StoreKey) (o : StoreObj) (s : State), s.aqf.phase ≠ .mounting ∧ s.aqf.phase ≠ .failed ∧
    s.aqf.objs.find? (fun x => x.key == key) = some o ∧ (o.inJournal = true ∨ (s.domOn 7 = true ∧ o.crcOk = true)) :=
  ⟨{ part := 1, tag := 7 }, { key := { part := 1, tag := 7 }, size := 24640, inJournal := false }, wStore, by decide +kernel⟩

theorem wit_wearRelocation_moved : ∃ (bytes : Nat) (erases : Erases) (eraseMean : F32) (s : State), s.flashFree = true ∧ s.aqf.uneven = true :=
  ⟨262144, { most := 1500, least := 2 }, 0, wStore.modAqf fun b => { b with eraseMax := 1500, eraseMin := 1 }, by decide +kernel⟩

theorem wit_journalDrain : ∃ (pages : Nat) (extra : Nat) (erases : Erases) (eraseMean : F32) (s : State), s.flashFree = true :=
  ⟨3, 4096, { most := 12 }, 0x40000000, wStore, by decide +kernel⟩

theorem wit_wearRelocation : ∃ (bytes : Nat) (block : Nat) (erases : Erases) (eraseMean : F32) (s : State), s.flashFree = true ∧ s.aqf.uneven = true ∧ s.aqf.phase = .ready ∧ 5 < s.aqf.spare :=
  ⟨262144, 5, { most := 1500, least := 2 }, 0, wStore.modAqf fun b => { b with eraseMax := 1500, eraseMin := 1 }, by decide +kernel⟩

theorem wit_sedimentFlush : ∃ (s : State), s.flushTrigger = true ∧ s.aqf.phase = .ready ∧ s.aqf.flushing = false ∧
    s.aqf.writes.length < 64 ∧ s.aqf.journal + s.aqf.reserved + (32 * s.log.unflushed + 64) + 160 * 1024 ≤ ringSize ∧ s.log.logFault = false :=
  ⟨wStore.raise 0x0212 0 [], by decide +kernel⟩

theorem wit_suppressed : ∃ (code : BitVec 16) (s : State), 0 < (bucketAt s.log (s.eventEntry code.toNat) s.now).supp ∧
    0 < (bucketAt s.log (s.eventEntry code.toNat) s.now).tokens ∧ s.log.unflushed < 4096 :=
  ⟨0x0212, (wRun.modLog fun b => { b with buckets := [{ code := 0x0212, supp := 3, tokens := 0, at_ := 0, suppLast := 55 }] }), by decide +kernel⟩

theorem wit_logFault : ∃ (s : State), s.log.logFault = false ∧ s.log.bufferEcc = true :=
  ⟨wRun.modLog fun b => { b with bufferEcc := true }, by decide +kernel⟩

theorem wit_tagCompletion : ∃ (tag : Word) (status : Fin 4) (o : Tag) (s : State), s.tags.open_.find? (tagOf tag.toNat).same = some o :=
  ⟨0x0C300005, 2, { block := 12, engine := 3, seq := 5 }, (openTag { block := 12, engine := 3, seq := 5 } wRun), by decide +kernel⟩

/-! Thermal -/

theorem wit_modeFallback : ∃ (since : Nat) (s : State), s.stagesRun = true ∧ s.sup.mode = .autoPos ∧ s.standsBack = false ∧
    s.fus.posBad = some since ∧ s.fus.hdgBad = none ∧ nsOf s.scalars.drLimit < s.now - since ∧ s.fus.snap.hdgValid = true ∧ s.now ≠ s.tim.frameAt :=
  ⟨1000,
      ((wRun.modSup fun b => { b with mode := .autoPos }).modFus fun b => { b with posBad := some 1000, snap := { b.snap with hdgValid := true } }).modTim fun b => { b with now := 100001000000 }, by decide +kernel⟩

theorem wit_thermalSweep : ∃ (readings : List (Fin 4 × F32)) (s : State), Sized s ∧ s.suRuns = true ∧ s.stagesRun = true ∧
    s.thm.sweepAt ≠ some s.tim.frameAt ∧ s.tim.frameAt % (s.scalars.sweepMs * 1000000) = 0 ∧ readings.length = 9 ∧
    ((∀ r ∈ readings, r.1 = 0 ∧ f32Finite r.2 = true ∧ -55 ≤ f32Val r.2 ∧ f32Val r.2 ≤ 150)) :=
  ⟨List.replicate 9 (0, 0x41C80000), wRun, sized_of (by decide +kernel), by decide +kernel, by decide +kernel, by decide +kernel,
    by decide +kernel, rfl, fun r m => by rw [List.eq_of_mem_replicate m]; decide +kernel⟩

theorem wit_sweepEnd : ∃ (at_ : Nat) (s : State), s.suRuns = true ∧ s.thm.sweep ≠ [] ∧ s.thm.sweepAt = some at_ ∧
    (({ s with thm := { s.thm with sensors := s.thm.sensors.mapIdx fun i x => countReading (s.thm.sweep.getD i none) x } } : State).moduleBand) = .warm ∧ s.thm.band = .normal :=
  ⟨100000000000,
      wRun.modThm fun b => { b with band := .normal, sweepAt := some 100000000000, sweep := List.replicate 9 (some 90), sensors := b.sensors.map fun x => { x with band := .normal, run := [.warm, .warm] } }, by decide +kernel⟩

theorem wit_throttleEnforced : ∃ (g : Nat) (s : State), s.thm.graceEnd = some g ∧ s.suRuns = true ∧ s.thm.band.tooHot = true ∧ g ≤ s.tim.frameAt ∧
    s.thm.enforced = false :=
  ⟨99000000000, wRun.modThm fun b => { b with band := .hot, req := true, graceEnd := some 99000000000 }, by decide +kernel⟩

theorem wit_keySwapped : ∃ (content : Bytes) (protected_ : Bool) (s : State), s.cfg.keyPresent = true ∧ s.suRuns = true ∧ s.cfg.phase3Done = true ∧
    s.cfg.writing = true :=
  ⟨[], false, wImg.modCfg fun b => { b with keyPresent := true, phase3Done := true, phase := .erase, keyBytes := [1, 2] }, by decide +kernel⟩

theorem wit_keyWritten : ∃ (s : State), s.cfg.writing = true ∧ s.cfg.keyPresent = true ∧ s.cfg.keyProtected = false ∧ s.domOn 7 = true ∧
    s.cfg.stagedLen ≤ s.cfg.staged.length :=
  ⟨wImg.modCfg fun b => { b with keyPresent := true, phase := .header, staged := [5, 6, 7, 8], stagedLen := 4, keyBytes := [1, 2] }, by decide +kernel⟩

theorem wit_keyWriteFail : ∃ (phase : Fin 6) (s : State), s.cfg.writing = true :=
  ⟨4, wImg.modCfg fun b => { b with keyPresent := true, phase := .verify, staged := [5, 6, 7, 8], stagedLen := 4, keyBytes := [1, 2] }, by decide +kernel⟩

/-! Tick -/

theorem wit_servoTick : ∃ (us : Nat) (s : State), s.tickDue = true ∧ us < 1000 :=
  ⟨320, wImg, by decide +kernel⟩

theorem wit_tickAbandoned : ∃ (lateNs : Nat) (s : State), s.tickDue = true :=
  ⟨4000, wImg, by decide +kernel⟩

theorem wit_tickGuard : ∃ (ticks : Nat) (s : State), Sized s ∧ s.svRuns = false ∧ s.srv.guard = false ∧ 3 ≤ ticks :=
  ⟨3, wImg.modSup fun b => { b with engines := updAt b.engines 11 fun x => { x with lost := true } }, sized_of (by decide +kernel), by decide +kernel⟩

theorem wit_servoFault : ∃ (thr : Fin 16) (pitch : Bool) (c : ThrCfg) (n : Nat) (s : State), Sized s ∧ s.thrCfg thr.val = some c ∧ s.svRuns = true ∧
    c.hasServo pitch = true ∧ ((s.srv.t thr.val).axis pitch).fault = 0 ∧
    (modAxis thr.val pitch (fun a => watchAxis c pitch s.now (readAxis s thr.val c pitch s.now a)) s).faultNow thr.val c pitch s.now = n ∧ n ≠ 0 :=
  ⟨2, false, { azKind := 1 }, 1, modServo 2 (fun t => { t with az := { t.az with state := .first, staged := .first } }) wImg,
      sized_of (by decide +kernel), by decide +kernel⟩

theorem wit_srvFaultCleared : ∃ (thr : Fin 16) (pitch : Bool) (c : ThrCfg) (since : Nat) (s : State), Sized s ∧ s.thrCfg thr.val = some c ∧
    s.svRuns = true ∧ ((s.srv.t thr.val).axis pitch).fault ≠ 0 ∧ ((s.srv.t thr.val).axis pitch).fault ≠ 3 ∧
    ((s.srv.t thr.val).axis pitch).fault ≠ 4 ∧ s.faultGone thr.val c pitch s.now = true ∧ ((s.srv.t thr.val).axis pitch).clearSince = some since ∧
    since + 1000000000 ≤ s.now :=
  ⟨2, false, { azKind := 1, outPath := 2 }, 50,
      (modServo 2 (fun t => { t with az := { t.az with fault := 5, state := .first, clearSince := some 50 } }) wImg).modCfg fun b => { b with image := some { thrusters := [(2, { azKind := 1, outPath := 2 })] } }, sized_of (by decide +kernel), by decide +kernel⟩

/-! TimeBase -/

theorem wit_referenceOffset : ∃ (domain : Bool) (ns : Int) (s : State), domain = s.refDomain ∧ s.tim.measured = some (domain, ns) ∧ s.tim.state = .slewing ∧ ns.natAbs ≤ 1000 ∧
    s.tim.tcxoFault = false :=
  ⟨false, -800, (modSol 0 (fun x => { x with valid := true }) wRun).modTim fun b => { b with state := .slewing, measured := some (false, -800) }, by decide +kernel⟩

theorem wit_timeUnlock : ∃ (s : State), s.tim.state = .locked ∧ 5 ≤ s.tim.unlockRun :=
  ⟨wRun.modTim fun b => { b with state := .locked, unlockRun := 5 }, by decide +kernel⟩

theorem wit_holdoverEnter : ∃ (s : State), s.tim.state = .locked ∧ 1000000000 ≤ s.now - s.tim.lastMeasured :=
  ⟨wRun.modTim fun b => { b with state := .locked, offsetAt := some 98000000000 }, by decide +kernel⟩

theorem wit_timeJumpResolve : ∃ (first : Nat × Int) (ps : List (Rat × Rat)) (s : State), s.tim.suspects.head? = some first ∧
    60000000000 ≤ s.now - first.1 ∧ ps = (s.tim.suspects.map fun e => (secOf (e.1 - first.1), (e.2 : Rat))) ∧
    ps.all (fun p => decide (absQ (p.2 - ((fitLine ps).1 + (fitLine ps).2 * p.1)) ≤ 1000)) = true :=
  ⟨(40000000000, 2000000000), [(0, 2000000000), (60, 2000000010)],
      wRun.modTim fun b => { b with confirmed := true, suspects := [(40000000000, 2000000000), (100000000000, 2000000010)] }, by decide +kernel⟩

theorem wit_timeDegraded : ∃ (c : Nat) (s : State), s.degradedCause = some c ∧ s.tim.degraded = false :=
  ⟨0, wRun.modTim fun b => { b with degraded := false }, by decide +kernel⟩

theorem wit_carafeSample : ∃ (ppb : F32) (i : Nat) (s : State), carafeBin s.tcxoSensor.temp = some i ∧ s.gns.sols.any (fun x => x.valid) = true ∧
    (s.tim.meanDrift (s.now / 1000000000)).map f32Of = some ppb ∧ s.tcxoHot = false ∧ s.tim.tcxoFault = false ∧
    s.now / 1000000000 ≠ s.tim.sampledAt ∧ i < s.tim.model.bins.length :=
  ⟨0x42C80000, 20,
      ((wRun.modGns fun b => { b with sols := b.sols.map fun x => { x with valid := true } }).modThm fun b =>
        { b with sensors := b.sensors.map fun x => { x with temp := 0 } }).modTim fun b => { b with drift := (wRun.now / 1000000000 - 1, 200, 2) }, by decide +kernel⟩

theorem wit_carafeDaily : ∃ (s : State), s.tim.dailyAt < s.now / 86400000000000 ∧ 0 < s.tim.dayCount :=
  ⟨wRun.modTim fun b => { b with now := 2 * 86400000000000, dayCount := 3, daySum := 12 }, by decide +kernel⟩

theorem wit_carafeStore : ∃ (u : State) (s : State), s.tim.hourAt < s.now / 3600000000000 ∧ s.tim.modelDirty = true ∧
    u = refreshBudget (s.modTim fun b => { b with hourAt := s.now / 3600000000000 }) ∧ u.noTag 1040 = none ∧
    (makeRoom carafeKey 1040 u).admission carafeKey 2 1040 = none :=
  ⟨refreshBudget ((wRun.modTim fun b => { b with now := 2 * 86400000000000, modelDirty := true, hourAt := 48 })),
      wRun.modTim fun b => { b with now := 2 * 86400000000000, modelDirty := true }, by decide +kernel⟩

theorem wit_ppsOut : ∃ (s : State), s.tim.confirmed = true ∧ s.now % 1000000000 = 0 ∧ s.tim.ppsAt < s.now ∧ s.now ≤ s.tim.frameAt + 20000000 :=
  ⟨wRun.modTim fun b => { b with confirmed := true }, by decide +kernel⟩

theorem wit_tcxoFault : ∃ (deviation : Bool) (s : State), s.tim.tcxoFault = false :=
  ⟨true, wRun.modTim fun b => { b with state := .locked }, by decide +kernel⟩

/-! The clauses of the rules -/

theorem wit_modeOrder : ∃ (req : Req) (i : Nat) (r : Nat) (mode : Fin 8) (hdgHold : Bool) (useSetpoint : Bool) (s : State), Sized s ∧
    Ready req i 0 s ∧ s.regStatus 0x00010104 = 0 ∧ s.inDomain = false ∧
    (r = (([(decide ((s.ses.session i).role < (if mode.val = 5 then 2 else 1)), 4), (s.sup.noImage && mode.val != 5, 10), (s.sup.reqTaken, 8), (!(s.sup.mode != .start && (modeCode s.sup.mode == mode.val || ([(0, 1), (0, 5), (1, 0), (1, 2), (1, 3), (1, 4), (1, 5), (2, 1), (2, 3), (2, 4), (3, 1), (3, 2), (3, 4), (4, 1), (4, 2), (4, 3), (5, 0), (5, 1)] : List (Nat × Nat)).contains (modeCode s.sup.mode, mode.val))), 1), (s.sup.mode == .service && mode.val != 5 && (s.bst.restartNeeded || s.cfg.written), 9), (decide (2 ≤ mode.val ∧ mode.val ≤ 4) && s.sup.locked, 2), ((decide (2 ≤ mode.val ∧ mode.val ≤ 4) && s.fullStop) || (s.sup.mode == .standby && mode.val == 0 && s.ramping), 5), (decide (2 ≤ mode.val ∧ mode.val ≤ 4) && s.sup.held, 7), ((mode.val == 2 && hdgHold && !s.fus.snap.hdgValid) || (decide (mode.val = 3 ∨ mode.val = 4) && (s.sup.mode == .standby || s.sup.mode == .joystick) && !(s.fus.snap.posValid && s.fus.snap.hdgValid)), 3), (mode.val == 4 && s.sup.mode != .autoTrack && !s.trackLoaded, 6)] : List (Bool × Nat)).find? (·.1)).elim 0 (·.2)) :=
  ⟨wReq, 3, 3, 3, true, false, wSes 1 .standby, sized_of (by decide +kernel), by decide +kernel⟩

theorem wit_modeBusy : ∃ (req : Req) (i : Nat) (mode : Fin 8) (hdgHold : Bool) (useSetpoint : Bool) (s : State), Sized s ∧
    Ready req i (if mode.val = 5 then 2 else 1) s ∧ s.regStatus 0x00010104 = 0 ∧ s.inDomain = false ∧ ((s.sup.noImage = false ∨ mode.val = 5)) ∧ s.sup.reqTaken = true :=
  ⟨wReq, 3, 2, false, false, (wSes 1 .standby).modSup fun b => { b with reqTaken := true }, sized_of (by decide +kernel), by decide +kernel⟩

theorem wit_modeFirst : ∃ (req : Req) (i : Nat) (mode : Fin 8) (m : Mode) (hdgHold : Bool) (useSetpoint : Bool) (s : State), Sized s ∧
    Ready req i (if mode.val = 5 then 2 else 1) s ∧ s.regStatus 0x00010104 = 0 ∧ s.inDomain = false ∧ modeOf mode.val = some m ∧ s.modeVerdict (some m) hdgHold = 0 :=
  ⟨wReq, 3, 2, .joystick, false, false, wSes 1 .standby, sized_of (by decide +kernel), by decide +kernel⟩

theorem wit_modeRefused : ∃ (req : Req) (i : Nat) (mode : Fin 8) (hdgHold : Bool) (useSetpoint : Bool) (s : State), Sized s ∧ Ready req i 0 s ∧
    s.regStatus 0x00010104 = 0 ∧ s.inDomain = false ∧ s.sup.reqTaken = false ∧
    (((s.ses.session i).role < (if mode.val = 5 then 2 else 1) ∨ s.modeVerdict (modeOf mode.val) hdgHold ≠ 0)) :=
  ⟨wReq, 3, 4, false, false, wSes 1 .standby, sized_of (by decide +kernel), by decide +kernel⟩

theorem wit_dpNotAllowed : ∃ (req : Req) (i : Nat) (mode : Fin 8) (hdgHold : Bool) (useSetpoint : Bool) (s : State), Sized s ∧
    Ready req i (if mode.val = 5 then 2 else 1) s ∧ s.regStatus 0x00010104 = 0 ∧ s.inDomain = false ∧ s.sup.noImage = false ∧
    s.sup.reqTaken = false ∧ ((s.sup.mode = .joystick ∨ s.sup.mode = .autoPos ∨ s.sup.mode = .autoTrack)) ∧ ((mode.val = 0 ∨ mode.val = 5)) :=
  ⟨wReq, 3, 5, false, false, wSes 2 .autoPos, sized_of (by decide +kernel), by decide +kernel⟩

theorem wit_canRefused : ∃ (port : Fin 4) (engine : Fin 16) (frame : CanFrame) (gate : TxGate) (s : State), Sized s ∧
    (s.can.port port.val).phase ≠ .off ∧
    ((64 ≤ (s.can.port port.val).tx.length ∨ (s.can.port port.val).listens = true ∨ (frame.fd = true ∧ (s.can.port port.val).isFd = false) ∨ validDlc frame.fd frame.data.length = false)) :=
  ⟨3, 13, { id := 5, data := List.replicate 9 0 }, .none_, wCan, sized_of (by decide +kernel), by decide +kernel⟩

theorem wit_canPortOff : ∃ (port : Fin 4) (engine : Fin 16) (frame : CanFrame) (gate : TxGate) (s : State), Sized s ∧
    (s.can.port port.val).phase = .off :=
  ⟨3, 13, { id := 5 }, .none_, wRun, sized_of (by decide +kernel), by decide +kernel⟩

theorem wit_bindBusy : ∃ (owner : Fin 3) (slot : Fin 512) (struct : Fin 256) (s : State), Sized s ∧
    s.engineRuns (slotOwnerOf owner.val).engine = true ∧ s.slv.queue = [] ∧ s.domOn 5 = true ∧ (s.slv.slot slot.val).owner = slotOwnerOf owner.val ∧
    (((s.slv.slot slot.val).phase = .queued ∨ (s.slv.slot slot.val).phase = .running)) :=
  ⟨1, 7, 1, modSlot 7 (fun k => { k with phase := .running, desc := some { slot := 7 } }) wSlv, sized_of (by decide +kernel), by decide +kernel⟩

theorem wit_releaseBusy : ∃ (owner : Fin 3) (slot : Fin 512) (s : State), Sized s ∧ s.engineRuns (slotOwnerOf owner.val).engine = true ∧
    s.slv.queue = [] ∧ s.domOn 5 = true ∧ (s.slv.slot slot.val).owner = slotOwnerOf owner.val ∧
    (((s.slv.slot slot.val).phase = .queued ∨ (s.slv.slot slot.val).phase = .running)) :=
  ⟨1, 7, modSlot 7 (fun k => { k with phase := .running, desc := some { slot := 7 } }) wSlv, sized_of (by decide +kernel), by decide +kernel⟩

theorem wit_bindOwner : ∃ (owner : Fin 3) (slot : Fin 512) (struct : Fin 256) (s : State), Sized s ∧
    s.engineRuns (slotOwnerOf owner.val).engine = true ∧ s.slv.queue = [] ∧ s.domOn 5 = true ∧ (s.slv.slot slot.val).owner ≠ slotOwnerOf owner.val :=
  ⟨0, 7, 1, wSlv, sized_of (by decide +kernel), by decide +kernel⟩

theorem wit_releaseOwner : ∃ (owner : Fin 3) (slot : Fin 512) (s : State), Sized s ∧ s.engineRuns (slotOwnerOf owner.val).engine = true ∧
    s.slv.queue = [] ∧ s.domOn 5 = true ∧ (s.slv.slot slot.val).owner ≠ slotOwnerOf owner.val :=
  ⟨0, 7, wSlv, sized_of (by decide +kernel), by decide +kernel⟩

theorem wit_cancelOwner : ∃ (owner : Fin 3) (slot : Fin 512) (s : State), Sized s ∧ s.engineRuns (slotOwnerOf owner.val).engine = true ∧
    s.slv.queue = [] ∧ s.domOn 5 = true ∧ (s.slv.slot slot.val).owner ≠ slotOwnerOf owner.val :=
  ⟨0, 7, wSlv, sized_of (by decide +kernel), by decide +kernel⟩

theorem wit_bindTakes : ∃ (owner : Fin 3) (slot : Fin 512) (struct : Fin 256) (s : State), Sized s ∧
    s.engineRuns (slotOwnerOf owner.val).engine = true ∧ s.slv.queue = [] ∧ s.domOn 5 = true ∧ (s.slv.slot slot.val).owner = slotOwnerOf owner.val ∧
    (s.slv.slot slot.val).phase ≠ .queued ∧ (s.slv.slot slot.val).phase ≠ .running ∧ 
    (s.structAt struct.val).any (fun c => c.cls == (s.slv.slot slot.val).cls) = true :=
  ⟨1, 7, 1, wSlv, sized_of (by decide +kernel), by decide +kernel⟩

theorem wit_releaseTakes : ∃ (owner : Fin 3) (slot : Fin 512) (s : State), Sized s ∧ s.engineRuns (slotOwnerOf owner.val).engine = true ∧
    s.slv.queue = [] ∧ s.domOn 5 = true ∧ (s.slv.slot slot.val).owner = slotOwnerOf owner.val ∧
    (((s.slv.slot slot.val).phase = .bound ∨ (s.slv.slot slot.val).phase = .faulted)) :=
  ⟨1, 7, wSlv, sized_of (by decide +kernel), by decide +kernel⟩

theorem wit_cancelQueued : ∃ (owner : Fin 3) (slot : Fin 512) (s : State), Sized s ∧ s.engineRuns (slotOwnerOf owner.val).engine = true ∧
    s.slv.queue = [] ∧ s.domOn 5 = true ∧ (s.slv.slot slot.val).owner = slotOwnerOf owner.val ∧ (s.slv.slot slot.val).phase = .queued ∧
    s.ctl.mpcStart = none ∧ s.ctl.cycleAt = none ∧ owner = 1 :=
  ⟨1, 7, modSlot 7 (fun k => { k with phase := .queued, desc := some { slot := 7 } }) wSlv, sized_of (by decide +kernel), by decide +kernel⟩

theorem wit_cancelRunning : ∃ (owner : Fin 3) (slot : Fin 512) (s : State), Sized s ∧ s.engineRuns (slotOwnerOf owner.val).engine = true ∧
    s.slv.queue = [] ∧ s.domOn 5 = true ∧ (s.slv.slot slot.val).owner = slotOwnerOf owner.val ∧ (s.slv.slot slot.val).phase = .running :=
  ⟨1, 7, modSlot 7 (fun k => { k with phase := .running, desc := some { slot := 7 } }) wSlv, sized_of (by decide +kernel), by decide +kernel⟩

theorem wit_cancelBound : ∃ (owner : Fin 3) (slot : Fin 512) (s : State), Sized s ∧ s.engineRuns (slotOwnerOf owner.val).engine = true ∧
    s.slv.queue = [] ∧ s.domOn 5 = true ∧ (s.slv.slot slot.val).owner = slotOwnerOf owner.val ∧ (s.slv.slot slot.val).phase = .bound :=
  ⟨1, 7, wSlv, sized_of (by decide +kernel), by decide +kernel⟩

theorem wit_powerFail : ∃ (volts : F32) (s : State), s.pwr.supply = .normal ∧ s.pwr.resetHeld = false ∧ f32Finite volts = true ∧ f32Val volts < 33 / 2 :=
  ⟨f32Of 16, wRun.modSrv fun b => { b with trace := { b.trace with phase := .armed } }, by decide +kernel⟩

theorem wit_tcpFull : ∃ (port : Fin 2) (addr : Nat) (id : Nat) (s : State), 40 ≤ (s.ses.conns.filter fun c => c.session.isNone).length :=
  ⟨0, 9, 9, wSer.modSes fun b => { b with conns := List.replicate 40 { id := 5 } }, by decide +kernel⟩

theorem wit_tcpTaken : ∃ (port : Fin 2) (addr : Nat) (id : Nat) (s : State), s.ethUp port.val = true ∧ (ethAdmit port.val s).2 = true ∧
    (s.ses.conns.filter fun c => c.session.isNone).length < 40 ∧ s.ses.conns.any (fun c => c.id == id) = false ∧ s.saf.ioFail = false ∧ s.fullBist = false :=
  ⟨0, 9, 9, wSer, by decide +kernel⟩

theorem wit_timedOut : ∃ (conn : Nat) (c : Conn) (s : State), s.ses.conn conn = some c ∧
    (((c.tls = false ∧ c.accepted + 10000000000 ≤ s.now) ∨ (c.hello = false ∧ c.accepted + 30000000000 ≤ s.now))) :=
  ⟨4, { id := 4, tls := true }, wRun.modSes fun b => { b with conns := [{ id := 4, tls := true }] }, by decide +kernel⟩

theorem wit_notYet : ∃ (conn : Nat) (c : Conn) (s : State), s.ses.conn conn = some c ∧ ((c.tls = true ∨ s.now < c.accepted + 10000000000)) ∧
    ((c.hello = true ∨ s.now < c.accepted + 30000000000)) :=
  ⟨4, { id := 4, tls := true, accepted := 90000000000 }, wRun.modSes fun b => { b with conns := [{ id := 4, tls := true, accepted := 90000000000 }] }, by decide +kernel⟩

theorem wit_arbitration : ∃ (port : Fin 4) (e : TxEntry) (s : State), Sized s ∧ (s.can.port port.val).onBus = true ∧
    (s.can.port port.val).listens = false ∧
    ((∀ x ∈ (s.can.port port.val).tx, x.phase = .pending ∧ x.frame.id < (if x.frame.ext then 2 ^ 29 else 2 ^ 11))) ∧ e ∈ (s.can.port port.val).tx ∧
    e.gateAt ≤ s.now ∧
    ((∀ x ∈ (s.can.port port.val).tx, x.gateAt ≤ s.now → x = e ∨ (e.frame.id / (if e.frame.ext then 2 ^ 18 else 1) < x.frame.id / (if x.frame.ext then 2 ^ 18 else 1) ∨ (e.frame.id / (if e.frame.ext then 2 ^ 18 else 1) = x.frame.id / (if x.frame.ext then 2 ^ 18 else 1) ∧ ((e.frame.ext = false ∧ x.frame.ext = true) ∨ (e.frame.ext = x.frame.ext ∧ (e.frame.id < x.frame.id ∨ (e.frame.id = x.frame.id ∧ e.order < x.order)))))))) :=
  ⟨0, { frame := { id := 5 } },
      modPort 0 (fun b => { b with tx := [{ frame := { id := 7 }, order := 1 }, { frame := { id := 5 } }], nextOrder := 2 }) wCan,
      sized_of (by decide +kernel), by decide +kernel⟩

theorem wit_idZero : ∃ (req : Req) (i : Nat) (c : Conn) (s : State), Sized s ∧ s.ses.conn req.conn = some c ∧ s.tcpRoom req.conn = true ∧ c.tls = true ∧ c.session = some i ∧
    i < 32 ∧ (s.ses.session i).phase = .open_ ∧ s.ioRuns = true ∧ req.id = 0 ∧ (s.ses.session i).conn = req.conn :=
  ⟨{ conn := 4, id := 0 }, 3, { id := 4, addr := 0x0A000001, tls := true, session := some 3, hello := true }, wSes 0 .standby,
      sized_of (by decide +kernel), by decide +kernel⟩

theorem wit_idBelow : ∃ (req : Req) (i : Nat) (h : Nat) (c : Conn) (s : State), Sized s ∧ s.ses.conn req.conn = some c ∧ s.tcpRoom req.conn = true ∧ c.tls = true ∧
    c.session = some i ∧ i < 32 ∧ (s.ses.session i).phase = .open_ ∧ s.ioRuns = true ∧ req.id ≠ 0 ∧ (s.ses.session i).highest = some h ∧
    serialLater req.id h = false ∧ 1023 < (h + 2 ^ 32 - req.id) % 2 ^ 32 :=
  ⟨wReq, 3, 2000, { id := 4, addr := 0x0A000001, tls := true, session := some 3, hello := true },
      modSession 3 (fun x => { x with highest := some 2000 }) (wSes 0 .standby), sized_of (by decide +kernel), by decide +kernel⟩

theorem wit_idSeen : ∃ (req : Req) (i : Nat) (h : Nat) (c : Conn) (m : OutMsg) (s : State), Sized s ∧ s.ses.conn req.conn = some c ∧ s.tcpRoom req.conn = true ∧ c.tls = true ∧
    c.session = some i ∧ i < 32 ∧ (s.ses.session i).phase = .open_ ∧ s.ioRuns = true ∧ req.id ≠ 0 ∧ (s.ses.session i).highest = some h ∧
    serialLater req.id h = false ∧ (h + 2 ^ 32 - req.id) % 2 ^ 32 ≤ 1023 ∧ (s.ses.session i).seen.contains req.id = true ∧
    (s.ses.session i).cache.find? (fun m => m.reqId == req.id) = some m :=
  ⟨wReq, 3, 17, { id := 4, addr := 0x0A000001, tls := true, session := some 3, hello := true }, { conn := 4, type := 0x7E, reqId := 17, flags := 1 },
      modSession 3 (fun x => { x with highest := some 17, seen := [17], cache := [{ conn := 4, type := 0x7E, reqId := 17, flags := 1 }] }) (wSes 0 .standby), sized_of (by decide +kernel), by decide +kernel⟩

theorem wit_idOutstanding : ∃ (req : Req) (i : Nat) (h : Nat) (c : Conn) (s : State), Sized s ∧ s.ses.conn req.conn = some c ∧ s.tcpRoom req.conn = true ∧ c.tls = true ∧
    c.session = some i ∧ i < 32 ∧ (s.ses.session i).phase = .open_ ∧ s.ioRuns = true ∧ req.id ≠ 0 ∧ (s.ses.session i).highest = some h ∧
    serialLater req.id h = false ∧ (h + 2 ^ 32 - req.id) % 2 ^ 32 ≤ 1023 ∧ (s.ses.session i).seen.contains req.id = true ∧
    (s.ses.session i).cache.find? (fun m => m.reqId == req.id) = none :=
  ⟨wReq, 3, 17, { id := 4, addr := 0x0A000001, tls := true, session := some 3, hello := true },
      modSession 3 (fun x => { x with highest := some 17, seen := [17], outstanding := [(17, 5)] }) (wSes 0 .standby), sized_of (by decide +kernel), by decide +kernel⟩

theorem wit_idNew : ∃ (req : Req) (i : Nat) (s : State), Sized s ∧ Ready req i 0 s :=
  ⟨wReq, 3, wSes 0 .standby, sized_of (by decide +kernel), by decide +kernel⟩

theorem wit_authFailure : ∃ (req : Req) (name : Bytes) (password : Bytes) (c : Conn) (x : AuthSource) (s : State), s.ioRuns = true ∧
    s.ses.conn req.conn = some c ∧ s.tcpRoom req.conn = true ∧ c.tls = true ∧ c.session = none ∧ s.ses.checks.any (fun x => x.conn == req.conn) = false ∧ name.length ≤ 32 ∧
    password.length ≤ 64 ∧ s.lockedOut c.addr = false ∧ c.cert.bind s.certRole = none ∧ x = ((s.ses.source c.addr).getD { addr := c.addr }).fresh s.now ∧ x.fails < 4 :=
  ⟨wReq, [], [], { id := 4, addr := 9, tls := true }, { addr := 9, fails := 3, lastFail := 99000000000 },
      wRun.modSes fun b => { b with conns := [{ id := 4, addr := 9, tls := true }], sources := [{ addr := 9, fails := 3, lastFail := 99000000000 }] }, by decide +kernel⟩

theorem wit_lockoutStarts : ∃ (req : Req) (name : Bytes) (password : Bytes) (c : Conn) (x : AuthSource) (s : State), s.ioRuns = true ∧
    s.ses.conn req.conn = some c ∧ s.tcpRoom req.conn = true ∧ c.tls = true ∧ c.session = none ∧ s.ses.checks.any (fun x => x.conn == req.conn) = false ∧ name.length ≤ 32 ∧
    password.length ≤ 64 ∧ s.lockedOut c.addr = false ∧ c.cert.bind s.certRole = none ∧ x = ((s.ses.source c.addr).getD { addr := c.addr }).fresh s.now ∧ x.fails = 4 :=
  ⟨wReq, [], [], { id := 4, addr := 9, tls := true }, { addr := 9, fails := 4, n := 1, lastFail := 99000000000 },
      wRun.modSes fun b => { b with conns := [{ id := 4, addr := 9, tls := true }], sources := [{ addr := 9, fails := 4, n := 1, lastFail := 99000000000 }] }, by decide +kernel⟩

theorem wit_lockedOutHello : ∃ (req : Req) (name : Bytes) (password : Bytes) (c : Conn) (method : Nat) (s : State), s.ioRuns = true ∧
    s.ses.conn req.conn = some c ∧ s.tcpRoom req.conn = true ∧ c.tls = true ∧ c.session = none ∧ s.ses.checks.any (fun x => x.conn == req.conn) = false ∧ name.length ≤ 32 ∧
    (method = 0 → password.length ≤ 64) ∧ method < 2 ∧ s.lockedOut c.addr = true :=
  ⟨wReq, [], [], { id := 4, addr := 9, tls := true }, 1,
      wRun.modSes fun b => { b with conns := [{ id := 4, addr := 9, tls := true }], sources := [{ addr := 9, until_ := some 100000000001 }] }, by decide +kernel⟩

theorem wit_readUnmapped : ∃ (req : Req) (i : Nat) (addr : Word) (s : State), Sized s ∧ Ready req i 0 s ∧ regRead s addr.toNat = none :=
  ⟨wReq, 3, 0x00020FF0, wSes 0 .standby, sized_of (by decide +kernel), by decide +kernel⟩

theorem wit_writeUnmapped : ∃ (req : Req) (i : Nat) (addr : Word) (value : Word) (s : State), Sized s ∧ Ready req i 0 s ∧ regRead s addr.toNat = none :=
  ⟨wReq, 3, 0x00020FF0, 7, wSes 0 .standby, sized_of (by decide +kernel), by decide +kernel⟩

theorem wit_writeReadOnly : ∃ (req : Req) (i : Nat) (addr : Word) (value : Word) (s : State), Sized s ∧ Ready req i 0 s ∧
    s.regStatus addr.toNat = 0 ∧ regWritable addr.toNat = false :=
  ⟨wReq, 3, 0x00010100, 7, wSes 3 .standby, sized_of (by decide +kernel), by decide +kernel⟩

theorem wit_writeDomainOff : ∃ (req : Req) (i : Nat) (addr : Word) (value : Word) (s : State), Sized s ∧ Ready req i 0 s ∧
    (regRead s addr.toNat).isSome = true ∧ 16 ≤ addr.toNat % 65536 ∧ s.domOn (registerDomain (addr.toNat / 65536)) = false :=
  ⟨wReq, 3, 0x000C0050, 7, (wSes 3 .standby).modPwr fun b => { b with domOn := 0x1FDF }, sized_of (by decide +kernel), by decide +kernel⟩

theorem wit_readHeader : ∃ (req : Req) (i : Nat) (k : Fin 21) (s : State), Sized s ∧ Ready req i 0 s :=
  ⟨wReq, 3, 7, wSes 0 .standby, sized_of (by decide +kernel), by decide +kernel⟩

theorem wit_readEvents : ∃ (req : Req) (i : Nat) (k : Fin 21) (s : State), Sized s ∧ Ready req i 0 s ∧ (s.header (blockNumbers.getD k.val 1)).events < 2 ^ 32 :=
  ⟨wReq, 3, 7, { wSes 0 .standby with hdr := List.replicate 32 { events := 5 } }, sized_of (by decide +kernel), by decide +kernel⟩
/-! The invariants and the rules over every state -/

theorem wit_stepIdles : ∃ s : State, s.pending = [] := ⟨State.reset, rfl⟩


theorem wit_sizesKept : ∃ s t : State, Sized s ∧ step s = .next t := ⟨State.reset, State.reset, sized_of (by decide +kernel), rfl⟩
theorem wit_frameInstantAligned : ∃ s t : State, s.tim.frameAt % 20000000 = 0 ∧ step s = .next t := ⟨State.reset, State.reset, rfl, rfl⟩
theorem wit_identityKept : ∃ s t : State, step s = .next t := ⟨State.reset, State.reset, rfl⟩
theorem wit_modeKept : ∃ (c : Instr) (s t : State), exec c s = .next t := ⟨.suRetry, State.reset, State.reset, rfl⟩
theorem wit_queueWellFormed : ∃ s t : State, (∀ c ∈ s.pending, c.wellFormed = true) ∧ step s = .next t :=
  ⟨State.reset.front .suRetry, State.reset, by decide, rfl⟩
theorem wit_accountRecords : ∃ (l : List (Nat × Account)) (s : State), l.length = s.ses.accounts.length :=
  ⟨[(0, { name := [65] })], State.reset.modSes fun b => { b with accounts := [(7, {})] }, rfl⟩

end Sys2Proof.Tests
end

-- Proofs of the obligations of the scope.
section
/-!
SUPPORT. What every command leaves unchanged of a state: its `Kept` part. One lemma per function of the model that answers a state, in the model's
order, tagged for `simp`. The arrow of `@[simp ↓]` makes `simp` rewrite from outside: the kept part of the outermost operation is that of its
argument, so the states below are never simplified themselves.
-/
set_option autoImplicit false
namespace Sys2Proof.Machine

/-! ### The kept part of a state -/

/-- What no ordinary operation of the module changes: the queue of commands, which only `step` consumes, the module's identity (R58), and the instant
of the current frame (R14). The commands that are an exception follow in the next section. -/
structure Kept where
  pending : List Sys2Proof.Instr
  serial : Nat
  variantF : Bool
  fwVersion : Nat
  frameAt : Nat

/-- The kept part of a state. -/
def State.kept (s : State) : Kept :=
  { pending := s.pending, serial := s.sup.serial, variantF := s.sup.variantF, fwVersion := s.sup.fwVersion, frameAt := s.tim.frameAt }

/-- Equal queue, SUP and TIM give an equal kept part. -/
theorem kept_of_parts {s t : State} (p : t.pending = s.pending) (u : t.sup = s.sup) (v : t.tim = s.tim) :
    t.kept = s.kept := by
  simp only [State.kept, p, u, v]

@[simp ↓] theorem kept_ite (c : Prop) [Decidable c] (a b : State) : (if c then a else b).kept = if c then a.kept else b.kept :=
  apply_ite ..

/-! ### The blocks: only SUP and TIM hold a kept field -/

@[simp ↓] theorem State.modHdr_kept (f : List BlockHeader → List BlockHeader) (s : State) : (s.modHdr f).kept = s.kept := kept_of_parts rfl rfl rfl
@[simp ↓] theorem State.modTags_kept (f : TagPool → TagPool) (s : State) : (s.modTags f).kept = s.kept := kept_of_parts rfl rfl rfl
@[simp ↓] theorem State.modLog_kept (f : LogState → LogState) (s : State) : (s.modLog f).kept = s.kept := kept_of_parts rfl rfl rfl
@[simp ↓] theorem State.modPwr_kept (f : PwrState → PwrState) (s : State) : (s.modPwr f).kept = s.kept := kept_of_parts rfl rfl rfl
@[simp ↓] theorem State.modThm_kept (f : ThmState → ThmState) (s : State) : (s.modThm f).kept = s.kept := kept_of_parts rfl rfl rfl
@[simp ↓] theorem State.modBst_kept (f : BstState → BstState) (s : State) : (s.modBst f).kept = s.kept := kept_of_parts rfl rfl rfl
@[simp ↓] theorem State.modGns_kept (f : GnsState → GnsState) (s : State) : (s.modGns f).kept = s.kept := kept_of_parts rfl rfl rfl
@[simp ↓] theorem State.modFus_kept (f : FusState → FusState) (s : State) : (s.modFus f).kept = s.kept := kept_of_parts rfl rfl rfl
@[simp ↓] theorem State.modSlv_kept (f : SlvState → SlvState) (s : State) : (s.modSlv f).kept = s.kept := kept_of_parts rfl rfl rfl
@[simp ↓] theorem State.modCtl_kept (f : CtlState → CtlState) (s : State) : (s.modCtl f).kept = s.kept := kept_of_parts rfl rfl rfl
@[simp ↓] theorem State.modSrv_kept (f : SrvState → SrvState) (s : State) : (s.modSrv f).kept = s.kept := kept_of_parts rfl rfl rfl
@[simp ↓] theorem State.modSig_kept (f : SigState → SigState) (s : State) : (s.modSig f).kept = s.kept := kept_of_parts rfl rfl rfl
@[simp ↓] theorem State.modFio_kept (f : FioState → FioState) (s : State) : (s.modFio f).kept = s.kept := kept_of_parts rfl rfl rfl
@[simp ↓] theorem State.modSaf_kept (f : SafState → SafState) (s : State) : (s.modSaf f).kept = s.kept := kept_of_parts rfl rfl rfl
@[simp ↓] theorem State.modCan_kept (f : CanState → CanState) (s : State) : (s.modCan f).kept = s.kept := kept_of_parts rfl rfl rfl
@[simp ↓] theorem State.modSer_kept (f : SerState → SerState) (s : State) : (s.modSer f).kept = s.kept := kept_of_parts rfl rfl rfl
@[simp ↓] theorem State.modEth_kept (f : EthState → EthState) (s : State) : (s.modEth f).kept = s.kept := kept_of_parts rfl rfl rfl
@[simp ↓] theorem State.modSes_kept (f : SesState → SesState) (s : State) : (s.modSes f).kept = s.kept := kept_of_parts rfl rfl rfl
@[simp ↓] theorem State.modIcx_kept (f : IcxState → IcxState) (s : State) : (s.modIcx f).kept = s.kept := kept_of_parts rfl rfl rfl
@[simp ↓] theorem State.modAqf_kept (f : AqfState → AqfState) (s : State) : (s.modAqf f).kept = s.kept := kept_of_parts rfl rfl rfl
@[simp ↓] theorem State.modCfg_kept (f : CfgState → CfgState) (s : State) : (s.modCfg f).kept = s.kept := kept_of_parts rfl rfl rfl
@[simp ↓] theorem State.modSup_kept (f : SupState → SupState) (s : State) (a : ∀ b, (f b).serial = b.serial)
    (b : ∀ b, (f b).variantF = b.variantF) (c : ∀ b, (f b).fwVersion = b.fwVersion) : (s.modSup f).kept = s.kept := by
  simp only [State.kept, State.modSup_pending, State.modSup_sup, State.modSup_tim, a, b, c]
@[simp ↓] theorem State.modTim_kept (f : TimState → TimState) (s : State) (a : ∀ b, (f b).frameAt = b.frameAt) :
    (s.modTim f).kept = s.kept := by
  simp only [State.kept, State.modTim_pending, State.modTim_sup, State.modTim_tim, a]

/-! ### Shared operations of the state, and repetition -/

@[simp ↓] theorem State.draw_kept (s : State) : s.draw.kept = s.kept := kept_of_parts rfl rfl rfl
@[simp ↓] theorem State.advance_kept (t : Nat) (s : State) : (s.advance t).kept = s.kept :=
  State.modTim_kept (fun b => { b with now := max b.now t }) s fun _ => rfl
@[simp ↓] theorem State.raise_kept (s : State) (code inst : Nat) (d : Bytes) : (s.raise code inst d).kept = s.kept :=
  kept_of_parts (s.raise_pending ..) (s.raise_sup ..) (s.raise_tim ..)
@[simp ↓] theorem State.raiseForced_kept (s : State) (code inst : Nat) (d : Bytes) : (s.raiseForced code inst d).kept = s.kept :=
  kept_of_parts (s.raiseForced_pending ..) (s.raiseForced_sup ..) (s.raiseForced_tim ..)
@[simp ↓] theorem State.raiseIf_kept (s : State) (c : Bool) (code inst : Nat) (d : Bytes) : (s.raiseIf c code inst d).kept = s.kept :=
  kept_of_parts (s.raiseIf_pending ..) (s.raiseIf_sup ..) (s.raiseIf_tim ..)
@[simp ↓] theorem State.pushNew_kept (n : Nat) (s : State) : (s.pushNew n).kept = s.kept := by
  simp only [State.pushNew, State.modSes_kept]
@[simp ↓] theorem State.overflowFirst_kept (s : State) : s.overflowFirst.kept = s.kept := by
  obtain ⟨h, l, e, -⟩ := s.overflowFirst_eq
  rw [e]
  exact kept_of_parts rfl rfl rfl

@[simp ↓] theorem foldl_kept {α : Type} {f : State → α → State} (h : ∀ t a, (f t a).kept = t.kept) (l : List α) (s : State) :
    (l.foldl f s).kept = s.kept := by
  induction l generalizing s with
  | nil => rfl
  | cons a l ih => rw [List.foldl_cons, ih, h]

@[simp ↓] theorem State.forN_kept {f : State → Nat → State} (h : ∀ t i, (f t i).kept = t.kept) (s : State) (n : Nat) :
    (s.forN n f).kept = s.kept := foldl_kept h _ s

/-! ### Outcomes of a register write -/

/-- The state an outcome of a register write carries, if any, has the kept part `k`. -/
def WriteOut.Keeps (k : Kept) : WriteOut → Prop
  | .done s _ => s.kept = k
  | .role s => s.kept = k
  | .badValue => True
  | .range => True
  | .refused s _ => s.kept = k
  | .later s => s.kept = k

@[simp ↓] theorem WriteOut.keeps_done (k : Kept) (s : State) (d : Nat) : (WriteOut.done s d).Keeps k ↔ s.kept = k := Iff.rfl
@[simp ↓] theorem WriteOut.keeps_role (k : Kept) (s : State) : (WriteOut.role s).Keeps k ↔ s.kept = k := Iff.rfl
@[simp ↓] theorem WriteOut.keeps_badValue (k : Kept) : WriteOut.badValue.Keeps k := trivial
@[simp ↓] theorem WriteOut.keeps_range (k : Kept) : WriteOut.range.Keeps k := trivial
@[simp ↓] theorem WriteOut.keeps_refused (k : Kept) (s : State) (d : Nat) : (WriteOut.refused s d).Keeps k ↔ s.kept = k := Iff.rfl
@[simp ↓] theorem WriteOut.keeps_later (k : Kept) (s : State) : (WriteOut.later s).Keeps k ↔ s.kept = k := Iff.rfl
@[simp ↓] theorem WriteOut.keeps_ite (k : Kept) (c : Prop) [Decidable c] (a b : WriteOut) :
    (if c then a else b).Keeps k ↔ if c then a.Keeps k else b.Keeps k := by split <;> rfl

/-- A binary32 register leaves what its setter leaves. -/
@[simp ↓] theorem f32Register_keeps {k : Kept} {v : Word} {ok : Rat → Bool} {set : Rat → State}
    (h : ∀ q, (set q).kept = k) : (f32Register v ok set).Keeps k := by
  unfold f32Register
  repeat' split
  · exact h _
  · exact trivial
  · exact trivial

/-- For a branch of a match on a pair. -/
theorem kept_of_eq {α : Type} {p : State × α} {t : State} {a : α} {k : Kept} (h : p = (t, a)) (hp : p.1.kept = k) :
    t.kept = k := by
  rw [h] at hp
  exact hp

/-! ### Operands -/

@[simp ↓] theorem needRole_keeps (k : Kept) (w : WCtx) (need : Nat) (t : State) (o : WriteOut) :
    (needRole w need t o).Keeps k ↔ if need ≤ w.role then o.Keeps k else t.kept = k := by
  unfold needRole; split <;> rfl

@[simp ↓] theorem selector_keeps (v : Word) (hi top : Nat) (s : State) (set : Nat → State) (hset : ∀ i, (set i).kept = s.kept) :
    (selector v hi top s set).Keeps s.kept := by
  unfold selector
  split
  · exact hset _
  · exact rfl

/-! ### Tags -/

@[simp ↓] theorem openTag_kept (t : Tag) (s : State) : (openTag t s).kept = s.kept := by simp [openTag]

@[simp ↓] theorem completeTag_kept (t : Tag) (st : TagStatus) (s : State) : (completeTag t st s).kept = s.kept := by
  unfold completeTag
  split <;> simp

@[simp ↓] theorem abandonTags_kept (engine : Nat) (s : State) : (abandonTags engine s).kept = s.kept := by simp [abandonTags]

/-! ### Store -/

@[simp ↓] theorem checkBudget_kept (s : State) : (checkBudget s).kept = s.kept := by simp [checkBudget]
@[simp ↓] theorem refreshBudget_kept (s : State) : (refreshBudget s).kept = s.kept := by simp [refreshBudget]
@[simp ↓] theorem charge_kept (n : Nat) (s : State) : (charge n s).kept = s.kept := by simp [charge]
@[simp ↓] theorem fillJournal_kept (n : Nat) (s : State) : (fillJournal n s).kept = s.kept := by simp [fillJournal]

@[simp ↓] theorem reclaim_kept (p need k : Nat) (s : State) : (reclaim p need k s).1.kept = s.kept := by
  induction k generalizing s with
  | zero => simp [reclaim]
  | succ k ih =>
    unfold reclaim
    split
    · rfl
    · split <;> simp [↓ih]

@[simp ↓] theorem makeRoom_kept (key : StoreKey) (size : Nat) (s : State) : (makeRoom key size s).kept = s.kept := by simp [makeRoom]

@[simp ↓] theorem refuseWrite_kept (key : StoreKey) (cls size : Nat) (r : StoreResult) (s : State) :
    (refuseWrite key cls size r s).kept = s.kept := by
  simp [refuseWrite]

@[simp ↓] theorem finishWrite_kept (key : StoreKey) (t : Tag) (r : StoreResult) (s : State) : (finishWrite key t r s).kept = s.kept := by
  simp [finishWrite]

@[simp ↓] theorem transact_kept (key : StoreKey) (cls n entry : Nat) (r : StoreResult) (s : State) :
    (transact key cls n entry r s).1.kept = s.kept := by
  unfold transact
  repeat' split
  all_goals simp

@[simp ↓] theorem commitEssential_kept (part n : Nat) (s : State) : (commitEssential part n s).1.kept = s.kept := by simp [commitEssential]

@[simp ↓] theorem submitWrite_kept (key : StoreKey) (cls size engine : Nat) (data : StoreData) (s : State) :
    (submitWrite key cls size engine data s).1.kept = s.kept := by
  unfold submitWrite
  dsimp only
  repeat' split
  all_goals simp

@[simp ↓] theorem beginWrites_kept (s : State) : (beginWrites s).kept = s.kept := by simp [beginWrites]
@[simp ↓] theorem putObj_kept (o : StoreObj) (s : State) : (putObj o s).kept = s.kept := by simp [putObj]
@[simp ↓] theorem commitWrite_kept (w : StoreWrite) (media : Bool) (s : State) : (commitWrite w media s).kept = s.kept := by simp [commitWrite]
@[simp ↓] theorem setStore_kept (p : StorePhase) (s : State) : (setStore p s).kept = s.kept := by simp [setStore]
@[simp ↓] theorem retireBlock_kept (block : Nat) (s : State) : (retireBlock block s).kept = s.kept := by simp [retireBlock]

@[simp ↓] theorem flashFault_kept (part : Nat) (f : FlashFault) (s : State) : (flashFault part f s).kept = s.kept := by
  unfold flashFault
  split <;> simp

@[simp ↓] theorem readDone_kept (key : StoreKey) (r : StoreResult) (o : Option StoreObj) (s : State) : (readDone key r o s).kept = s.kept := by
  simp [readDone]

@[simp ↓] theorem readObj_kept (key : StoreKey) (f : FlashFault) (s : State) : (readObj key f s).kept = s.kept := by
  unfold readObj
  repeat' split
  all_goals simp

@[simp ↓] theorem journalDrain_kept (pages extra : Nat) (erases : Erases) (eraseMean : F32) (f : FlashFault) (s : State) :
    (journalDrain pages extra erases eraseMean f s).kept = s.kept := by
  simp [journalDrain]

@[simp ↓] theorem wearRelocation_kept (bytes : Nat) (erases : Erases) (eraseMean : F32) (f : FlashFault) (s : State) :
    (wearRelocation bytes erases eraseMean f s).kept = s.kept := by
  simp [wearRelocation]

@[simp ↓] theorem flushRecords_kept (s : State) : (flushRecords s).kept = s.kept := by simp [flushRecords]

@[simp ↓] theorem flushSuppressed_kept (s : State) : (flushSuppressed s).kept = s.kept := by
  refine foldl_kept (fun t b => ?_) ..
  exact (State.pushNew_kept ..).trans (kept_of_parts rfl rfl rfl)

@[simp ↓] theorem clearLogFault_kept (s : State) : (clearLogFault s).kept = s.kept := by simp [clearLogFault]
@[simp ↓] theorem sedimentFlush_kept (media : Bool) (s : State) : (sedimentFlush media s).kept = s.kept := by simp [sedimentFlush]

@[simp ↓] theorem suppressedDue_kept (code : Nat) (s : State) : (suppressedDue code s).kept = s.kept := by
  unfold suppressedDue
  dsimp only
  split
  · exact (State.pushNew_kept ..).trans (kept_of_parts rfl rfl rfl)
  · rfl

@[simp ↓] theorem logFaultCmd_kept (cause : Nat) (s : State) : (logFaultCmd cause s).kept = s.kept := by simp [logFaultCmd]
@[simp ↓] theorem clearLog_kept (session : Nat) (s : State) : (clearLog session s).kept = s.kept := by simp [clearLog]
@[simp ↓] theorem startFlush_kept (restart : Bool) (s : State) : (startFlush restart s).kept = s.kept := by simp [startFlush]
@[simp ↓] theorem endFlush_kept (s : State) : (endFlush s).kept = s.kept := by simp [endFlush]

@[simp ↓] theorem aqfClear_kept (off : Nat) (s : State) : (aqfClear off s).kept = s.kept := by
  unfold aqfClear
  split <;> simp

@[simp ↓] theorem logClear_kept (off : Nat) (s : State) : (logClear off s).kept = s.kept := by
  unfold logClear
  split <;> simp

@[simp ↓] theorem logResult_kept (w : WCtx) (r : Nat) (s : State) : (logResult w r s).kept = s.kept := by simp [logResult]

/-! ### Respond -/

@[simp ↓] theorem modEthPort_kept (p : Nat) (f : EthPort → EthPort) (s : State) : (modEthPort p f s).kept = s.kept := by simp [modEthPort]
@[simp ↓] theorem countFrame_kept (p : Nat) (s : State) : (countFrame p s).kept = s.kept := by simp [countFrame]

@[simp ↓] theorem ethAdmit_kept (p : Nat) (s : State) : (ethAdmit p s).1.kept = s.kept := by
  unfold ethAdmit
  dsimp only
  split <;> simp

@[simp ↓] theorem tcpIn_kept (conn : Nat) (s : State) : (tcpIn conn s).1.kept = s.kept := by
  unfold tcpIn
  split <;> simp

@[simp ↓] theorem modSession_kept (i : Nat) (f : Session → Session) (s : State) : (modSession i f s).kept = s.kept := by simp [modSession]

@[simp ↓] theorem sendMsg_kept (m : OutMsg) (s : State) : (sendMsg m s).kept = s.kept := by
  unfold sendMsg
  split <;> simp

@[simp ↓] theorem respond_kept (sess : Nat) (m : OutMsg) (s : State) : (respond sess m s).kept = s.kept := by
  unfold respond
  dsimp only
  repeat' split
  all_goals simp

@[simp ↓] theorem noteChange_kept (x : Session) (sess kind target old new reqId detail : Nat) (s : State) :
    (noteChange x sess kind target old new reqId detail s).kept = s.kept := by
  simp [noteChange]

@[simp ↓] theorem addChangeAs_kept (x : Session) (sess kind target old new reqId detail : Nat) (s : State) :
    (addChangeAs x sess kind target old new reqId detail s).kept = s.kept := by
  simp [addChangeAs]

@[simp ↓] theorem addChange_kept (sess kind target old new reqId detail : Nat) (s : State) :
    (addChange sess kind target old new reqId detail s).kept = s.kept := by
  simp [addChange]

@[simp ↓] theorem logWaited_kept (w : Waiting) (detail : Nat) (s : State) : (logWaited w detail s).kept = s.kept := by simp [logWaited]
@[simp ↓] theorem answer_kept (w : Waiting) (status detail : Nat) (s : State) : (answer w status detail s).kept = s.kept := by simp [answer]

@[simp ↓] theorem answerAll_kept (p : Waiting → Bool) (status detail : Nat) (s : State) : (answerAll p status detail s).kept = s.kept := by
  simp [answerAll]

@[simp ↓] theorem setModeResult_kept (code reqMode session : Nat) (s : State) : (setModeResult code reqMode session s).kept = s.kept := by
  simp [setModeResult]

/-! ### Link -/

@[simp ↓] theorem postIcx_kept (f : IcxFrame) (s : State) : (postIcx f s).kept = s.kept := by simp [postIcx]
@[simp ↓] theorem broadcastIcx_kept (type : Nat) (payload : Bytes) (s : State) : (broadcastIcx type payload s).kept = s.kept := by simp [broadcastIcx]
@[simp ↓] theorem resultIcx_kept (dst tag status : Nat) (s : State) : (resultIcx dst tag status s).kept = s.kept := by simp [resultIcx]

@[simp ↓] theorem sendTxn_kept (type dst : Nat) (origin : Option Waiting) (fill : IcxFrame → IcxFrame) (s : State) :
    (sendTxn type dst origin fill s).1.kept = s.kept := by
  unfold sendTxn
  split <;> simp

@[simp ↓] theorem tellResult_kept (s : State) : (tellResult s).kept = s.kept := by simp [tellResult]
@[simp ↓] theorem stepDown_kept (other epoch : Nat) (onCan : Bool) (s : State) : (stepDown other epoch onCan s).kept = s.kept := by simp [stepDown]

@[simp ↓] theorem witnessStatus_kept (frame t : Nat) (s : State) : (witnessStatus frame t s).kept = s.kept := by
  unfold witnessStatus
  split <;> simp

/-! ### Can -/

@[simp ↓] theorem modPort_kept (p : Nat) (f : CanPort → CanPort) (s : State) : (modPort p f s).kept = s.kept := by simp [modPort]
@[simp ↓] theorem finishTx_kept (p : Nat) (e : TxEntry) (st : TxStatus) (s : State) : (finishTx p e st s).kept = s.kept := by simp [finishTx]
@[simp ↓] theorem supersede_kept (p : Nat) (f : CanFrame) (order : Nat) (s : State) : (supersede p f order s).kept = s.kept := by simp [supersede]

@[simp ↓] theorem fillEntry_kept (p : Nat) (f : CanFrame) (gateAt : Nat) (tag : Tag) (cls : Option Nat) (s : State) :
    (fillEntry p f gateAt tag cls s).kept = s.kept := by
  simp [fillEntry]

@[simp ↓] theorem acknowledge_kept (p order : Nat) (s : State) : (acknowledge p order s).kept = s.kept := by simp [acknowledge]

@[simp ↓] theorem submitCan_kept (p engine : Nat) (f : CanFrame) (gate : TxGate) (cls : Option Nat) (s : State) :
    (submitCan p engine f gate cls s).kept = s.kept := by
  unfold submitCan
  dsimp only
  split <;> simp

@[simp ↓] theorem submitFrame_kept (p engine : Nat) (f : CanFrame) (gate : TxGate) (s : State) : (submitFrame p engine f gate s).kept = s.kept := by
  unfold submitFrame
  split <;> simp

@[simp ↓] theorem sendLuquel_kept (cls off : Nat) (fd : Bool) (data : Bytes) (gate : TxGate) (s : State) :
    (sendLuquel cls off fd data gate s).kept = s.kept := by
  simp [sendLuquel]

@[simp ↓] theorem sendAzPitch_kept (i az slew : Nat) (gate : TxGate) (s : State) : (sendAzPitch i az slew gate s).kept = s.kept := by
  simp [sendAzPitch]

@[simp ↓] theorem canFrameStart_kept (p : Nat) (s : State) : (canFrameStart p s).kept = s.kept := by
  unfold canFrameStart
  dsimp only
  repeat' split
  all_goals simp

@[simp ↓] theorem copyToMirror_kept (primary mirror : Nat) (e : TxEntry) (s : State) : (copyToMirror primary mirror e s).kept = s.kept := by
  simp [copyToMirror]

@[simp ↓] theorem activateMirrors_kept (p : Nat) (s : State) : (activateMirrors p s).kept = s.kept := by simp [activateMirrors]
@[simp ↓] theorem busOff_kept (p : Nat) (s : State) : (busOff p s).kept = s.kept := by simp [busOff]
@[simp ↓] theorem errorState_kept (p : Nat) (s : State) : (errorState p s).kept = s.kept := by simp [errorState]
@[simp ↓] theorem backToPending_kept (p : Nat) (e : TxEntry) (s : State) : (backToPending p e s).kept = s.kept := by simp [backToPending]

@[simp ↓] theorem canFrameEnd_kept (p : Nat) (how : CanEnd) (s : State) : (canFrameEnd p how s).kept = s.kept := by
  unfold canFrameEnd
  dsimp only
  repeat' split
  all_goals simp

@[simp ↓] theorem canErrorDetected_kept (p : Nat) (dominant : Bool) (s : State) : (canErrorDetected p dominant s).kept = s.kept := by
  simp [canErrorDetected]

@[simp ↓] theorem canCancel_kept (p tag : Nat) (s : State) : (canCancel p tag s).kept = s.kept := by
  unfold canCancel
  split <;> simp

@[simp ↓] theorem canRecovered_kept (p : Nat) (s : State) : (canRecovered p s).kept = s.kept := by simp [canRecovered]
@[simp ↓] theorem mirrorEnd_kept (p : Nat) (s : State) : (mirrorEnd p s).kept = s.kept := by simp [mirrorEnd]
@[simp ↓] theorem luqReject_kept (p off cause : Nat) (s : State) : (luqReject p off cause s).kept = s.kept := by simp [luqReject]
@[simp ↓] theorem deliverFb_kept (i p t : Nat) (d : Bytes) (s : State) : (deliverFb i p t d s).kept = s.kept := by simp [deliverFb]
@[simp ↓] theorem deliverCap_kept (g t : Nat) (d : Bytes) (s : State) : (deliverCap g t d s).kept = s.kept := by simp [deliverCap]

@[simp ↓] theorem deliverLuq_kept (k : LuqIn) (p t : Nat) (d : Bytes) (s : State) : (deliverLuq k p t d s).kept = s.kept := by
  unfold deliverLuq
  split <;> simp

@[simp ↓] theorem acceptAlive_kept (p key a : Nat) (s : State) : (acceptAlive p key a s).kept = s.kept := by simp [acceptAlive]

@[simp ↓] theorem dropCopy_kept (p key : Nat) (a : Option Nat) (s : State) : (dropCopy p key a s).kept = s.kept := by
  unfold dropCopy
  split <;> simp

@[simp ↓] theorem dropRx_kept (p : Nat) (s : State) : (dropRx p s).kept = s.kept := by simp [dropRx]

@[simp ↓] theorem canRxFrame_kept (p : Nat) (f : CanFrame) (remote : Bool) (held backUs : Nat) (s : State) :
    (canRxFrame p f remote held backUs s).kept = s.kept := by
  unfold canRxFrame
  dsimp only
  repeat' split
  all_goals simp

@[simp ↓] theorem loadCan_kept (s : State) : (loadCan s).kept = s.kept := by simp [loadCan]
@[simp ↓] theorem canOff_kept (s : State) : (canOff s).kept = s.kept := by simp [canOff]

@[simp ↓] theorem canClear_kept (off : Nat) (s : State) : (canClear off s).kept = s.kept := by
  unfold canClear
  split <;> simp

@[simp ↓] theorem canResult_kept (w : WCtx) (r : Nat) (s : State) : (canResult w r s).kept = s.kept := by simp [canResult]
@[simp ↓] theorem canCmd_keeps (w : WCtx) (v : Word) (s : State) : (canCmd w v s).Keeps s.kept := by simp [canCmd]

@[simp ↓] theorem canWrite_keeps (w : WCtx) (off : Nat) (v : Word) (s : State) : (canWrite w off v s).Keeps s.kept := by
  unfold canWrite
  split <;> simp

/-! ### Stages -/

@[simp ↓] theorem State.atFrame_kept (us : Nat) (s : State) : (State.atFrame us s).kept = s.kept := by simp [State.atFrame]
@[simp ↓] theorem missStage_kept (bit lateNs : Nat) (s : State) : (missStage bit lateNs s).kept = s.kept := by simp [missStage]
@[simp ↓] theorem closeStage_kept (bit deadlineUs : Nat) (s : State) : (closeStage bit deadlineUs s).kept = s.kept := by simp [closeStage]

/-! ### Refs -/

@[simp ↓] theorem modRef_kept (i : Nat) (f : RefState → RefState) (s : State) : (modRef i f s).kept = s.kept := by simp [modRef]
@[simp ↓] theorem wantOrigin_kept (g : Geo) (s : State) : (wantOrigin g s).kept = s.kept := by simp [wantOrigin]

@[simp ↓] theorem originOf_kept (x : Sample) (s : State) : (originOf x s).kept = s.kept := by
  unfold originOf
  split <;> simp

@[simp ↓] theorem freezeRefs_kept (cut : Nat) (s : State) : (freezeRefs cut s).kept = s.kept := by simp [freezeRefs]
@[simp ↓] theorem passCut_kept (s : State) : (passCut s).kept = s.kept := by simp [passCut]
@[simp ↓] theorem cutHere_kept (s : State) : (cutHere s).kept = s.kept := by simp [cutHere]

@[simp ↓] theorem takeSample_kept (i : Nat) (x : Sample) (s : State) : (takeSample i x s).kept = s.kept := by
  unfold takeSample
  dsimp only
  repeat' split
  all_goals simp

@[simp ↓] theorem takeInvalid_kept (i : Nat) (s : State) : (takeInvalid i s).kept = s.kept := by simp [takeInvalid]

@[simp ↓] theorem deliverRef_kept (i : Nat) (v : Option Sample) (s : State) : (deliverRef i v s).kept = s.kept := by
  unfold deliverRef
  repeat' split
  all_goals simp

@[simp ↓] theorem heardInput_kept (p : Nat) (s : State) : (heardInput p s).kept = s.kept := by simp [heardInput]
@[simp ↓] theorem enableRefs_kept (v : Word) (s : State) : (enableRefs v s).kept = s.kept := by simp [enableRefs]
@[simp ↓] theorem releaseHeld_kept (tov : Nat) (s : State) : (releaseHeld tov s).kept = s.kept := by simp [releaseHeld]

/-! ### Signal -/

@[simp ↓] theorem modAin_kept (i : Nat) (f : AinChan → AinChan) (s : State) : (modAin i f s).kept = s.kept := by simp [modAin]
@[simp ↓] theorem modAout_kept (i : Nat) (f : AoutChan → AoutChan) (s : State) : (modAout i f s).kept = s.kept := by simp [modAout]
@[simp ↓] theorem chanState_kept (i : Nat) (p : SigPhase) (s : State) : (chanState i p s).kept = s.kept := by simp [chanState]
@[simp ↓] theorem startChan_kept (i : Nat) (aligned : Bool) (s : State) : (startChan i aligned s).kept = s.kept := by simp [startChan]
@[simp ↓] theorem stopChan_kept (i : Nat) (s : State) : (stopChan i s).kept = s.kept := by simp [stopChan]
@[simp ↓] theorem syncChans_kept (source : Nat) (l : List Nat) (s : State) : (syncChans source l s).kept = s.kept := by simp [syncChans]
@[simp ↓] theorem syncAll_kept (source : Nat) (s : State) : (syncAll source s).kept = s.kept := by simp [syncAll]
@[simp ↓] theorem syncAfterStep_kept (s : State) : (syncAfterStep s).kept = s.kept := by simp [syncAfterStep]
@[simp ↓] theorem syncInEdge_kept (edge : PulseEdge) (s : State) : (syncInEdge edge s).kept = s.kept := by simp [syncInEdge]
@[simp ↓] theorem takeAnalog_kept (i : Nat) (raw : F32) (at_ : Nat) (s : State) : (takeAnalog i raw at_ s).kept = s.kept := by simp [takeAnalog]

@[simp ↓] theorem deliverWires_kept (i : Nat) (s : State) : (deliverWires i s).kept = s.kept := by
  refine foldl_kept (fun t k => ?_) ..
  split
  · rfl
  · dsimp only
    split
    · rfl
    · split <;> simp

@[simp ↓] theorem mirrorClassF_kept (i : Nat) (s : State) : (mirrorClassF i s).kept = s.kept := by simp [mirrorClassF]
@[simp ↓] theorem analogWord_kept (i : Nat) (raw : F32) (backUs : Nat) (s : State) : (analogWord i raw backUs s).kept = s.kept := by simp [analogWord]
@[simp ↓] theorem tellFault_kept (i code : Nat) (raw : Rat) (s : State) : (tellFault i code raw s).kept = s.kept := by simp [tellFault]
@[simp ↓] theorem dropFault_kept (i code : Nat) (s : State) : (dropFault i code s).kept = s.kept := by simp [dropFault]
@[simp ↓] theorem channelSettled_kept (i : Nat) (s : State) : (channelSettled i s).kept = s.kept := by simp [channelSettled]
@[simp ↓] theorem chFault_kept (i code : Nat) (raw : F32) (n : Nat) (s : State) : (chFault i code raw n s).kept = s.kept := by simp [chFault]

@[simp ↓] theorem chFaultCleared_kept (i code : Nat) (raw : F32) (us : Nat) (s : State) : (chFaultCleared i code raw us s).kept = s.kept := by
  simp [chFaultCleared]

@[simp ↓] theorem shuntReconnect_kept (i : Nat) (s : State) : (shuntReconnect i s).kept = s.kept := by
  unfold shuntReconnect
  split <;> simp

@[simp ↓] theorem driveOut_kept (i : Nat) (raw : Rat) (s : State) : (driveOut i raw s).kept = s.kept := by simp [driveOut]
@[simp ↓] theorem stageOut_kept (i : Nat) (v : Rat) (s : State) : (stageOut i v s).kept = s.kept := by simp [stageOut]

@[simp ↓] theorem releaseAnalog_kept (s : State) : (releaseAnalog s).kept = s.kept := by
  unfold releaseAnalog
  split
  · rfl
  · exact State.forN_kept (fun t i => by dsimp only; split <;> simp) ..

@[simp ↓] theorem releaseAnalogServo_kept (slew : Nat → Bool → Slew) (s : State) : (releaseAnalogServo slew s).kept = s.kept := by
  simp [releaseAnalogServo]

@[simp ↓] theorem takeReadbacks_kept (l : List F32) (s : State) : (takeReadbacks l s).kept = s.kept := by simp [takeReadbacks]
@[simp ↓] theorem outTimeout_kept (i : Nat) (s : State) : (outTimeout i s).kept = s.kept := by simp [outTimeout]

@[simp ↓] theorem outFault_kept (i code : Nat) (readback : F32) (limit : Bool) (frames : Nat) (s : State) :
    (outFault i code readback limit frames s).kept = s.kept := by
  simp [outFault]

@[simp ↓] theorem outCleared_kept (i us : Nat) (s : State) : (outCleared i us s).kept = s.kept := by simp [outCleared]
@[simp ↓] theorem loadSignal_kept (s : State) : (loadSignal s).kept = s.kept := by simp [loadSignal]
@[simp ↓] theorem signalOff_kept (s : State) : (signalOff s).kept = s.kept := by simp [signalOff]
@[simp ↓] theorem applyDelays_kept (s : State) : (applyDelays s).kept = s.kept := by simp [applyDelays]

@[simp ↓] theorem sigClear_kept (off : Nat) (s : State) : (sigClear off s).kept = s.kept := by
  unfold sigClear
  split <;> simp

@[simp ↓] theorem sigResult_kept (w : WCtx) (r : Nat) (s : State) : (sigResult w r s).kept = s.kept := by simp [sigResult]
@[simp ↓] theorem startMask_kept (v : Word) (s : State) : (startMask v s).kept = s.kept := by simp [startMask]
@[simp ↓] theorem stopMask_kept (v : Word) (s : State) : (stopMask v s).kept = s.kept := by simp [stopMask]
@[simp ↓] theorem sigCmd_keeps (w : WCtx) (v : Word) (s : State) : (sigCmd w v s).Keeps s.kept := by simp [sigCmd]
@[simp ↓] theorem writeChCfg_keeps (w : WCtx) (v : Word) (s : State) : (writeChCfg w v s).Keeps s.kept := by simp [writeChCfg]
@[simp ↓] theorem writeChDelay_keeps (w : WCtx) (v : Word) (s : State) : (writeChDelay w v s).Keeps s.kept := by simp [writeChDelay]
@[simp ↓] theorem writeOutValue_keeps (w : WCtx) (v : Word) (s : State) : (writeOutValue w v s).Keeps s.kept := by simp [writeOutValue]

@[simp ↓] theorem sigWrite_keeps (w : WCtx) (off : Nat) (v : Word) (s : State) : (sigWrite w off v s).Keeps s.kept := by
  unfold sigWrite
  split <;> simp

/-! ### Field -/

@[simp ↓] theorem modChan_kept (i : Nat) (f : FioChan → FioChan) (s : State) : (modChan i f s).kept = s.kept := by simp [modChan]
@[simp ↓] theorem modBank_kept (k : Nat) (f : Bank → Bank) (s : State) : (modBank k f s).kept = s.kept := by simp [modBank]

@[simp ↓] theorem raiseFieldCleared_kept (ch code : Nat) (byCommand : Bool) (s : State) : (raiseFieldCleared ch code byCommand s).kept = s.kept := by
  simp [raiseFieldCleared]

@[simp ↓] theorem applyChannel_kept (ch : Nat) (s : State) : (applyChannel ch s).kept = s.kept := by simp [applyChannel]
@[simp ↓] theorem fieldLinkFrame_kept (k : Nat) (crcOk : Bool) (s : State) : (fieldLinkFrame k crcOk s).kept = s.kept := by simp [fieldLinkFrame]
@[simp ↓] theorem linkLost_kept (k : Nat) (s : State) : (linkLost k s).kept = s.kept := by simp [linkLost]

@[simp ↓] theorem linkReply_kept (k : Nat) (crcOk : Bool) (pins : List F32) (demag : BitVec 24) (currents : List F32) (supply : F32) (s : State) :
    (linkReply k crcOk pins demag currents supply s).kept = s.kept := by
  simp [linkReply]

@[simp ↓] theorem linkTimeout_kept (k : Nat) (s : State) : (linkTimeout k s).kept = s.kept := by simp [linkTimeout]

@[simp ↓] theorem inputEdge_kept (ch : Nat) (volts : F32) (heldUs backUs : Nat) (s : State) : (inputEdge ch volts heldUs backUs s).kept = s.kept := by
  simp [inputEdge]

@[simp ↓] theorem showField_kept (s : State) : (showField s).kept = s.kept := by simp [showField]
@[simp ↓] theorem publishField_kept (s : State) : (publishField s).kept = s.kept := by simp [publishField]
@[simp ↓] theorem releaseField_kept (s : State) : (releaseField s).kept = s.kept := by simp [releaseField]

@[simp ↓] theorem releaseFieldServo_kept (on : Nat → Bool → Bool → Bool) (s : State) : (releaseFieldServo on s).kept = s.kept := by
  simp [releaseFieldServo]

@[simp ↓] theorem fieldLow_kept (k : Nat) (volts : F32) (us : Nat) (s : State) : (fieldLow k volts us s).kept = s.kept := by simp [fieldLow]
@[simp ↓] theorem fieldHigh_kept (k : Nat) (volts : F32) (us : Nat) (s : State) : (fieldHigh k volts us s).kept = s.kept := by simp [fieldHigh]

@[simp ↓] theorem fieldLostCmd_kept (k : Nat) (volts : F32) (us : Nat) (s : State) : (fieldLostCmd k volts us s).kept = s.kept := by
  simp [fieldLostCmd]

@[simp ↓] theorem fieldRestored_kept (k : Nat) (volts : F32) (us : Nat) (s : State) : (fieldRestored k volts us s).kept = s.kept := by
  simp [fieldRestored]

@[simp ↓] theorem tripOutput_kept (ch cause : Nat) (amps : Rat) (s : State) : (tripOutput ch cause amps s).kept = s.kept := by simp [tripOutput]

@[simp ↓] theorem overcurrent_kept (ch : Nat) (thermal : Bool) (amps : F32) (us : Nat) (s : State) :
    (overcurrent ch thermal amps us s).kept = s.kept := by
  simp [overcurrent]

@[simp ↓] theorem ocRetry_kept (ch : Nat) (s : State) : (ocRetry ch s).kept = s.kept := by simp [ocRetry]
@[simp ↓] theorem ocCleanPeriod_kept (ch : Nat) (s : State) : (ocCleanPeriod ch s).kept = s.kept := by simp [ocCleanPeriod]

@[simp ↓] theorem bankOverload_kept (k : Nat) (currents : List F32) (us : Nat) (s : State) : (bankOverload k currents us s).kept = s.kept := by
  unfold bankOverload
  dsimp only
  repeat' split
  all_goals simp

@[simp ↓] theorem stuckHigh_kept (ch : Nat) (volts : F32) (us demagUs : Nat) (s : State) : (stuckHigh ch volts us demagUs s).kept = s.kept := by
  simp [stuckHigh]

@[simp ↓] theorem stuckHighClear_kept (ch us : Nat) (s : State) : (stuckHighClear ch us s).kept = s.kept := by simp [stuckHighClear]
@[simp ↓] theorem openLoad_kept (ch : Nat) (amps : F32) (us : Nat) (s : State) : (openLoad ch amps us s).kept = s.kept := by simp [openLoad]

@[simp ↓] theorem openLoadClear_kept (ch : Nat) (amps : F32) (us : Nat) (s : State) : (openLoadClear ch amps us s).kept = s.kept := by
  simp [openLoadClear]

@[simp ↓] theorem clearFieldFault_kept (ch : Nat) (s : State) : (clearFieldFault ch s).kept = s.kept := by simp [clearFieldFault]
@[simp ↓] theorem loadBank_kept (k : Nat) (s : State) : (loadBank k s).kept = s.kept := by simp [loadBank]
@[simp ↓] theorem bankOff_kept (k : Nat) (s : State) : (bankOff k s).kept = s.kept := by simp [bankOff]
@[simp ↓] theorem bankFailed_kept (k : Nat) (s : State) : (bankFailed k s).kept = s.kept := by simp [bankFailed]
@[simp ↓] theorem modShown_kept (i : Nat) (f : FioChan → FioChan) (s : State) : (modShown i f s).kept = s.kept := by simp [modShown]

@[simp ↓] theorem fioClear_kept (off : Nat) (s : State) : (fioClear off s).kept = s.kept := by
  unfold fioClear
  split <;> simp

@[simp ↓] theorem fioResult_kept (w : WCtx) (r : Nat) (s : State) : (fioResult w r s).kept = s.kept := by simp [fioResult]
@[simp ↓] theorem writeOut_keeps (w : WCtx) (k : Nat) (on : Bool) (v : Word) (s : State) : (writeOut w k on v s).Keeps s.kept := by simp [writeOut]

@[simp ↓] theorem fioWrite_keeps (w : WCtx) (off : Nat) (v : Word) (s : State) : (fioWrite w off v s).Keeps s.kept := by
  unfold fioWrite
  split <;> simp

/-! ### Capability -/

@[simp ↓] theorem modThr_kept (i : Nat) (f : ThrState → ThrState) (s : State) : (modThr i f s).kept = s.kept := by simp [modThr]
@[simp ↓] theorem modGroup_kept (g : Nat) (f : GroupState → GroupState) (s : State) : (modGroup g f s).kept = s.kept := by simp [modGroup]
@[simp ↓] theorem evalThruster_kept (i : Nat) (c : ThrCfg) (s : State) : (evalThruster i c s).kept = s.kept := by simp [evalThruster]
@[simp ↓] theorem evalThrusters_kept (s : State) : (evalThrusters s).kept = s.kept := State.forN_kept (fun t i => by split <;> simp) ..
@[simp ↓] theorem modBus_kept (b : Nat) (f : BusState → BusState) (s : State) : (modBus b f s).kept = s.kept := by simp [modBus]

@[simp ↓] theorem busStale_kept (b : Nat) (s : State) : (busStale b s).kept = s.kept := by
  unfold busStale
  split <;> simp

@[simp ↓] theorem evalBuses_kept (s : State) : (evalBuses s).kept = s.kept := State.forN_kept (fun t i => by split <;> simp) ..
@[simp ↓] theorem evalCaps_kept (s : State) : (evalCaps s).kept = s.kept := State.forN_kept (fun t i => by split <;> simp) ..

@[simp ↓] theorem extGroupStale_kept (g : Nat) (s : State) : (extGroupStale g s).kept = s.kept := by
  unfold extGroupStale
  split <;> simp

@[simp ↓] theorem evalFacets_kept (s : State) : (evalFacets s).kept = s.kept := foldl_kept (fun t g => by split <;> simp) ..

/-! ### Solver -/

@[simp ↓] theorem modSlot_kept (i : Nat) (f : Slot → Slot) (s : State) : (modSlot i f s).kept = s.kept := by simp [modSlot]
@[simp ↓] theorem modSolver_kept (e : Nat) (f : SolverEngine → SolverEngine) (s : State) : (modSolver e f s).kept = s.kept := by simp [modSolver]

@[simp ↓] theorem State.raiseSlot_kept (s : State) (code slot : Nat) (d : Bytes) : (State.raiseSlot s code slot d).kept = s.kept := by
  simp [State.raiseSlot]

@[simp ↓] theorem capacityChange_kept (s : State) : (capacityChange s).kept = s.kept := by simp [capacityChange]
@[simp ↓] theorem freeEngine_kept (e : Nat) (done : Bool) (s : State) : (freeEngine e done s).kept = s.kept := by simp [freeEngine]
@[simp ↓] theorem releaseEngines_kept (i : Nat) (done : Bool) (s : State) : (releaseEngines i done s).kept = s.kept := by simp [releaseEngines]

@[simp ↓] theorem finishSolve_kept (i : Nat) (st : SolveStatus) (out : IpmOut) (res obj : F64) (s : State) :
    (finishSolve i st out res obj s).kept = s.kept := by
  unfold finishSolve
  dsimp only
  split <;> simp

@[simp ↓] theorem finishRun_kept (i : Nat) (s : State) : (finishRun i s).kept = s.kept := by simp [finishRun]
@[simp ↓] theorem endSolve_kept (i : Nat) (st : SolveStatus) (s : State) : (endSolve i st s).kept = s.kept := by simp [endSolve]
@[simp ↓] theorem mailboxResult_kept (r : Nat) (s : State) : (mailboxResult r s).kept = s.kept := by simp [mailboxResult]

@[simp ↓] theorem bindSlot_kept (o : SlotOwner) (i st : Nat) (s : State) : (bindSlot o i st s).kept = s.kept := by
  unfold bindSlot
  dsimp only
  repeat' split
  all_goals simp

@[simp ↓] theorem releaseSlot_kept (o : SlotOwner) (i : Nat) (s : State) : (releaseSlot o i s).kept = s.kept := by simp [releaseSlot]

@[simp ↓] theorem cancelSlot_kept (o : SlotOwner) (i : Nat) (s : State) : (cancelSlot o i s).kept = s.kept := by
  unfold cancelSlot
  dsimp only
  repeat' split
  all_goals simp

@[simp ↓] theorem submitSolve_kept (o : SlotOwner) (d : Descriptor) (count : Nat) (ds : List (Nat × Option F64)) (s : State) :
    (submitSolve o d count ds s).kept = s.kept := by
  unfold submitSolve
  split <;> simp

@[simp ↓] theorem submitData_kept (o : SlotOwner) (d : Descriptor) (new : List F64) (s : State) : (submitData o d new s).kept = s.kept := by
  simp [submitData]

@[simp ↓] theorem submitBytes_kept (o : SlotOwner) (desc packet : Bytes) (s : State) : (submitBytes o desc packet s).kept = s.kept := by
  simp [submitBytes]

@[simp ↓] theorem startSolve_kept (e i : Nat) (s : State) : (startSolve e i s).kept = s.kept := by simp [startSolve]

@[simp ↓] theorem yieldSolve_kept (e i : Nat) (s : State) : ∀ t ∈ yieldSolve e i s, t.kept = s.kept := by
  intro t h
  unfold yieldSolve at h
  dsimp only at h
  split at h
  · cases h
  · cases h
    simp

@[simp ↓] theorem takeWork_kept (e : Nat) (w : Work) (s : State) : (takeWork e w s).kept = s.kept := by simp [takeWork]

@[simp ↓] theorem dispatch_kept (e : Nat) (s : State) : (dispatch e s).kept = s.kept := by
  unfold dispatch
  split
  · rfl
  · split
    · rfl
    · split
      · split
        · split
          · next h => simp [yieldSolve_kept _ _ _ _ h]
          · rfl
        · simp
      · simp

@[simp ↓] theorem resumeSolve_kept (e : Nat) (s : State) : (resumeSolve e s).kept = s.kept := by
  unfold resumeSolve
  dsimp only
  split <;> simp

@[simp ↓] theorem subjobComplete_kept (e : Nat) (s : State) : (subjobComplete e s).kept = s.kept := by
  unfold subjobComplete
  dsimp only
  split <;> simp

@[simp ↓] theorem expireSolve_kept (i : Nat) (s : State) : (expireSolve i s).kept = s.kept := by
  unfold expireSolve
  dsimp only
  split <;> simp

@[simp ↓] theorem loseSolver_kept (e : Nat) (s : State) : (loseSolver e s).kept = s.kept := by
  unfold loseSolver
  dsimp only
  repeat' split
  all_goals simp

@[simp ↓] theorem faultSlot_kept (i addr : Nat) (s : State) : (faultSlot i addr s).kept = s.kept := by simp [faultSlot]
@[simp ↓] theorem slotsOff_kept (s : State) : (slotsOff s).kept = s.kept := by simp [slotsOff]
@[simp ↓] theorem loadSlots_kept (s : State) : (loadSlots s).kept = s.kept := by simp [loadSlots]

@[simp ↓] theorem startTest_kept (e : Nat) (s : State) : (startTest e s).kept = s.kept := by
  unfold startTest
  split <;> simp

@[simp ↓] theorem finishTest_kept (r : Completion) (s : State) : (finishTest r s).kept = s.kept := by simp [finishTest]

@[simp ↓] theorem slvClear_kept (off : Nat) (s : State) : (slvClear off s).kept = s.kept := by
  unfold slvClear
  split <;> simp

@[simp ↓] theorem slvWrite_keeps (w : WCtx) (off : Nat) (v : Word) (s : State) : (slvWrite w off v s).Keeps s.kept := by
  unfold slvWrite
  split <;> simp

/-! ### Control -/

@[simp ↓] theorem trackEntry_kept (f : FusedSnap) (s : State) : (trackEntry f s).kept = s.kept := by simp [trackEntry]

@[simp ↓] theorem trackStep_kept (dt : Rat) (wait : Bool) (f : FusedSnap) (s : State) : (trackStep dt wait f s).1.kept = s.kept := by
  unfold trackStep
  dsimp only
  repeat' split
  all_goals simp

@[simp ↓] theorem trackFrame_kept (f : FusedSnap) (s : State) : (trackFrame f s).kept = s.kept := by simp [trackFrame]
@[simp ↓] theorem useSetpoint_kept (p : Setpoint) (s : State) : (useSetpoint p s).kept = s.kept := by simp [useSetpoint]

@[simp ↓] theorem ctlEntry_kept (f : FusedSnap) (s : State) : (ctlEntry f s).kept = s.kept := by
  unfold ctlEntry
  repeat' split
  all_goals simp

@[simp ↓] theorem targetFrame_kept (f : FusedSnap) (s : State) : (targetFrame f s).kept = s.kept := by
  unfold targetFrame
  repeat' split
  all_goals simp

@[simp ↓] theorem refreshJoy_kept (s : State) : (refreshJoy s).kept = s.kept := by simp [refreshJoy]
@[simp ↓] theorem joyStale_kept (s0 : State) : (joyStale s0).kept = s0.kept := by simp [joyStale]

@[simp ↓] theorem startBlend_kept (tBlend : Rat) (cannotRun : Bool) (o : Outgoing) (s : State) : (startBlend tBlend cannotRun o s).kept = s.kept := by
  simp [startBlend]

@[simp ↓] theorem runOutgoing_kept (f : FusedSnap) (s : State) : (runOutgoing f s).kept = s.kept := by
  unfold runOutgoing
  dsimp only
  repeat' split
  all_goals simp

@[simp ↓] theorem blendDemand_kept (f : FusedSnap) (dIn : Demand) (s : State) : (blendDemand f dIn s).2.kept = s.kept := by
  unfold blendDemand
  dsimp only
  repeat' split
  all_goals simp

@[simp ↓] theorem applyLaw_kept (s : State) : (applyLaw s).kept = s.kept := by simp [applyLaw]
@[simp ↓] theorem rootDemand_kept (f : FusedSnap) (s0 : State) : (rootDemand f s0).2.kept = s0.kept := by simp [rootDemand]

@[simp ↓] theorem tuneInstant_kept (handover : Bool) (s : State) : (tuneInstant handover s).kept = s.kept := by
  unfold tuneInstant
  split <;> simp

@[simp ↓] theorem newSetpoint_keeps (w : WCtx) (p : Setpoint) (s : State) : (newSetpoint w p s).Keeps s.kept := by simp [newSetpoint]
@[simp ↓] theorem spApply_keeps (w : WCtx) (s : State) : (spApply w s).Keeps s.kept := by simp [spApply]

@[simp ↓] theorem spMove_keeps (w : WCtx) (s : State) : (spMove w s).Keeps s.kept := by
  unfold spMove
  split <;> simp

@[simp ↓] theorem spCommand_keeps (w : WCtx) (v : Word) (s : State) : (spCommand w v s).Keeps s.kept := by simp [spCommand]
@[simp ↓] theorem tuneSelect_keeps (w : WCtx) (v : Word) (s : State) : (tuneSelect w v s).Keeps s.kept := by simp [tuneSelect]
@[simp ↓] theorem joyWrite_keeps (w : WCtx) (v : Word) (s : State) : (joyWrite w v s).Keeps s.kept := by simp [joyWrite]
@[simp ↓] theorem joyRelease_kept (sess : Nat) (s : State) : (joyRelease sess s).kept = s.kept := by simp [joyRelease]
@[simp ↓] theorem trackCommand_keeps (w : WCtx) (v : Word) (s : State) : (trackCommand w v s).Keeps s.kept := by simp [trackCommand]

@[simp ↓] theorem trackInstant_kept (s : State) : (trackInstant s).kept = s.kept := by
  unfold trackInstant
  split <;> simp

@[simp ↓] theorem thrEnable_keeps (v : Word) (s : State) : (thrEnable v s).Keeps s.kept := by simp [thrEnable]
@[simp ↓] theorem modWay_kept (f : Waypoint → Waypoint) (s : State) : (modWay f s).kept = s.kept := by simp [modWay]

@[simp ↓] theorem ctlClear_kept (off : Nat) (s : State) : (ctlClear off s).kept = s.kept := by
  unfold ctlClear
  split <;> simp

@[simp ↓] theorem ctlWrite_keeps (w : WCtx) (off : Nat) (v : Word) (s : State) : (ctlWrite w off v s).Keeps s.kept := by
  unfold ctlWrite
  repeat' split
  all_goals simp

/-! ### Allocation -/

@[simp ↓] theorem ensureBound_kept (o : SlotOwner) (slot st : Nat) (s : State) : (ensureBound o slot st s).kept = s.kept := by simp [ensureBound]
@[simp ↓] theorem failNode_kept (g status : Nat) (s : State) : (failNode g status s).kept = s.kept := by simp [failNode]
@[simp ↓] theorem submitNode_kept (g : Nat) (c : GroupCfg) (s : State) : (submitNode g c s).kept = s.kept := by simp [submitNode]
@[simp ↓] theorem submitLevel_kept (d : Nat) (s : State) : (submitLevel d s).kept = s.kept := foldl_kept (fun t e => by split <;> simp) ..
@[simp ↓] theorem satGroup_kept (g : Nat) (c : GroupCfg) (s : State) : (satGroup g c s).kept = s.kept := by simp [satGroup]

@[simp ↓] theorem saturation_kept (s : State) : (saturation s).kept = s.kept := by
  simp only [saturation, ↓State.modCtl_kept]
  exact foldl_kept (fun t g => by split <;> simp) ..

@[simp ↓] theorem holdThr_kept (i : Nat) (s : State) : (holdThr i s).kept = s.kept := by simp [holdThr]
@[simp ↓] theorem formThr_kept (i : Nat) (c : ThrCfg) (s : State) : (formThr i c s).kept = s.kept := by simp [formThr]
@[simp ↓] theorem busUse_kept (s : State) : (busUse s).kept = s.kept := by simp [busUse]

@[simp ↓] theorem formCommands_kept (s : State) : (formCommands s).kept = s.kept := by
  simp only [formCommands, ↓busUse_kept]
  exact State.forN_kept (fun t i => by split <;> simp) ..

@[simp ↓] theorem keepCommands_kept (s : State) : (keepCommands s).kept = s.kept := by simp [keepCommands]
@[simp ↓] theorem metDeadline_kept (s : State) : (metDeadline s).kept = s.kept := by simp [metDeadline]
@[simp ↓] theorem showCtl_kept (s : State) : (showCtl s).kept = s.kept := by simp [showCtl]
@[simp ↓] theorem finishAllocation_kept (s : State) : (finishAllocation s).kept = s.kept := by simp [finishAllocation]

@[simp ↓] theorem pumpTree_kept (k : Nat) (s : State) : (pumpTree k s).kept = s.kept := by
  induction k generalizing s with
  | zero => simp [pumpTree]
  | succ k ih =>
    unfold pumpTree
    split <;> simp [↓ih]

@[simp ↓] theorem takeNode_kept (g : Nat) (c : GroupCfg) (x : List Rat) (s : State) : (takeNode g c x s).kept = s.kept := by simp [takeNode]

@[simp ↓] theorem allocResult_kept (r : Completion) (s : State) : (allocResult r s).kept = s.kept := by
  unfold allocResult
  repeat' split
  all_goals simp

@[simp ↓] theorem closedNode_kept (g : Nat) (c : GroupCfg) (s : State) : (closedNode g c s).kept = s.kept := by
  unfold closedNode
  extract_lets cols x pairs s1
  refine (foldl_kept (fun t e => ?_) ..).trans ?_
  · extract_lets mine f
    split
    · simp
    · split
      · rfl
      · extract_lets k s2
        simp [s2]
  · simp [s1]

@[simp ↓] theorem closedTree_kept (s : State) : (closedTree s).kept = s.kept := by
  simp only [closedTree, ↓finishAllocation_kept]
  exact foldl_kept (fun t g => by split <;> simp) ..

@[simp ↓] theorem clearSats_kept (s : State) : (clearSats s).kept = s.kept := by simp [clearSats]
@[simp ↓] theorem noAllocation_kept (s : State) : (noAllocation s).kept = s.kept := by simp [noAllocation]
@[simp ↓] theorem startTree_kept (d : Demand) (s : State) : (startTree d s).kept = s.kept := by simp [startTree]
@[simp ↓] theorem allocationStage_kept (us : Nat) (s : State) : (allocationStage us s).kept = s.kept := by simp [allocationStage]
@[simp ↓] theorem cancelNodes_kept (s : State) : (cancelNodes s).kept = s.kept := State.forN_kept (fun t g => by split <;> simp) ..
@[simp ↓] theorem keptThr_kept (i : Nat) (s : State) : (keptThr i s).kept = s.kept := by simp [keptThr]
@[simp ↓] theorem restage_kept (s : State) : (restage s).kept = s.kept := by simp [restage]
@[simp ↓] theorem missedDeadline_kept (s : State) : (missedDeadline s).kept = s.kept := by simp [missedDeadline]

/-! ### TimeBase -/

@[simp ↓] theorem carafeReading_kept (s : State) : (carafeReading s).kept = s.kept := by simp [carafeReading]
@[simp ↓] theorem confirmTime_kept (byStep : Bool) (s : State) : (confirmTime byStep s).kept = s.kept := by simp [confirmTime]
@[simp ↓] theorem actOffset_kept (o : Int) (s : State) : (actOffset o s).kept = s.kept := by simp [actOffset]
@[simp ↓] theorem suspectOffset_kept (o : Int) (s : State) : (suspectOffset o s).kept = s.kept := by simp [suspectOffset]
@[simp ↓] theorem gatherDrift_kept (s : State) : (gatherDrift s).kept = s.kept := State.modTim_kept _ _ fun b => by split <;> rfl
@[simp ↓] theorem measureGnss_kept (s : State) : (measureGnss s).kept = s.kept := by simp [measureGnss]
@[simp ↓] theorem measureDomain_kept (o : Int) (s : State) : (measureDomain o s).kept = s.kept := by simp [measureDomain]
@[simp ↓] theorem actMeasured_kept (o : Int) (s : State) : (actMeasured o s).kept = s.kept := by simp [actMeasured]
@[simp ↓] theorem referenceOffset_kept (domain : Bool) (o : Int) (s : State) : (referenceOffset domain o s).kept = s.kept := by simp [referenceOffset]

@[simp ↓] theorem steerFrame_kept (s : State) : (steerFrame s).kept = s.kept := by
  unfold steerFrame
  split
  · exact State.modTim_kept _ _ fun b => (apply_ite TimState.frameAt ..).trans (ite_self _)
  · rfl

@[simp ↓] theorem timeUnlock_kept (s : State) : (timeUnlock s).kept = s.kept := by simp [timeUnlock]
@[simp ↓] theorem holdoverEnter_kept (s : State) : (holdoverEnter s).kept = s.kept := by simp [holdoverEnter]

@[simp ↓] theorem timeJumpResolve_kept (s : State) : (timeJumpResolve s).kept = s.kept := by
  unfold timeJumpResolve
  split <;> simp

@[simp ↓] theorem timeDegraded_kept (s : State) : (timeDegraded s).kept = s.kept := by
  unfold timeDegraded
  split <;> simp

@[simp ↓] theorem carafeSample_kept (ppb : F32) (s : State) : (carafeSample ppb s).kept = s.kept := by
  unfold carafeSample
  dsimp only
  split <;> simp

@[simp ↓] theorem carafeDaily_kept (s : State) : (carafeDaily s).kept = s.kept := by
  unfold carafeDaily
  dsimp only
  split
  · rfl
  · exact State.modTim_kept _ _ fun b => by split <;> rfl

@[simp ↓] theorem storeCarafe_kept (s : State) : (storeCarafe s).kept = s.kept := by
  unfold storeCarafe
  dsimp only
  repeat' split
  all_goals simp

@[simp ↓] theorem carafeStore_kept (s : State) : (carafeStore s).kept = s.kept := by simp [carafeStore]
@[simp ↓] theorem carafeStored_kept (m : CarafeModel) (s : State) : (carafeStored m s).kept = s.kept := by simp [carafeStored]
@[simp ↓] theorem ppsOut_kept (s : State) : (ppsOut s).kept = s.kept := by simp [ppsOut]
@[simp ↓] theorem tcxoFault_kept (deviation : Bool) (s : State) : (tcxoFault deviation s).kept = s.kept := by simp [tcxoFault]

@[simp ↓] theorem timClear_kept (off : Nat) (s : State) : (timClear off s).kept = s.kept := by
  unfold timClear
  split <;> simp

@[simp ↓] theorem timResult_kept (w : WCtx) (r : Nat) (s : State) : (timResult w r s).kept = s.kept := by simp [timResult]
@[simp ↓] theorem resetCarafe_kept (s : State) : (resetCarafe s).kept = s.kept := by simp [resetCarafe]

@[simp ↓] theorem timWrite_keeps (w : WCtx) (off : Nat) (v : Word) (s : State) : (timWrite w off v s).Keeps s.kept := by
  unfold timWrite
  split <;> simp

/-! ### Gnss -/

@[simp ↓] theorem modAnt_kept (a : Nat) (f : AntPath → AntPath) (s : State) : (modAnt a f s).kept = s.kept := by simp [modAnt]
@[simp ↓] theorem modGnsChan_kept (i : Nat) (f : Channel → Channel) (s : State) : (modGnsChan i f s).kept = s.kept := by simp [modGnsChan]
@[simp ↓] theorem modSol_kept (a : Nat) (f : Solution → Solution) (s : State) : (modSol a f s).kept = s.kept := by simp [modSol]
@[simp ↓] theorem queueSearch_kept (r : SearchReq) (s : State) : (queueSearch r s).kept = s.kept := by simp [queueSearch]
@[simp ↓] theorem dropRequests_kept (p : SearchReq → Bool) (s : State) : (dropRequests p s).kept = s.kept := by simp [dropRequests]
@[simp ↓] theorem idleChannel_kept (i : Nat) (s : State) : (idleChannel i s).kept = s.kept := by simp [idleChannel]
@[simp ↓] theorem searchChannel_kept (i prio : Nat) (s : State) : (searchChannel i prio s).kept = s.kept := by simp [searchChannel]
@[simp ↓] theorem leaveFixed_kept (next : HdgPhase) (s : State) : (leaveFixed next s).kept = s.kept := by simp [leaveFixed]
@[simp ↓] theorem pathLost_kept (a : Nat) (s : State) : (pathLost a s).kept = s.kept := by simp [pathLost]
@[simp ↓] theorem idleAntenna_kept (a : Nat) (s : State) : (idleAntenna a s).kept = s.kept := by simp [idleAntenna]
@[simp ↓] theorem antOpen_kept (a : Nat) (ma : F32) (ms : Nat) (s : State) : (antOpen a ma ms s).kept = s.kept := by simp [antOpen]
@[simp ↓] theorem antShort_kept (a : Nat) (ma : F32) (s : State) : (antShort a ma s).kept = s.kept := by simp [antShort]
@[simp ↓] theorem antSupplyRetry_kept (a : Nat) (ma : F32) (s : State) : (antSupplyRetry a ma s).kept = s.kept := by simp [antSupplyRetry]
@[simp ↓] theorem antRestored_kept (a : Nat) (ma : F32) (ms : Nat) (s : State) : (antRestored a ma ms s).kept = s.kept := by simp [antRestored]
@[simp ↓] theorem frontEndReady_kept (a : Nat) (s : State) : (frontEndReady a s).kept = s.kept := by simp [frontEndReady]
@[simp ↓] theorem detectChannel_kept (i : Nat) (s : State) : (detectChannel i s).kept = s.kept := by simp [detectChannel]
@[simp ↓] theorem acqPass_kept (n : Nat) (found : List Nat) (s : State) : (acqPass n found s).kept = s.kept := by simp [acqPass]
@[simp ↓] theorem acqIdle_kept (s : State) : (acqIdle s).kept = s.kept := by simp [acqIdle]
@[simp ↓] theorem acqPowerOn_kept (s : State) : (acqPowerOn s).kept = s.kept := by simp [acqPowerOn]
@[simp ↓] theorem channelSearchTimeout_kept (i : Nat) (s : State) : (channelSearchTimeout i s).kept = s.kept := by simp [channelSearchTimeout]

@[simp ↓] theorem channelPullIn_kept (i lockMs : Nat) (sync : Bool) (s : State) : (channelPullIn i lockMs sync s).kept = s.kept := by
  simp [channelPullIn]

@[simp ↓] theorem channelPullInTimeout_kept (i : Nat) (s : State) : (channelPullInTimeout i s).kept = s.kept := by simp [channelPullInTimeout]

@[simp ↓] theorem channelTrackLoss_kept (i weakMs unlockMs : Nat) (s : State) : (channelTrackLoss i weakMs unlockMs s).kept = s.kept := by
  simp [channelTrackLoss]

@[simp ↓] theorem assignOn_kept (sky : List SkySig) (x : SkySig) (a : Nat) (s : State) : (assignOn sky x a s).kept = s.kept := by
  unfold assignOn
  repeat' split
  all_goals simp

@[simp ↓] theorem assignChannels_kept (sky : List SkySig) (s : State) : (assignChannels sky s).kept = s.kept := by simp [assignChannels]
@[simp ↓] theorem strobeLatch_kept (edge : Rat) (l : List LatchRec) (s : State) : (strobeLatch edge l s).kept = s.kept := by simp [strobeLatch]
@[simp ↓] theorem tellSlip_kept (s : State) (x : ChanRec × Nat) : (tellSlip s x).kept = s.kept := by simp [tellSlip]
@[simp ↓] theorem takeLatch_kept (s : State) : (takeLatch s).kept = s.kept := by simp [takeLatch]
@[simp ↓] theorem fixAcquired_kept (a : Nat) (s : State) : (fixAcquired a s).kept = s.kept := by simp [fixAcquired]
@[simp ↓] theorem noFix_kept (a : Nat) (s : State) : (noFix a s).kept = s.kept := by simp [noFix]

@[simp ↓] theorem solveAntenna_kept (a : Nat) (fix : Option FixIn) (s : State) : (solveAntenna a fix s).kept = s.kept := by
  unfold solveAntenna
  split <;> simp

@[simp ↓] theorem fixLost_kept (a : Nat) (s : State) : (fixLost a s).kept = s.kept := by
  unfold fixLost
  dsimp only
  split <;> simp

@[simp ↓] theorem solutionRevalidate_kept (a : Nat) (s : State) : (solutionRevalidate a s).kept = s.kept := by
  unfold solutionRevalidate
  dsimp only
  split <;> simp

@[simp ↓] theorem checkBaseline_kept (s : State) : (checkBaseline s).kept = s.kept := by simp [checkBaseline]
@[simp ↓] theorem hdgWrongFix_kept (s : State) : (hdgWrongFix s).kept = s.kept := by simp [hdgWrongFix]
@[simp ↓] theorem useBaseline_kept (e : EgoIn) (ndd : Nat) (s : State) : (useBaseline e ndd s).kept = s.kept := by simp [useBaseline]

@[simp ↓] theorem headingFrame_kept (e : EgoIn) (s : State) : (headingFrame e s).kept = s.kept := by
  unfold headingFrame
  dsimp only
  split <;> simp

@[simp ↓] theorem removeSlip_kept (s : State) (r : ChanRec) : (removeSlip s r).kept = s.kept := by simp [removeSlip]
@[simp ↓] theorem egoFrame_kept (e : EgoIn) (repeated : Bool) (s : State) : (egoFrame e repeated s).kept = s.kept := by simp [egoFrame]

@[simp ↓] theorem ambiguityDone_kept (which : Nat) (ratio : F32) (ndd : Nat) (x : AmbFix) (s : State) :
    (ambiguityDone which ratio ndd x s).kept = s.kept := by
  simp [ambiguityDone]

@[simp ↓] theorem resetRtk_kept (s : State) : (resetRtk s).kept = s.kept := by simp [resetRtk]
@[simp ↓] theorem modCorr_kept (k : Nat) (f : CorrSource → CorrSource) (s : State) : (modCorr k f s).kept = s.kept := by simp [modCorr]
@[simp ↓] theorem rtcmFrom_kept (k station : Nat) (s : State) : (rtcmFrom k station s).kept = s.kept := by simp [rtcmFrom]

@[simp ↓] theorem rtcmStation_kept (k station : Nat) (p : Vec3) (height : Option Rat) (s : State) :
    (rtcmStation k station p height s).kept = s.kept := by
  unfold rtcmStation
  dsimp only
  split <;> simp

@[simp ↓] theorem rtcmEpoch_kept (k station t : Nat) (obs : List BaseObs) (last : Bool) (s : State) :
    (rtcmEpoch k station t obs last s).kept = s.kept := by
  simp [rtcmEpoch]

@[simp ↓] theorem heardSource_kept (k : Nat) (s : State) : (heardSource k s).kept = s.kept := by simp [heardSource]

@[simp ↓] theorem admitSource_kept (k : Nat) (s : State) : (admitSource k s).1.kept = s.kept := by
  unfold admitSource
  dsimp only
  repeat' split
  all_goals simp

@[simp ↓] theorem rtcmFrame_kept (k : Nat) (fr : Bytes) (s : State) : (rtcmFrame k fr s).kept = s.kept := by simp [rtcmFrame]
@[simp ↓] theorem corrDistance_kept (s : State) : (corrDistance s).kept = s.kept := by simp [corrDistance]
@[simp ↓] theorem corrFrame_kept (s : State) : (corrFrame s).kept = s.kept := by simp [corrFrame]
@[simp ↓] theorem corrStale_kept (s : State) : (corrStale s).kept = s.kept := by simp [corrStale]
@[simp ↓] theorem corrSwitch_kept (s : State) : (corrSwitch s).kept = s.kept := by simp [corrSwitch]

@[simp ↓] theorem storeHotStart_kept (s : State) : (storeHotStart s).kept = s.kept := by
  unfold storeHotStart
  dsimp only
  split <;> simp

@[simp ↓] theorem storeLastPos_kept (s : State) : (storeLastPos s).kept = s.kept := by simp [storeLastPos]
@[simp ↓] theorem coarseFrame_kept (x : CoarseIn) (s : State) : (coarseFrame x s).kept = s.kept := by simp [coarseFrame]
@[simp ↓] theorem weekFrame_kept (n : NavIn) (s : State) : (weekFrame n s).kept = s.kept := by simp [weekFrame]

@[simp ↓] theorem navFrame_kept (n : NavIn) (s : State) : (navFrame n s).kept = s.kept := by
  unfold navFrame
  dsimp only
  repeat' split
  all_goals simp

@[simp ↓] theorem deliverGnss_kept (s : State) : (deliverGnss s).kept = s.kept := by simp [deliverGnss]

@[simp ↓] theorem gtPublish_kept (us : Nat) (ma : List F32) (sky : List SkySig) (residuals : List (Nat × Rat)) (fixes : List (Option FixIn))
    (ego : EgoIn) (nav : NavIn) (s : State) : (gtPublish us ma sky residuals fixes ego nav s).kept = s.kept := by
  simp [gtPublish]

@[simp ↓] theorem jamDetect_kept (a : Nat) (upper lower : F32) (weak ms : Nat) (s : State) : (jamDetect a upper lower weak ms s).kept = s.kept := by
  simp [jamDetect]

@[simp ↓] theorem beginStart_kept (kind : Nat) (wake : Bool) (from_ : Option Nat) (s : State) : (beginStart kind wake from_ s).kept = s.kept := by
  simp [beginStart]

@[simp ↓] theorem antennasOn_kept (s : State) : (antennasOn s).kept = s.kept := by simp [antennasOn]
@[simp ↓] theorem frontEndOff_kept (a : Nat) (s : State) : (frontEndOff a s).kept = s.kept := by simp [frontEndOff]
@[simp ↓] theorem gtOff_kept (s : State) : (gtOff s).kept = s.kept := by simp [gtOff]
@[simp ↓] theorem gnssDomainsOn_kept (s : State) : (gnssDomainsOn s).kept = s.kept := by simp [gnssDomainsOn]
@[simp ↓] theorem gnssDomainsOff_kept (s : State) : (gnssDomainsOff s).kept = s.kept := by simp [gnssDomainsOff]
@[simp ↓] theorem gnssWake_kept (above : List (Nat × Nat)) (s : State) : (gnssWake above s).kept = s.kept := by simp [gnssWake]

@[simp ↓] theorem gnssWakeEnd_kept (s : State) : (gnssWakeEnd s).kept = s.kept := by
  unfold gnssWakeEnd
  split <;> simp

@[simp ↓] theorem gnssStart_kept (above : List (Nat × Nat)) (s : State) : (gnssStart above s).kept = s.kept := by simp [gnssStart]
@[simp ↓] theorem coldStart_kept (s : State) : (coldStart s).kept = s.kept := by simp [coldStart]
@[simp ↓] theorem rtkReset_kept (s : State) : (rtkReset s).kept = s.kept := by simp [rtkReset]

@[simp ↓] theorem gnsClear_kept (off : Nat) (s : State) : (gnsClear off s).kept = s.kept := by
  unfold gnsClear
  split <;> simp

@[simp ↓] theorem gnsWrite_keeps (w : WCtx) (off : Nat) (v : Word) (s : State) : (gnsWrite w off v s).Keeps s.kept := by
  unfold gnsWrite
  split <;> simp

/-! ### Fusion -/

@[simp ↓] theorem setReason_kept (i : Nat) (m : MaskReason) (s : State) : (setReason i m s).kept = s.kept := by simp [setReason]
@[simp ↓] theorem modWatch_kept (hdg : Bool) (f : PairWatch → PairWatch) (s : State) : (modWatch hdg f s).kept = s.kept := by simp [modWatch]
@[simp ↓] theorem applyMasked_kept (i : Nat) (s : State) : (applyMasked i s).kept = s.kept := by simp [applyMasked]
@[simp ↓] theorem applyRestored_kept (i : Nat) (s : State) : (applyRestored i s).kept = s.kept := by simp [applyRestored]

@[simp ↓] theorem applyDisagree_kept (hdg : Bool) (s : State) : (applyDisagree hdg s).kept = s.kept := by
  unfold applyDisagree
  split <;> simp

@[simp ↓] theorem applyAgree_kept (hdg : Bool) (s : State) : (applyAgree hdg s).kept = s.kept := by
  unfold applyAgree
  split <;> simp

@[simp ↓] theorem setDistances_kept (w : Window) (cand contrib : List MapPoint) (s : State) : (setDistances w cand contrib s).kept = s.kept :=
  foldl_kept (fun t p => by split <;> simp) ..

@[simp ↓] theorem farTimers_kept (slots : List Nat) (contrib : List MapPoint) (tov : Nat) (s : State) :
    (farTimers slots contrib tov s).kept = s.kept := by
  simp [farTimers]

@[simp ↓] theorem decideVotes_kept (slots : List Nat) (cand contrib : List MapPoint) (tov : Nat) (s : State) :
    (decideVotes slots cand contrib tov s).kept = s.kept := by
  unfold decideVotes
  dsimp only
  split <;> simp

@[simp ↓] theorem decidePair_kept (hdg : Bool) (contrib : List MapPoint) (tov : Nat) (s : State) : (decidePair hdg contrib tov s).kept = s.kept := by
  unfold decidePair
  split <;> simp

@[simp ↓] theorem applyDecisions_kept (s : State) : (applyDecisions s).kept = s.kept := by simp [applyDecisions]
@[simp ↓] theorem endTimers_kept (slots : List Nat) (s : State) : (endTimers slots s).kept = s.kept := by simp [endTimers]

@[simp ↓] theorem fuseKind_kept (hdg : Bool) (slots : List Nat) (points : List MapPoint) (g : GridSet) (tov : Nat) (s : State) :
    (fuseKind hdg slots points g tov s).1.kept = s.kept := by
  unfold fuseKind
  extract_lets cand cell off onGrid open_ w s1 s2 broke s3 s4 contrib joined s5 s6 s7 s8 lead r out
  have h1 : s1.kept = s.kept := foldl_kept (fun t i => by split <;> simp) ..
  have h8 : s8.kept = s7.kept := foldl_kept (fun t i => by simp) ..
  have h : s8.kept = s.kept := by simp [↓h8, s7, s6, s5, s4, s3, s2, ↓h1]
  split
  · exact h
  · split <;> exact h

@[simp ↓] theorem tellFlat_kept (hdg : Bool) (o : KindOut) (s : State) : (tellFlat hdg o s).kept = s.kept := by
  unfold tellFlat
  dsimp only
  split <;> simp

@[simp ↓] theorem startObserver_kept (tov : Nat) (x y : Rat) (cov : Cov2) (psi : Option Rat) (s : State) :
    (startObserver tov x y cov psi s).kept = s.kept := by
  unfold startObserver
  dsimp only
  split <;> simp

@[simp ↓] theorem restartObserver_kept (cause : Nat) (s : State) : (restartObserver cause s).kept = s.kept := by simp [restartObserver]

@[simp ↓] theorem measurePosition_kept (tov : Nat) (x y : Rat) (cov : Cov2) (s : State) : (measurePosition tov x y cov s).kept = s.kept := by
  simp [measurePosition]

@[simp ↓] theorem measureHeading_kept (tov : Nat) (h v : Rat) (s : State) : (measureHeading tov h v s).kept = s.kept := by simp [measureHeading]

@[simp ↓] theorem obsReset_kept (hdg : Bool) (s : State) : (obsReset hdg s).kept = s.kept := by
  unfold obsReset
  dsimp only
  repeat' split
  all_goals simp

@[simp ↓] theorem setAnchors_kept (tov : Nat) (valid : Bool) (pred : Observer) (peak : Option Rat) (path : List (Nat × Rat × Rat × Rat))
    (s : State) : (setAnchors tov valid pred peak path s).kept = s.kept := by
  refine State.forN_kept (fun t i => ?_) ..
  split
  · rfl
  · extract_lets r due ordered auto at_ place asked answers s1
    have ha : ∀ ok u, (answers ok u).kept = u.kept := fun ok u => by simp [answers]
    split
    · rfl
    · clear_value place
      split <;> simp [↓ha, s1]

@[simp ↓] theorem tellValidity_kept (hdg was is_ : Bool) (last conf : Nat) (bad : Option Nat) (tov : Nat) (s : State) :
    (tellValidity hdg was is_ last conf bad tov s).kept = s.kept := by
  simp [tellValidity]

@[simp ↓] theorem fusSkip_kept (s : State) : (fusSkip s).kept = s.kept := by
  unfold fusSkip
  split <;> simp

@[simp ↓] theorem fuseFrame_kept (s : State) : (fuseFrame s).kept = s.kept := by
  unfold fuseFrame
  extract_lets tov lim hdgSlots posSlots was pred path s1 hp psi0 rh s2 h s3 peak pp p0 g rp s4 p s5 cMin cpM chM pv hm s6 s7 s8 s9 hv capped cp ch
    s10 s11 s12 s13 s14
  have h3 : s3.kept = s2.kept := by
    simp only [s3]
    clear_value h
    split <;> simp
  have h6 : s6.kept = s5.kept := by
    simp only [s6]
    clear_value h
    split
    · split <;> simp
    · rfl
  have h7 : s7.kept = s5.kept := h6
  have h8 : s8.kept = s5.kept := by simp only [s8]; split <;> simp [↓h7, ↓h6]
  simp [s14, s13, s12, s11, s10, s9, ↓h8, s5, s4, rp, ↓h3, s2, rh, s1]

@[simp ↓] theorem inputCut_kept (us : Nat) (s : State) : (inputCut us s).kept = s.kept := by simp [inputCut]
@[simp ↓] theorem showRefs_kept (s : State) : (showRefs s).kept = s.kept := by simp [showRefs]

@[simp ↓] theorem publishFused_kept (us : Nat) (s : State) : (publishFused us s).kept = s.kept := by
  unfold publishFused
  repeat' split
  all_goals simp

@[simp ↓] theorem moveOrigin_kept (o n : Geo) (s : State) : (moveOrigin o n s).kept = s.kept := by simp [moveOrigin]

@[simp ↓] theorem originInstant_kept (s : State) : (originInstant s).kept = s.kept := by
  unfold originInstant
  split <;> simp

@[simp ↓] theorem fusInstant_kept (s : State) : (fusInstant s).kept = s.kept := by simp [fusInstant]
@[simp ↓] theorem settled_kept (s : State) : (settled s).kept = s.kept := by simp [settled]

@[simp ↓] theorem innovationSample_kept (i : Nat) (s : State) : (innovationSample i s).kept = s.kept := by
  unfold innovationSample
  split
  · rfl
  · simp only [↓kept_ite, ↓modRef_kept, ite_self]

@[simp ↓] theorem consistencyCheck_kept (i : Nat) (s : State) : (consistencyCheck i s).kept = s.kept := by
  unfold consistencyCheck
  dsimp only
  repeat' split
  all_goals simp

@[simp ↓] theorem kernelUpdate_kept (i : Nat) (s : State) : (kernelUpdate i s).kept = s.kept := by simp [kernelUpdate]

@[simp ↓] theorem storeModel_kept (i : Nat) (s : State) : (storeModel i s).kept = s.kept := by
  unfold storeModel
  dsimp only
  repeat' split
  all_goals simp

@[simp ↓] theorem modelFailed_kept (key : StoreKey) (s : State) : (modelFailed key s).kept = s.kept := by simp [modelFailed]
@[simp ↓] theorem storePeriodic_kept (s : State) : (storePeriodic s).kept = s.kept := by simp [storePeriodic]
@[simp ↓] theorem storeModels_kept (s : State) : (storeModels s).kept = s.kept := by simp [storeModels]
@[simp ↓] theorem storeCommissionModels_kept (s : State) : (storeCommissionModels s).kept = s.kept := by simp [storeCommissionModels]
@[simp ↓] theorem modelStore_kept (s : State) : (modelStore s).kept = s.kept := by simp [modelStore]
@[simp ↓] theorem resetModel_kept (i : Nat) (s : State) : (resetModel i s).kept = s.kept := by simp [resetModel]

@[simp ↓] theorem loadModels_kept (s : State) : (loadModels s).kept = s.kept := by
  simp only [loadModels, ↓showRefs_kept]
  refine State.forN_kept (fun t i => ?_) ..
  repeat' split
  all_goals simp

@[simp ↓] theorem loadRefs_kept (s : State) : (loadRefs s).kept = s.kept := by simp [loadRefs]

@[simp ↓] theorem fusClear_kept (off : Nat) (s : State) : (fusClear off s).kept = s.kept := by
  unfold fusClear
  split <;> simp

@[simp ↓] theorem selectRefs_keeps (v : Word) (s : State) : (selectRefs v s).Keeps s.kept := by simp [selectRefs]
@[simp ↓] theorem refCommand_keeps (w : WCtx) (v : Word) (s : State) : (refCommand w v s).Keeps s.kept := by simp [refCommand]

@[simp ↓] theorem fusWrite_keeps (w : WCtx) (off : Nat) (v : Word) (s : State) : (fusWrite w off v s).Keeps s.kept := by
  unfold fusWrite
  split <;> simp

/-! ### SafetyChan -/

@[simp ↓] theorem modSafThr_kept (i : Nat) (f : SafThr → SafThr) (s : State) : (modSafThr i f s).kept = s.kept := by simp [modSafThr]
@[simp ↓] theorem modPair_kept (k : Nat) (f : Pair → Pair) (s : State) : (modPair k f s).kept = s.kept := by simp [modPair]
@[simp ↓] theorem modEstop_kept (i : Nat) (f : EStop → EStop) (s : State) : (modEstop i f s).kept = s.kept := by simp [modEstop]
@[simp ↓] theorem evalAlarm_kept (s : State) : (evalAlarm s).kept = s.kept := by simp [evalAlarm]

@[simp ↓] theorem checkEsTest_kept (s : State) : (checkEsTest s).kept = s.kept := by
  unfold checkEsTest
  split <;> simp

@[simp ↓] theorem esTestRemoval_kept (s : State) : (esTestRemoval s).kept = s.kept := by simp [esTestRemoval]
@[simp ↓] theorem removePair_kept (k : Nat) (own : Nat → Nat) (s : State) : (removePair k own s).kept = s.kept := by simp [removePair]
@[simp ↓] theorem removeDue_kept (s : State) : (removeDue s).kept = s.kept := by simp [removeDue]
@[simp ↓] theorem startWeirTimer_kept (k : Nat) (s : State) : (startWeirTimer k s).kept = s.kept := by simp [startWeirTimer]
@[simp ↓] theorem proofEntry_kept (cause : Nat) (s : State) : (proofEntry cause s).kept = s.kept := by simp [proofEntry]
@[simp ↓] theorem enterStop_kept (e : StopEntry) (s : State) : (enterStop e s).kept = s.kept := by simp [enterStop]
@[simp ↓] theorem acceptReset_kept (session : Nat) (s : State) : (acceptReset session s).kept = s.kept := by simp [acceptReset]

@[simp ↓] theorem tellReset_kept (session : Nat) (ok : Bool) (s : State) : (tellReset session ok s).kept = s.kept := by
  unfold tellReset
  dsimp only
  repeat' split
  all_goals simp

@[simp ↓] theorem countReset_kept (member : Nat) (ok : Bool) (s : State) : (countReset member ok s).kept = s.kept := by
  unfold countReset
  split <;> simp

@[simp ↓] theorem evalReset_kept (session : Nat) (s : State) : (evalReset session s).kept = s.kept := by
  unfold evalReset
  dsimp only
  split <;> simp

@[simp ↓] theorem requestStop_kept (session scope : Nat) (s : State) : (requestStop session scope s).kept = s.kept := by simp [requestStop]
@[simp ↓] theorem requestReset_kept (session : Nat) (s : State) : (requestReset session s).kept = s.kept := by simp [requestReset]
@[simp ↓] theorem energisePairs_kept (s : State) : (energisePairs s).kept = s.kept := by simp [energisePairs]
@[simp ↓] theorem checkUnprotected_kept (k : Nat) (s : State) : (checkUnprotected k s).kept = s.kept := by simp [checkUnprotected]

@[simp ↓] theorem samplePair_kept (k : Nat) (pinP pinN cf : Bool) (amps : Rat) (s : State) : (samplePair k pinP pinN cf amps s).kept = s.kept := by
  simp [samplePair]

@[simp ↓] theorem firstCycle_kept (s : State) : (firstCycle s).kept = s.kept := by
  unfold firstCycle
  split <;> simp

@[simp ↓] theorem takeEstops_kept (s : State) : (takeEstops s).kept = s.kept := by simp [takeEstops]
@[simp ↓] theorem weirEstops_kept (s : State) : (weirEstops s).kept = s.kept := by simp [weirEstops]
@[simp ↓] theorem sampleSupply_kept (v : Rat) (s : State) : (sampleSupply v s).kept = s.kept := by simp [sampleSupply]

@[simp ↓] theorem withoutSc_kept (s : State) : (withoutSc s).kept = s.kept := by
  unfold withoutSc
  dsimp only
  split <;> simp

@[simp ↓] theorem rampAll_kept (on : Nat → Bool) (s : State) : (rampAll on s).kept = s.kept := by simp [rampAll]

@[simp ↓] theorem samplePairs_kept (pinP pinN cf : BitVec 8) (currents : List F32) (s : State) :
    (samplePairs pinP pinN cf currents s).kept = s.kept := by
  simp [samplePairs]

@[simp ↓] theorem scCycle_kept (us : Nat) (pinP pinN cf : BitVec 8) (currents : List F32) (supply : F32) (s : State) :
    (scCycle us pinP pinN cf currents supply s).kept = s.kept := by
  unfold scCycle
  dsimp only
  repeat' split
  all_goals simp

@[simp ↓] theorem torqueRemoved_kept (i : Nat) (s : State) : (torqueRemoved i s).kept = s.kept := by
  unfold torqueRemoved
  split <;> simp

@[simp ↓] theorem estopOpen_kept (i lowA lowB : Nat) (s : State) : (estopOpen i lowA lowB s).kept = s.kept := by simp [estopOpen]
@[simp ↓] theorem estopCleared_kept (i code : Nat) (s : State) : (estopCleared i code s).kept = s.kept := by simp [estopCleared]
@[simp ↓] theorem estopRelease_kept (i us : Nat) (s : State) : (estopRelease i us s).kept = s.kept := by simp [estopRelease]
@[simp ↓] theorem tpFault_kept (i : Nat) (chB : Bool) (s : State) : (tpFault i chB s).kept = s.kept := by simp [tpFault]

@[simp ↓] theorem tpFaultCleared_kept (i : Nat) (chB : Bool) (us : Nat) (s : State) : (tpFaultCleared i chB us s).kept = s.kept := by
  simp [tpFaultCleared]

@[simp ↓] theorem discrepancy_kept (i : Nat) (s : State) : (discrepancy i s).kept = s.kept := by simp [discrepancy]
@[simp ↓] theorem testPulse_kept (hs : Bool) (k : Nat) (ok : Bool) (s : State) : (testPulse hs k ok s).kept = s.kept := by simp [testPulse]

@[simp ↓] theorem weirTimer_kept (k : Nat) (s : State) : (weirTimer k s).kept = s.kept := by
  unfold weirTimer
  dsimp only
  split <;> simp

@[simp ↓] theorem cfMissed_kept (k : Nat) (level : Bool) (ms : Nat) (s : State) : (cfMissed k level ms s).kept = s.kept := by simp [cfMissed]

@[simp ↓] theorem contactorFault_kept (k : Nat) (s : State) : (contactorFault k s).kept = s.kept := by
  unfold contactorFault
  dsimp only
  split <;> simp

@[simp ↓] theorem safHold_kept (s : State) : (safHold s).kept = s.kept := by simp [safHold]
@[simp ↓] theorem scLost_kept (n : Nat) (s : State) : (scLost n s).kept = s.kept := by simp [scLost]
@[simp ↓] theorem weirLost_kept (cause : Nat) (s : State) : (weirLost cause s).kept = s.kept := by simp [weirLost]
@[simp ↓] theorem mirrorStale_kept (s : State) : (mirrorStale s).kept = s.kept := by simp [mirrorStale]
@[simp ↓] theorem pairSupplyFault_kept (volts : F32) (us : Nat) (s : State) : (pairSupplyFault volts us s).kept = s.kept := by simp [pairSupplyFault]
@[simp ↓] theorem safResult_kept (w : WCtx) (action r : Nat) (s : State) : (safResult w action r s).kept = s.kept := by simp [safResult]
@[simp ↓] theorem proofBegin_kept (s : State) : (proofBegin s).kept = s.kept := by simp [proofBegin]
@[simp ↓] theorem proofEnd_kept (s : State) : (proofEnd s).kept = s.kept := by simp [proofEnd]
@[simp ↓] theorem pairTest_kept (hs : Bool) (k : Nat) (s : State) : (pairTest hs k s).kept = s.kept := by simp [pairTest]

@[simp ↓] theorem pairTestEnd_kept (k : Nat) (readback cfHigh cfLow : Bool) (s : State) : (pairTestEnd k readback cfHigh cfLow s).kept = s.kept := by
  unfold pairTestEnd
  split <;> simp

@[simp ↓] theorem resetPairFaults_kept (k : Nat) (s : State) : (resetPairFaults k s).kept = s.kept := by simp [resetPairFaults]
@[simp ↓] theorem resetEstopFaults_kept (i : Nat) (s : State) : (resetEstopFaults i s).kept = s.kept := by simp [resetEstopFaults]
@[simp ↓] theorem faultReset_kept (pair input : Nat) (all : Bool) (s : State) : (faultReset pair input all s).kept = s.kept := by simp [faultReset]

@[simp ↓] theorem safCmd_keeps (w : WCtx) (v : Word) (s : State) : (safCmd w v s).Keeps s.kept := by
  unfold safCmd
  dsimp only
  repeat' split
  all_goals simp

@[simp ↓] theorem alarmTestEnd_kept (s : State) : (alarmTestEnd s).kept = s.kept := by
  unfold alarmTestEnd
  split <;> simp

@[simp ↓] theorem proofOverdue_kept (s : State) : (proofOverdue s).kept = s.kept := by simp [proofOverdue]
@[simp ↓] theorem loadSafety_kept (s : State) : (loadSafety s).kept = s.kept := by simp [loadSafety]
@[simp ↓] theorem checkSafety_kept (latchBad : Bool) (s : State) : (checkSafety latchBad s).kept = s.kept := by simp [checkSafety]

@[simp ↓] theorem safClear_kept (off : Nat) (s : State) : (safClear off s).kept = s.kept := by
  unfold safClear
  split <;> simp

@[simp ↓] theorem safWrite_keeps (w : WCtx) (off : Nat) (v : Word) (s : State) : (safWrite w off v s).Keeps s.kept := by
  unfold safWrite
  split <;> simp

/-! ### Icxon -/

@[simp ↓] theorem modMember_kept (i : Nat) (f : Member → Member) (s : State) : (modMember i f s).kept = s.kept := by simp [modMember]
@[simp ↓] theorem setRole_kept (i : Nat) (r : IcxRole) (s : State) : (setRole i r s).kept = s.kept := by simp [setRole]

@[simp ↓] theorem setFollow_kept (i : Nat) (s : State) : (setFollow i s).kept = s.kept := by
  unfold setFollow
  split <;> simp

@[simp ↓] theorem setPhase_kept (i : Nat) (p : MemberPhase) (s : State) : (setPhase i p s).kept = s.kept := by simp [setPhase]
@[simp ↓] theorem loseMember_kept (i : Nat) (s : State) : (loseMember i s).kept = s.kept := by simp [loseMember]
@[simp ↓] theorem suspect_kept (i : Nat) (s : State) : (suspect i s).kept = s.kept := by simp [suspect]
@[simp ↓] theorem modIcxPort_kept (p : Nat) (f : IcxPort → IcxPort) (s : State) : (modIcxPort p f s).kept = s.kept := by simp [modIcxPort]
@[simp ↓] theorem portUp_kept (p us : Nat) (s : State) : (portUp p us s).kept = s.kept := by simp [portUp]
@[simp ↓] theorem portDown_kept (p cause n : Nat) (s : State) : (portDown p cause n s).kept = s.kept := by simp [portDown]
@[simp ↓] theorem delayProbe_kept (p : Nat) (s : State) : (delayProbe p s).kept = s.kept := by simp [delayProbe]
@[simp ↓] theorem delayMeasured_kept (p roundTripNs : Nat) (s : State) : (delayMeasured p roundTripNs s).kept = s.kept := by simp [delayMeasured]

@[simp ↓] theorem sendOrder_kept (o : DomainOrder) (s : State) : (sendOrder o s).1.kept = s.kept := by
  unfold sendOrder
  split <;> simp

@[simp ↓] theorem dropTxn_kept (x : IcxTxn) (st : TagStatus) (s : State) : (dropTxn x st s).kept = s.kept := by simp [dropTxn]

@[simp ↓] theorem takeThr_kept (l : List VoteThr) (s : State) : (takeThr l s).kept = s.kept := by
  simp only [takeThr, ↓showCtl_kept]
  exact State.forN_kept (fun t i => by split <;> simp) ..

@[simp ↓] theorem takeOrigin_kept (g : Option Geo) (s : State) : (takeOrigin g s).kept = s.kept := by simp [takeOrigin]
@[simp ↓] theorem applyXfer_kept (x : StateXfer) (s : State) : (applyXfer x s).kept = s.kept := by simp [applyXfer]
@[simp ↓] theorem sendPart_kept (i k : Nat) (s : State) : (sendPart i k s).kept = s.kept := by simp [sendPart]
@[simp ↓] theorem startTransfer_kept (i : Nat) (s : State) : (startTransfer i s).kept = s.kept := by simp [startTransfer]

@[simp ↓] theorem partAcked_kept (i : Nat) (s : State) : (partAcked i s).kept = s.kept := by
  unfold partAcked
  split <;> simp

@[simp ↓] theorem takePart_kept (f : IcxFrame) (s : State) : (takePart f s).kept = s.kept := by
  unfold takePart
  split <;> simp

@[simp ↓] theorem sendJoin_kept (s : State) : (sendJoin s).kept = s.kept := by simp [sendJoin]

@[simp ↓] theorem joinRetry_kept (s : State) : (joinRetry s).kept = s.kept := by
  unfold joinRetry
  split <;> simp

@[simp ↓] theorem markJoining_kept (i : Nat) (s : State) : (markJoining i s).kept = s.kept := by simp [markJoining]
@[simp ↓] theorem takeJoin_kept (f : IcxFrame) (s : State) : (takeJoin f s).kept = s.kept := by simp [takeJoin]

@[simp ↓] theorem startJoining_kept (s : State) : (startJoining s).kept = s.kept := by
  unfold startJoining
  dsimp only
  split <;> simp

@[simp ↓] theorem domainFormation_kept (s : State) : (domainFormation s).kept = s.kept := by
  unfold domainFormation
  split <;> simp

@[simp ↓] theorem takeSync_kept (r : IcxRx) (s : State) : (takeSync r s).kept = s.kept := by simp [takeSync]
@[simp ↓] theorem ownTime_kept (s : State) : (ownTime s).kept = s.kept := by simp [ownTime]
@[simp ↓] theorem timeSkew_kept (s : State) : (timeSkew s).kept = s.kept := by simp [timeSkew]

@[simp ↓] theorem sendExtCap_kept (s : State) : (sendExtCap s).kept = s.kept := by
  unfold sendExtCap
  split <;> simp

@[simp ↓] theorem exchangeSend_kept (us : Nat) (s : State) : (exchangeSend us s).kept = s.kept := by simp [exchangeSend]
@[simp ↓] theorem compareSnap_kept (l : FusedSnap) (s : State) : (compareSnap l s).kept = s.kept := by simp [compareSnap]

@[simp ↓] theorem fusDisagree_kept (which : Nat) (s : State) : (fusDisagree which s).kept = s.kept := by
  unfold fusDisagree
  split <;> simp

@[simp ↓] theorem dualLead_kept (other epoch : Nat) (s : State) : (dualLead other epoch s).kept = s.kept := by simp [dualLead]
@[simp ↓] theorem learnLead_kept (i epoch : Nat) (s : State) : (learnLead i epoch s).kept = s.kept := by simp [learnLead]

@[simp ↓] theorem followMode_kept (mode : Nat) (hdg : Bool) (s : State) : (followMode mode hdg s).kept = s.kept := by
  unfold followMode
  split <;> simp

@[simp ↓] theorem takeExchange_kept (r : IcxRx) (s : State) : (takeExchange r s).kept = s.kept := by simp [takeExchange]
@[simp ↓] theorem voteSend_kept (s : State) : (voteSend s).kept = s.kept := by simp [voteSend]
@[simp ↓] theorem takeVote_kept (r : IcxRx) (s : State) : (takeVote r s).kept = s.kept := by simp [takeVote]

@[simp ↓] theorem adoptVote_kept (v : VoteMsg) (lead : Bool) (s : State) : (adoptVote v lead s).kept = s.kept := by
  unfold adoptVote
  dsimp only
  split <;> simp

@[simp ↓] theorem adoptAgain_kept (s : State) : (adoptAgain s).kept = s.kept := by
  unfold adoptAgain
  split <;> simp

@[simp ↓] theorem suspectMember_kept (i : Nat) (s : State) : (suspectMember i s).kept = s.kept := by simp [suspectMember]

@[simp ↓] theorem countMinority_kept (mine : Option VoteMsg) (i : Nat) (s : State) : (countMinority mine i s).kept = s.kept := by
  unfold countMinority
  dsimp only
  split <;> simp

@[simp ↓] theorem takeover_kept (s : State) : (takeover s).kept = s.kept := by simp [takeover]

@[simp ↓] theorem voteEvaluation_kept (s : State) : (voteEvaluation s).kept = s.kept := by
  unfold voteEvaluation
  split
  · rfl
  · extract_lets s1 l maj anyMaj how rel two bad disagree counts minor counted me mine relVote s2 s3 s4 s5 s6 s7
    have h6 : s6.kept = s5.kept := State.forN_kept (fun t i => by simp) ..
    have h7 : s7.kept = s6.kept := by
      simp only [s7]
      clear_value how rel
      split
      · split <;> simp
      · simp
      · simp
    simp [↓h7, ↓h6, s5, s4, s3, s2, s1]

@[simp ↓] theorem partition_kept (s : State) : (partition s).kept = s.kept := by simp [partition]
@[simp ↓] theorem icxValueReject_kept (s : State) : (icxValueReject s).kept = s.kept := by simp [icxValueReject]
@[simp ↓] theorem takeExtCap_kept (f : IcxFrame) (s : State) : (takeExtCap f s).kept = s.kept := by simp [takeExtCap]
@[simp ↓] theorem takeExtDemand_kept (f : IcxFrame) (s : State) : (takeExtDemand f s).kept = s.kept := by simp [takeExtDemand]

@[simp ↓] theorem extDemandStale_kept (s : State) : (extDemandStale s).kept = s.kept := by
  unfold extDemandStale
  split <;> simp

@[simp ↓] theorem takeParent_kept (d : DomainCfg) (f : IcxFrame) (s : State) : (takeParent d f s).kept = s.kept := by simp [takeParent]

@[simp ↓] theorem sendExtDemand_kept (s : State) : (sendExtDemand s).kept = s.kept := by
  unfold sendExtDemand
  split
  · exact foldl_kept (fun t i => by dsimp only; split <;> simp) ..
  · rfl

@[simp ↓] theorem lateAvailability_kept (s : State) : (lateAvailability s).kept = s.kept := by simp [lateAvailability]
@[simp ↓] theorem deadlineMiss_kept (s : State) : (deadlineMiss s).kept = s.kept := by simp [deadlineMiss]

@[simp ↓] theorem takeResult_kept (f : IcxFrame) (s : State) : (takeResult f s).kept = s.kept := by
  unfold takeResult
  dsimp only
  repeat' split
  all_goals simp

@[simp ↓] theorem txnTimeout_kept (tag : Nat) (s : State) : (txnTimeout tag s).kept = s.kept := by
  unfold txnTimeout
  repeat' split
  all_goals simp

@[simp ↓] theorem takeSstop_kept (f : IcxFrame) (s : State) : (takeSstop f s).kept = s.kept := by simp [takeSstop]
@[simp ↓] theorem changeLead_kept (i : Nat) (s : State) : (changeLead i s).kept = s.kept := by simp [changeLead]

@[simp ↓] theorem takeRole_kept (i : Nat) (r : IcxRole) (s : State) : (takeRole i r s).kept = s.kept := by
  unfold takeRole
  dsimp only
  repeat' split
  all_goals simp

@[simp ↓] theorem icxInstant_kept (s : State) : (icxInstant s).kept = s.kept := by
  unfold icxInstant
  split
  · rfl
  · extract_lets n s1 s2 s3 s4 s5
    have h2 : s2.kept = s1.kept := by
      simp only [s2]
      clear_value n
      split <;> simp
    simp [s5, s4, s3, ↓h2, s1]

@[simp ↓] theorem xferInstant_kept (s : State) : (xferInstant s).kept = s.kept := by
  unfold xferInstant
  split <;> simp

@[simp ↓] theorem forwardFrame_kept (r : IcxRx) (s : State) : (forwardFrame r s).kept = s.kept := by simp [forwardFrame]

@[simp ↓] theorem icxReceive_kept (command : IcxFrame → State → State) (r : IcxRx) (s : State) (hcommand : ∀ i t, (command i t).kept = t.kept) :
    (icxReceive command r s).kept = s.kept := by
  unfold icxReceive
  extract_lets f key
  split
  · rfl
  · split
    · simp
    · split
      · simp
      · extract_lets own s1 s2 s3 s4
        have h4 : s4.kept = s.kept := by simp [s4, s3, s2, s1]
        have h2 : s2.kept = s.kept := by simp [s2, s1]
        split
        · simp [s1]
        · split
          · simp [↓h2]
          · split
            · exact h2
            · split
              · exact h4
              · split <;> simp [↓h4, ↓hcommand]

@[simp ↓] theorem icxResult_kept (w : WCtx) (r : Nat) (s : State) : (icxResult w r s).kept = s.kept := by simp [icxResult]
@[simp ↓] theorem orderHandover_keeps (w : WCtx) (s : State) : (orderHandover w s).Keeps s.kept := by simp [orderHandover]

@[simp ↓] theorem setMemberIndex_keeps (w : WCtx) (i : Nat) (s : State) : (setMemberIndex w i s).Keeps s.kept := by
  simp only [setMemberIndex, ↓needRole_keeps, ↓WriteOut.keeps_ite, ↓icxResult_kept, ↓WriteOut.keeps_refused]
  split
  · split
    · trivial
    · split <;> next h => simp [kept_of_eq h (commitEssential_kept ..)]
  · trivial

@[simp ↓] theorem loadIcx_kept (s : State) : (loadIcx s).kept = s.kept := by
  unfold loadIcx
  split <;> simp

@[simp ↓] theorem icxOff_kept (s : State) : (icxOff s).kept = s.kept := by simp [icxOff]

@[simp ↓] theorem icxClear_kept (off : Nat) (s : State) : (icxClear off s).kept = s.kept := by
  unfold icxClear
  split <;> simp

@[simp ↓] theorem icxWrite_keeps (w : WCtx) (off : Nat) (v : Word) (s : State) : (icxWrite w off v s).Keeps s.kept := by simp [icxWrite]

/-! ### Serial -/

@[simp ↓] theorem setSigma_kept (i stamp : Nat) (sg : Rat × Rat) (s : State) : (setSigma i stamp sg s).kept = s.kept := by simp [setSigma]
@[simp ↓] theorem freshHolds_kept (s : State) : (freshHolds s).kept = s.kept := by simp [freshHolds]

@[simp ↓] theorem takeGst_kept (i : Nat) (x : Sentence) (s : State) : (takeGst i x s).kept = s.kept := by
  unfold takeGst
  repeat' split
  all_goals simp

@[simp ↓] theorem takeSentence_kept (arrival : Nat) (x : Sentence) (s : State) (i : Nat) : (takeSentence arrival x s i).kept = s.kept := by
  unfold takeSentence
  dsimp only
  repeat' split
  all_goals simp

@[simp ↓] theorem takeXdr_kept (c : SerPortCfg) (arrival : Nat) (x : Sentence) (s : State) : (takeXdr c arrival x s).kept = s.kept := by
  unfold takeXdr
  split <;> simp

@[simp ↓] theorem modSerPort_kept (p : Nat) (f : SerPort → SerPort) (s : State) : (modSerPort p f s).kept = s.kept := by simp [modSerPort]
@[simp ↓] theorem rejectSentence_kept (p cause : Nat) (s : State) : (rejectSentence p cause s).kept = s.kept := by simp [rejectSentence]

@[simp ↓] theorem sentenceReceived_kept (p : Nat) (line : Bytes) (backUs : Nat) (framing : Bool) (s : State) :
    (sentenceReceived p line backUs framing s).kept = s.kept := by
  unfold sentenceReceived
  repeat' split
  all_goals simp

@[simp ↓] theorem portSilent_kept (p : Nat) (s : State) : (portSilent p s).kept = s.kept := by simp [portSilent]
@[simp ↓] theorem serialTransmit_kept (p kind : Nat) (s : State) : (serialTransmit p kind s).kept = s.kept := by simp [serialTransmit]
@[simp ↓] theorem ethTransmit_kept (p kind : Nat) (s : State) : (ethTransmit p kind s).kept = s.kept := by simp [ethTransmit]
@[simp ↓] theorem sentenceTransmit_kept (i kind : Nat) (s : State) : (sentenceTransmit i kind s).kept = s.kept := by simp [sentenceTransmit]
@[simp ↓] theorem linkDown_kept (p : Nat) (s : State) : (linkDown p s).kept = s.kept := by simp [linkDown]
@[simp ↓] theorem linkUp_kept (p : Nat) (gigabit : Bool) (s : State) : (linkUp p gigabit s).kept = s.kept := by simp [linkUp]

@[simp ↓] theorem ethRxFrame_kept (p : Nat) (k : EthRx) (s : State) : (ethRxFrame p k s).kept = s.kept := by
  unfold ethRxFrame
  repeat' split
  all_goals simp

@[simp ↓] theorem tcpConnect_kept (p tcpPort addr id : Nat) (s : State) : (tcpConnect p tcpPort addr id s).kept = s.kept := by simp [tcpConnect]
@[simp ↓] theorem s450Reject_kept (p cause : Nat) (s : State) : (s450Reject p cause s).kept = s.kept := by simp [s450Reject]

@[simp ↓] theorem s450Sentence_kept (p group arrival : Nat) (s : State) (l : Bytes × Bytes) : (s450Sentence p group arrival s l).kept = s.kept := by
  unfold s450Sentence
  repeat' split
  all_goals simp

@[simp ↓] theorem s450Datagram_kept (p group : Nat) (payload : Bytes) (backUs : Nat) (s : State) :
    (s450Datagram p group payload backUs s).kept = s.kept := by
  simp [s450Datagram]

@[simp ↓] theorem serClear_kept (off : Nat) (s : State) : (serClear off s).kept = s.kept := by
  unfold serClear
  split <;> simp

@[simp ↓] theorem serWrite_keeps (v : Word) (s : State) : (serWrite v s).Keeps s.kept := by simp [serWrite]
@[simp ↓] theorem ethWrite_keeps (v : Word) (s : State) : (ethWrite v s).Keeps s.kept := by simp [ethWrite]

@[simp ↓] theorem ethClear_kept (off : Nat) (s : State) : (ethClear off s).kept = s.kept := by
  unfold ethClear
  split <;> simp

@[simp ↓] theorem loadSerial_kept (s : State) : (loadSerial s).kept = s.kept := by simp [loadSerial]

/-! ### Mpc -/

@[simp ↓] theorem mpcStart_kept (s : State) : (mpcStart s).kept = s.kept := by
  unfold mpcStart
  dsimp only
  repeat' split
  all_goals simp

@[simp ↓] theorem mpcDeadline_kept (s : State) : (mpcDeadline s).kept = s.kept := by
  unfold mpcDeadline
  split <;> simp

@[simp ↓] theorem mpcResult_kept (r : Completion) (s : State) : (mpcResult r s).kept = s.kept := by
  unfold mpcResult
  dsimp only
  repeat' split
  all_goals simp

/-! ### Conseq -/

@[simp ↓] theorem modFail_kept (g : Nat) (f : FailState → FailState) (s : State) : (modFail g f s).kept = s.kept := by simp [modFail]

@[simp ↓] theorem submitScenario_kept (g : Nat) (s : State) : (submitScenario g s).kept = s.kept := by
  unfold submitScenario
  split <;> simp

@[simp ↓] theorem setRun_kept (n : Nat) (s : State) : (setRun n s).kept = s.kept := by simp [setRun]
@[simp ↓] theorem forgetAlarms_kept (s : State) : (forgetAlarms s).kept = s.kept := by simp [forgetAlarms]
@[simp ↓] theorem invalidCycle_kept (cause : Nat) (s : State) : (invalidCycle cause s).kept = s.kept := by simp [invalidCycle]
@[simp ↓] theorem validCycle_kept (s : State) : (validCycle s).kept = s.kept := by simp [validCycle]

@[simp ↓] theorem tryEndCycle_kept (s : State) : (tryEndCycle s).kept = s.kept := by
  unfold tryEndCycle
  repeat' split
  all_goals simp

@[simp ↓] theorem cancelScenarios_kept (s : State) : (cancelScenarios s).kept = s.kept := foldl_kept (fun t g => by split <;> simp) ..
@[simp ↓] theorem abandonCycle_kept (to_ : ConseqPhase) (s : State) : (abandonCycle to_ s).kept = s.kept := by simp [abandonCycle]
@[simp ↓] theorem conseqCheck_kept (s : State) : (conseqCheck s).kept = s.kept := by simp [conseqCheck]
@[simp ↓] theorem endUnfinished_kept (s : State) : (endUnfinished s).kept = s.kept := by simp [endUnfinished]
@[simp ↓] theorem conseqStart_kept (s : State) : (conseqStart s).kept = s.kept := by simp [conseqStart]

@[simp ↓] theorem conseqResult_kept (r : Completion) (s : State) : (conseqResult r s).kept = s.kept := by
  unfold conseqResult
  repeat' split
  all_goals simp

@[simp ↓] theorem reboundScenario_kept (slot : Nat) (s : State) : (reboundScenario slot s).kept = s.kept := by simp [reboundScenario]

/-! ### Solve -/

@[simp ↓] theorem consumeRecord_kept (r : Completion) (s : State) : (consumeRecord r s).kept = s.kept := by
  unfold consumeRecord
  dsimp only
  repeat' split
  all_goals simp

@[simp ↓] theorem drainFuel_kept (n : Nat) (s : State) : (drainFuel n s).kept = s.kept := by
  induction n generalizing s with
  | zero => simp [drainFuel]
  | succ n ih =>
    unfold drainFuel
    split <;> simp [↓ih]

@[simp ↓] theorem drainSolves_kept (s : State) : (drainSolves s).kept = s.kept := by simp [drainSolves]

@[simp ↓] theorem byOwner_kept (n : Nat) (f : SlotOwner → State → State) (s : State) (hf : ∀ i t, (f i t).kept = t.kept) :
    (byOwner n f s).kept = s.kept := by
  simp [byOwner, ↓hf]

@[simp ↓] theorem bindCommand_kept (i st : Nat) (o : SlotOwner) (s : State) : (bindCommand i st o s).kept = s.kept := by simp [bindCommand]

/-! ### Servo -/

@[simp ↓] theorem modServo_kept (i : Nat) (f : ServoThr → ServoThr) (s : State) : (modServo i f s).kept = s.kept := by simp [modServo]
@[simp ↓] theorem modAxis_kept (i : Nat) (pitch : Bool) (f : Axis → Axis) (s : State) : (modAxis i pitch f s).kept = s.kept := by simp [modAxis]

@[simp ↓] theorem detectFault_kept (i : Nat) (pitch : Bool) (at_ : Nat) (s : State) : (detectFault i pitch at_ s).kept = s.kept := by
  unfold detectFault
  split <;> simp

@[simp ↓] theorem clearServo_kept (i : Nat) (pitch byCommand : Bool) (s : State) : (clearServo i pitch byCommand s).kept = s.kept := by
  simp [clearServo]

@[simp ↓] theorem autoClear_kept (i : Nat) (pitch : Bool) (at_ : Nat) (s : State) : (autoClear i pitch at_ s).kept = s.kept := by
  unfold autoClear
  dsimp only
  repeat' split
  all_goals simp

@[simp ↓] theorem tellClamp_kept (i : Nat) (k : Course) (want : Rat) (s : State) : (tellClamp i k want s).kept = s.kept := by simp [tellClamp]
@[simp ↓] theorem tickAz_kept (i : Nat) (c : ThrCfg) (at_ : Nat) (s : State) : (tickAz i c at_ s).kept = s.kept := by simp [tickAz]
@[simp ↓] theorem tickPitch_kept (i : Nat) (c : ThrCfg) (at_ : Nat) (s : State) : (tickPitch i c at_ s).kept = s.kept := by simp [tickPitch]
@[simp ↓] theorem invalidateProfile_kept (i cause : Nat) (s : State) : (invalidateProfile i cause s).kept = s.kept := by simp [invalidateProfile]
@[simp ↓] theorem checkShape_kept (i : Nat) (m v : Rat) (pass : Nat) (s : State) : (checkShape i m v pass s).kept = s.kept := by simp [checkShape]

@[simp ↓] theorem measureBin_kept (i : Nat) (c : ThrCfg) (b : Nat) (cw : Bool) (m : Rat) (s : State) : (measureBin i c b cw m s).kept = s.kept := by
  simp [measureBin]

@[simp ↓] theorem crossEdge_kept (i : Nat) (c : ThrCfg) (cw : Bool) (left : Nat) (at_ : Rat) (s : State) :
    (crossEdge i c cw left at_ s).kept = s.kept := by
  unfold crossEdge
  split <;> simp

@[simp ↓] theorem learnRate_kept (i : Nat) (c : ThrCfg) (prev : Option FbSample) (at_ : Nat) (s : State) :
    (learnRate i c prev at_ s).kept = s.kept := by
  unfold learnRate
  dsimp only
  split <;> simp

@[simp ↓] theorem coastSample_kept (i : Nat) (c : ThrCfg) (rel w : Rat) (cw : Bool) (s : State) : (coastSample i c rel w cw s).kept = s.kept := by
  simp [coastSample]

@[simp ↓] theorem learnCoast_kept (i : Nat) (c : ThrCfg) (old : Slew) (oldAt at_ : Nat) (s : State) :
    (learnCoast i c old oldAt at_ s).kept = s.kept := by
  unfold learnCoast
  dsimp only
  repeat' split
  all_goals simp

@[simp ↓] theorem activateFf_kept (i : Nat) (s : State) : (activateFf i s).kept = s.kept := by simp [activateFf]

@[simp ↓] theorem learnTurns_kept (i : Nat) (c : ThrCfg) (s : State) : (learnTurns i c s).kept = s.kept := by
  unfold learnTurns
  dsimp only
  repeat' split
  all_goals simp

@[simp ↓] theorem tickLearner_kept (i : Nat) (c : ThrCfg) (prev : Option FbSample) (at_ : Nat) (s : State) :
    (tickLearner i c prev at_ s).kept = s.kept := by
  simp [tickLearner]

@[simp ↓] theorem endTest_kept (cause : Nat) (s : State) : (endTest cause s).kept = s.kept := by
  unfold endTest
  repeat' split
  all_goals simp

@[simp ↓] theorem turnSweep_kept (i : Nat) (c : ThrCfg) (s : State) : (turnSweep i c s).kept = s.kept := by simp [turnSweep]

@[simp ↓] theorem tickTest_kept (s : State) : (tickTest s).kept = s.kept := by
  unfold tickTest
  repeat' split
  all_goals simp

@[simp ↓] theorem wearTrend_kept (i : Nat) (c : ThrCfg) (s : State) : (wearTrend i c s).kept = s.kept := by
  unfold wearTrend
  split
  · rfl
  · simp only [↓kept_ite, ↓modServo_kept, ↓State.raiseIf_kept, ite_self]

@[simp ↓] theorem oweProfile_kept (i : Nat) (p : Profile) (s : State) : (oweProfile i p s).kept = s.kept := by simp [oweProfile]

@[simp ↓] theorem submitProfile_kept (i : Nat) (p : Profile) (s : State) : (submitProfile i p s).1.kept = s.kept := by
  unfold submitProfile
  dsimp only
  split <;> simp

@[simp ↓] theorem pumpProfiles_kept (s : State) : (pumpProfiles s).kept = s.kept := by
  refine State.forN_kept (fun t i => ?_) ..
  split
  · rfl
  · split
    · rfl
    · extract_lets u r
      split
      · rfl
      · split <;> simp [r, u]

@[simp ↓] theorem queueProfiles_kept (s : State) : (queueProfiles s).kept = s.kept := by simp [queueProfiles]
@[simp ↓] theorem payOwed_kept (s : State) : (payOwed s).kept = s.kept := by simp [payOwed]
@[simp ↓] theorem profileStore_kept (s : State) : (profileStore s).kept = s.kept := by simp [profileStore]

@[simp ↓] theorem profileSnapshot_kept (s : State) : (profileSnapshot s).kept = s.kept := by
  unfold profileSnapshot
  dsimp only
  split
  · rfl
  · exact (foldl_kept (fun t i => by split <;> simp) ..).trans (State.modSrv_kept ..)

@[simp ↓] theorem profileDone_kept (key : StoreKey) (tag : Tag) (r : StoreResult) (p : Profile) (s : State) :
    (profileDone key tag r p s).kept = s.kept := by
  unfold profileDone
  split <;> simp

@[simp ↓] theorem setBaseline_kept (i : Nat) (atLock : Bool) (s : State) : (setBaseline i atLock s).kept = s.kept := by
  unfold setBaseline
  split <;> simp

@[simp ↓] theorem baselinesAtLock_kept (s : State) : (baselinesAtLock s).kept = s.kept := by simp [baselinesAtLock]

@[simp ↓] theorem loadProfile_kept (o : StoreObj) (p : Profile) (s : State) : (loadProfile o p s).kept = s.kept := by
  unfold loadProfile
  dsimp only
  repeat' split
  all_goals simp

@[simp ↓] theorem loadProfiles_kept (s : State) : (loadProfiles s).kept = s.kept :=
  (foldl_kept (fun t o => by split <;> simp) ..).trans (State.modSrv_kept ..)

@[simp ↓] theorem reloadProfiles_kept (s : State) : (reloadProfiles s).kept = s.kept := by simp [reloadProfiles]

/-! ### Tick -/

@[simp ↓] theorem modTrace_kept (f : Trace → Trace) (s : State) : (modTrace f s).kept = s.kept := by simp [modTrace]
@[simp ↓] theorem traceStop_kept (shed throttled : Bool) (s : State) : (traceStop shed throttled s).kept = s.kept := by simp [traceStop]
@[simp ↓] theorem traceArm_kept (s : State) : (traceArm s).kept = s.kept := by simp [traceArm]
@[simp ↓] theorem traceTrigger_kept (at_ : Nat) (s : State) : (traceTrigger at_ s).kept = s.kept := by simp [traceTrigger]
@[simp ↓] theorem traceSample_kept (us : Nat) (s : State) : (traceSample us s).kept = s.kept := by simp [traceSample]
@[simp ↓] theorem tickTrace_kept (at_ us : Nat) (old : SrvState) (s : State) : (tickTrace at_ us old s).kept = s.kept := by simp [tickTrace]
@[simp ↓] theorem driveServos_kept (s : State) : (driveServos s).kept = s.kept := by simp [driveServos]
@[simp ↓] theorem forceGuard_kept (ticks : Nat) (s : State) : (forceGuard ticks s).kept = s.kept := by simp [forceGuard]
@[simp ↓] theorem releaseTick_kept (s : State) : (releaseTick s).kept = s.kept := by simp [releaseTick]
@[simp ↓] theorem beginTick_kept (s : State) : (beginTick s).kept = s.kept := by simp [beginTick]
@[simp ↓] theorem abandonTick_kept (lateNs : Nat) (s : State) : (abandonTick lateNs s).kept = s.kept := by simp [abandonTick]
@[simp ↓] theorem sendSlew_kept (i : Nat) (c : ThrCfg) (s : State) : (sendSlew i c s).kept = s.kept := by simp [sendSlew]

@[simp ↓] theorem tickThr_kept (i at_ : Nat) (s : State) : (tickThr i at_ s).kept = s.kept := by
  unfold tickThr
  split <;> simp

@[simp ↓] theorem servoTick_kept (us : Nat) (s : State) : (servoTick us s).kept = s.kept := by simp [servoTick]
@[simp ↓] theorem tickAbandoned_kept (lateNs : Nat) (s : State) : (tickAbandoned lateNs s).kept = s.kept := by simp [tickAbandoned]
@[simp ↓] theorem tickGuard_kept (ticks : Nat) (s : State) : (tickGuard ticks s).kept = s.kept := by simp [tickGuard]

@[simp ↓] theorem servoFaultCmd_kept (i : Nat) (pitch : Bool) (s : State) : (servoFaultCmd i pitch s).kept = s.kept := by
  unfold servoFaultCmd
  split <;> simp

@[simp ↓] theorem servoFaultCleared_kept (i : Nat) (pitch : Bool) (s : State) : (servoFaultCleared i pitch s).kept = s.kept := by
  simp [servoFaultCleared]

@[simp ↓] theorem releaseTargets_kept (l : List (Rat × Nat)) (s : State) : (releaseTargets l s).kept = s.kept := by simp [releaseTargets]
@[simp ↓] theorem srvResult_kept (w : WCtx) (action r : Nat) (s : State) : (srvResult w action r s).kept = s.kept := by simp [srvResult]

@[simp ↓] theorem clearFaults_kept (i : Nat) (s : State) : (clearFaults i s).kept = s.kept := by
  unfold clearFaults
  split <;> simp

@[simp ↓] theorem srvCmd_keeps (w : WCtx) (v : Word) (s : State) : (srvCmd w v s).Keeps s.kept := by
  unfold srvCmd
  dsimp only
  repeat' split
  all_goals simp

@[simp ↓] theorem trcCmd_keeps (v : Word) (s : State) : (trcCmd v s).Keeps s.kept := by simp [trcCmd]

@[simp ↓] theorem srvClear_kept (off : Nat) (s : State) : (srvClear off s).kept = s.kept := by
  unfold srvClear
  split <;> simp

@[simp ↓] theorem traceSetting_keeps {k : Kept} {w : WCtx} {inRange : Bool} {s : State} {o : WriteOut} (hs : s.kept = k) (ho : o.Keeps k) :
    (traceSetting w inRange s o).Keeps k := by
  simp [traceSetting, hs, ho]

@[simp ↓] theorem srvWrite_keeps (w : WCtx) (off : Nat) (v : Word) (s : State) : (srvWrite w off v s).Keeps s.kept := by
  unfold srvWrite
  split <;> simp

/-! ### Domains -/

@[simp ↓] theorem sessionsGone_kept (s : State) : (sessionsGone s).kept = s.kept := by simp [sessionsGone]
@[simp ↓] theorem servoOff_kept (s : State) : (servoOff s).kept = s.kept := by simp [servoOff]
@[simp ↓] theorem pairsOff_kept (s : State) : (pairsOff s).kept = s.kept := by simp [pairsOff]
@[simp ↓] theorem safetyOff_kept (s : State) : (safetyOff s).kept = s.kept := by simp [safetyOff]

@[simp ↓] theorem domainOnAct_kept (d : Nat) (s : State) : (domainOnAct d s).kept = s.kept := by
  unfold domainOnAct
  split <;> simp

@[simp ↓] theorem domainOffAct_kept (d : Nat) (s : State) : (domainOffAct d s).kept = s.kept := by
  unfold domainOffAct
  split <;> simp

@[simp ↓] theorem switchOn_kept (d : Nat) (s : State) : (switchOn d s).kept = s.kept := by simp [switchOn]
@[simp ↓] theorem switchOff_kept (d : Nat) (s : State) : (switchOff d s).kept = s.kept := by simp [switchOff]
@[simp ↓] theorem startHold_kept (s : State) : (startHold s).kept = s.kept := by simp [startHold]
@[simp ↓] theorem essentialHold_kept (k : Nat) (s : State) : (essentialHold k s).kept = s.kept := by simp [essentialHold]

@[simp ↓] theorem engineGone_kept (e : Nat) (s : State) : (engineGone e s).kept = s.kept := by
  unfold engineGone
  repeat' split
  all_goals simp

@[simp ↓] theorem loseEngineOf_kept (n e : Nat) (s : State) : (loseEngineOf n e s).kept = s.kept := by simp [loseEngineOf]
@[simp ↓] theorem loseEngine_kept (e : Nat) (s : State) : (loseEngine e s).kept = s.kept := by simp [loseEngine]
@[simp ↓] theorem engineLost_kept (e frames : Nat) (s : State) : (engineLost e frames s).kept = s.kept := by simp [engineLost]

@[simp ↓] theorem domainGone_kept (d : Nat) (s : State) : (domainGone d s).kept = s.kept := by
  unfold domainGone
  split <;> simp

@[simp ↓] theorem suRetry_kept (s : State) : (suRetry s).kept = s.kept := by
  unfold suRetry
  split <;> simp

@[simp ↓] theorem syncPortWord_kept (port dropped : Nat) (sample : Option (Nat × F32 × Nat)) (s : State) :
    (syncPortWord port dropped sample s).kept = s.kept := by
  unfold syncPortWord
  split <;> simp

@[simp ↓] theorem stageDeadline_kept (bit lateNs : Nat) (s : State) : (stageDeadline bit lateNs s).kept = s.kept := by simp [stageDeadline]

/-! ### Session -/

@[simp ↓] theorem modConn_kept (c : Nat) (f : Conn → Conn) (s : State) : (modConn c f s).kept = s.kept := by simp [modConn]
@[simp ↓] theorem dropConn_kept (c : Nat) (s : State) : (dropConn c s).kept = s.kept := by simp [dropConn]
@[simp ↓] theorem closeSession_kept (i cause : Nat) (s : State) : (closeSession i cause s).kept = s.kept := by simp [closeSession]
@[simp ↓] theorem detachSession_kept (i cause : Nat) (s : State) : (detachSession i cause s).kept = s.kept := by simp [detachSession]

@[simp ↓] theorem loseConn_kept (c cause : Nat) (s : State) : (loseConn c cause s).kept = s.kept := by
  unfold loseConn
  repeat' split
  all_goals simp

@[simp ↓] theorem badFormat_kept (c type : Nat) (reqId : Option Nat) (s : State) : (badFormat c type reqId s).kept = s.kept := by
  unfold badFormat
  split <;> simp

@[simp ↓] theorem badMessage_kept (c : Nat) (h p : Bytes) (s : State) : (badMessage c h p s).kept = s.kept := by simp [badMessage]
@[simp ↓] theorem authFail_kept (cause addr : Nat) (s : State) : (authFail cause addr s).kept = s.kept := by simp [authFail]
@[simp ↓] theorem authOk_kept (addr : Nat) (s : State) : (authOk addr s).kept = s.kept := by simp [authOk]

@[simp ↓] theorem lockoutEnd_kept (addr : Nat) (s : State) : (lockoutEnd addr s).kept = s.kept := by
  unfold lockoutEnd
  repeat' split
  all_goals simp

@[simp ↓] theorem lockoutDecay_kept (addr : Nat) (s : State) : (lockoutDecay addr s).kept = s.kept := by
  unfold lockoutDecay
  split <;> simp

@[simp ↓] theorem openSession_kept (c : Conn) (reqId method role : Nat) (name : Bytes) (s : State) :
    (openSession c reqId method role name s).kept = s.kept := by
  unfold openSession
  dsimp only
  split <;> simp

@[simp ↓] theorem hello_kept (conn reqId method : Nat) (name password : Bytes) (s : State) :
    (hello conn reqId method name password s).kept = s.kept := by
  unfold hello
  dsimp only
  repeat' split
  all_goals simp

@[simp ↓] theorem authCheck_kept (conn : Nat) (s : State) : (authCheck conn s).kept = s.kept := by
  unfold authCheck
  dsimp only
  repeat' split
  all_goals simp

@[simp ↓] theorem resume_kept (conn reqId index token : Nat) (s : State) : (resume conn reqId index token s).kept = s.kept := by
  unfold resume
  split <;> simp

@[simp ↓] theorem tlsHandshake_kept (conn : Nat) (o : TlsOffer) (cert : Option ClientCert) (s : State) :
    (tlsHandshake conn o cert s).kept = s.kept := by
  unfold tlsHandshake
  split <;> simp

@[simp ↓] theorem connTimeout_kept (conn : Nat) (s : State) : (connTimeout conn s).kept = s.kept := by
  unfold connTimeout
  split <;> simp

@[simp ↓] theorem keyUpdate_kept (conn : Nat) (s : State) : (keyUpdate conn s).kept = s.kept := by simp [keyUpdate]
@[simp ↓] theorem idleTimeout_kept (i : Nat) (s : State) : (idleTimeout i s).kept = s.kept := by simp [idleTimeout]
@[simp ↓] theorem detachedExpiry_kept (i : Nat) (s : State) : (detachedExpiry i s).kept = s.kept := by simp [detachedExpiry]

@[simp ↓] theorem answerDuplicate_kept (conn i id : Nat) (s : State) : (answerDuplicate conn i id s).kept = s.kept := by
  unfold answerDuplicate
  split <;> simp

@[simp ↓] theorem sessionRequest_kept (conn id type : Nat) (run : Nat → State → State) (s : State) (hrun : ∀ i t, (run i t).kept = t.kept) :
    (sessionRequest conn id type run s).kept = s.kept := by
  unfold sessionRequest
  dsimp only
  repeat' split
  all_goals simp [↓hrun]

@[simp ↓] theorem sendPushes_kept (i : Nat) (s : State) : (sendPushes i s).kept = s.kept := by simp [sendPushes]
@[simp ↓] theorem sendAllPushes_kept (s : State) : (sendAllPushes s).kept = s.kept := by simp [sendAllPushes]

@[simp ↓] theorem answerPlain_kept (conn id type i status detail : Nat) (s : State) : (answerPlain conn id type i status detail s).kept = s.kept := by
  simp [answerPlain]

@[simp ↓] theorem subscribe_kept (conn id : Nat) (mask : Word) (s : State) : (subscribe conn id mask s).kept = s.kept := by simp [subscribe]
@[simp ↓] theorem keepAlive_kept (conn id : Nat) (s : State) : (keepAlive conn id s).kept = s.kept := by simp [keepAlive]
@[simp ↓] theorem closeRequest_kept (conn id : Nat) (s : State) : (closeRequest conn id s).kept = s.kept := by simp [closeRequest]
@[simp ↓] theorem unknownMessage_kept (conn id type : Nat) (s : State) : (unknownMessage conn id type s).kept = s.kept := by simp [unknownMessage]
@[simp ↓] theorem closeAccount_kept (name : Bytes) (s : State) : (closeAccount name s).kept = s.kept := by simp [closeAccount]
@[simp ↓] theorem putAccounts_kept (l : List (Nat × Account)) (s : State) : (putAccounts l s).1.kept = s.kept := by simp [putAccounts]

@[simp ↓] theorem account_kept (conn id op role : Nat) (name password : Bytes) (s : State) :
    (account conn id op role name password s).kept = s.kept := sessionRequest_kept _ _ _ _ _ fun i t => by
  extract_lets done
  have hd : ∀ st d u, (done st d u).kept = u.kept := fun st d u => answerPlain_kept ..
  split
  · exact hd ..
  · split
    · exact hd ..
    · split
      · next h => exact (hd ..).trans (kept_of_eq h (putAccounts_kept ..))
      · next h => simp [↓hd, kept_of_eq h (putAccounts_kept ..)]

@[simp ↓] theorem passwordRequest_kept (conn id : Nat) (old new : Bytes) (s : State) :
    (passwordRequest conn id old new s).kept = s.kept := sessionRequest_kept _ _ _ _ _ fun i t => by
  extract_lets done x
  have hd : ∀ st d u, (done st d u).kept = u.kept := fun st d u => answerPlain_kept ..
  split
  · exact hd ..
  · split
    · exact hd ..
    · split
      · simp [↓hd]
      · split
        · next h => exact (hd ..).trans (kept_of_eq h (putAccounts_kept ..))
        · next h => simp [↓hd, kept_of_eq h (putAccounts_kept ..)]

@[simp ↓] theorem sesClear_kept (off : Nat) (s : State) : (sesClear off s).kept = s.kept := by
  unfold sesClear
  split <;> simp

@[simp ↓] theorem sesResult_kept (w : WCtx) (r : Nat) (s : State) : (sesResult w r s).kept = s.kept := by simp [sesResult]

@[simp ↓] theorem installCert_keeps (w : WCtx) (s : State) : (installCert w s).Keeps s.kept := by
  unfold installCert
  repeat' split
  · simp
  · simp
  · simp
  · next h => simp [kept_of_eq h (commitEssential_kept ..)]
  · next h => simp [kept_of_eq h (commitEssential_kept ..)]

@[simp ↓] theorem useFactory_keeps (w : WCtx) (s : State) : (useFactory w s).Keeps s.kept := by
  unfold useFactory
  split <;> next h => simp [kept_of_eq h (commitEssential_kept ..)]

@[simp ↓] theorem sesCmd_keeps (w : WCtx) (v : Word) (s : State) : (sesCmd w v s).Keeps s.kept := by
  unfold sesCmd
  dsimp only
  repeat' split
  all_goals simp

@[simp ↓] theorem sesWrite_keeps (w : WCtx) (off : Nat) (v : Word) (s : State) : (sesWrite w off v s).Keeps s.kept := by
  unfold sesWrite
  split <;> simp

/-! ### Thermal -/

@[simp ↓] theorem readSensor_kept (i : Nat) (r : Nat × F32) (s : State) : (readSensor i r s).1.kept = s.kept := by
  unfold readSensor
  dsimp only
  repeat' split
  all_goals simp

@[simp ↓] theorem thermalSweep_kept (readings : List (Nat × F32)) (s : State) : (thermalSweep readings s).kept = s.kept := by simp [thermalSweep]
@[simp ↓] theorem enforceThrottle_kept (s : State) : (enforceThrottle s).kept = s.kept := by simp [enforceThrottle]
@[simp ↓] theorem throttleBand_kept (old new : Band) (s : State) : (throttleBand old new s).kept = s.kept := by simp [throttleBand]

@[simp ↓] theorem critBand_kept (old new : Band) (sensor : Nat) (t : Rat) (s : State) : (critBand old new sensor t s).kept = s.kept := by
  simp [critBand]

@[simp ↓] theorem changeBand_kept (new : Band) (s : State) : (changeBand new s).kept = s.kept := by simp [changeBand]

@[simp ↓] theorem sweepEnd_kept (s : State) : (sweepEnd s).kept = s.kept := by
  unfold sweepEnd
  repeat' split
  all_goals simp

@[simp ↓] theorem throttleEnforced_kept (s : State) : (throttleEnforced s).kept = s.kept := by
  unfold throttleEnforced
  split <;> simp

@[simp ↓] theorem thmClear_kept (off : Nat) (s : State) : (thmClear off s).kept = s.kept := by
  unfold thmClear
  split <;> simp

@[simp ↓] theorem thmWrite_keeps (v : Word) (s : State) : (thmWrite v s).Keeps s.kept := by simp [thmWrite]

/-! ### Bist -/

@[simp ↓] theorem retireEngine_kept (e : Nat) (s : State) : (retireEngine e s).kept = s.kept := by simp [retireEngine]
@[simp ↓] theorem beginBist_kept (kind : Nat) (s : State) : (beginBist kind s).kept = s.kept := by simp [beginBist]
@[simp ↓] theorem beginFull_kept (s : State) : (beginFull s).kept = s.kept := by simp [beginFull]
@[simp ↓] theorem closeRound_kept (s : State) : (closeRound s).kept = s.kept := by simp [closeRound]
@[simp ↓] theorem openRound_kept (s : State) : (openRound s).kept = s.kept := by simp [openRound]
@[simp ↓] theorem scSlice_kept (good : Bool) (s : State) : (scSlice good s).kept = s.kept := by simp [scSlice]

@[simp ↓] theorem bstClear_kept (off : Nat) (s : State) : (bstClear off s).kept = s.kept := by
  unfold bstClear
  split <;> simp

@[simp ↓] theorem bstResult_kept (w : WCtx) (r : Nat) (s : State) : (bstResult w r s).kept = s.kept := by simp [bstResult]
@[simp ↓] theorem bstCmd_keeps (w : WCtx) (v : Word) (s : State) : (bstCmd w v s).Keeps s.kept := by simp [bstCmd]

@[simp ↓] theorem bstWrite_keeps (w : WCtx) (off : Nat) (v : Word) (s : State) : (bstWrite w off v s).Keeps s.kept := by
  unfold bstWrite
  split <;> simp

/-! ### Commit -/

@[simp ↓] theorem clientDone_kept (w : StoreWrite) (r : StoreResult) (s : State) : (clientDone w r s).kept = s.kept := by
  unfold clientDone
  split <;> simp

@[simp ↓] theorem commitClient_kept (w : StoreWrite) (media : Bool) (s : State) : (commitClient w media s).kept = s.kept := by simp [commitClient]

@[simp ↓] theorem flushSmall_kept (s : State) : (flushSmall s).kept = s.kept := by
  unfold flushSmall
  split <;> simp

/-! ### Power -/

@[simp ↓] theorem modeSwitchOn_kept (d : Nat) (s : State) : (modeSwitchOn d s).kept = s.kept := by
  unfold modeSwitchOn
  split <;> simp

@[simp ↓] theorem beginDomainsOn_kept (s : State) : (beginDomainsOn s).kept = s.kept := by simp [beginDomainsOn]

@[simp ↓] theorem modeDomainSwitchOn_kept (s : State) : (modeDomainSwitchOn s).kept = s.kept := by
  unfold modeDomainSwitchOn
  split <;> simp

@[simp ↓] theorem dormantCheck_kept (s : State) : (dormantCheck s).kept = s.kept := by simp [dormantCheck]
@[simp ↓] theorem abandonWrites_kept (p : StoreWrite → Bool) (s : State) : (abandonWrites p s).kept = s.kept := by simp [abandonWrites]

@[simp ↓] theorem dormantTimeout_kept (s : State) : (dormantTimeout s).kept = s.kept := by
  unfold dormantTimeout
  repeat' split
  all_goals simp

@[simp ↓] theorem failKeyWrite_kept (cause phase : Nat) (s : State) : (failKeyWrite cause phase s).kept = s.kept := by simp [failKeyWrite]

@[simp ↓] theorem commitHotStart_kept (s : State) : (commitHotStart s).kept = s.kept := by
  unfold commitHotStart
  split <;> simp

@[simp ↓] theorem shedLoad_kept (s : State) : (shedLoad s).kept = s.kept := by simp [shedLoad]
@[simp ↓] theorem storeFlush_kept (restart : Bool) (s : State) : (storeFlush restart s).kept = s.kept := by simp [storeFlush]
@[simp ↓] theorem abortFull_kept (s : State) : (abortFull s).kept = s.kept := by simp [abortFull]
@[simp ↓] theorem powerFailWarning_kept (volts : F32) (s : State) : (powerFailWarning volts s).kept = s.kept := by simp [powerFailWarning]
@[simp ↓] theorem endDip_kept (s : State) : (endDip s).kept = s.kept := by simp [endDip]
@[simp ↓] theorem powerRelease_kept (volts : F32) (ms : Nat) (s : State) : (powerRelease volts ms s).kept = s.kept := by simp [powerRelease]

@[simp ↓] theorem inputLow_kept (i : Nat) (volts vRail : F32) (ms : Nat) (s : State) : (inputLow i volts vRail ms s).kept = s.kept := by
  simp [inputLow]

@[simp ↓] theorem inputRestored_kept (i : Nat) (volts : F32) (ms : Nat) (s : State) : (inputRestored i volts ms s).kept = s.kept := by
  unfold inputRestored
  dsimp only
  repeat' split
  all_goals simp

@[simp ↓] theorem measureSupply_kept (m : Measured) (s : State) : (measureSupply m s).kept = s.kept := by simp [measureSupply]

@[simp ↓] theorem pwrClear_kept (off : Nat) (s : State) : (pwrClear off s).kept = s.kept := by
  unfold pwrClear
  split <;> simp

/-! ### Clients -/

@[simp ↓] theorem writeSubmit_kept (engine : Nat) (key : StoreKey) (size : Nat) (data : StoreData) (s : State) :
    (writeSubmit engine key size data s).kept = s.kept := by
  simp [writeSubmit]

@[simp ↓] theorem writeCommit_kept (tag : Nat) (media : Bool) (s : State) : (writeCommit tag media s).kept = s.kept := by
  unfold writeCommit
  split <;> simp

@[simp ↓] theorem exportPrepare_kept (sess : Nat) (s : State) : (exportPrepare sess s).kept = s.kept := by simp [exportPrepare]

@[simp ↓] theorem importWrite_kept (sess reqId mask : Nat) (os : List StoreObj) (s : State) : (importWrite sess reqId mask os s).kept = s.kept := by
  simp [importWrite]

@[simp ↓] theorem dropArchives_kept (size k : Nat) (s : State) : (dropArchives size k s).kept = s.kept := by
  induction k generalizing s with
  | zero => simp [dropArchives]
  | succ k ih =>
    unfold dropArchives
    split
    · rfl
    · split <;> simp [↓ih]

@[simp ↓] theorem archiveTrace_kept (s : State) : (archiveTrace s).kept = s.kept := by
  unfold archiveTrace
  dsimp only
  split <;> simp

@[simp ↓] theorem aqfResult_kept (w : WCtx) (action r cause : Nat) (s : State) : (aqfResult w action r cause s).kept = s.kept := by simp [aqfResult]

@[simp ↓] theorem importCommit_keeps (w : WCtx) (mask : Nat) (s : State) : (importCommit w mask s).Keeps s.kept := by
  unfold importCommit
  generalize s.importCheck mask = r
  cases r <;> simp

@[simp ↓] theorem aqfCmd_keeps (w : WCtx) (v : Word) (s : State) : (aqfCmd w v s).Keeps s.kept := by
  unfold aqfCmd
  dsimp only
  repeat' split
  all_goals simp

@[simp ↓] theorem aqfWrite_keeps (w : WCtx) (off : Nat) (v : Word) (s : State) : (aqfWrite w off v s).Keeps s.kept := by
  unfold aqfWrite
  split <;> simp

@[simp ↓] theorem logWrite_keeps (w : WCtx) (off : Nat) (v : Word) (s : State) : (logWrite w off v s).Keeps s.kept := by simp [logWrite]

/-! ### Startup -/

@[simp ↓] theorem goPhase_kept (n : Nat) (s : State) : (goPhase n s).kept = s.kept := by simp [goPhase]
@[simp ↓] theorem startFault_kept (i phase : Nat) (s : State) : (startFault i phase s).kept = s.kept := by simp [startFault]
@[simp ↓] theorem boot_kept (s : State) : (boot s).kept = s.kept := by simp [boot]

@[simp ↓] theorem journalReplay_kept (n : Nat) (headerGood : Bool) (s : State) : (journalReplay n headerGood s).kept = s.kept := by
  simp [journalReplay]

@[simp ↓] theorem mountedWrites_kept (s : State) : (mountedWrites s).kept = s.kept := by
  refine (foldl_kept (fun t w => ?_) ..).trans ?_
  · split <;> simp
  · simp

@[simp ↓] theorem mountStore_kept (mapGood rebuildGood : Bool) (s : State) : (mountStore mapGood rebuildGood s).kept = s.kept := by simp [mountStore]

@[simp ↓] theorem readConfirmation_kept (p0Good mramGood : Bool) (s : State) : (readConfirmation p0Good mramGood s).kept = s.kept := by
  simp [readConfirmation]

@[simp ↓] theorem refuseImage_kept (f : ImgFail) (phase : Nat) (s : State) : (refuseImage f phase s).kept = s.kept := by simp [refuseImage]

@[simp ↓] theorem keyRead_kept (k : KeyRead) (s : State) : (keyRead k s).kept = s.kept := by
  unfold keyRead
  dsimp only
  repeat' split
  all_goals simp

@[simp ↓] theorem adoptEvents_kept (im : Image) (s : State) : (adoptEvents im s).kept = s.kept := by simp [adoptEvents]
@[simp ↓] theorem adoptScalars_kept (im : Image) (s : State) : (adoptScalars im s).kept = s.kept := by simp [adoptScalars]
@[simp ↓] theorem checkConfirmation_kept (s : State) : (checkConfirmation s).kept = s.kept := by simp [checkConfirmation]

@[simp ↓] theorem imageValidation_kept (s : State) : (imageValidation s).kept = s.kept := by
  unfold imageValidation
  dsimp only
  repeat' split
  all_goals simp

@[simp ↓] theorem domainSwitchOn_kept (latchBad : Bool) (s : State) : (domainSwitchOn latchBad s).kept = s.kept := by simp [domainSwitchOn]

@[simp ↓] theorem loadCarafe_kept (s : State) : (loadCarafe s).kept = s.kept := by
  unfold loadCarafe
  repeat' split
  all_goals simp

@[simp ↓] theorem loadHot_kept (s : State) : (loadHot s).kept = s.kept := by
  unfold loadHot
  repeat' split
  all_goals simp

@[simp ↓] theorem initialAccounts_kept (s : State) : (initialAccounts s).kept = s.kept := by
  unfold initialAccounts
  split
  · split
    · next h => exact kept_of_eq h (commitEssential_kept ..)
    · next h => simp [kept_of_eq h (commitEssential_kept ..)]
  · rfl

@[simp ↓] theorem learnedStateLoad_kept (s : State) : (learnedStateLoad s).kept = s.kept := by simp [learnedStateLoad]
@[simp ↓] theorem startComplete_kept (s : State) : (startComplete s).kept = s.kept := by simp [startComplete]

/-! ### Configure -/

@[simp ↓] theorem keyChange_kept (there : Bool) (bytes : Bytes) (prot : Bool) (s : State) : (keyChange there bytes prot s).kept = s.kept := by
  simp [keyChange]

@[simp ↓] theorem cfgResult_kept (w : WCtx) (r cause : Nat) (s : State) : (cfgResult w r cause s).kept = s.kept := by simp [cfgResult]
@[simp ↓] theorem beginKeyWrite_kept (w : WCtx) (check : Nat) (s : State) : (beginKeyWrite w check s).kept = s.kept := by simp [beginKeyWrite]

@[simp ↓] theorem writeKey_keeps (w : WCtx) (key : Nat) (s : State) : (writeKey w key s).Keeps s.kept := by
  unfold writeKey
  repeat' split
  all_goals simp

@[simp ↓] theorem discardStaged_keeps (w : WCtx) (s : State) : (discardStaged w s).Keeps s.kept := by simp [discardStaged]
@[simp ↓] theorem keyWritten_kept (s : State) : (keyWritten s).kept = s.kept := by simp [keyWritten]
@[simp ↓] theorem keyWriteFail_kept (cause phase : Nat) (s : State) : (keyWriteFail cause phase s).kept = s.kept := by simp [keyWriteFail]

@[simp ↓] theorem commitConfirmation_kept (w : WCtx) (p0Ok : Bool) (s : State) : (commitConfirmation w p0Ok s).kept = s.kept := by
  unfold commitConfirmation
  split <;> simp

@[simp ↓] theorem confirmCheck_keeps (w : WCtx) (p0Ok : Bool) (s : State) : (confirmCheck w p0Ok s).Keeps s.kept := by simp [confirmCheck]

@[simp ↓] theorem cfgCmd_keeps (w : WCtx) (p0Ok : Bool) (v : Word) (s : State) : (cfgCmd w p0Ok v s).Keeps s.kept := by
  unfold cfgCmd
  split <;> simp

@[simp ↓] theorem cfgWrite_keeps (w : WCtx) (p0Ok : Bool) (off : Nat) (v : Word) (s : State) : (cfgWrite w p0Ok off v s).Keeps s.kept := by
  unfold cfgWrite
  split <;> simp

/-! ### Modes -/

@[simp ↓] theorem acceptMode_kept (p : PendingMode) (s : State) : (acceptMode p s).kept = s.kept := by simp [acceptMode]
@[simp ↓] theorem refuseMode_kept (w : WCtx) (code r : Nat) (s : State) : (refuseMode w code r s).kept = s.kept := by simp [refuseMode]

@[simp ↓] theorem modeRequest_keeps (w : WCtx) (v : Word) (s : State) : (modeRequest w v s).Keeps s.kept := by
  unfold modeRequest
  dsimp only
  repeat' split
  all_goals simp

@[simp ↓] theorem sstopRequest_keeps (w : WCtx) (v : Word) (s : State) : (sstopRequest w v s).Keeps s.kept := by simp [sstopRequest]
@[simp ↓] theorem beginRestart_kept (session : Nat) (s : State) : (beginRestart session s).kept = s.kept := by simp [beginRestart]
@[simp ↓] theorem restartRequest_keeps (w : WCtx) (v : Word) (s : State) : (restartRequest w v s).Keeps s.kept := by simp [restartRequest]
@[simp ↓] theorem blendRequest_keeps (w : WCtx) (v : Word) (s : State) : (blendRequest w v s).Keeps s.kept := by simp [blendRequest]
@[simp ↓] theorem tellMode_kept (old new : Mode) (cause : Nat) (s : State) : (tellMode old new cause s).kept = s.kept := by simp [tellMode]
@[simp ↓] theorem handover_kept (cause : Nat) (o : Outgoing) (s : State) : (handover cause o s).kept = s.kept := by simp [handover]
@[simp ↓] theorem changeOptions_kept (p : PendingMode) (s : State) : (changeOptions p s).kept = s.kept := by simp [changeOptions]
@[simp ↓] theorem keepAzimuths_kept (s : State) : (keepAzimuths s).kept = s.kept := by simp [keepAzimuths]

@[simp ↓] theorem entrySetpoint_kept (p : PendingMode) (s : State) : (entrySetpoint p s).kept = s.kept := by
  unfold entrySetpoint
  repeat' split
  all_goals simp

@[simp ↓] theorem enterDormant_kept (s : State) : (enterDormant s).kept = s.kept := by simp [enterDormant]
@[simp ↓] theorem leaveDormant_kept (above : List (Nat × Nat)) (s : State) : (leaveDormant above s).kept = s.kept := by simp [leaveDormant]

@[simp ↓] theorem leaveMode_kept (above : List (Nat × Nat)) (old : Mode) (s : State) : (leaveMode above old s).kept = s.kept := by
  unfold leaveMode
  split <;> simp

@[simp ↓] theorem enterMode_kept (above : List (Nat × Nat)) (p : PendingMode) (s : State) : (enterMode above p s).kept = s.kept := by
  simp [enterMode]

@[simp ↓] theorem changeMode_kept (above : List (Nat × Nat)) (p : PendingMode) (s : State) : (changeMode above p s).kept = s.kept := by
  simp [changeMode]

@[simp ↓] theorem autoMode_kept (above : List (Nat × Nat)) (p : PendingMode) (s : State) : (autoMode above p s).kept = s.kept := by simp [autoMode]

@[simp ↓] theorem applyFallback_kept (above : List (Nat × Nat)) (s : State) : (applyFallback above s).kept = s.kept := by
  unfold applyFallback
  split <;> simp

@[simp ↓] theorem modeInstant_kept (above : List (Nat × Nat)) (s : State) : (modeInstant above s).kept = s.kept := by
  unfold modeInstant
  repeat' split
  all_goals simp

@[simp ↓] theorem modeFallback_kept (s : State) : (modeFallback s).kept = s.kept := by simp [modeFallback]
@[simp ↓] theorem readyInstant_kept (s : State) : (readyInstant s).kept = s.kept := by simp [readyInstant]

@[simp ↓] theorem lockInstant_kept (s : State) : (lockInstant s).kept = s.kept := by
  unfold lockInstant
  split <;> simp

@[simp ↓] theorem supClear_kept (off : Nat) (s : State) : (supClear off s).kept = s.kept := by
  unfold supClear
  repeat' split
  all_goals simp

@[simp ↓] theorem supWrite_keeps (w : WCtx) (off : Nat) (v : Word) (s : State) : (supWrite w off v s).Keeps s.kept := by
  unfold supWrite
  split <;> simp

/-! ### Registers -/

@[simp ↓] theorem blockClear_kept (blk off : Nat) (s : State) : (blockClear blk off s).kept = s.kept := by
  unfold blockClear
  split <;> simp

@[simp ↓] theorem regClear_kept (addr : Nat) (s : State) : (regClear addr s).kept = s.kept := by simp [regClear]

@[simp ↓] theorem blockWrite_keeps (w : WCtx) (p0Ok : Bool) (addr : Nat) (v : Word) (s : State) : (blockWrite w p0Ok addr v s).Keeps s.kept := by
  unfold blockWrite
  split <;> simp

/-! ### Domain -/

@[simp ↓] theorem deferred_kept (s t : State) : (deferred s t).kept = t.kept := by
  simp only [deferred, State.kept]

@[simp ↓] theorem distribute_kept (w : WCtx) (addr : Nat) (v : Word) (e : DomainEffect) (s : State) : (distribute w addr v e s).1.kept = s.kept := by
  simp [distribute]

@[simp ↓] theorem busyCommand_keeps (addr : Nat) (s : State) : (busyCommand addr s).Keeps s.kept := by simp [busyCommand]

@[simp ↓] theorem evaluateWrite_keeps (w : WCtx) (addr : Nat) (v : Word) (s : State) : (evaluateWrite w addr v s).1.Keeps s.kept := by
  have k := blockWrite_keeps w true addr v s
  unfold evaluateWrite
  split
  · next t d h => rw [h] at k; exact (deferred_kept s t).trans k
  · next t h => rw [h] at k; exact (deferred_kept s t).trans k
  · exact k

@[simp ↓] theorem leadWrite_keeps (w : WCtx) (addr : Nat) (v : Word) (s : State) : (leadWrite w addr v s).Keeps s.kept := by
  have k := evaluateWrite_keeps w addr v s
  unfold leadWrite
  split
  · next t d e h => rw [h] at k; simp [show t.kept = s.kept from k]
  · next t e h => rw [h] at k; simp [show t.kept = s.kept from k]
  · next t d _ h => rw [h] at k; simp [show t.kept = s.kept from k]
  · next t _ h => rw [h] at k; simp [show t.kept = s.kept from k]
  · next h => rw [h] at k; exact k

@[simp ↓] theorem sendReset_kept (session : Nat) (s : State) (i : Nat) : (sendReset session s i).kept = s.kept := by simp [sendReset]

@[simp ↓] theorem leadReset_keeps (w : WCtx) (v : Word) (from_ : Option (Nat × Nat)) (s : State) : (leadReset w v from_ s).Keeps s.kept := by
  simp [leadReset]

@[simp ↓] theorem WriteOut.after_kept {k : Kept} {o : WriteOut} {s : State} (ho : o.Keeps k) (hs : s.kept = k) : (o.after s).kept = k := by
  cases o
  case badValue | range => exact hs
  all_goals exact ho

@[simp ↓] theorem withForwarded_kept (x : Forwarded) (s : State) : (withForwarded x s).kept = s.kept := by simp [withForwarded]

@[simp ↓] theorem takeForwarded_kept (src tag : Nat) (x : Forwarded) (s : State) : (takeForwarded src tag x s).kept = s.kept := by
  unfold takeForwarded
  dsimp only
  split
  · simp
  · split
    · have k := leadReset_keeps { session := x.session, role := x.role } x.value (some (src, tag)) s
      split
      · next h => rw [h] at k; exact k
      · simp [↓WriteOut.after_kept k rfl]
    · have k := leadWrite_keeps { session := x.session, role := x.role } x.addr x.value (withForwarded x s)
      simp [↓WriteOut.after_kept k (withForwarded_kept x s).symm]

@[simp ↓] theorem takeOrder_kept (o : DomainOrder) (s : State) : (takeOrder o s).kept = s.kept := by
  unfold takeOrder
  repeat' split
  all_goals simp

@[simp ↓] theorem takeCommand_kept (f : IcxFrame) (s : State) : (takeCommand f s).kept = s.kept := by
  unfold takeCommand
  split <;> simp

@[simp ↓] theorem applyEffect_kept (e : DomainEffect) (session : Nat) (s : State) : (applyEffect e session s).kept = s.kept := by
  unfold applyEffect
  split <;> simp

@[simp ↓] theorem applyOrder_kept (s : State) (o : DomainOrder) : (applyOrder s o).kept = s.kept := by simp [applyOrder]
@[simp ↓] theorem domainInstant_kept (s : State) : (domainInstant s).kept = s.kept := by simp [domainInstant]

@[simp ↓] theorem forwardWrite_keeps (w : WCtx) (wait : Waiting) (addr : Nat) (v : Word) (s : State) :
    (forwardWrite w wait addr v s).Keeps s.kept := by
  unfold forwardWrite
  dsimp only
  split <;> next h => exact kept_of_eq h (sendTxn_kept ..)

@[simp ↓] theorem sessionWrite_keeps (w : WCtx) (p0Ok : Bool) (wait : Waiting) (addr : Nat) (v : Word) (s : State) :
    (sessionWrite w p0Ok wait addr v s).Keeps s.kept := by
  simp [sessionWrite]

@[simp ↓] theorem receiveIcx_kept (r : IcxRx) (s : State) : (receiveIcx r s).kept = s.kept := by simp [receiveIcx]
@[simp ↓] theorem receiveType_kept (type : Nat) (r : IcxRx) (s : State) : (receiveType type r s).kept = s.kept := by simp [receiveType]

/-! ### Ecc -/

@[simp ↓] theorem imageWord_kept (off : Nat) (lost : Bool) (s : State) : (imageWord off lost s).kept = s.kept := by simp [imageWord]
@[simp ↓] theorem eccCorrected_kept (f : MemFind) (s : State) : (eccCorrected f s).kept = s.kept := by simp [eccCorrected]

@[simp ↓] theorem abortItem_kept (t : Tag) (s : State) : (abortItem t s).kept = s.kept := by
  unfold abortItem
  repeat' split
  all_goals simp

@[simp ↓] theorem eccUncorrectable_kept (f : MemFind) (s : State) : (eccUncorrectable f s).kept = s.kept := by
  unfold eccUncorrectable
  extract_lets retire key row s1 s2 words s3 s4 s5 s6 s7
  have h5 : s5.kept = s4.kept := by simp only [s5]; split <;> simp
  have h6 : s6.kept = s5.kept := by simp only [s6]; split <;> simp
  have h7 : s7.kept = s6.kept := by simp only [s7]; split <;> simp
  simp [↓h7, ↓h6, ↓h5, s4, s3, s2, s1]

@[simp ↓] theorem memoryScrub_kept (f : MemFind) (s : State) : (memoryScrub f s).kept = s.kept := by simp [memoryScrub]

/-! ### Frame -/

@[simp ↓] theorem marginInstant_kept (s : State) : (marginInstant s).kept = s.kept := by simp [marginInstant]
@[simp ↓] theorem refreshInstant_kept (s : State) : (refreshInstant s).kept = s.kept := by simp [refreshInstant]
@[simp ↓] theorem stepWithheld_kept (s : State) : (stepWithheld s).kept = s.kept := by simp [stepWithheld]
@[simp ↓] theorem syncOutInstant_kept (s : State) : (syncOutInstant s).kept = s.kept := by simp [syncOutInstant]

@[simp ↓] theorem setpointInstant_kept (s : State) : (setpointInstant s).kept = s.kept := by
  unfold setpointInstant
  split <;> simp

@[simp ↓] theorem changesInstant_kept (above : List (Nat × Nat)) (s : State) : (changesInstant above s).kept = s.kept := by simp [changesInstant]
@[simp ↓] theorem freshFrame_kept (m : Measured) (s : State) : (freshFrame m s).kept = s.kept := by simp [freshFrame]
@[simp ↓] theorem pendingInstant_kept (above : List (Nat × Nat)) (s : State) : (pendingInstant above s).kept = s.kept := by simp [pendingInstant]
@[simp ↓] theorem frameStrobe_kept (edge : Rat) (s : State) : (frameStrobe edge s).kept = s.kept := by simp [frameStrobe]
@[simp ↓] theorem stageAnalog_kept (l : List (Rat × Nat)) (s : State) : (stageAnalog l s).kept = s.kept := by simp [stageAnalog]

@[simp ↓] theorem sendThruster_kept (l : List (Rat × Nat)) (s : State) (i : Nat) : (sendThruster l s i).kept = s.kept := by
  unfold sendThruster
  split <;> simp

@[simp ↓] theorem sendGroupDemand_kept (s : State) (g : Nat) : (sendGroupDemand s g).kept = s.kept := by
  unfold sendGroupDemand
  split <;> simp

@[simp ↓] theorem stageCommands_kept (s : State) : (stageCommands s).kept = s.kept := by simp [stageCommands]
@[simp ↓] theorem outputStaging_kept (us : Nat) (s : State) : (outputStaging us s).kept = s.kept := by simp [outputStaging]

@[simp ↓] theorem releaseCommands_kept (s : State) : (releaseCommands s).kept = s.kept := by
  unfold releaseCommands
  split <;> simp

@[simp ↓] theorem releaseStrobe_kept (readbacks : List F32) (s : State) : (releaseStrobe readbacks s).kept = s.kept := by simp [releaseStrobe]

/-! ### Requests -/

@[simp ↓] theorem checkedRequest_kept (ok : Bool) (conn id type : Nat) (run : Nat → State → State) (s : State)
    (hrun : ∀ i t, (run i t).kept = t.kept) : (checkedRequest ok conn id type run s).kept = s.kept := by
  unfold checkedRequest
  repeat' split
  all_goals simp [↓hrun]

@[simp ↓] theorem readRequest_kept (conn id addr count : Nat) (s : State) : (readRequest conn id addr count s).kept = s.kept :=
  checkedRequest_kept _ _ _ _ _ _ fun i t => by dsimp only; split <;> simp

@[simp ↓] theorem dropWait_kept (x : Waiting) (s : State) : (dropWait x s).kept = s.kept := by simp [dropWait]

@[simp ↓] theorem writePair_kept (w : WCtx) (p0Ok : Bool) (before addr : Nat) (v : Word) (rest : List (Word × Word)) (s : State) :
    (writePair w p0Ok before addr v rest s).s.kept = s.kept := by
  unfold writePair
  extract_lets st old by_ x
  have k := sessionWrite_keeps w p0Ok x addr v (s.modSes fun b => { b with waiting := b.waiting ++ [x] })
  generalize sessionWrite w p0Ok x addr v (s.modSes fun b => { b with waiting := b.waiting ++ [x] }) = o at k ⊢
  rw [State.modSes_kept] at k
  split
  · rfl
  · split
    · rfl
    · cases o with
      | later t =>
        have k : t.kept = s.kept := k
        dsimp only
        split <;> simp [↓k]
      | done t d => simpa using k
      | role t => simpa using k
      | badValue => rfl
      | range => rfl
      | refused t d => simpa using k

@[simp ↓] theorem writePairs_kept (w : WCtx) (p0Ok : Bool) (k : Nat) (l : List (Word × Word)) (s : State) :
    (writePairs w p0Ok k l s).2.s.kept = s.kept := by
  induction l generalizing k s with
  | nil => simp [writePairs]
  | cons p l ih =>
    simp only [writePairs]
    split <;> simp [↓ih]

@[simp ↓] theorem runPairs_kept (w : WCtx) (p0Ok : Bool) (k : Nat) (l : List (Word × Word)) (s : State) : (runPairs w p0Ok k l s).kept = s.kept := by
  simp [runPairs, ↓writePairs_kept]

@[simp ↓] theorem goOn_kept (x : Waiting) (s : State) : (goOn x s).kept = s.kept := by simp [goOn]
@[simp ↓] theorem settle_kept (s : State) : (settle s).kept = s.kept := by simp [settle]

@[simp ↓] theorem writeRequest_kept (conn id : Nat) (p0Ok : Bool) (pairs : List (Word × Word)) (s : State) :
    (writeRequest conn id p0Ok pairs s).kept = s.kept := by
  simp [writeRequest]

@[simp ↓] theorem writeOne_kept (req : Req) (addr : Nat) (v : Word) (s : State) : (writeOne req addr v s).kept = s.kept := by simp [writeOne]

@[simp ↓] theorem bulkRead_kept (conn id object index off len : Nat) (s : State) : (bulkRead conn id object index off len s).kept = s.kept := by
  simp [bulkRead]

@[simp ↓] theorem stageObject_kept (object off : Nat) (b : Bytes) (s : State) : (stageObject object off b s).kept = s.kept := by
  unfold stageObject
  repeat' split
  all_goals simp

@[simp ↓] theorem bulkWrite_kept (conn id object index off : Nat) (data : Bytes) (s : State) :
    (bulkWrite conn id object index off data s).kept = s.kept := by
  simp [bulkWrite]

end Sys2Proof.Machine
end

section
/-!
SUPPORT. The commands that change the kept part of a state, and from them what every command and every step carries on (`Carries`).
-/
set_option autoImplicit false
namespace Sys2Proof.Machine

/-! ### The exceptions: a new frame, a step of time, and a restart

Each is stated for `Carries`, which asks of the frame instant only that it stays aligned. -/

/-- The frame instant of a state is a whole multiple of 20 ms of module time (R14, R45). -/
def State.Aligned (s : State) : Prop := s.tim.frameAt % 20000000 = 0

/-- What every command carries from a state to the next: the queue, the identity of the module, and the alignment of the frame instant. -/
structure Carries (s t : State) : Prop where
  pending : t.pending = s.pending
  serial : t.sup.serial = s.sup.serial
  variantF : t.sup.variantF = s.sup.variantF
  fwVersion : t.sup.fwVersion = s.sup.fwVersion
  aligned : s.Aligned → t.Aligned

theorem Carries.trans {s t u : State} (a : Carries s t) (b : Carries t u) : Carries s u :=
  ⟨b.pending.trans a.pending, b.serial.trans a.serial, b.variantF.trans a.variantF, b.fwVersion.trans a.fwVersion, b.aligned ∘ a.aligned⟩

theorem carries_of_kept {s t : State} (h : t.kept = s.kept) : Carries s t :=
  ⟨congrArg Kept.pending h, congrArg Kept.serial h, congrArg Kept.variantF h, congrArg Kept.fwVersion h,
    fun a => (congrArg (· % 20000000) (congrArg Kept.frameAt h)).trans a⟩

theorem Carries.refl (s : State) : Carries s s := carries_of_kept rfl

theorem Carries.of_kept {s t u : State} (a : Carries s t) (h : u.kept = t.kept) : Carries s u := a.trans (carries_of_kept h)

theorem carries_ite {c : Prop} [Decidable c] {s t u : State} (ht : Carries s t) (hu : Carries s u) : Carries s (if c then t else u) := by
  split <;> assumption

theorem foldl_carries {α : Type} {f : State → α → State} (h : ∀ t a, Carries t (f t a)) (l : List α) (s : State) :
    Carries s (l.foldl f s) := by
  induction l generalizing s with
  | nil => exact .refl s
  | cons a l ih => exact (h s a).trans (ih _)

/-- The next frame instant lies 20 ms after the last (R14). -/
theorem nextFrame_carries (s : State) : Carries s (nextFrame s) := by
  have k : (steerFrame (stepWithheld s)).kept = s.kept := by simp
  refine (carries_of_kept k).trans ⟨rfl, rfl, rfl, rfl, fun a => ?_⟩
  have a' : s.tim.frameAt % 20000000 = 0 := (congrArg (· % 20000000) (congrArg Kept.frameAt k)).symm.trans a
  show (s.tim.frameAt + 20000000) % 20000000 = 0
  omega

theorem frameInstant_carries (m : Measured) (s : State) : Carries s (frameInstant m s) :=
  carries_ite (.refl s) ((nextFrame_carries s).of_kept (by simp))

theorem stepTime_carries (s : State) : Carries s (stepTime s) := by
  unfold stepTime
  split
  · exact .refl s
  · extract_lets n t next s1 s2
    have h1 : Carries s s1 := by
      refine ⟨rfl, rfl, rfl, rfl, fun _ => ?_⟩
      show (next - 20000000) % 20000000 = 0
      simp only [next]; omega
    exact h1.of_kept (by simp [s2])

theorem timeStep_carries (s : State) : Carries s (timeStep s) :=
  carries_ite (.refl s) ((stepTime_carries s).of_kept (by simp))

theorem resetModule_carries (cause : Nat) (s : State) : Carries s (resetModule cause s) :=
  ⟨rfl, rfl, rfl, rfl, fun _ => by show _ / 20000000 * 20000000 % 20000000 = 0; omega⟩

theorem suResetMonitor_carries (s : State) : Carries s (suResetMonitor s) :=
  carries_ite (.refl s) ((resetModule_carries 3 s).of_kept (by simp))

theorem unitGone_carries (u : Nat) (s : State) : Carries s (unitGone u s) := by
  unfold unitGone
  split
  · exact carries_of_kept (by simp)
  · split
    case h_2 => exact suResetMonitor_carries s
    all_goals exact carries_of_kept (by simp)

theorem unitFail_carries (u kind sig : Nat) (s : State) : Carries s (unitFail u kind sig s) :=
  carries_ite (.refl s) ((carries_of_kept (by simp)).trans (unitGone_carries ..))

theorem finishBist_carries (kind : Nat) (sigs : List Word) (s : State) : Carries s (finishBist kind sigs s) :=
  (carries_of_kept (State.modBst_kept ..)).trans
    (foldl_carries (fun t _ => carries_ite (.refl t) (unitFail_carries ..)) ..)

theorem startUpBist_carries (sigs : List Word) (s : State) : Carries s (startUpBist sigs s) := by
  unfold startUpBist
  extract_lets s1 s2 bad s3
  have h2 : Carries s s2 := (carries_of_kept (State.modSaf_kept ..)).trans (finishBist_carries ..)
  exact carries_ite (.refl s) (carries_ite h2 (h2.of_kept (by simp [s3])))

theorem bistDone_carries (sigs : List Word) (s : State) : Carries s (bistDone sigs s) :=
  have h := finishBist_carries s.bst.kind sigs s
  carries_ite (.refl s) (carries_ite h (h.of_kept (by simp)))

theorem bgSlice_carries (u : Nat) (good : Bool) (sig : Word) (s : State) : Carries s (bgSlice u good sig s) := by
  unfold bgSlice
  extract_lets s1 x n s2 mod last s3 s4 s5 s6 kind
  have hm : ∀ f t, (mod f t).kept = t.kept := fun f t => State.modBst_kept ..
  have h2 : s2.kept = s.kept := by simp [s2, s1]
  have h6 : s6.kept = s.kept := by simp [s6, s5, ↓hm, ↓h2]
  refine carries_ite (carries_of_kept (by simp)) (carries_ite (.refl s) (carries_ite ?_ (carries_ite ?_ (carries_of_kept h6))))
  · exact carries_of_kept (by simp [s4, s3, ↓hm, ↓h2])
  · exact (carries_of_kept ((hm ..).trans h6)).trans (unitFail_carries ..)

theorem flushDone_carries (s : State) : Carries s (flushDone s) := by
  have h : Carries s (endFlush s) := carries_of_kept (endFlush_kept s)
  exact carries_ite (.refl s) (carries_ite (h.trans (resetModule_carries ..)) h)

theorem powerReset_carries (volts : F32) (s : State) : Carries s (powerReset volts s) :=
  carries_ite (.refl s) ((resetModule_carries 0 s).of_kept (State.modPwr_kept ..))

theorem domainFault_carries (d : Nat) (amps : F32) (us : Nat) (s : State) : Carries s (domainFault d amps us s) := by
  unfold domainFault
  extract_lets lvl s1 s2 lost s3
  have h2 : s2.kept = s.kept := by simp [s2, s1]
  refine carries_ite (.refl s) (carries_ite ((carries_of_kept h2).trans (resetModule_carries ..)) (carries_of_kept ?_))
  simp [s3, ↓h2]

/-! ### Every command and every step -/

theorem exec_carries (c : Instr) (s : State) : ∃ t, exec c s = .next t ∧ Carries s t := by
  cases c
  case frameInstant m => exact ⟨_, rfl, frameInstant_carries m s⟩
  case timeStep => exact ⟨_, rfl, timeStep_carries s⟩
  case startUpBist sigs => exact ⟨_, rfl, startUpBist_carries sigs s⟩
  case bgSlice u good sig => exact ⟨_, rfl, bgSlice_carries ..⟩
  case bistDone sigs => exact ⟨_, rfl, bistDone_carries sigs s⟩
  case flushDone => exact ⟨_, rfl, flushDone_carries s⟩
  case powerReset volts => exact ⟨_, rfl, powerReset_carries volts s⟩
  case domainFault d amps us => exact ⟨_, rfl, domainFault_carries ..⟩
  case suResetMonitor => exact ⟨_, rfl, suResetMonitor_carries s⟩
  all_goals exact ⟨_, rfl, carries_of_kept (by simp)⟩

theorem step_carries {s t : State} (h : step s = .next t) : t.sup.serial = s.sup.serial ∧ (s.Aligned → t.Aligned) := by
  unfold step at h
  split at h
  · cases h
    exact ⟨rfl, id⟩
  · next c rest _ =>
    obtain ⟨u, hu, k⟩ := exec_carries c { s with pending := rest }
    cases hu.symm.trans h
    exact ⟨k.serial, k.aligned⟩

/-- Settles O7: a new frame adds 20 ms to the instant, a step of time and a restart round it down to a multiple of 20 ms, and every other command
leaves it as it is (`exec_carries`). -/
theorem frameInstantAligned : Obligations.FrameInstantAligned :=
  fun _ _ h k => (step_carries k).2 h

end Sys2Proof.Machine
end

section
/-!
SUPPORT. The state of the module after reset, and the accesses that are refused: which registers are defined, what raising an event and serving a
request may change, and the way of a request of an open session to its answer.
-/
set_option autoImplicit false
namespace Sys2Proof.Machine

/-! ### The state after reset -/

theorem sized_reset : Sized State.reset := by
  constructor
  case ants | refs => rfl
  all_goals exact List.length_replicate

/-- Settles O4, by evaluation. -/
theorem resetMeetsInvariants : Obligations.ResetMeetsInvariants := ⟨sized_reset, rfl, rfl⟩

/-! ### Defined registers (R21): which addresses are defined does not depend on the state -/

theorem supRead_isSome (s t : State) (off : Nat) : (supRead s off).isSome = (supRead t off).isSome := by
  unfold supRead
  split
  · simp
  · split <;> simp

theorem pwrRead_isSome (s t : State) (off : Nat) : (pwrRead s off).isSome = (pwrRead t off).isSome := by
  unfold pwrRead
  split <;> simp

theorem thmRead_isSome (s t : State) (off : Nat) : (thmRead s off).isSome = (thmRead t off).isSome := by
  unfold thmRead
  split <;> simp

theorem bstRead_isSome (s t : State) (off : Nat) : (bstRead s off).isSome = (bstRead t off).isSome := by
  unfold bstRead
  split <;> simp

theorem gnsRead_isSome (s t : State) (off : Nat) : (gnsRead s off).isSome = (gnsRead t off).isSome := by
  unfold gnsRead
  split
  · simp
  · split <;> simp

theorem timRead_isSome (s t : State) (off : Nat) : (timRead s off).isSome = (timRead t off).isSome := by
  unfold timRead
  split <;> simp

theorem fusRead_isSome (s t : State) (off : Nat) : (fusRead s off).isSome = (fusRead t off).isSome := by
  unfold fusRead
  split
  · simp
  · split <;> simp

theorem slvRead_isSome (s t : State) (off : Nat) : (slvRead s off).isSome = (slvRead t off).isSome := by
  unfold slvRead
  split
  case h_18 =>
    dsimp only
    cases (s.slv.engine s.slv.engSel).slot <;> cases (t.slv.engine t.slv.engSel).slot <;> simp
  all_goals simp

theorem ctlRead_isSome (s t : State) (off : Nat) : (ctlRead s off).isSome = (ctlRead t off).isSome := by
  unfold ctlRead
  split <;> simp

theorem srvRead_isSome (s t : State) (off : Nat) : (srvRead s off).isSome = (srvRead t off).isSome := by
  unfold srvRead
  split
  case h_36 => split <;> simp
  all_goals simp

theorem sigRead_isSome (s t : State) (off : Nat) : (sigRead s off).isSome = (sigRead t off).isSome := by
  unfold sigRead
  split <;> simp

theorem fioRead_isSome (s t : State) (off : Nat) : (fioRead s off).isSome = (fioRead t off).isSome := by
  unfold fioRead
  split <;> simp

theorem safRead_isSome (s t : State) (off : Nat) : (safRead s off).isSome = (safRead t off).isSome := by
  unfold safRead
  split <;> simp

theorem canRead_isSome (s t : State) (off : Nat) : (canRead s off).isSome = (canRead t off).isSome := by
  unfold canRead
  split <;> simp

theorem serRead_isSome (s t : State) (off : Nat) : (serRead s off).isSome = (serRead t off).isSome := by
  unfold serRead
  split <;> simp

theorem ethRead_isSome (s t : State) (off : Nat) : (ethRead s off).isSome = (ethRead t off).isSome := by
  unfold ethRead
  split <;> simp

theorem sesRead_isSome (s t : State) (off : Nat) : (sesRead s off).isSome = (sesRead t off).isSome := by
  unfold sesRead
  split <;> simp

theorem icxRead_isSome (s t : State) (off : Nat) : (icxRead s off).isSome = (icxRead t off).isSome := by
  unfold icxRead
  split <;> simp

theorem aqfRead_isSome (s t : State) (off : Nat) : (aqfRead s off).isSome = (aqfRead t off).isSome := by
  unfold aqfRead
  split <;> simp

theorem logRead_isSome (s t : State) (off : Nat) : (logRead s off).isSome = (logRead t off).isSome := by
  unfold logRead
  split <;> simp

theorem cfgRead_isSome (s t : State) (off : Nat) : (cfgRead s off).isSome = (cfgRead t off).isSome := by
  unfold cfgRead
  split <;> simp

theorem headerRead_isSome (s t : State) (blk off : Nat) : (headerRead s blk off).isSome = (headerRead t blk off).isSome := by
  unfold headerRead
  split <;> simp

theorem blockRead_isSome (s t : State) (blk off : Nat) : (blockRead s blk off).isSome = (blockRead t blk off).isSome := by
  unfold blockRead
  split
  · exact supRead_isSome ..
  · exact pwrRead_isSome ..
  · exact thmRead_isSome ..
  · exact bstRead_isSome ..
  · exact gnsRead_isSome ..
  · exact timRead_isSome ..
  · exact fusRead_isSome ..
  · exact slvRead_isSome ..
  · exact ctlRead_isSome ..
  · exact srvRead_isSome ..
  · exact sigRead_isSome ..
  · exact fioRead_isSome ..
  · exact safRead_isSome ..
  · exact canRead_isSome ..
  · exact serRead_isSome ..
  · exact ethRead_isSome ..
  · exact sesRead_isSome ..
  · exact icxRead_isSome ..
  · exact aqfRead_isSome ..
  · exact logRead_isSome ..
  · exact cfgRead_isSome ..
  · rfl

theorem regRead_isSome (s t : State) (addr : Nat) : (regRead s addr).isSome = (regRead t addr).isSome := by
  unfold regRead
  dsimp only
  split
  · split
    · exact headerRead_isSome ..
    · exact blockRead_isSome ..
  · rfl

theorem State.regStatus_congr {s t : State} (h : t.pwr = s.pwr) (addr : Nat) : t.regStatus addr = s.regStatus addr := by
  have e : (regRead t addr).isNone = (regRead s addr).isNone := by
    rw [← Option.not_isSome, ← Option.not_isSome, regRead_isSome t s]
  unfold State.regStatus State.domOn
  rw [e, h]

theorem State.regStatus_of_none {s : State} {addr : Nat} (h : regRead s addr = none) : s.regStatus addr = 1 := by
  simp [State.regStatus, h]

theorem State.regStatus_of_off {s : State} {addr : Nat} (h : (regRead s addr).isSome = true) (ho : 16 ≤ addr % 65536)
    (hd : s.domOn (registerDomain (addr / 65536)) = false) : s.regStatus addr = 3 := by
  simp [State.regStatus, ← Option.not_isSome, h, offsetOf, blockOf, ho, hd]

/-! ### Sediment: what recording an event changes of its block -/

/-- `l` with what recording events changes taken from `m`: the LOG part of `State.told`. -/
def LogState.toldBy (l m : LogState) : LogState :=
  { l with
    seq := m.seq, buffer := m.buffer, unflushed := m.unflushed, sinceCut := m.sinceCut, flushDue := m.flushDue
    lastWords := m.lastWords, lastSlot := m.lastSlot, suppressedCount := m.suppressedCount, droppedCount := m.droppedCount
    dropPending := m.dropPending, globalTokens := m.globalTokens, globalCredit := m.globalCredit, globalAt := m.globalAt
    buckets := m.buckets }

theorem State.told_log (s t : State) : (s.told t).log = s.log.toldBy t.log := rfl

theorem LogState.toldBy_trans {l m n : LogState} (h : m = l.toldBy m) (k : n = m.toldBy n) : n = l.toldBy n :=
  k.trans (congrArg (·.toldBy n) h)

theorem refillGlobal_toldBy (now : Nat) (l : LogState) : refillGlobal now l = l.toldBy (refillGlobal now l) := by
  unfold refillGlobal
  dsimp only
  split <;> rfl

theorem bufferPut_toldBy (l : LogState) (time code source : Nat) (data : Bytes) (fault : Bool) :
    bufferPut l time code source data fault = l.toldBy (bufferPut l time code source data fault) := by
  unfold bufferPut
  dsimp only
  split <;> dsimp only [LogState.toldBy]

theorem reportSuppressed_toldBy (frame cls : Nat) (l : LogState) (b : Bucket) :
    (reportSuppressed frame cls l b).1 = l.toldBy (reportSuppressed frame cls l b).1 :=
  LogState.toldBy_trans (m := takeGlobal l) rfl (bufferPut_toldBy ..)

theorem arbitrate_toldBy (e : EventCfg) (supCls now frame inst : Nat) (data : Bytes) (l : LogState) :
    (arbitrate e supCls now frame inst data l).1 = l.toldBy (arbitrate e supCls now frame inst data l).1 := by
  have hr := refillGlobal_toldBy now l
  unfold arbitrate
  dsimp only
  split
  · have hs := LogState.toldBy_trans hr (reportSuppressed_toldBy frame supCls _ (bucketAt (refillGlobal now l) e now))
    split
    · exact LogState.toldBy_trans (LogState.toldBy_trans hs rfl) (bufferPut_toldBy ..)
    · exact LogState.toldBy_trans hs rfl
  · split
    · exact LogState.toldBy_trans (LogState.toldBy_trans hr rfl) (bufferPut_toldBy ..)
    · exact LogState.toldBy_trans hr rfl

/-! ### Events: what raising one changes is what `State.told` takes -/

/-- Sessions that differ in their push queues only are those of `State.told`. -/
theorem zipWith_push_of_bare {l m : List Session} (h : m.map Session.bare = l.map Session.bare) :
    l.zipWith (fun x y => { x with push := y.push, gap := y.gap }) m = m := by
  induction l generalizing m with
  | nil => simpa using h.symm
  | cons x l ih =>
    cases m with
    | nil => simp at h
    | cons y m =>
      simp only [List.map_cons, List.cons.injEq] at h
      obtain ⟨hxy, hlm⟩ := h
      rw [List.zipWith_cons_cons, ih hlm]
      exact congrArg (· :: m) (congrArg (fun z : Session => { z with push := y.push, gap := y.gap }) hxy.symm)

theorem State.told_of_alike (s : State) (h : List BlockHeader) {l : LogState} {b : SesState} (hl : l = s.log.toldBy l) (hb : s.ses.alike b) :
    { s with hdr := h, log := l, ses := b } = s.told { s with hdr := h, log := l, ses := b } := by
  obtain ⟨⟨d, m, rfl⟩, hm⟩ := hb
  have e : s.told { s with hdr := h, log := l, ses := { s.ses with pushDrops := d, sessions := m } } =
    { s with
      hdr := h, log := s.log.toldBy l
      ses := { s.ses with
        pushDrops := d, sessions := s.ses.sessions.zipWith (fun x y => { x with push := y.push, gap := y.gap }) m } } := rfl
  rw [e, ← hl, zipWith_push_of_bare hm]

theorem State.overflowFirst_toldBy (s : State) :
    ∃ h l, s.overflowFirst = { s with hdr := h, log := l } ∧ l = s.log.toldBy l := by
  unfold State.overflowFirst
  split
  · exact ⟨_, _, rfl, LogState.toldBy_trans (m := { s.log with dropPending := 0 }) rfl (arbitrate_toldBy ..)⟩
  · exact ⟨_, _, rfl, rfl⟩

theorem State.raise_told (s : State) (code inst : Nat) (d : Bytes) : s.raise code inst d = s.told (s.raise code inst d) := by
  obtain ⟨h, l, e, hl⟩ := s.overflowFirst_toldBy
  unfold State.raise
  rw [e]
  dsimp only
  split <;> exact s.told_of_alike _ (LogState.toldBy_trans hl (arbitrate_toldBy ..)) (pushAll_alike ..)

end Sys2Proof.Machine
end

section
/-!
SUPPORT. The way of a request of an open session: what serving it changes of the state (`State.served`), how it is taken, and its answer.
-/
set_option autoImplicit false
namespace Sys2Proof.Machine

/-! ### Serving: steps that change what `State.served` takes, and nothing else -/

/-- `t` comes from `s` by steps that serve a session and nothing else. -/
def State.Serves (s t : State) : Prop := t = s.served t

theorem State.Serves.eq {s t : State} (h : s.Serves t) : t = s.served t := h

theorem State.Serves.refl (s : State) : s.Serves s := rfl

theorem State.Serves.trans {s t u : State} (h : s.Serves t) (k : t.Serves u) : s.Serves u :=
  k.eq.trans (congrArg (·.served u) h.eq)

theorem State.Serves.of_told {s t : State} (h : t = s.told t) : s.Serves t := by
  unfold State.Serves
  rw [h]
  rfl

theorem State.Serves.pwr {s t : State} (h : s.Serves t) : t.pwr = s.pwr := by
  have e := congrArg State.pwr h.eq
  exact e

theorem State.Serves.bst {s t : State} (h : s.Serves t) : t.bst = s.bst := by
  have e := congrArg State.bst h.eq
  exact e

theorem serves_modTags (f : TagPool → TagPool) (s : State) : s.Serves (s.modTags f) := rfl

theorem serves_modEthPort (p : Nat) (f : EthPort → EthPort) (s : State) : s.Serves (modEthPort p f s) := rfl

theorem serves_modSession (i : Nat) (f : Session → Session) (s : State) : s.Serves (modSession i f s) := rfl

theorem serves_raise (s : State) (code inst : Nat) (d : Bytes) : s.Serves (s.raise code inst d) := .of_told (s.raise_told ..)

theorem serves_completeTag (t : Tag) (st : TagStatus) (s : State) : s.Serves (completeTag t st s) := by
  unfold completeTag
  split
  · exact serves_modTags ..
  · exact (serves_modTags ..).trans (serves_raise ..)

theorem serves_sendMsg (m : OutMsg) (s : State) : s.Serves (sendMsg m s) := by
  unfold sendMsg
  split
  · exact .refl s
  · rfl

theorem serves_respond (i : Nat) (m : OutMsg) (s : State) : s.Serves (respond i m s) := by
  unfold respond
  dsimp only
  refine State.Serves.trans ?_ (serves_modSession ..)
  refine State.Serves.trans ?_ (serves_sendMsg ..)
  split
  · exact serves_completeTag ..
  · exact .refl s

/-! ### The answer -/

/-- `t` comes from `s` by serving alone, with `m` as the last message sent and the change log as it was. -/
structure State.Answers (s t : State) (m : OutMsg) : Prop where
  serves : s.Serves t
  sent : t.ses.sent.head? = some m
  clog : t.ses.clog = s.ses.clog

theorem completeTag_conns (t : Tag) (st : TagStatus) (s : State) : (completeTag t st s).ses.conns = s.ses.conns := by
  unfold completeTag
  split <;> simp

theorem completeTag_clog (t : Tag) (st : TagStatus) (s : State) : (completeTag t st s).ses.clog = s.ses.clog := by
  unfold completeTag
  split <;> simp

theorem sendMsg_clog (m : OutMsg) (s : State) : (sendMsg m s).ses.clog = s.ses.clog := by
  unfold sendMsg
  split <;> rfl

theorem sendMsg_head {m : OutMsg} {s : State} (h : (s.ses.conn m.conn).isSome = true) : (sendMsg m s).ses.sent.head? = some m := by
  obtain ⟨c, hc⟩ := Option.isSome_iff_exists.mp h
  simp only [sendMsg, hc]
  rfl

/-- The connection of a response stands: it leaves there (R446). -/
theorem respond_answers {i : Nat} {m : OutMsg} {s : State} (h : (s.ses.conn m.conn).isSome = true) : s.Answers (respond i m s) m := by
  have ha : s.ses.conns.any (fun c => c.id == m.conn) = true := by simpa [SesState.conn] using h
  refine ⟨serves_respond i m s, ?_, ?_⟩
  · unfold respond
    simp only [ha, if_true]
    refine sendMsg_head ?_
    split
    · simpa only [SesState.conn, completeTag_conns] using h
    · exact h
  · unfold respond
    dsimp only
    refine (sendMsg_clog ..).trans ?_
    split
    · exact completeTag_clog ..
    · rfl

/-! ### Taking a request up (R406, R442, R446) -/

/-- Frames an interface counts after a change, 0 where there is no such interface. -/
theorem frames_modEthPort_le {s : State} {p n : Nat} {f : EthPort → EthPort} (h : (f (s.eth.ports.getD p {})).frames ≤ n) :
    ((modEthPort p f s).eth.ports.getD p {}).frames ≤ n := by
  show ((updAt s.eth.ports p f).getD p {}).frames ≤ n
  by_cases hp : p < s.eth.ports.length
  · rwa [getD_updAt _ _ _ _ _ hp, if_pos rfl]
  · rw [List.getD_eq_getElem?_getD, List.getElem?_eq_none (by simpa only [length_updAt, Nat.not_lt] using hp)]
    exact Nat.zero_le n

/-- The port of the connection has room: fewer than 20,000 frames in its second, and no drops to be told (R406, R412). -/
def State.portRoom (s : State) (p : Nat) : Prop :=
  s.ethFrames p < 20000 ∧ ((s.eth.ports.getD p {}).second = s.now / 1000000000 ∨ (s.eth.ports.getD p {}).dropped = 0)

theorem State.portRoom_of_tcpRoom {s : State} {conn : Nat} {c : Conn} (hc : s.ses.conn conn = some c) (h : s.tcpRoom conn = true) :
    s.portRoom c.port := by
  simpa [State.tcpRoom, hc, State.portRoom] using h

theorem countFrame_of_room {s : State} {p : Nat} (h : s.portRoom p) :
    ∃ f : EthPort → EthPort, countFrame p s = modEthPort p f s ∧ (f (s.eth.ports.getD p {})).frames ≤ 20000 := by
  obtain ⟨hf, hd⟩ := h
  by_cases hs : (s.eth.ports.getD p {}).second = s.now / 1000000000
  · rw [State.ethFrames, if_pos hs] at hf
    exact ⟨fun b => { b with frames := b.frames + 1 }, if_pos hs, hf⟩
  · have hd : (s.eth.ports.getD p {}).dropped = 0 := hd.resolve_left hs
    refine ⟨fun b => { b with second := s.now / 1000000000, frames := 1, dropped := 0, echoes := 0 }, ?_, by simp⟩
    unfold countFrame
    dsimp only
    rw [if_neg hs, hd]
    rfl

theorem ethAdmit_of_room {s : State} {p : Nat} (h : s.portRoom p) :
    ∃ f g : EthPort → EthPort, ethAdmit p s = (modEthPort p g (modEthPort p f s), true) := by
  obtain ⟨f, hf, hn⟩ := countFrame_of_room h
  refine ⟨f, fun b => { b with rxFrames := satInc 32 b.rxFrames }, ?_⟩
  unfold ethAdmit
  rw [hf]
  exact if_neg (Nat.not_lt.mpr (frames_modEthPort_le (frames_modEthPort_le hn)))

theorem tcpIn_of_room {s : State} {conn : Nat} {c : Conn} (hc : s.ses.conn conn = some c) (h : s.tcpRoom conn = true) :
    ∃ l, tcpIn conn s = (s.modEth fun b => { b with ports := l }, true) := by
  obtain ⟨f, g, he⟩ := ethAdmit_of_room (State.portRoom_of_tcpRoom hc h)
  unfold tcpIn
  rw [hc]
  dsimp only
  rw [he]
  exact ⟨_, rfl⟩

theorem session_modSession (i : Nat) (f : Session → Session) (s : State) (h : i < s.ses.sessions.length) :
    (modSession i f s).ses.session i = f (s.ses.session i) :=
  (getD_updAt _ _ _ _ _ h).trans (if_pos rfl)

/-- A request of a `Ready` session is carried out in a state where it has its tag and its place in the window; the way there has served the session,
and has sent nothing. -/
theorem sessionRequest_of_ready {req : Req} {i need type : Nat} {s : State} (z : Sized s) (r : Ready req i need s) (run : Nat → State → State) :
    ∃ t, sessionRequest req.conn req.id type run s = run i t ∧ s.Serves t ∧ t.ses.conns = s.ses.conns ∧ t.ses.clog = s.ses.clog := by
  obtain ⟨hc, hi, -, -, hr, hid, hcl, ho, hroom⟩ := r
  obtain ⟨c, hc, he⟩ := Option.map_eq_some_iff.mp hc
  obtain ⟨htls, hses⟩ := Prod.mk.inj he
  obtain ⟨l, hin⟩ := tcpIn_of_room hc hroom
  refine ⟨(s.modEth fun b => { b with ports := l }).taken req i, ?_, rfl, rfl, rfl⟩
  generalize hs : (s.modEth fun b => { b with ports := l }) = s1 at hin ⊢
  have hr : s1.ioRuns = true := hs ▸ hr
  have hx := session_modSession i (fun x => { x with lastMsg := s1.now }) s1 (hs ▸ z.sessions.symm ▸ hi)
  rw [show s1.ses.session i = s.ses.session i from hs ▸ rfl] at hx
  unfold sessionRequest State.taken
  rw [hc]
  dsimp only
  rw [hin, htls, hses]
  simp only [hr, hid, Bool.not_true, Bool.or_self, Bool.false_eq_true, if_false]
  generalize modSession i (fun x => { x with lastMsg := s1.now }) s1 = s2 at hx ⊢
  have ho : ¬ 8 ≤ (s2.ses.session i).outstanding.length := by
    rw [hx]
    exact Nat.not_le.mpr ho
  have hcl : (s2.ses.session i).classify req.id = .above ∨ (s2.ses.session i).classify req.id = .unseen := by
    rw [hx]
    exact hcl
  cases hcl with
  | inl h =>
    rw [h]
    exact if_neg ho
  | inr h =>
    rw [h]
    exact if_neg ho

/-- Where `run` answers in every state that serving leads to, a `Ready` request is answered. -/
theorem sessionRequest_answers {req : Req} {i need type : Nat} {s : State} {run : Nat → State → State} {m : OutMsg} (z : Sized s)
    (r : Ready req i need s) (h : ∀ t, s.Serves t → (t.ses.conn req.conn).isSome = true → t.Answers (run i t) m) :
    s.Answers (sessionRequest req.conn req.id type run s) m := by
  obtain ⟨t, e, hs, hc, hl⟩ := sessionRequest_of_ready z r (type := type) run
  obtain ⟨c, hcon, -⟩ := Option.map_eq_some_iff.mp r.1
  obtain ⟨hu, hm, hk⟩ := h t hs (by simpa only [SesState.conn, hc] using Option.isSome_of_eq_some hcon)
  rw [e]
  exact ⟨hs.trans hu, hm, hk.trans hl⟩

/-! ### Refused accesses -/

theorem readRequest_refused {req : Req} {i addr : Nat} {s : State} (z : Sized s) (r : Ready req i 0 s) (h : s.regStatus addr ≠ 0) :
    s.Answers (readRequest req.conn req.id addr 1 s) (reply req.conn 0x10 req.id (s.regStatus addr) 0 []) := by
  unfold readRequest checkedRequest
  rw [if_pos (by decide)]
  refine sessionRequest_answers z r fun t hs hc => ?_
  have e : t.regStatus addr = s.regStatus addr := State.regStatus_congr hs.pwr addr
  have hf : (readAddrs addr 1).find? (fun a => t.regStatus a != 0) = some addr := by simp [readAddrs, e, h]
  dsimp only
  rw [hf, ← e]
  exact respond_answers hc

theorem beginFull_of_not_fullBist {s : State} (h : s.fullBist = false) : beginFull s = s := by simp [beginFull, h]

theorem runPairs_refused {w : WCtx} {a v : Word} {st : Nat} {s : State} (h : writePair w true 0 a.toNat v [] s = { s := s, status := st })
    (hst : st ≠ 0) : runPairs w true 0 [(a, v)] s = beginFull (respond w.session (writeResponse w.conn w.reqId 0 st 0) s) := by
  simp [runPairs, writePairs, h, hst]

/-- A WRITE of one pair that its address refuses, whatever state serving leads to. -/
theorem writeRequest_refused {req : Req} {i st : Nat} {a v : Word} {s : State} (z : Sized s) (r : Ready req i 0 s) (hst : st ≠ 0)
    (h : ∀ w t, s.Serves t → writePair w true 0 a.toNat v [] t = { s := t, status := st }) :
    s.Answers (writeRequest req.conn req.id true [(a, v)] s) (writeResponse req.conn req.id 0 st 0) := by
  unfold writeRequest checkedRequest
  rw [if_pos (by simp)]
  refine sessionRequest_answers z r fun t hs hc => ?_
  obtain ⟨-, -, -, -, hr, -⟩ := r
  have hb : s.fullBist = false := by
    simp only [State.ioRuns, Bool.and_eq_true, Bool.not_eq_true'] at hr
    exact hr.2
  have ha := respond_answers (i := i) (m := writeResponse req.conn req.id 0 st 0) (s := t) hc
  rw [runPairs_refused (h _ t hs) hst, beginFull_of_not_fullBist]
  · exact ha
  · simpa only [State.fullBist, (hs.trans ha.serves).bst] using hb

theorem writePair_of_status {w : WCtx} {addr : Nat} {v : Word} {s : State} (h : s.regStatus addr ≠ 0) :
    writePair w true 0 addr v [] s = { s := s, status := s.regStatus addr } := by
  simp [writePair, h]

theorem writePair_of_readOnly {w : WCtx} {addr : Nat} {v : Word} {s : State} (h : s.regStatus addr = 0) (hw : regWritable addr = false) :
    writePair w true 0 addr v [] s = { s := s, status := 2 } := by
  simp [writePair, h, hw]

/-- UNMAPPED or DOMAIN_OFF, by the address's status. -/
theorem writeRequest_status {req : Req} {i : Nat} {a v : Word} {s : State} (z : Sized s) (r : Ready req i 0 s) (h : s.regStatus a.toNat ≠ 0) :
    s.Answers (writeRequest req.conn req.id true [(a, v)] s) (writeResponse req.conn req.id 0 (s.regStatus a.toNat) 0) :=
  writeRequest_refused z r h fun _ t hs => by
    have e : t.regStatus a.toNat = s.regStatus a.toNat := State.regStatus_congr hs.pwr _
    rw [writePair_of_status (by rwa [e]), e]

theorem writeRequest_readOnly {req : Req} {i : Nat} {a v : Word} {s : State} (z : Sized s) (r : Ready req i 0 s) (h : s.regStatus a.toNat = 0)
    (hw : regWritable a.toNat = false) : s.Answers (writeRequest req.conn req.id true [(a, v)] s) (writeResponse req.conn req.id 0 2 0) :=
  writeRequest_refused z r (by decide) fun _ _ hs => writePair_of_readOnly ((State.regStatus_congr hs.pwr _).trans h) hw

/-- The form in which the obligations state an answer. -/
theorem State.Answers.next {s t : State} {m : OutMsg} (h : s.Answers t m) :
    ∃ u, (.next t : Host.Outcome State Fault Refusal) = .next u ∧
      u = { s.served u with sup := s.sup } ∧ u.ses.sent.head? = some m ∧ u.ses.clog = s.ses.clog :=
  ⟨t, rfl, h.serves, h.sent, h.clog⟩

/-- Settles O56: the status of an address depends on the power domains alone, which taking up a request does not touch; with a status other than 0, or
with no write to the register, READ and WRITE come to their answer at once. -/
theorem undefinedAddresses : Obligations.UndefinedAddresses := by
  refine ⟨fun req i addr s z r h => ?_, fun req i addr value s z r h => ?_, fun req i addr value s z r h hw => ?_,
    fun req i addr value s z r h ho hd => ?_⟩
  · have e := State.regStatus_of_none h
    have k := readRequest_refused z r (addr := addr.toNat) (by simp [e])
    exact (e ▸ k).next
  · have e := State.regStatus_of_none h
    have k := writeRequest_status z r (a := addr) (v := value) (by simp [e])
    exact (e ▸ k).next
  · exact (writeRequest_readOnly z r h hw).next
  · have e := State.regStatus_of_off h ho hd
    have k := writeRequest_status z r (a := addr) (v := value) (by simp [e])
    exact (e ▸ k).next

end Sys2Proof.Machine
end
